-- ==== Sys2Proof/Word.lean ====
section
/-! DEFINITION. Word types of the YD6144: the 16-bit word of R4, bytes of the host port (R5), the Caldera's 24-bit
data words, 56-bit accumulators and 48-bit instructions (R173, R177), and names for the numbered elements. -/

namespace Sys2Proof

/-- A word is 16 bits unless the text names another width (R4). -/
abbrev Word := BitVec 16
/-- A byte of the host port, of an image or of the flash. -/
abbrev Byte := BitVec 8
/-- A Caldera data word: 24-bit two's complement (R173, R180). -/
abbrev Data := BitVec 24
/-- A Caldera accumulator (R173). -/
abbrev Acc := BitVec 56
/-- A Caldera instruction word (R177). -/
abbrev Code := BitVec 48

/-- Lanes 0 to 159 serve the electrode pins; lanes 160 to 163 are the reserve lanes (Table 0.4). -/
abbrev LaneId := Fin 164
/-- Electrode pins EL000 to EL159 (R47). -/
abbrev PinId := Fin 160
/-- Logical Caldera cells L0 to L6 (R173). -/
abbrev CellId := Fin 7
/-- Physical Caldera cells C0 to C7 (R173). -/
abbrev PhysId := Fin 8
/-- Registers x0 to x31 of a Caldera cell (Table 6.1). -/
abbrev XReg := Fin 32
/-- The 80 registers at host-port addresses 0x00 to 0x4F (15_register_map). -/
abbrev RegId := Fin 80

end Sys2Proof
end

