-- ==== Sys2Proof/Syntax.lean ====
section
/-! DEFINITION. The commands of the block: one constructor of `Instr` per row of spec/opcode_table.json, in the table's
order. The table gives no operand bits; the operands are what the row's rule needs from outside the block (log entry 1). -/

namespace Sys2Proof

/-- A supply crosses its threshold downwards, or rises above it for the power-on delay (R333, R451). -/
inductive SupplyEdge where
  | falls | rises
  deriving DecidableEq, Repr

/-- The levels on HSEL and HSDO at a sampling point (R45, Table 2.4). -/
structure Straps where
  hsel : Bool
  hsdo : Bool
  deriving DecidableEq, Repr

/-- The halves of a chip: the one in force at a comparator edge (R70), or the one that a drive edge begins (R71). -/
inductive Half where
  | first | second
  deriving DecidableEq, Repr

/-- The two ring channels of a cell (Table 6.1). -/
inductive Dir where
  | next | prev
  deriving DecidableEq, Repr

/-- The condition PRED selects (R178). 0b100 is reserved and has no constructor. -/
inductive Pred where
  | always | ifP1 | ifP2 | ifP3 | notP1 | notP2 | notP3
  deriving DecidableEq, Repr

/-- How a locked DPLL loses lock (R163, R164). -/
inductive UnlockCause where
  | reference | phaseError | range
  deriving DecidableEq, Repr

/-- The supplies the PMU watches while MAIN is on (R333, Table 14.4 class REG). -/
inductive Supply where
  | vcore | vana | vpump
  deriving DecidableEq, Repr

/-- What a wake step waits for when it times out (R354, `SYS_STAT.WF_STEP`). -/
inductive WakeStep where
  | vcore | vana | oscillators
  deriving DecidableEq, Repr

/-- Command byte bits [3:0], address byte, and the header CRC byte of a transaction whose command has CRC = 1 (R306). -/
structure SpiHeader where
  res  : BitVec 4
  addr : Byte
  crc  : Option Byte
  deriving DecidableEq, Repr

/-- A data word a host writes, high byte first, with the CRC byte that follows it when CRC is on (R309, R317). -/
structure WireWord where
  word : Word
  crc  : Option Byte
  deriving DecidableEq, Repr

/-- An edge on DSYNC: its direction, and the interval in FIO periods since the active edge before it (R168, R172). -/
structure SyncPulse where
  falling  : Bool
  interval : Nat
  deriving DecidableEq, Repr

/-- The START of an I2C write: its address byte and the pointer byte (R305, R311). -/
structure I2cHead where
  addr : Byte
  ptr  : Byte
  deriving DecidableEq, Repr

/-- Words of an I2C read, with the address byte of the START that begins it, if one does (R312). -/
structure I2cFetch where
  start : Option Byte
  n     : Nat
  deriving DecidableEq, Repr

/-- The end of an I2C transaction: whether an odd data byte came before, and whether it is a STOP or a repeated START
(R313, R329). -/
structure I2cEnd where
  odd  : Bool
  stop : Bool
  deriving DecidableEq, Repr

/-- Where inside a transaction HCS_N rises (R310). -/
inductive Cut where
  | clean | inHeader | inWord
  deriving DecidableEq, Repr

/-- What a stream burst is: an SPI stream transaction (its RD bit and header), an I2C read at the stream pointer (its
address byte), or more words of the burst in progress (R288, R307, Table 10.5). -/
inductive StreamPort where
  | spi (rd : Bool) (h : SpiHeader) | i2c (a : Byte) | more
  deriving DecidableEq, Repr

/-- A measurement of a lane in a calibration: the sum of the CIC outputs y and how many were taken (Table 12.2). -/
structure Meas where
  sum : Int
  n   : Nat
  deriving DecidableEq, Repr

/-- The memories of Table 14.4 class MEM. -/
inductive MemId where
  | imem (c : PhysId) | dmem (c : PhysId) | result | seq | coef | tables | fumarole | ring
  deriving DecidableEq, Repr

/-- The host-port pins of Table 14.1. -/
inductive HostPin where
  | hsck | hsdi | hsdo | hcsN | irqN
  deriving DecidableEq, Repr

/-- A fault in one covered element and how it alters that element's output (R417): of a lane the converter's bit, the
decimator's or the resampler's output, or the accumulated sum is replaced; a pin's charge is replaced; of a cell the
outgoing values or the words of its intake port are exclusive-ored with a mask, or the cell stops; bits of a memory word
are inverted; a pin's bytes are exclusive-ored with a mask. -/
inductive FaultSpec where
  | lane (n : LaneId) (d : Int)
  | decimator (n : LaneId) (y : Data)
  | resampler (n : LaneId) (y : Data)
  | accumulator (n : LaneId) (sum : Int)
  | electrode (p : PinId) (charge : Int)
  | cell (c : PhysId) (mask : Data)
  | intake (c : PhysId) (mask : Word)
  | halt (c : PhysId)
  | memory (m : MemId) (addr : Nat) (bits : Nat) (stuck : Bool)
  | pin (p : HostPin) (mask : Byte)
  deriving DecidableEq, Repr

/-- What one bus of a Geyser scan brings: its charge at each of the 64 edges of the scan's 32 chips, before compensation
and in the sense of its excitation, in units of 1/3200 pC (R262). -/
abbrev BusScan := List Int

/-- An LD is one instruction, or the default library's loads of the frame as a whole: decode, validity, baselines,
captures, power-up check and regions (R212: the spec gives what they come to and not their code; log entry 9). -/
inductive LdForm where
  | code (p : Pred) (d b : XReg) (idx : Bool) (addr : BitVec 12) | library
  deriving DecidableEq, Repr

/-- An EMIT is one instruction, or the default library's records of the frame in the order of R249 (log entry 9). -/
inductive EmitForm where
  | code (p : Pred) (addr : BitVec 12) | library
  deriving DecidableEq, Repr

/-- A PUB is one instruction, or the default library's publications of the frame (R253, R251, R272; log entry 9). -/
inductive PubForm where
  | code (p : Pred) (a : XReg) (imm : Data) | library
  deriving DecidableEq, Repr

/-- A VOTE is one instruction, or the default library's vote of the frame (R248, R272; log entry 9). -/
inductive VoteForm where
  | code (p : Pred) (imm : Data) | library
  deriving DecidableEq, Repr

/-- The commands: one constructor per row of spec/opcode_table.json. -/
inductive Instr where
  -- supplies, pins and resets
  | powerOnReset (e : SupplyEdge) (st : Straps)
  | vioLow
  | vioRestored
  | rstNReset (lowNs : Nat) (st : Straps)
  | xtalSwitch
  -- frames, entries, display synchronisation
  | frameTimerExpiry
  | slipFrameStart
  | entryBoundary
  | entryStart
  | dsyncEdge (e : SyncPulse)
  | syncTimeoutExpiry
  | spillCheck
  -- lanes, filters, detectors
  | driveChip (u : BitVec 32)
  | cadencePeriod (h : Half) (edge : Option Half) (q : List Int)
  | cicOutput
  | resamplerOutput (n : LaneId)
  | fadeComplete
  | goertzelBlockDone (k : Fin 4)
  | rowWrite (racing : Bool)
  | hkConversionDone (ch : Fin 7) (v : Word)
  -- charge pump, DPLL, pace
  | pumpReady
  | pumpLow
  | dpllLock (refHz : Nat)
  | dpllUnlock (c : UnlockCause)
  | calderaFrameOpen
  | paceSample (v : Nat)
  | vcoreStepDone
  -- Caldera instructions, c the logical cell that runs them
  | nop (c : CellId) (p : Pred)
  | add (c : CellId) (p : Pred) (d a b : XReg)
  | sub (c : CellId) (p : Pred) (d a b : XReg)
  | addi (c : CellId) (p : Pred) (d a : XReg) (imm : Data)
  | adds (c : CellId) (p : Pred) (d a b : XReg)
  | subs (c : CellId) (p : Pred) (d a b : XReg)
  | min (c : CellId) (p : Pred) (d a b : XReg)
  | max (c : CellId) (p : Pred) (d a b : XReg)
  | abs (c : CellId) (p : Pred) (d a : XReg)
  | and (c : CellId) (p : Pred) (d a b : XReg)
  | or (c : CellId) (p : Pred) (d a b : XReg)
  | xor (c : CellId) (p : Pred) (d a b : XReg)
  | shl (c : CellId) (p : Pred) (d a b : XReg)
  | shr (c : CellId) (p : Pred) (d a b : XReg)
  | sar (c : CellId) (p : Pred) (d a b : XReg)
  | shli (c : CellId) (p : Pred) (d a : XReg) (imm : Data)
  | sari (c : CellId) (p : Pred) (d a : XReg) (imm : Data)
  | mov (c : CellId) (p : Pred) (d a : XReg)
  | movi (c : CellId) (p : Pred) (d : XReg) (imm : Data)
  | plt (c : CellId) (p : Pred) (d a b : XReg)
  | ple (c : CellId) (p : Pred) (d a b : XReg)
  | peq (c : CellId) (p : Pred) (d a b : XReg)
  | pne (c : CellId) (p : Pred) (d a b : XReg)
  | pand (c : CellId) (p : Pred) (d a b : XReg)
  | pnot (c : CellId) (p : Pred) (d a : XReg)
  | clra (c : CellId) (p : Pred) (d : XReg)
  | mul (c : CellId) (p : Pred) (d a b : XReg)
  | mac (c : CellId) (p : Pred) (d a b : XReg)
  | msu (c : CellId) (p : Pred) (d a b : XReg)
  | racc (c : CellId) (p : Pred) (d a : XReg) (imm : Data)
  | ld (c : CellId) (f : LdForm)
  | st (c : CellId) (p : Pred) (a b : XReg) (idx : Bool) (addr : BitVec 12)
  | getr (c : CellId) (p : Pred) (d : XReg) (imm : Data)
  | getw (c : CellId) (p : Pred) (d b : XReg) (code : BitVec 4) (idx : Bool) (addr : Word)
  | pub (c : CellId) (f : PubForm)
  | intake (c : CellId) (d b : XReg) (rel idx : Bool) (row : Nat) (word : Byte)
  | intakes (c : CellId) (d b : XReg) (rel idx : Bool) (row : Nat) (word : Byte)
  | send (c : CellId) (a : XReg) (dir : Dir)
  | recv (c : CellId) (d : XReg) (dir : Dir)
  | channelPairComplete (c : CellId) (dir : Dir)
  | emit (c : CellId) (f : EmitForm)
  | ering (c : CellId) (f : EmitForm)
  | wht (c : CellId) (p : Pred) (d a b : XReg)
  | sort (c : CellId) (p : Pred) (a b : XReg)
  | med3 (c : CellId) (p : Pred) (d a b : XReg)
  | loop (c : CellId) (count : BitVec 11) (last : BitVec 11)
  | vote (c : CellId) (f : VoteForm)
  | waitEntry (c : CellId) (entry : Nat)
  | waitEntryComplete (c : CellId)
  | frameEnd (c : CellId)
  -- the frame cycle, stalls, takeover
  | frameDeadline
  | stallTimeout (c : CellId)
  | takeoverCopyDone
  | cellSelfTestDone
  -- Fumarole and Sinter ring
  | insertPush
  | rptDataRead
  | streamRead (p : StreamPort) (n : Nat)
  | streamResume (n : Nat)
  | streamStallTimeout (n : Nat)
  | rptFlush
  | rptClrgap
  | ringMark
  | ringRewind
  | ringClear
  | ringRdWrite (v : Word)
  -- host port
  | spiRegisterRead (h : Option SpiHeader) (n : Nat)
  | spiRegisterWrite (h : Option SpiHeader) (ws : List WireWord)
  | spiWindowRead (h : Option SpiHeader) (n : Nat)
  | spiWindowWrite (h : Option SpiHeader) (ws : List WireWord)
  | spiStatus (h : SpiHeader) (n : Nat)
  | spiWake (h : SpiHeader)
  | hcsNRise (cut : Cut)
  | i2cPointerWrite (h : I2cHead) (crc : Option Byte)
  | i2cDataWrite (ws : List WireWord)
  | i2cDataRead (r : I2cFetch)
  | i2cStop (e : I2cEnd)
  | i2cStretchRelease
  | i2cStretchTimeout
  | winDataAccess (rd : Bool) (v : Word)
  | portVoteRelease
  -- register writes
  | registerWrite (a : BitVec 7) (v : Word)
  | clkCtlWrite (v : Word)
  | wakeTimerWrite (v : Word)
  | sysReset (v : Word) (st : Straps)
  | schedLoad
  | loadModeEnter
  | schedCommit
  | schedAbort
  | funcResetLanes
  | funcResetFilters
  | funcResetSeq
  | funcResetCaldera
  | funcResetTrack
  | funcResetQueue
  | funcResetRing
  | funcResetNvmctl
  | funcResetHostport
  | funcResetGeyser
  | funcResetGoertzel
  | funcEnLanes (on : Bool)
  | funcEnFilters (on : Bool)
  | funcEnSeq (on : Bool)
  | funcEnCaldera (on : Bool)
  | funcEnTrack (on : Bool)
  | funcEnQueue (on : Bool)
  | funcEnRing (on : Bool)
  | funcEnNvmctl (on : Bool)
  | funcEnGeyser (on : Bool)
  | funcEnGoertzel (on : Bool)
  -- sleep and wake
  | sleepReq
  | sleepAsk
  | handshakeBlockAnswer
  | handshakeDelayExpiry
  | sleepEntry
  | geyserScan (bs : List BusScan)
  | geyserCandidateTimeout
  | geyserRejectClear
  | backoffExpiry
  | wakeTimerExpiry
  | dsyncWake (falling : Bool)
  | tckWake
  | wakeEvent
  | wakeSupplyReady
  | fioReady
  | retentionRestored
  | wakeStepTimeout (w : WakeStep) (fio2Ready : Bool)
  | wakeRetry
  | aonSelfCheck (parityOk ringOk : Bool)
  -- calibration
  | calSelf
  | selfCalStart
  | selfCalGainPhase (m : List Meas)
  | selfCalEnd (m : List Meas)
  | calRecal
  | laneCalDone (off gain : List Meas)
  -- NVM
  | nvmProgramA (key : Byte)
  | nvmProgramB (key : Byte)
  | nvmSaveCal (key : Byte)
  | nvmCaptureSig (key : Byte)
  | nvmEraseA (key : Byte)
  | nvmEraseB (key : Byte)
  | nvmReservedOp (op : BitVec 4)
  | nvmPageDone
  | nvmOpComplete
  -- lifecycle, authentication, TAP
  | debugNonce (purpose rslot : BitVec 2)
  | nonceReady (nonce : BitVec 128) (healthy : Bool)
  | authChalRead
  | authChalWrite (w : Word)
  | authCompareDone
  | nonceExpiry
  | holdoffEnd
  | advDevelop (key : Byte)
  | advSecured (key : Byte)
  | relock
  | fuseProgramDone (st : Straps)
  | returnEraseDone (st : Straps)
  | tapAttach
  | tapDetach
  | dbgAccess (dr : BitVec 40)
  | otpProgProgram (high : BitVec 8) (data : BitVec 32)
  | otpProgRead (dr : BitVec 40)
  | otpProgramDone
  | idcode
  | bypass
  -- fault monitor
  | oscMonitorWindow (fio fio2 : Nat)
  | fioStopDetect
  | xtalFail
  | slowOscFail
  | supplyFault (s : Supply)
  | irqReadback (level : Bool)
  | scrubWord (m : MemId) (addr : Nat)
  | imageInstallDone
  | singleFault (f : FaultSpec) (transient : Bool)
  deriving DecidableEq, Repr

end Sys2Proof
end

