-- ==== Sys2Proof/Decode.lean ====
section
/-! DEFINITION. The commands that words spell: none by spec/opcode_table.json, which gives no row any bits, and the
instruction of a cell that a 48-bit word of its IMEM encodes (R177, R178, R180, Tables 6.2 and 6.4); after it, the word
that encodes an instruction. -/

namespace Sys2Proof

/-- The command an instruction word spells by the table's bits: the table gives bits for no row, so none. -/
def decodeTableWord (_nbits _w : Nat) : Option Instr := none

/-- Bits `lo` up to `lo + n` of an instruction word. -/
def codeBits (w : Code) (lo n : Nat) : Nat := w.toNat / 2 ^ lo % 2 ^ n

/-- The condition in a word's PRED field; 0b100 is reserved (R178). -/
def codePred (w : Code) : Option Pred :=
  match codeBits w 24 3 with
  | 0 => some .always
  | 1 => some .ifP1
  | 2 => some .ifP2
  | 3 => some .ifP3
  | 5 => some .notP1
  | 6 => some .notP2
  | 7 => some .notP3
  | _ => none

/-- A register field of a word. -/
def codeReg (w : Code) (lo : Nat) : XReg := Fin.ofNat 32 (codeBits w lo 5)

/-- The command that a word of cell c's IMEM spells; fields that the opcode does not use are ignored, and a word with an
opcode outside Table 6.4 or the reserved PRED spells none (R177, R180; log entry 46). -/
def decodeCell (c : CellId) (w : Code) : Option Instr :=
  let d := codeReg w 37
  let a := codeReg w 32
  let b := codeReg w 27
  let p := codePred w
  let imm : Data := w.setWidth 24
  let m := w.getLsbD 23
  let addr : BitVec 12 := w.setWidth 12
  let dir : Dir := if w.getLsbD 24 then .prev else .next
  match codeBits w 42 6 with
  | 0x00 => p.map (.nop c ·)
  | 0x01 => p.map (.add c · d a b)
  | 0x02 => p.map (.sub c · d a b)
  | 0x03 => p.map (.addi c · d a imm)
  | 0x04 => p.map (.adds c · d a b)
  | 0x05 => p.map (.subs c · d a b)
  | 0x06 => p.map (.min c · d a b)
  | 0x07 => p.map (.max c · d a b)
  | 0x08 => p.map (.abs c · d a)
  | 0x09 => p.map (.and c · d a b)
  | 0x0A => p.map (.or c · d a b)
  | 0x0B => p.map (.xor c · d a b)
  | 0x0C => p.map (.shl c · d a b)
  | 0x0D => p.map (.shr c · d a b)
  | 0x0E => p.map (.sar c · d a b)
  | 0x0F => p.map (.shli c · d a imm)
  | 0x10 => p.map (.sari c · d a imm)
  | 0x11 => p.map (.mov c · d a)
  | 0x12 => p.map (.movi c · d imm)
  | 0x13 => p.map (.plt c · d a b)
  | 0x14 => p.map (.ple c · d a b)
  | 0x15 => p.map (.peq c · d a b)
  | 0x16 => p.map (.pne c · d a b)
  | 0x17 => p.map (.pand c · d a b)
  | 0x18 => p.map (.pnot c · d a)
  | 0x19 => p.map (.clra c · d)
  | 0x1C => p.map (.mul c · d a b)
  | 0x1D => p.map (.mac c · d a b)
  | 0x1E => p.map (.msu c · d a b)
  | 0x1F => p.map (.racc c · d a imm)
  | 0x20 => p.map (fun q => .ld c (.code q d b m addr))
  | 0x21 => p.map (.st c · a b m addr)
  | 0x22 => p.map (.getr c · d imm)
  | 0x23 => p.map (.getw c · d b (BitVec.ofNat 4 (codeBits w 20 4)) (w.getLsbD 19) (w.setWidth 16))
  | 0x24 => p.map (fun q => .pub c (.code q a imm))
  | 0x28 => some (.intake c d b (w.getLsbD 26) (w.getLsbD 25) (codeBits w 16 9) (BitVec.ofNat 8 (codeBits w 8 8)))
  | 0x29 => some (.intakes c d b (w.getLsbD 26) (w.getLsbD 25) (codeBits w 16 9) (BitVec.ofNat 8 (codeBits w 8 8)))
  | 0x2A => some (.send c a dir)
  | 0x2B => some (.recv c d dir)
  | 0x2C => p.map (fun q => .emit c (.code q addr))
  | 0x2D => p.map (fun q => .ering c (.code q addr))
  | 0x30 => p.map (.wht c · d a b)
  | 0x31 => p.map (.sort c · a b)
  | 0x32 => p.map (.med3 c · d a b)
  | 0x38 => some (.loop c (BitVec.ofNat 11 (codeBits w 16 11)) (w.setWidth 11))
  | 0x39 => p.map (fun q => .vote c (.code q imm))
  | 0x3A => some (.waitEntry c (codeBits w 0 9))
  | 0x3B => some (.frameEnd c)
  | _ => none

/-! ### The word of an instruction (Table 6.2) -/

/-- The bits of PRED (R178). -/
def Pred.code : Pred → BitVec 3
  | .always => 0
  | .ifP1 => 1
  | .ifP2 => 2
  | .ifP3 => 3
  | .notP1 => 5
  | .notP2 => 6
  | .notP3 => 7

/-- A word from its opcode, its registers and its low 27 bits. -/
def wordOf (op : BitVec 6) (d a b : XReg) (low : BitVec 27) : Code :=
  op ++ BitVec.ofNat 5 d.val ++ BitVec.ofNat 5 a.val ++ BitVec.ofNat 5 b.val ++ low

/-- A word of format R or I: PRED and an immediate. -/
def wordI (op : BitVec 6) (p : Pred) (d a b : XReg) (imm : Data) : Code := wordOf op d a b (p.code ++ imm)

/-- A word of format M: IDX and an address of DMEM. -/
def wordM (op : BitVec 6) (p : Pred) (d a b : XReg) (idx : Bool) (addr : BitVec 12) : Code :=
  wordI op p d a b (BitVec.ofBool idx ++ (0 : BitVec 11) ++ addr)

/-- A word of format P: REL, IDX, the row and the word of it. -/
def wordP (op : BitVec 6) (d b : XReg) (rel idx : Bool) (row : Nat) (w : Byte) : Code :=
  wordOf op d 0 b (BitVec.ofBool rel ++ BitVec.ofBool idx ++ BitVec.ofNat 9 row ++ w ++ (0 : Byte))

/-- A word of format C: the direction of a channel. -/
def wordC (op : BitVec 6) (d a : XReg) (dir : Dir) : Code :=
  wordOf op d a 0 ((0 : BitVec 2) ++ BitVec.ofBool (dir == .prev) ++ (0 : Data))

/-- The cell of an instruction that one word encodes, and the word: every field it does not use is 0. -/
def Instr.coded : Instr → Option (CellId × Code)
  | .nop c p => some (c, wordI 0x00 p 0 0 0 0)
  | .add c p d a b => some (c, wordI 0x01 p d a b 0)
  | .sub c p d a b => some (c, wordI 0x02 p d a b 0)
  | .addi c p d a imm => some (c, wordI 0x03 p d a 0 imm)
  | .adds c p d a b => some (c, wordI 0x04 p d a b 0)
  | .subs c p d a b => some (c, wordI 0x05 p d a b 0)
  | .min c p d a b => some (c, wordI 0x06 p d a b 0)
  | .max c p d a b => some (c, wordI 0x07 p d a b 0)
  | .abs c p d a => some (c, wordI 0x08 p d a 0 0)
  | .and c p d a b => some (c, wordI 0x09 p d a b 0)
  | .or c p d a b => some (c, wordI 0x0A p d a b 0)
  | .xor c p d a b => some (c, wordI 0x0B p d a b 0)
  | .shl c p d a b => some (c, wordI 0x0C p d a b 0)
  | .shr c p d a b => some (c, wordI 0x0D p d a b 0)
  | .sar c p d a b => some (c, wordI 0x0E p d a b 0)
  | .shli c p d a imm => some (c, wordI 0x0F p d a 0 imm)
  | .sari c p d a imm => some (c, wordI 0x10 p d a 0 imm)
  | .mov c p d a => some (c, wordI 0x11 p d a 0 0)
  | .movi c p d imm => some (c, wordI 0x12 p d 0 0 imm)
  | .plt c p d a b => some (c, wordI 0x13 p d a b 0)
  | .ple c p d a b => some (c, wordI 0x14 p d a b 0)
  | .peq c p d a b => some (c, wordI 0x15 p d a b 0)
  | .pne c p d a b => some (c, wordI 0x16 p d a b 0)
  | .pand c p d a b => some (c, wordI 0x17 p d a b 0)
  | .pnot c p d a => some (c, wordI 0x18 p d a 0 0)
  | .clra c p d => some (c, wordI 0x19 p d 0 0 0)
  | .mul c p d a b => some (c, wordI 0x1C p d a b 0)
  | .mac c p d a b => some (c, wordI 0x1D p d a b 0)
  | .msu c p d a b => some (c, wordI 0x1E p d a b 0)
  | .racc c p d a imm => some (c, wordI 0x1F p d a 0 imm)
  | .ld c (.code p d b idx addr) => some (c, wordM 0x20 p d 0 b idx addr)
  | .st c p a b idx addr => some (c, wordM 0x21 p 0 a b idx addr)
  | .getr c p d imm => some (c, wordI 0x22 p d 0 0 imm)
  | .getw c p d b code idx addr => some (c, wordI 0x23 p d 0 b (code ++ BitVec.ofBool idx ++ (0 : BitVec 3) ++ addr))
  | .pub c (.code p a imm) => some (c, wordI 0x24 p 0 a 0 imm)
  | .intake c d b rel idx row w => some (c, wordP 0x28 d b rel idx row w)
  | .intakes c d b rel idx row w => some (c, wordP 0x29 d b rel idx row w)
  | .send c a dir => some (c, wordC 0x2A 0 a dir)
  | .recv c d dir => some (c, wordC 0x2B d 0 dir)
  | .emit c (.code p addr) => some (c, wordM 0x2C p 0 0 0 false addr)
  | .ering c (.code p addr) => some (c, wordM 0x2D p 0 0 0 false addr)
  | .wht c p d a b => some (c, wordI 0x30 p d a b 0)
  | .sort c p a b => some (c, wordI 0x31 p 0 a b 0)
  | .med3 c p d a b => some (c, wordI 0x32 p d a b 0)
  | .loop c count last => some (c, wordOf 0x38 0 0 0 (count ++ (0 : BitVec 5) ++ last))
  | .vote c (.code p imm) => some (c, wordI 0x39 p 0 0 0 imm)
  | .waitEntry c entry => some (c, wordOf 0x3A 0 0 0 ((0 : BitVec 18) ++ BitVec.ofNat 9 entry))
  | .frameEnd c => some (c, wordOf 0x3B 0 0 0 0)
  | _ => none

end Sys2Proof
end

