-- ==== Sys2Proof/Config.lean ====
section
/-! DEFINITION. What the spec leaves open or fixes for every part: the free values (constants without a body, so that no
proof can see a value of theirs) and the tables of constants the rules refer to. -/

namespace Sys2Proof

/-- A free bit: an outcome the spec allows both ways (R44 for a pulse between its two bounds, R27 for a release that
races the overwrite). The argument is the draw number `State.freeCtr`; log entry 2. -/
opaque Config.freeBit : Nat → Bool

/-- A free word: a value the spec does not state (MAPPHY of R208 with no spare; the gain factor of R371 when its divisor
is not positive). Log entry 2. -/
opaque Config.freeWord : Nat → BitVec 16

/-- A free integer: a value the spec does not state (the centroid fraction of R238 with a zero divisor). Log entry 2. -/
opaque Config.freeInt : Nat → Int

/-- Whether the bytes of an image are an image that molust built with the default schedule library (R212). No field of
the image format says so and the spec gives no library code, so the answer is free; log entry 9. -/
opaque Config.libraryImage : List (BitVec 8) → Bool

/-- Word `a` of the GOERTZEL window as the parameters of an image give it at boot (R131). The image format names no place
for it, so it is free; log entry 45. -/
opaque Config.imageGoertzel : List (BitVec 8) → Nat → BitVec 16

/-- Table 6.6: PUMAX of setpoint codes 0 to 28 (R192). -/
def Config.puMax : List Nat :=
  [255, 234, 215, 200, 186, 174, 163, 153, 145, 137, 130, 124, 118, 113, 108,
   104, 100, 96, 93, 90, 87, 85, 83, 81, 79, 77, 75, 73, 71]

end Sys2Proof
end

