-- ==== Sys2Proof/Machine/Memory.lean ====
section
/-! DEFINITION. Sparse memories: a list of address and value pairs in one canonical form, with strictly rising addresses
and no entry equal to what an unlisted address reads as. -/

namespace Sys2Proof.Machine

variable {α : Type} [DecidableEq α]

/-- The value at address `a`; an unlisted address reads as `d a`. -/
def memRead (d : Nat → α) : List (Nat × α) → Nat → α
  | [], a => d a
  | (k, v) :: t, a => if a < k then d a else if a = k then v else memRead d t a

/-- Write `v` at address `a`; writing what an unlisted address reads as removes the entry. -/
def memWrite (d : Nat → α) : List (Nat × α) → Nat → α → List (Nat × α)
  | [], a, v => if v = d a then [] else [(a, v)]
  | (k, w) :: t, a, v =>
    if a < k then (if v = d a then (k, w) :: t else (a, v) :: (k, w) :: t)
    else if a = k then (if v = d a then t else (a, v) :: t)
    else (k, w) :: memWrite d t a v

/-- Every address of `lo` up to, not including, `hi` reads as unlisted. -/
def memClear (m : List (Nat × α)) (lo hi : Nat) : List (Nat × α) :=
  m.filter (fun c => c.1 < lo || hi ≤ c.1)

/-- Write the values one after another from address `a`. -/
def memWriteAll (d : Nat → α) (m : List (Nat × α)) (a : Nat) : List α → List (Nat × α)
  | [] => m
  | v :: t => memWriteAll d (memWrite d m a v) (a + 1) t

/-- The `len` words from `src` on are copied to `dst` on; the words must read alike when unlisted. -/
def memCopy (d : Nat → α) (m : List (Nat × α)) (src dst len : Nat) : List (Nat × α) :=
  (m.filter (fun c => src ≤ c.1 && c.1 < src + len)).foldl (fun acc c => memWrite d acc (c.1 - src + dst) c.2)
    (memClear m dst (dst + len))

/-- The canonical form: strictly rising addresses from `lo` on, no entry equal to the value an unlisted address has. -/
def memWfFrom (d : Nat → α) : Nat → List (Nat × α) → Bool
  | _, [] => true
  | lo, (k, v) :: t => decide (lo ≤ k) && decide (v ≠ d k) && memWfFrom d (k + 1) t

/-- The canonical form of a sparse memory. -/
def Memory.wf (d : Nat → α) (m : List (Nat × α)) : Bool := memWfFrom d 0 m

end Sys2Proof.Machine
end

