-- ==== Sys2Proof/Machine/State.lean ====
section
/-! DEFINITION. The state of the block: every register, memory, queue, counter, mode and pin the spec gives it, as plain
data, the queue of waiting commands, the reasons a command can stop, and the state right after reset. -/

namespace Sys2Proof.Machine

/-- Reasons a command can stop the model as a fault. No rule of the spec stops the block: its own faults are effects on
the fault monitor's state (R431), so this type has no constructor and no command raises one (safe). -/
inductive Fault where
  deriving DecidableEq, Repr

/-- Reasons a command is refused. -/
inductive Refusal where
  /-- A command whose meaning has not been written yet, by its mnemonic; no meaning answers with it (safe). -/
  | notModelled (mnemonic : String)
  /-- An operand the spec forbids and gives no effect for; raised by WHT with d = 31 ("d must be 30 or less", R180) and by
  an INTAKE or WAIT_ENTRY of a row above 383 (R184) (safe). -/
  | forbiddenOperand
  deriving DecidableEq, Repr

/-! ### Names for modes -/

/-- `SYS_STAT.PSTATE` (Table 11.2). -/
inductive PState where
  | boot | active | entry | sleep | waking | wakeFail
  deriving DecidableEq, Repr

/-- What drives the slow clock (R53, R427). -/
inductive SlowSrc where
  | internal | xtal | watchdog
  deriving DecidableEq, Repr

/-- The lifecycle state (Table 13.1). -/
inductive Lifecycle where
  | opened | develop | secured | returned
  deriving DecidableEq, Repr

/-- `SCHED_STAT.STATE` (Table 6.13). -/
inductive SchedState where
  | stopped | load | running | copy
  deriving DecidableEq, Repr

/-- Stages of the boot of Table 11.15. -/
inductive BootStage where
  | done | power | stream | selfCal
  deriving DecidableEq, Repr

/-- Wake sources (Table 11.9). -/
inductive WakeSource where
  | geyser | host | timer | dsync | tck
  deriving DecidableEq, Repr

/-- Lane roles (Table 3.3); SHIELD with the bus that the pin follows. -/
inductive Role where
  | drive | sense | self | shieldA | shieldB | ground | float | sentinel
  deriving DecidableEq, Repr

/-- Crosspoint positions (Table 3.1). -/
inductive Position where
  | own | reserve | sentinel | shieldA | shieldB | ground | float
  deriving DecidableEq, Repr

/-- Where the sequencer stands in a frame (Table 5.4). -/
inductive SeqPhase where
  | stopped | boundary | ready | waiting | running
  deriving DecidableEq, Repr

/-- Use of a reserve lane (Table 3.11). -/
inductive ReserveUse where
  | idle | fault (pin : Nat) | cal (pin : Nat)
  deriving DecidableEq, Repr

/-- What a Caldera cell is doing (R173, R180, R182); `library` waits for the rows that the library's loads read. -/
inductive CellState where
  | idle
  | run
  | done
  | waitRow (row : Nat)
  | intake (row word : Nat) (d : XReg) (rel signed : Bool)
  | send (dir : Dir) (v : Data)
  | recv (dir : Dir) (d : XReg)
  | library
  deriving DecidableEq, Repr

/-! ### Structures -/

/-- The frame snapshot: registers 0x00 to 0x4F and the window tables on one FIO edge (R33, R440). -/
structure Snap where
  regs   : Vector Word 80
  tables : List (Nat × Word)
  time   : BitVec 32
  deriving DecidableEq, Repr

/-- A sequence table entry (Table 5.1). -/
structure Entry where
  mode    : Nat
  freq    : Nat
  mask    : Nat
  gain    : Nat
  order   : Nat
  bank    : Bool
  xfade   : Bool
  last    : Bool
  code    : Nat
  decim   : Nat
  align   : Bool
  signed  : Bool
  sync    : Bool
  nofill  : Bool
  profile : Nat
  outs    : Nat
  shift   : Nat
  shield  : Nat
  gz      : Nat
  tag     : Nat
  deriving DecidableEq, Repr

/-- One entry as it runs, from its start until its row is written (R141, R144, R152); `off` with the filter chains
disabled, `idle` with the lanes disabled (R361). -/
structure EntryRun where
  idx       : Nat
  e         : Entry
  freq      : Nat
  profile   : Nat
  roles     : List Role
  firstChip : Nat
  counted   : Nat
  invalid   : Nat
  lost      : Bool
  noPump    : Bool
  fc        : Word
  slot0     : Word
  blocked   : List Nat
  off       : Bool
  idle      : Bool
  memErr    : Bool
  serve     : List Nat
  prefill   : Nat
  hk        : List Word
  deriving DecidableEq, Repr

/-- The settings of the previous entry that R119 compares with, and its half chip in cadence periods as the fraction
`halfN / halfD` (R145); `inTest` says that it was an INTERNAL lane test, whose pins stay off their lanes until the next
entry moves them (R58, R98). -/
structure LastCfg where
  roles   : List Role
  inTest  : Bool
  gain    : Nat
  order   : Nat
  decim   : Nat
  freq    : Nat
  profile : List Word
  phase   : List Word
  drive   : Word
  serve   : List Nat
  halfN   : Nat
  halfD   : Nat
  deriving DecidableEq, Repr

/-- The acquisition sequencer; `placed` says that the pins of the entry at the boundary are in its positions (R58);
`finished` is the last entry completed (Table 5.11). -/
structure Seq where
  fc       : Word
  phase    : SeqPhase
  entry    : Nat
  left     : Nat
  run      : Bool
  due      : Bool
  cut      : Bool
  pend     : List EntryRun
  cur      : Option EntryRun
  prev     : Option LastCfg
  invalid  : Nat
  analog   : Bool
  syncRst  : Bool
  hold     : Nat
  hopPub   : Nat
  hop      : Nat
  noWait   : Bool
  period   : Nat
  ovrRows  : Nat
  testFail : Bool
  pins     : Vector Position 160
  placed   : Bool
  anchor   : Bool
  fresh    : Bool
  finished : Nat
  deriving DecidableEq, Repr

/-- Display synchronisation (R166 to R170). -/
structure Sync where
  pexp  : Nat
  seen  : Bool
  ivals : List Nat
  burst : Bool
  deriving DecidableEq, Repr

/-- What `BANK_CTL` shows of the bank state: the current bank, whether a fade is in progress, the pending bank, the
outputs of the fade produced (Table 4.10). -/
structure BankView where
  cur    : Bool
  fading : Bool
  pend   : Option Bool
  pos    : Nat
  deriving DecidableEq, Repr

/-- One chip whose outputs are still to come, or whose row is still to be written (R110, R112); `after` is the bank state
that its first output leaves (R129). -/
structure Chip where
  no      : Nat
  pos     : BitVec 32
  counted : Bool
  run     : Nat
  init    : Nat
  fade    : Option (Bool × Bool × Nat × Nat)
  bank    : Bool
  after   : BankView
  deriving DecidableEq, Repr

/-- A saturated chip of a lane (R69); `hold` says that it was a hold chip after chip `chip` (R91). -/
structure Sat where
  chip : Nat
  lane : Nat
  high : Bool
  hold : Bool
  deriving DecidableEq, Repr

/-- A cross-fade in progress (R125, R126). -/
structure Fade where
  target : Bool
  len    : Nat
  first  : Nat
  pos    : Nat
  deriving DecidableEq, Repr

/-- What all filter chains share: the CIC timeline, the chip positions, the bank state (R105, R110, R125). `ends` is the
position at which the last chip driven ends, not taken modulo 256 outputs. The bank state goes with the chips driven;
`shown` is what its output edges have reached, and `out` counts the chips of which an output exists (R129). -/
structure Filt where
  order  : Nat
  decim  : Nat
  cad    : Nat
  cic    : Nat
  chip   : Nat
  chips  : List Chip
  edge   : Nat
  first  : Bool
  ends   : Int
  trkC   : BitVec 32
  trkR   : Int
  near   : Nat
  cur    : Bool
  fade   : Option Fade
  pend   : Option Bool
  shown  : BankView
  out    : Nat
  sats   : List Sat
  clr    : Bool
  deriving DecidableEq, Repr

/-- One lane: integrator charge in units of 1/3200 pC, the last demodulated bit, CIC integrators and combs, eight-output
history newest first, the next chip it outputs, the accumulator and demodulated count of the entry's row (R68, R103,
R112, R141, R98). -/
structure Lane where
  x    : Int
  d    : Int
  int  : List (BitVec 41)
  comb : List (BitVec 41)
  hist : List Data
  next : Nat
  acc  : List (Nat × Int)
  cnt  : List (Nat × Int)
  inv  : Nat
  deriving DecidableEq, Repr

/-- One Goertzel detector (R131 to R136). -/
structure Det where
  busy  : Bool
  s1    : Int
  s2    : Int
  n     : Nat
  dirty : Bool
  chip  : Nat
  cfg   : List Word
  deriving DecidableEq, Repr

/-- Phase of a self-calibration run (Table 12.2). -/
inductive CalPhase where
  | idle | offset | gain
  deriving DecidableEq, Repr

/-- A background round (R376 to R381): group, next lane of the group, whether the group runs in block mode, the lanes
now measured, whether their 4.8 ms have ended, whether SLEEP has lost their measurement, the held factors, the lanes that
failed, the reserve lanes whose groups all run in block mode, and whether the round has ended and waits for the frame
start. -/
structure Round where
  group  : Nat
  lane   : Nat
  block  : Bool
  meas   : List Nat
  ready  : Bool
  lost   : Bool
  held   : List (Nat × Word × Word)
  failed : List Nat
  forced : List Nat
  ended  : Bool
  deriving DecidableEq, Repr

/-- Calibration (12): `due` a run requested, `waits` for the next frame-timer expiry, `frame` a frame the run replaces;
`temp` is TEMP at the last completed calibration, for the record (Table 12.11). -/
structure Cal where
  phase   : CalPhase
  due     : Bool
  waits   : Bool
  frame   : Bool
  offs    : List Int
  round   : Option Round
  dueRnd  : Bool
  fail    : BitVec 164
  measured : Bool
  temp    : Word
  deriving DecidableEq, Repr

/-- A loop of a Caldera cell: first body address, last body address, passes still to run (R180 LOOP). -/
structure LoopFrame where
  start : Nat
  last  : Nat
  left  : Nat
  deriving DecidableEq, Repr

/-- One logical cell of the Caldera (Table 6.1, R176). -/
structure Cell where
  x     : Vector Data 32
  a0    : Acc
  a1    : Acc
  p1    : Bool
  p2    : Bool
  p3    : Bool
  pc    : Nat
  loops : List LoopFrame
  st    : CellState
  deriving DecidableEq, Repr

/-- A sequencer frame whose Caldera frame has not opened yet (R185). -/
structure Owed where
  fc   : Word
  snap : Snap
  deriving DecidableEq, Repr

/-- A takeover in progress (Table 6.8): logical cell, suspected physical cell, spare that takes over. -/
structure Takeover where
  logical : CellId
  old     : PhysId
  new     : PhysId
  copied  : Bool
  deriving DecidableEq, Repr

/-- A word of an outgoing token that waits for the spare's: the bits it carries, and those that the shadowed cell's faults
have altered (R198). -/
structure TokenWord where
  bits    : Data
  altered : Data
  deriving DecidableEq, Repr

/-- An outgoing token; a null token has no words (R181, R198). -/
abbrev Token := List TokenWord

/-- The Caldera: cells, memories, mapping, the mapping as it stood at the last frame open (R208), the tokens by which the
spare lags behind the cell it shadows and whether an intake port has given the two different words (R198), the frame in
progress, whether the RING function was enabled at its open (R361), and the sequencer frame of the last Caldera frame that
opened (R173 to R199). -/
structure Cald where
  cells    : Vector Cell 7
  imem     : List (Nat × Code)
  dmem     : List (Nat × Data)
  map      : Vector PhysId 7
  spare    : Option PhysId
  mapShown : Vector PhysId 7
  spareShown : Option PhysId
  retired  : List PhysId
  shadow   : Option CellId
  lag      : List Token
  astray   : Bool
  ringOn   : Bool
  takeover : Option Takeover
  testing  : Option (PhysId × CellId)
  suspect  : Option CellId
  isOpen   : Bool
  fc       : Word
  snap     : Snap
  x2       : Data
  restart  : Bool
  discard  : Bool
  rows     : List Nat
  pubs     : List (Nat × Nat × Word)
  votes    : List (Nat × Bool)
  ring     : List (Vector Word 4)
  stalls   : List CellId
  stalled  : List CellId
  owed     : List Owed
  last     : Option Word
  deriving DecidableEq, Repr

/-- Pace and VCORE (R191 to R195): the largest sample of the frame, frames closed with margin since the last change of
setpoint, AON time of the last raise and of the last raise by a sample, the setpoint that a climb leads to, a buck step
in progress, PMU_CTL as it stood at the last frame open. -/
structure Pace where
  max     : Nat
  good    : Nat
  raised  : Option (BitVec 32)
  raisedP : Option (BitVec 32)
  target  : Option Nat
  moving  : Bool
  effCtl  : Word
  deriving DecidableEq, Repr

/-- The installed image and the load of a new one (R200 to R207). -/
structure Sched where
  state    : SchedState
  valid    : Bool
  pmin     : Nat
  skew     : Nat
  loaded   : Nat
  badOrder : Bool
  commit   : Bool
  loadWait : Bool
  deriving DecidableEq, Repr

/-- The gap state (R280). -/
structure Gap where
  dropped : Nat
  first   : Word
  last    : Word
  tFirst  : Word
  deriving DecidableEq, Repr

/-- A record: 8 words (R275). -/
abbrev Rec := Vector Word 8

/-- A stream burst in progress (R288): running, stalled at an item boundary, or past its stall limit. -/
inductive Stream where
  | off | running | stalled | filler
  deriving DecidableEq, Repr

/-- The Fumarole (09): committed items oldest first, staged items, gap state and its value at the last commit, drops not
yet counted, insertion buffer, word index, last word delivered, whether the rest of a cut item reads 0xFFFF; `rd` is the
place of the oldest item among the 64; `seen` is how many of the committed items the read side sees (R286). -/
structure Queue where
  items   : List Rec
  staged  : List Rec
  gap     : Option Gap
  saved   : Option Gap
  drops   : Nat
  ins     : List Rec
  word    : Nat
  last    : Word
  cut     : Bool
  stopped : Bool
  stream  : Stream
  vote    : Bool
  rd      : BitVec 6
  seen    : Nat
  deriving DecidableEq, Repr

/-- The Sinter ring's pointers (R298, R300); `count` is how many entries have been written since the last clear, 4096 at
most (R303). -/
structure Ring where
  wr      : BitVec 12
  rd      : BitVec 12
  u       : Nat
  wrapped : Bool
  mark    : Option (BitVec 12)
  markIdx : BitVec 12
  since   : Nat
  count   : Nat
  deriving DecidableEq, Repr

/-- A host-port transaction in progress (R309, R317, R323): `kind` 0 register, 1 window, 2 stream, 3 special; `addr` the
next register address, or the window code still to be selected, or the number of status words sent; `dead` once it has
no further effect, `void` when its header gave it none (R307, R319, R320); `queue` says that it has read the Fumarole
(R292). -/
structure Txn where
  rd     : Bool
  kind   : Nat
  needs  : Bool
  crcOn  : Bool
  crc    : Byte
  dead   : Bool
  void   : Bool
  addr   : Nat
  read   : List Nat
  redone : List Nat
  queue  : Bool
  deriving DecidableEq, Repr

/-- An I2C access that holds SCL until MAIN is ready: words to read or to write, or an odd data byte with the end of the
transaction after it (R314, R325). -/
inductive Stretch where
  | read (n : Nat) | write (ws : List WireWord) | ends (e : I2cEnd)
  deriving DecidableEq, Repr

/-- The host port (10): `out` are the bytes it drove in the last command, `nack` says that it did not acknowledge a byte
of it. -/
structure Port where
  ctl     : Word
  ptr     : Byte
  out     : List Byte
  nack    : Bool
  txn     : Option Txn
  stretch : Option Stretch
  rstDue  : Bool
  vote    : Bool
  deriving DecidableEq, Repr

/-- One page or sector step of an NVM operation (R384, R392). -/
inductive FlashStep where
  | erase (base len : Nat) | program (addr : Nat) (data : List Byte)
  deriving DecidableEq, Repr

/-- Operations of `NVM_CTL` (Table 12.14) and the automatic record write (R387). -/
inductive NvmOp where
  | programA | programB | saveCal | captureSig | eraseA | eraseB | autoSave
  deriving DecidableEq, Repr

/-- The NVM controller (R387 to R395); `paused` with the function disabled and no page in progress (Table 11.14). -/
structure Nvm where
  op     : Option NvmOp
  todo   : List FlashStep
  err    : Nat
  held   : Option Word
  after  : Bool
  frames : Nat
  sums   : List (Nat × Int)
  bad    : Bool
  paused : Bool
  deriving DecidableEq, Repr

/-- Lifecycle transitions in progress (Table 13.2); RETURN erases the flash first and blows its fuse then (R413). -/
inductive Transition where
  | none | develop | secured | returned | returnFuse
  deriving DecidableEq, Repr

/-- The security block and the TAP with its instruction register (13, R404). -/
structure Sec where
  otp      : Vector (BitVec 32) 64
  shadow   : Vector (BitVec 32) 4
  life     : Lifecycle
  unlocked : Bool
  tapOut   : Bool
  asked    : Bool
  nonce    : Option (BitVec 128)
  chal     : Nat
  resp     : List Word
  purpose  : Nat
  rslot    : Nat
  holdoff  : Bool
  trans    : Transition
  otpProg  : Option (Nat × BitVec 32)
  ir       : BitVec 5
  dbgDr    : BitVec 40
  otpDr    : BitVec 40
  tdo      : BitVec 32
  deriving DecidableEq, Repr

/-- One sentinel bus of the Geyser (R262 to R265): the charge in its lane's integrator, its compensation in steps of
0.25 pF; `sums` is the sum of the auto-zero, later the last result. -/
structure Bus where
  x       : Int
  comp    : Nat
  base    : Int
  sums    : Int
  excl    : Bool
  touched : Bool
  low     : Bool
  deriving DecidableEq, Repr

/-- One touch the Geyser has seen since it entered CANDIDATE: bus, scan number and AON time of its start, and its
release (R265, R267). -/
structure GTouch where
  bus  : Nat
  scan : Nat
  t0   : BitVec 32
  t1   : Option (BitVec 32)
  deriving DecidableEq, Repr

/-- The Geyser (08). -/
structure Geyser where
  on     : Bool
  map    : List (Option Nat)
  count  : Nat
  sgain  : Nat
  buses  : List Bus
  scan   : Nat
  cand   : Bool
  evs    : List GTouch
  cover  : Bool
  rej    : Nat
  woke   : Bool
  deriving DecidableEq, Repr

/-- An injected or found error of a memory word (R175, R425): the bits that read inverted, stuck or not, found by a read
since. -/
structure MemErr where
  mem   : MemId
  addr  : Nat
  bits  : Nat
  stuck : Bool
  found : Bool
  deriving DecidableEq, Repr

/-- A fault event still to be reported (R431): class, outcome, element, DETAIL, SUBST. -/
structure FaultEvent where
  cls     : Nat
  outcome : Nat
  elem    : Nat
  detail  : Word
  subst   : Word
  counted : Bool
  deriving DecidableEq, Repr

/-- The port on which a stalled cell waits (R196). -/
inductive CellPort where
  | send (dir : Dir) | recv (dir : Dir) | intake | emit | instruction
  deriving DecidableEq, Repr

/-- What the fault monitor receives at a stall: physical cell, logical cell, port (R196). -/
structure StallNote where
  phys    : PhysId
  logical : CellId
  port    : CellPort
  deriving DecidableEq, Repr

/-- A word that was in error at its last scrub, and whether a stuck bit of it has been reported (R425). -/
structure Scrubbed where
  mem  : MemId
  addr : Nat
  told : Bool
  deriving DecidableEq, Repr

/-- The fault monitor (14) and the faults that are present in the hardware; `tests` are the lanes that failed the INTERNAL
check, by the frame of the row (R98, R423). -/
structure Fmon where
  faults  : List (FaultSpec × Bool)
  memErrs : List MemErr
  scrubbed : List Scrubbed
  tests   : List (Nat × List Nat)
  failed  : List Nat
  pinsBad : List Nat
  toSub   : List Nat
  rebase  : List (Nat × Nat)
  later   : List FaultEvent
  fioBad  : Nat
  fio2Bad : Nat
  irqDiff : Nat
  stall   : Option StallNote
  deriving DecidableEq, Repr

/-- Region classes (Table 7.3). -/
inductive Class where
  | palm | water | finger | glove | none
  deriving DecidableEq, Repr

/-- Contact types (Table 7.4). -/
inductive Kind where
  | finger | glove | palm | hover
  deriving DecidableEq, Repr

/-- A region of one frame (R230). Positions are in 1/64 node. -/
structure Region where
  nodes : List Nat
  peak  : Nat
  sp    : Int
  agree : Int
  px    : Int
  py    : Int
  hover : Bool
  bad   : Bool
  deriving DecidableEq, Repr

/-- A tracked contact (R235 to R247): raw and reported position, movement since the last frame, strength and area as
reported, frames since DOWN, state of this frame (Table 9.2; 0 none, 7 a hover that has not been reported), frames
missing, frames since the last record, its nodes, whether it kept its position, DOWN position and time, whether no other
contact has existed since, largest squared distance from DOWN, LONG produced, position of stillness, the time up to
which `still` counts AON periods without movement, the frames in a row in which its region was a glove's, the lanes of
its clusters while it is a power-up contact, the nodes frozen for it; the type, strength and area of its last record. -/
structure Contact where
  id      : Nat
  kind    : Kind
  suspect : Bool
  px      : Int
  py      : Int
  rx      : Int
  ry      : Int
  vx      : Int
  vy      : Int
  str     : Nat
  area    : Nat
  age     : Nat
  state   : Nat
  missing : Nat
  quiet   : Nat
  nodes   : List Nat
  kept    : Bool
  dx      : Int
  dy      : Int
  dT      : BitVec 32
  alone   : Bool
  far     : Nat
  long'   : Bool
  sx      : Int
  sy      : Int
  sT      : BitVec 32
  still   : Nat
  gloves  : Nat
  clX     : List Nat
  clY     : List Nat
  home    : List Nat
  tKind   : Kind
  tStr    : Nat
  tArea   : Nat
  deriving DecidableEq, Repr

/-- A contact that ended in the frame: its state, UP or ABSORB, whether its end completes gestures, whether its record
carries STALE (R235, R256). -/
structure Ended where
  c     : Contact
  code  : Nat
  plain : Bool
  stale : Bool
  deriving DecidableEq, Repr

/-- A region or hover that waits to become a contact (R236): its position, class and the frames it has persisted. -/
structure Waiting where
  px     : Int
  py     : Int
  cls    : Class
  hover  : Bool
  frames : Nat
  deriving DecidableEq, Repr

/-- A TAP held back, or the first of a double tap: DOWN position and time, time of the UP, contact (R257). -/
structure Tap where
  dx : Int
  dy : Int
  dT : BitVec 32
  up : BitVec 32
  id : Nat
  deriving DecidableEq, Repr

/-- Two contacts that began together: their IDs, midpoint at the second DOWN, time of the first DOWN, separation d0, how
many have ended as TAP2 asks (Table 8.1). -/
structure Duo where
  a  : Nat
  b  : Nat
  mx : Int
  my : Int
  dT : BitVec 32
  d0 : Nat
  up : Nat
  deriving DecidableEq, Repr

/-- A palm region followed for PALM_COVER: its position, the AON time of its beginning, whether the gesture has been
recognised (R254). -/
structure Palm where
  px   : Int
  py   : Int
  t0   : BitVec 32
  done : Bool
  deriving DecidableEq, Repr

/-- What a frame does with a Geyser wake that awaits its judgement, once it is committed (R272). -/
inductive WakeRes where
  | wait | confirm | reject
  deriving DecidableEq, Repr

/-- The default library's own data (07, 08): kept in DMEM by a real image, whose layout the spec does not give. Node
lists are in the order y × NX + x, self lists by pin; `stage` is how far the library has come in the frame; `again`: a
schedule start that its loads have not yet met, `capAsk`: RECAP asked for the capture, `capDone`: the sequencer frame at
the close that last cleared RECAP, `keySig`: the last reported signal of each key, `puSay`: the power-up check has
found a touch that no record has told, `noise`: that of the frame's listening rows, `gone`: lifted contacts that a later
one may make a TAP2 with. -/
structure Lib where
  on       : Bool
  stage    : Nat
  base     : List Int
  quiet    : List (List Int)
  baseS    : List Int
  quietS   : List (List Int)
  raw      : List Int
  valid    : List Bool
  rawS     : List Int
  validS   : List Bool
  str      : List Int
  strS     : List Int
  frozen   : List Nat
  regions  : List Region
  capFull  : Bool
  capLeft  : Nat
  capSum   : List Int
  capN     : List Nat
  capSumS  : List Int
  capNS    : List Nat
  capFroz  : List Nat
  capNow   : Bool
  capNext  : Bool
  capDone  : Option Word
  capEnd   : Bool
  capAsk   : Bool
  again    : Bool
  noise    : Option Int
  lastCal  : Option Word
  calDue   : Bool
  marks    : List (List Nat)
  healed   : List Nat
  antiOk   : Bool
  antiGone : Nat
  puTouch  : Bool
  puNew    : Bool
  puSay    : Bool
  susNodes : List Nat
  flagX    : List (List Nat)
  flagY    : List (List Nat)
  puM      : Int
  noSig    : Bool
  contacts : List Contact
  ended    : List Ended
  waiting  : List Waiting
  idFree   : List Nat
  more     : Bool
  keyCnt   : List Nat
  pressed  : Word
  keyCfg   : List Word
  keySig   : List Word
  wet      : Bool
  wetOn    : Nat
  wetOff   : Nat
  submOn   : Nat
  wetLock  : Bool
  glove    : Bool
  gloveT   : BitVec 32
  stale    : Bool
  settle   : Bool
  trackOn  : Bool
  trackRst : Bool
  trackNow : Bool
  status   : List Rec
  keyRecs  : List Rec
  gests    : List Rec
  nCont    : Nat
  tVote    : BitVec 32
  tFrame   : Option (BitVec 32)
  dT       : Nat
  voted    : Bool
  wokeNow  : Bool
  wakeCnt  : Nat
  hopRun   : List Nat
  hopDwell : Nat
  hopLast  : Nat
  hopPub   : Option Nat
  taps     : List Tap
  tapSec   : Option (Nat × Tap)
  tap2     : List Duo
  gone     : List Contact
  pinch    : Option Duo
  palms    : List Palm
  wakeWait : Option Nat
  wakeRes  : Option WakeRes
  wakePend : Bool
  gwake    : Bool
  rejects  : Nat
  dropVote : Bool
  elecCnt  : List (Nat × Nat)
  refBase  : List Int
  deriving DecidableEq, Repr

/-- The AON domain's own state (R20). -/
structure Aon where
  por     : Bool
  vioLow  : Bool
  time    : BitVec 32
  slow    : SlowSrc
  hsel    : Bool
  hsdo    : Bool
  latch   : Option Word
  latchC  : Option Word
  latchG  : List (Nat × Word)
  deriving DecidableEq, Repr

/-- A sleep handshake in progress (R340, R341). -/
structure Handshake where
  block  : Nat
  delays : Nat
  agreed : List Nat
  start  : Option (BitVec 32)
  deriving DecidableEq, Repr

/-- The power manager (11). -/
structure Pwr where
  pstate    : PState
  ready     : Bool
  step      : Nat
  retried   : Bool
  waiting   : Bool
  boot      : BootStage
  slots     : List Bool
  cause     : Nat
  quiesce   : Bool
  goSleep   : Bool
  hs        : Option Handshake
  reqs      : List WakeSource
  dsyncWk   : Bool
  pol       : Bool
  geyEn     : Bool
  timerLeft : Nat
  deriving DecidableEq, Repr

/-- The drive timebase, the pump, and the half of the chip that the drive and excitation waveforms stand in, none at
rest between chips (R76, R81, R86, R160 to R164). -/
structure Drive where
  toFio  : Bool
  pump   : Bool
  dpllHz : Nat
  half   : Option Half
  deriving DecidableEq, Repr

/-- The state of the block. `rowDone` are the rows that hold a completed write, `rowHeld` those whose result the Caldera
has not released (R25, R26, R182). -/
structure State where
  aon     : Aon
  pwr     : Pwr
  regs    : Vector Word 80
  tables  : List (Nat × Word)
  flash   : List Host.Cell
  snap    : Snap
  effGz   : Word
  seq     : Seq
  rowDone : List Nat
  rowHeld : List Nat
  sync    : Sync
  drive   : Drive
  filt    : Filt
  lanes   : Vector Lane 164
  dets    : Vector Det 4
  reserve : Vector ReserveUse 4
  cal     : Cal
  cald    : Cald
  pace    : Pace
  sched   : Sched
  queue   : Queue
  ring    : Ring
  port    : Port
  nvm     : Nvm
  sec     : Sec
  geyser  : Geyser
  fmon    : Fmon
  lib     : Lib
  freeCtr : Nat
  pending : List Instr
  deriving DecidableEq, Repr

/-! ### Reset values -/

/-- Registers 0x00 to 0x4F after a reset that boots, before boot loads anything (Table 15.2; fields marked boot as
Table 15.7 gives them with no valid image; PMU_STAT.VREQ 28). Fields that are views of typed state read 0 here. -/
def regsReset : Vector Word 80 := #v[
  0x6144, 0x0101, 0x0060, 0x0000, 0x0000, 0x0000, 0x0003, 0x0000,
  0x0000, 0x0000, 0x0000, 0x0000, 0x0000, 0x0000, 0x0000, 0x0000,
  0x0000, 0x07FF, 0x0000, 0x0000, 0x800C, 0xE700, 0x0070, 0x0000,
  0x0000, 0x411B, 0x0000, 0x0C80, 0x0000, 0x0000, 0x0000, 0x3C01,
  0x0000, 0x0000, 0x0000, 0x0100, 0x0000, 0x0000, 0x0000, 0x0000,
  0x3000, 0x0000, 0x0000, 0x0000, 0x0000, 0x0008, 0x8000, 0x0000,
  0x2500, 0x0000, 0x0000, 0x0000, 0x0185, 0x0000, 0x0000, 0x0000,
  0x8000, 0x0000, 0x0000, 0x0000, 0x0000, 0x0000, 0x0000, 0x0000,
  0x0000, 0x0000, 0x0000, 0x0000, 0x0000, 0x0000, 0x0000, 0xFFC0,
  0x0000, 0x0000, 0x000A, 0x0000, 0x00C0, 0x00F0, 0x0078, 0x012C]

def Snap.reset : Snap := ⟨regsReset, [], 0⟩

def Seq.reset : Seq :=
  { fc := 0, phase := .stopped, entry := 0, left := 0, run := false, due := false, cut := false, pend := [],
    cur := none, prev := none, invalid := 0, analog := true, syncRst := false, hold := 0, hopPub := 0, hop := 0,
    noWait := false, period := 16667, ovrRows := 0, testFail := false, pins := Vector.replicate 160 .ground,
    placed := false, anchor := false, fresh := true, finished := 0 }

def Filt.reset : Filt :=
  { order := 3, decim := 4, cad := 0, cic := 0, chip := 0, chips := [], edge := 0, first := true, ends := 0, trkC := 0, trkR := 0,
    near := 0, cur := false, fade := none, pend := none, shown := ⟨false, false, none, 0⟩, out := 0, sats := [], clr := false }

def Lane.reset : Lane :=
  { x := 0, d := 0, int := List.replicate 5 0, comb := List.replicate 5 0, hist := List.replicate 8 0, next := 0, acc := [],
    cnt := [], inv := 0 }

def Det.reset : Det := { busy := false, s1 := 0, s2 := 0, n := 0, dirty := false, chip := 0, cfg := [] }

def Cal.reset : Cal :=
  { phase := .idle, due := false, waits := false, frame := false, offs := [], round := none, dueRnd := false, fail := 0,
    measured := false, temp := 0 }

def Cell.reset : Cell :=
  { x := Vector.replicate 32 0, a0 := 0, a1 := 0, p1 := false, p2 := false, p3 := false, pc := 0, loops := [],
    st := .idle }

def Cald.reset : Cald :=
  { cells := Vector.replicate 7 Cell.reset, imem := [], dmem := [], map := #v[0, 1, 2, 3, 4, 5, 6], spare := some 7,
    mapShown := #v[0, 1, 2, 3, 4, 5, 6], spareShown := some 7, retired := [], shadow := none, lag := [], astray := false, ringOn := true, takeover := none, testing := none, suspect := none, isOpen := false, fc := 0,
    snap := Snap.reset, x2 := 0, restart := true, discard := false, rows := [], pubs := [], votes := [], ring := [],
    stalls := [], stalled := [], owed := [], last := none }

def Pace.reset : Pace :=
  { max := 0, good := 0, raised := none, raisedP := none, target := none, moving := false, effCtl := 0x800C }

def Sched.reset : Sched :=
  { state := .stopped, valid := false, pmin := 2083, skew := 0, loaded := 0, badOrder := false, commit := false,
    loadWait := false }

def Queue.reset : Queue :=
  { items := [], staged := [], gap := none, saved := none, drops := 0, ins := [], word := 0, last := 0xFFFF,
    cut := false, stopped := false, stream := .off, vote := false, rd := 0, seen := 0 }

def Ring.reset : Ring :=
  { wr := 0, rd := 0, u := 0, wrapped := false, mark := none, markIdx := 0, since := 0, count := 0 }

def Port.reset : Port :=
  { ctl := 0x000A, ptr := 0, out := [], nack := false, txn := none, stretch := none, rstDue := false, vote := false }

def Nvm.reset : Nvm :=
  { op := none, todo := [], err := 0, held := none, after := false, frames := 0, sums := [], bad := false,
    paused := false }

def Sec.reset : Sec :=
  { otp := Vector.replicate 64 0, shadow := Vector.replicate 4 0, life := .opened, unlocked := false, tapOut := false,
    asked := false, nonce := none, chal := 0, resp := [], purpose := 0, rslot := 0, holdoff := false,
    trans := .none, otpProg := none, ir := 1, dbgDr := 0, otpDr := 0, tdo := 0 }

def Bus.reset : Bus := { x := 0, comp := 0, base := 0, sums := 0, excl := false, touched := false, low := false }

def Geyser.reset : Geyser :=
  { on := false, map := [], count := 0, sgain := 0, buses := [], scan := 0, cand := false, evs := [], cover := false,
    rej := 0, woke := false }

def Fmon.reset : Fmon :=
  { faults := [], memErrs := [], scrubbed := [], tests := [], failed := [], pinsBad := [], toSub := [], rebase := [], later := [], fioBad := 0,
    fio2Bad := 0, irqDiff := 0, stall := none }

def Lib.reset : Lib :=
  { on := false, stage := 0, base := [], quiet := [], baseS := [], quietS := [], raw := [], valid := [], rawS := [],
    validS := [], str := [], strS := [], frozen := [], regions := [], capFull := false, capLeft := 0, capSum := [],
    capN := [], capSumS := [], capNS := [], capFroz := [], capNow := false, capNext := false, capDone := none,
    capEnd := false, capAsk := false, again := false, noise := none, lastCal := none, calDue := false, marks := [], healed := [], antiOk := false, antiGone := 0, puTouch := false,
    puNew := false, puSay := false, susNodes := [], flagX := [], flagY := [], puM := 0, noSig := false, contacts := [], ended := [],
    waiting := [], idFree := List.replicate 10 15, more := false, keyCnt := List.replicate 16 0, pressed := 0,
    keyCfg := [], keySig := List.replicate 16 0, wet := false, wetOn := 0, wetOff := 0, submOn := 0, wetLock := false, glove := false, gloveT := 0,
    stale := false, settle := false, trackOn := true, trackRst := false, trackNow := false, status := [],
    keyRecs := [], gests := [], nCont := 0, tVote := 0, tFrame := none, dT := 0, voted := true, wokeNow := false,
    wakeCnt := 0, hopRun := [0, 0, 0, 0], hopDwell := 0, hopLast := 0, hopPub := none, taps := [], tapSec := none, tap2 := [], gone := [],
    pinch := none, palms := [], wakeWait := none, wakeRes := none, wakePend := false, gwake := false, rejects := 0, dropVote := false, elecCnt := [],
    refBase := [] }

def Aon.reset : Aon :=
  { por := false, vioLow := false, time := 0, slow := .internal, hsel := false, hsdo := false, latch := none,
    latchC := none, latchG := [] }

def Pwr.reset : Pwr :=
  { pstate := .boot, ready := false, step := 2, retried := false, waiting := false, boot := .power, slots := [],
    cause := 0, quiesce := false, goSleep := false, hs := none, reqs := [], dsyncWk := false, pol := false,
    geyEn := false, timerLeft := 0 }

def Drive.reset : Drive := { toFio := false, pump := false, dpllHz := 0, half := none }

/-- The machine right after the release of the power-on reset (R333, R357): PSTATE BOOT with MAIN powering up
(Table 11.15), every register at its Reset column, every memory at its reset content, the queue empty. Values the spec
does not give are named in log entry 3. -/
def State.reset : State :=
  { aon := Aon.reset, pwr := Pwr.reset, regs := regsReset, tables := [], flash := [], snap := Snap.reset, effGz := 0,
    seq := Seq.reset, rowDone := [], rowHeld := [], sync := ⟨0, false, [], false⟩, drive := Drive.reset,
    filt := Filt.reset, lanes := Vector.replicate 164 Lane.reset, dets := Vector.replicate 4 Det.reset,
    reserve := Vector.replicate 4 .idle, cal := Cal.reset, cald := Cald.reset, pace := Pace.reset,
    sched := Sched.reset, queue := Queue.reset, ring := Ring.reset, port := Port.reset, nvm := Nvm.reset,
    sec := Sec.reset, geyser := Geyser.reset, fmon := Fmon.reset, lib := Lib.reset, freeCtr := 0, pending := [] }

end Sys2Proof.Machine
end

