-- ==== Sys2Proof/Machine/Ops.lean ====
section
/-! DEFINITION. The named operations over registers, tables, flash and Caldera memories, and the readings of the state
that many rules share. -/

namespace Sys2Proof.Machine

/-! ### Register addresses (Table 15.2) -/

abbrev Reg.CHIP_ID : RegId := 0x00
abbrev Reg.CHIP_REV : RegId := 0x01
abbrev Reg.SYS_STAT : RegId := 0x02
abbrev Reg.INT_STAT : RegId := 0x03
abbrev Reg.INT_EN : RegId := 0x04
abbrev Reg.SLEEP_CTL : RegId := 0x05
abbrev Reg.PWR_VOTE : RegId := 0x06
abbrev Reg.WAKE_SRC : RegId := 0x07
abbrev Reg.GEYSER_CFG : RegId := 0x08
abbrev Reg.GEYSER_THR : RegId := 0x09
abbrev Reg.AON_TIME_H : RegId := 0x0A
abbrev Reg.AON_TIME_L : RegId := 0x0B
abbrev Reg.WAKE_TIMER : RegId := 0x0C
abbrev Reg.SYS_RESET : RegId := 0x0D
abbrev Reg.SLEEP_ABORT : RegId := 0x0E
abbrev Reg.AON_FAULT : RegId := 0x0F
abbrev Reg.FUNC_RESET : RegId := 0x10
abbrev Reg.FUNC_EN : RegId := 0x11
abbrev Reg.CLK_CTL : RegId := 0x12
abbrev Reg.CLK_STAT : RegId := 0x13
abbrev Reg.PMU_CTL : RegId := 0x14
abbrev Reg.PMU_STAT : RegId := 0x15
abbrev Reg.SCHED_CTL : RegId := 0x16
abbrev Reg.SCHED_STAT : RegId := 0x17
abbrev Reg.FRAME_CNT : RegId := 0x18
abbrev Reg.FRAME_PERIOD : RegId := 0x19
abbrev Reg.PACE : RegId := 0x1A
abbrev Reg.SYNC_CTL : RegId := 0x1B
abbrev Reg.SYNC_STAT : RegId := 0x1C
abbrev Reg.QUIET_LEN : RegId := 0x1D
abbrev Reg.SYNC_TIMEOUT : RegId := 0x1E
abbrev Reg.DRIVE_CTL : RegId := 0x1F
abbrev Reg.RESERVE_MAP : RegId := 0x20
abbrev Reg.LANE_STAT : RegId := 0x21
abbrev Reg.FILT_CTL : RegId := 0x22
abbrev Reg.BANK_CTL : RegId := 0x23
abbrev Reg.SEQ_CTL : RegId := 0x24
abbrev Reg.SEQ_STAT : RegId := 0x25
abbrev Reg.GOERTZEL_CTL : RegId := 0x26
abbrev Reg.GOERTZEL_STAT : RegId := 0x27
abbrev Reg.CAL_CMD : RegId := 0x28
abbrev Reg.CAL_STAT : RegId := 0x29
abbrev Reg.CAL_COUNT : RegId := 0x2A
abbrev Reg.CAL_TIME_H : RegId := 0x2B
abbrev Reg.CAL_TIME_L : RegId := 0x2C
abbrev Reg.CAL_TEMP_DELTA : RegId := 0x2D
abbrev Reg.TEMP : RegId := 0x2E
abbrev Reg.BASE_CTL : RegId := 0x2F
abbrev Reg.TOUCH_CTL : RegId := 0x30
abbrev Reg.TOUCH_STAT : RegId := 0x31
abbrev Reg.KEY_STAT : RegId := 0x32
abbrev Reg.GEST_EN : RegId := 0x33
abbrev Reg.RPT_CTL : RegId := 0x34
abbrev Reg.RPT_STAT : RegId := 0x35
abbrev Reg.RPT_DATA : RegId := 0x36
abbrev Reg.RPT_GAPS : RegId := 0x37
abbrev Reg.RING_CTL : RegId := 0x38
abbrev Reg.RING_STAT : RegId := 0x39
abbrev Reg.RING_WR : RegId := 0x3A
abbrev Reg.RING_RD : RegId := 0x3B
abbrev Reg.WIN_SEL : RegId := 0x3C
abbrev Reg.WIN_ADDR : RegId := 0x3D
abbrev Reg.WIN_DATA : RegId := 0x3E
abbrev Reg.WIN_STAT : RegId := 0x3F
abbrev Reg.NVM_CTL : RegId := 0x40
abbrev Reg.NVM_STAT : RegId := 0x41
abbrev Reg.LIFECYCLE : RegId := 0x42
abbrev Reg.DEBUG_CTL : RegId := 0x43
abbrev Reg.DEBUG_STAT : RegId := 0x44
abbrev Reg.AUTH_CHAL : RegId := 0x45
abbrev Reg.FAULT_STAT : RegId := 0x46
abbrev Reg.FAULT_EN : RegId := 0x47
abbrev Reg.FAULT_CNT : RegId := 0x48
abbrev Reg.FAULT_INFO : RegId := 0x49
abbrev Reg.HOST_CTL : RegId := 0x4A
abbrev Reg.HOST_STAT : RegId := 0x4B
abbrev Reg.DRV_F0 : RegId := 0x4C
abbrev Reg.DRV_F1 : RegId := 0x4D
abbrev Reg.DRV_F2 : RegId := 0x4E
abbrev Reg.DRV_F3 : RegId := 0x4F

/-! ### Registers -/

/-- The stored word of a register. -/
def State.reg (s : State) (r : RegId) : Word := s.regs.get r

/-- Replace the stored word of a register. -/
def State.setReg (s : State) (r : RegId) (v : Word) : State := { s with regs := s.regs.set r v }

/-- Bit `b` of a register. -/
def State.flag (s : State) (r : RegId) (b : Nat) : Bool := (s.reg r).getLsbD b

/-- The `w` bits of a word from bit `lo` up, as a number. -/
def bits (v : Word) (lo w : Nat) : Nat := (v.toNat >>> lo) % 2 ^ w

/-- A word with the `w` bits from bit `lo` up replaced. -/
def putBits (v : Word) (lo w x : Nat) : Word :=
  let m := BitVec.ofNat 16 ((2 ^ w - 1) <<< lo)
  (v &&& ~~~m) ||| (BitVec.ofNat 16 ((x % 2 ^ w) <<< lo))

/-- A field of a register as a number. -/
def State.fld (s : State) (r : RegId) (lo w : Nat) : Nat := bits (s.reg r) lo w

/-- Replace a field of a register. -/
def State.setFld (s : State) (r : RegId) (lo w x : Nat) : State := s.setReg r (putBits (s.reg r) lo w x)

/-- Replace one bit of a register. -/
def State.setFlag (s : State) (r : RegId) (b : Nat) (v : Bool) : State := s.setFld r b 1 v.toNat

/-- Increment a wrapping counter field of a register. -/
def State.incFld (s : State) (r : RegId) (lo w : Nat) : State := s.setFld r lo w (s.fld r lo w + 1)

/-- Increment a saturating counter field of a register. -/
def State.satFld (s : State) (r : RegId) (lo w : Nat) : State := s.setFld r lo w (min (s.fld r lo w + 1) (2 ^ w - 1))

/-- A number as a word. -/
def word (n : Nat) : Word := BitVec.ofNat 16 n

/-- An integer as a word, modulo 2^16. -/
def iword (n : Int) : Word := BitVec.ofInt 16 n

/-- Two bytes, high byte first (R5). -/
def wordOfBytes (hi lo : Byte) : Word := word (hi.toNat * 256 + lo.toNat)

/-- The two bytes of a word, high byte first (R5). -/
def bytesOfWord (w : Word) : List Byte := [BitVec.ofNat 8 (w.toNat / 256), BitVec.ofNat 8 w.toNat]

/-- A list of bytes as a number, high byte first. -/
def beNat (l : List Byte) : Nat := l.foldl (fun n b => n * 256 + b.toNat) 0

/-- A number as `n` bytes, high byte first. -/
def beBytes : Nat → Nat → List Byte
  | 0, _ => []
  | n + 1, v => BitVec.ofNat 8 (v >>> (8 * n)) :: beBytes n v

/-- The ceiling of a quotient of naturals. -/
def ceilDiv (a b : Nat) : Nat := (a + b - 1) / b

/-- Clamp an integer. -/
def clampI (x lo hi : Int) : Int := if x < lo then lo else if hi < x then hi else x

/-- Arithmetic right shift of an integer (floor division by a power of two). -/
def asr (x : Int) (k : Nat) : Int := x / 2 ^ k

/-- Element `i` of a list with a default. -/
def nth {α : Type} (l : List α) (i : Nat) (d : α) : α := l.getD i d

/-- The value kept for a key in an association list. -/
def alook {β : Type} (l : List (Nat × β)) (k : Nat) : Option β :=
  match l with
  | [] => none
  | (i, v) :: t => if i = k then some v else alook t k

/-- Set the value kept for a key. -/
def aset {β : Type} (l : List (Nat × β)) (k : Nat) (v : β) : List (Nat × β) :=
  match l with
  | [] => [(k, v)]
  | (i, w) :: t => if i = k then (k, v) :: t else (i, w) :: aset t k v

/-- Remove a key. -/
def adel {β : Type} (l : List (Nat × β)) (k : Nat) : List (Nat × β) := l.filter (fun c => c.1 != k)

/-- Add a number to a set kept as a list without repeats. -/
def addOnce (l : List Nat) (k : Nat) : List Nat := if l.contains k then l else l ++ [k]

/-! ### Window tables (Table 10.6) -/

abbrev Win.SEQ : Nat := 1
abbrev Win.RESULT : Nat := 2
abbrev Win.COEF_A : Nat := 3
abbrev Win.COEF_B : Nat := 4
abbrev Win.LANE_MASK : Nat := 5
abbrev Win.CALF : Nat := 6
abbrev Win.PHASE : Nat := 7
abbrev Win.KEYS : Nat := 8
abbrev Win.IMAGE : Nat := 9
abbrev Win.NVM : Nat := 10
abbrev Win.RING : Nat := 11
abbrev Win.PANEL : Nat := 12
abbrev Win.GOERTZEL : Nat := 13
abbrev Win.RS_PROFILE : Nat := 14

/-- The key of a window word in `State.tables`. -/
def winKey (code a : Nat) : Nat := code * 131072 + a

/-- What a window word reads before anything writes it: sequence entry 0 has LAST set (R137), INC is 4.0 (Table 4.4),
GAIN is 1.0 (Table 12.1), every other word is 0. -/
def tabDefault (k : Nat) : Word :=
  if k = winKey Win.SEQ 0 then 0x0001
  else if k / 131072 = Win.RS_PROFILE ∧ k % 4 = 0 then 0x0400
  else if k / 131072 = Win.CALF ∧ k % 2 = 1 then 0x8000
  else 0

/-- A window word of a table image. -/
def tabRead (t : List (Nat × Word)) (code a : Nat) : Word := memRead tabDefault t (winKey code a)

/-- A window word. -/
def State.tab (s : State) (code a : Nat) : Word := tabRead s.tables code a

/-- Write a window word. -/
def State.setTab (s : State) (code a : Nat) (v : Word) : State :=
  { s with tables := memWrite tabDefault s.tables (winKey code a) v }

/-- Write window words one after another. -/
def State.setTabs (s : State) (code a : Nat) (vs : List Word) : State :=
  { s with tables := memWriteAll tabDefault s.tables (winKey code a) vs }

/-- Every word of a window reads its default. -/
def State.clearTab (s : State) (code : Nat) : State :=
  { s with tables := memClear s.tables (winKey code 0) (winKey (code + 1) 0) }

/-- A word of a row of the result store: word 0 is the status word, word 1 + n is slot n (R151). -/
def State.rowWord (s : State) (row w : Nat) : Word := s.tab Win.RESULT (161 * row + w)

/-- The number of words of a window; 0 for a code without a window. -/
def winSize (code : Nat) : Nat :=
  match code with
  | 1 => 1536 | 2 => 61824 | 3 => 512 | 4 => 512 | 5 => 80 | 6 => 328 | 7 => 160 | 8 => 64 | 9 => 57344
  | 10 => 131072 | 11 => 16384 | 12 => 320 | 13 => 32 | 14 => 16
  | _ => 0

/-- The writable bits of a window word. -/
def winMask (code a : Nat) : Word :=
  match code with
  | 1 => 0xFFFF
  | 3 | 4 => if a % 2 = 0 then 0x0003 else 0xFFFF
  | 5 | 6 => 0xFFFF
  | 7 => 0x03FF
  | 8 => if a % 4 = 0 then 0xEFF0 else 0xFFFF
  | 12 => if a % 2 = 0 then 0xF0FF else 0x003F
  | 13 =>
    match a % 8 with
    | 0 => 0xF0FF
    | 1 => 0x1FFF
    | 2 => 0x00FF
    | 3 => 0xFFFF
    | _ => 0
  | 14 =>
    match a % 4 with
    | 2 => 0x8000
    | 3 => 0x00FF
    | _ => 0xFFFF
  | _ => 0

/-! ### Flash (R384) -/

/-- Erased flash reads 0xFF. -/
def flashDefault (_ : Nat) : Byte := 0xFF

/-- A flash byte; the reserved area reads 0xFF (Table 12.10). -/
def State.flashByte (s : State) (a : Nat) : Byte := memRead flashDefault s.flash a

/-- Flash bytes one after another. -/
def State.flashBytes (s : State) (a n : Nat) : List Byte := (List.range n).map (fun i => s.flashByte (a + i))

/-- Erase flash from `lo` up to `hi`. -/
def State.flashErase (s : State) (lo hi : Nat) : State := { s with flash := memClear s.flash lo hi }

/-- Program flash: a bit that is 0 stays 0 until an erasure. -/
def State.flashProgram (s : State) (a : Nat) (l : List Byte) : State :=
  let l' := (List.range l.length).map (fun i => nth l i 0 &&& s.flashByte (a + i))
  { s with flash := memWriteAll flashDefault s.flash a l' }

/-! ### Caldera memories (Table 6.1) -/

def imemDefault (_ : Nat) : Code := 0
def dmemDefault (_ : Nat) : Data := 0

/-- An instruction word of a physical cell. -/
def State.imemRead (s : State) (c a : Nat) : Code := memRead imemDefault s.cald.imem (c * 2048 + a % 2048)

/-- A data word of a physical cell; addresses wrap modulo 4096. -/
def State.dmemRead (s : State) (c a : Nat) : Data := memRead dmemDefault s.cald.dmem (c * 4096 + a % 4096)

/-- Write a data word of a physical cell. -/
def State.dmemWrite (s : State) (c a : Nat) (v : Data) : State :=
  { s with cald := { s.cald with dmem := memWrite dmemDefault s.cald.dmem (c * 4096 + a % 4096) v } }

/-- The physical cell that holds a logical cell. -/
def State.phys (s : State) (c : CellId) : Nat := (s.cald.map.get c).val

/-- A data word of a logical cell. -/
def State.ldmem (s : State) (c : CellId) (a : Nat) : Data := s.dmemRead (s.phys c) a

/-! ### Snapshots (R33) -/

/-- A register of a snapshot. -/
def Snap.reg (s : Snap) (r : RegId) : Word := s.regs.get r

/-- A bit of a register of a snapshot. -/
def Snap.flag (s : Snap) (r : RegId) (b : Nat) : Bool := (s.reg r).getLsbD b

/-- A field of a register of a snapshot. -/
def Snap.fld (s : Snap) (r : RegId) (lo w : Nat) : Nat := bits (s.reg r) lo w

/-- A window word of a snapshot. -/
def Snap.tab (s : Snap) (code a : Nat) : Word := tabRead s.tables code a

/-! ### Free values -/

/-- Draw a free bit (log entry 2). -/
def State.drawBit (s : State) : Bool × State := (Config.freeBit s.freeCtr, { s with freeCtr := s.freeCtr + 1 })

/-- Draw a free word (log entry 2). -/
def State.drawWord (s : State) : Word × State := (Config.freeWord s.freeCtr, { s with freeCtr := s.freeCtr + 1 })

/-- Draw a free integer (log entry 2). -/
def State.drawInt (s : State) : Int × State := (Config.freeInt s.freeCtr, { s with freeCtr := s.freeCtr + 1 })

/-! ### Power state -/

/-- The code of PSTATE in `SYS_STAT` (Table 11.2). -/
def PState.code : PState → Nat
  | .boot => 0 | .active => 1 | .entry => 2 | .sleep => 3 | .waking => 4 | .wakeFail => 5

/-- MAIN is powered and runs: the commands of its engines act only then. -/
def State.mainUp (s : State) : Bool := s.pwr.ready && !s.aon.por && !s.aon.vioLow

/-- The AON domain answers: no reset holds it. -/
def State.aonUp (s : State) : Bool := !s.aon.por && !s.aon.vioLow

/-- Cadence runs from FIO2 after an FIO fault (R426): periods double. -/
def State.fio2 (s : State) : Bool := s.flag Reg.CLK_STAT 11

/-- A list of states applied in order. -/
def applyAll (l : List (State → State)) (s : State) : State := l.foldl (fun t f => f t) s

/-- Apply a change once for each number below `n`, in ascending order. -/
def forUpto (n : Nat) (f : Nat → State → State) (s : State) : State := (List.range n).foldl (fun t i => f i t) s

end Sys2Proof.Machine
end

