-- ==== Sys2Proof/Machine/Flags.lean ====
section
/-! DEFINITION. Flags: interrupt flags and the IRQ_N level, the error flags of the host port and the windows, the
debug state, the votes, and the condition for sleep by vote. -/

namespace Sys2Proof.Machine

/-! ### INT_STAT (Table 10.12) -/

abbrev Irq.RPT : Nat := 15
abbrev Irq.GWAKE : Nat := 14
abbrev Irq.FAULT : Nat := 13
abbrev Irq.WAKE_FAIL : Nat := 12
abbrev Irq.SLP_ABORT : Nat := 11
abbrev Irq.WAKE : Nat := 10
abbrev Irq.CAL : Nat := 9
abbrev Irq.NVM : Nat := 8
abbrev Irq.SYNC : Nat := 7
abbrev Irq.SCHED : Nat := 6
abbrev Irq.AUTH : Nat := 5
abbrev Irq.HOST : Nat := 4

/-- Set a bit of INT_STAT (R328). -/
def State.raise (s : State) (b : Nat) : State := s.setFlag Reg.INT_STAT b true

/-- IRQ_N is asserted while an enabled bit of INT_STAT is set, and while WAKE_FAIL is set (R327); the front end asserts
nothing while a reset holds the block. -/
def State.irqAsserted (s : State) : Bool :=
  s.aonUp && ((s.reg Reg.INT_STAT &&& s.reg Reg.INT_EN) != 0 || s.flag Reg.INT_STAT Irq.WAKE_FAIL ||
    s.pwr.pstate = .wakeFail)

/-! ### HOST_STAT and WIN_STAT -/

abbrev HostErr.CRC_ERR : Nat := 13
abbrev HostErr.NR : Nat := 12
abbrev HostErr.NR_TO : Nat := 11
abbrev HostErr.WR_LOST : Nat := 10
abbrev HostErr.BAD_CMD : Nat := 9
abbrev HostErr.ABORTED : Nat := 8

/-- Set an error bit of HOST_STAT; CRC_ERR, NR_TO, WR_LOST and BAD_CMD also set INT_STAT.HOST (Table 10.12). -/
def State.hostErr (s : State) (b : Nat) : State :=
  let t := s.setFlag Reg.HOST_STAT b true
  if b = HostErr.NR ∨ b = HostErr.ABORTED then t else t.raise Irq.HOST

/-- A CRC check failed (R319). -/
def State.crcErr (s : State) : State := (s.hostErr HostErr.CRC_ERR).satFld Reg.HOST_STAT 0 8

abbrev WinErr.REFUSED : Nat := 15
abbrev WinErr.RANGE : Nat := 14
abbrev WinErr.RACE : Nat := 13
abbrev WinErr.DENY : Nat := 12
abbrev WinErr.IMG_ORDER : Nat := 11

/-- Set an error bit of WIN_STAT; a word refused, out of range or withheld counts in ERRCNT (Table 10.10). -/
def State.winErr (s : State) (b : Nat) : State :=
  let t := s.setFlag Reg.WIN_STAT b true
  if b = WinErr.RACE ∨ b = WinErr.IMG_ORDER then t else t.satFld Reg.WIN_STAT 0 8

/-! ### Memory errors (R425) -/

/-- Words `lo` up to `hi` of a memory are written: an error of theirs that is not stuck is gone. -/
def State.rewriteRange (s : State) (m : MemId) (lo hi : Nat) : State :=
  { s with fmon := { s.fmon with memErrs := s.fmon.memErrs.filter (fun e =>
      e.stuck || e.mem != m || e.addr < lo || hi ≤ e.addr) } }

/-- A word is written. -/
def State.rewrite (s : State) (m : MemId) (addr : Nat) : State := s.rewriteRange m addr (addr + 1)

/-! ### Debug state (R414) -/

/-- `DEBUG_STAT.DSTATE`: 0 detached, 1 attached-locked, 2 unlocked (R414, R415). -/
def State.dstate (s : State) : Nat :=
  if s.sec.life = .secured then (if s.sec.unlocked then 2 else if s.sec.tapOut then 1 else 0)
  else if s.sec.tapOut then 2 else 0

/-! ### Votes (Table 11.3) -/

/-- Whether the SCHED vote is held: from reset through boot, always in load mode, never while stopped, else as VOTE left
it. -/
def State.schedVote (s : State) : Bool :=
  match s.sched.state with
  | .load => true
  | .stopped => s.pwr.boot != .done && s.flag Reg.PWR_VOTE 1
  | _ => s.flag Reg.PWR_VOTE 1

/-- A self-calibration is running (`CAL_STAT.BUSY`). -/
def State.calBusy (s : State) : Bool := s.cal.phase != .idle

/-- An operation of NVM_CTL or a lifecycle transition is running (R335, R398). -/
def State.nvmVote (s : State) : Bool :=
  (match s.nvm.op with
    | some .autoSave => false
    | some _ => true
    | none => false)
  || s.sec.trans != .none

/-- `NVM_STAT.BUSY`: an operation or an automatic record write runs, or a lifecycle transition (R398, Table 12.16). -/
def State.nvmBusy (s : State) : Bool := s.nvm.op.isSome || s.nvmVote

/-- The votes of PWR_VOTE bits 0 to 6; the levels of QUEUE, NVM, CAL and DEBUG are clamped to 0 while MAIN is not ready
(Table 11.7), and a PORT vote takes effect when MAIN is ready (R326). -/
def State.vote (s : State) (b : Nat) : Bool :=
  match b with
  | 0 => s.flag Reg.PWR_VOTE 0
  | 1 => s.schedVote
  | 2 => s.pwr.ready && s.sec.life != .secured && s.dstate == 2
  | 3 => s.pwr.ready && s.flag Reg.RPT_CTL 7 && s.queue.vote
  | 4 => s.pwr.ready && s.nvmVote
  | 5 => s.pwr.ready && (s.calBusy || s.flag Reg.CAL_STAT 14)
  | 6 => s.pwr.ready && s.port.vote
  | _ => false

/-- PWR_VOTE as it reads. -/
def State.voteWord (s : State) : Word :=
  word ((List.range 7).foldl (fun n b => n + (s.vote b).toNat * 2 ^ b) 0)

/-- The condition of R336: no vote is held, and AUTO or REQ is 1. -/
def State.sleepCond (s : State) : Bool :=
  s.voteWord == 0 && (s.flag Reg.SLEEP_CTL 13 || s.flag Reg.SLEEP_CTL 15)

/-! ### Sleep by vote (R336, R337) -/

/-- A Caldera frame is open or will still open for a frame already started. -/
def State.calderaBusy (s : State) : Bool := s.cald.isOpen || !s.cald.owed.isEmpty

/-- Whether the quiesce has reached its last close: no sequencer frame runs, no Caldera frame is open or due, and no
calibration record is being written (R337, R387). -/
def State.quiesced (s : State) : Bool :=
  !s.seq.run && !s.calderaBusy && s.nvm.op != some .autoSave

/-- At the last close of a quiesce the condition is checked again: the sleep sequence begins, or the entry is cancelled
(R337). -/
def State.quiesceCheck (s : State) : State :=
  if s.pwr.quiesce && s.pwr.hs.isNone && !s.pwr.goSleep && s.quiesced then
    if s.sleepCond then { s with pwr := { s.pwr with goSleep := true } }
    else { s with pwr := { s.pwr with quiesce := false, pstate := .active } }
  else s

/-- Sleep becomes due: the block quiesces and PSTATE reads ENTRY (R337). -/
def State.beginQuiesce (s : State) : State :=
  ({ s with pwr := { s.pwr with quiesce := true, pstate := .entry }, seq := { s.seq with due := false } }).quiesceCheck

/-- The check of R336 at a Caldera close; every close while MAIN is on is of a frame that opened after the last wake, so
R338 holds. -/
def State.dueAtClose (s : State) : State :=
  if s.pwr.quiesce then s.quiesceCheck
  else if s.pwr.pstate = .active && s.sleepCond then s.beginQuiesce
  else s

/-- While no schedule runs, sleep becomes due on a change of the votes or a write of SLEEP_CTL (R336; log entry 12). -/
def State.dueIfStopped (s : State) : State :=
  if s.sched.state = .stopped && s.pwr.pstate = .active && s.sleepCond then s.beginQuiesce else s

/-- `s'` after the check that a change of the votes since `s` brings while no schedule runs (R336). -/
def State.settle (s s' : State) : State := if s.voteWord = s'.voteWord then s' else s'.dueIfStopped

end Sys2Proof.Machine
end

