-- ==== Sys2Proof/Machine/Sensing.lean ====
section
/-! DEFINITION. What an entry asks of the Sensing Plane: the entry's fields, the panel map, lane roles and crosspoint
positions, the drive and cadence settings, effective presets and the changes that make outputs invalid. -/

namespace Sys2Proof.Machine

/-! ### Entries (Table 5.1) -/

/-- An entry from its four window words. -/
def Entry.ofWords (w0 w1 w2 w3 : Word) : Entry :=
  { mode := bits w0 13 3, freq := bits w0 11 2, mask := bits w0 8 3, gain := bits w0 5 3, order := bits w0 3 2,
    bank := w0.getLsbD 2, xfade := w0.getLsbD 1, last := w0.getLsbD 0,
    code := bits w1 9 7, decim := bits w1 6 3, align := w1.getLsbD 5, signed := w1.getLsbD 4, sync := w1.getLsbD 3,
    nofill := w1.getLsbD 2, profile := bits w1 0 2,
    outs := bits w2 8 8, shift := bits w2 4 4, shield := bits w2 2 2, gz := bits w2 0 2, tag := w3.toNat }

/-- Entry `e` of a snapshot's sequence table (R137). -/
def Snap.entry (s : Snap) (e : Nat) : Entry :=
  Entry.ofWords (s.tab Win.SEQ (4 * e)) (s.tab Win.SEQ (4 * e + 1)) (s.tab Win.SEQ (4 * e + 2))
    (s.tab Win.SEQ (4 * e + 3))

/-- The CIC order N (R102). -/
def orderN (o : Nat) : Nat := match o with
  | 0 => 3
  | 1 => 4
  | _ => 5

/-- The decimation D (R102). -/
def decimD (d : Nat) : Nat := 2 ^ (min d 6 + 2)

/-- The counted chips of an entry (Table 5.1). -/
def Entry.counted (e : Entry) : Nat := if e.outs = 0 then 256 else e.outs

/-- KIND of a MODE 6 entry (Table 3.12). -/
def Entry.kind (e : Entry) : Nat := e.code / 32

/-- The mode an entry runs in: a MODE 6 entry with KIND 0b11 runs as MODE 0 (R97). -/
def Entry.act (e : Entry) : Nat := if e.mode = 6 ∧ e.kind = 3 then 0 else e.mode

/-- An INTERNAL lane test (R98). -/
def Entry.internal (e : Entry) : Bool := e.mode = 6 && e.kind = 0

/-- An entry without prefill (Table 5.2). -/
def Entry.noPrefill (e : Entry) : Bool := e.act = 0 || e.act = 5 || e.act = 7

/-- Whether an entry is the last of its frame (R142). -/
def endsFrame (idx : Nat) (e : Entry) : Bool := e.last || 383 ≤ idx

/-! ### Panel map (Table 3.2) -/

/-- The panel role of a pin; 7 acts as GROUND. -/
def Snap.panelRole (s : Snap) (n : Nat) : Nat :=
  let r := bits (s.tab Win.PANEL (2 * n)) 13 3
  if r = 7 then 0 else r

/-- The panel axis of a pin: 0 X, 1 Y. -/
def Snap.axis (s : Snap) (n : Nat) : Nat := bits (s.tab Win.PANEL (2 * n)) 12 1

/-- The index of a pin along its axis. -/
def Snap.index (s : Snap) (n : Nat) : Nat := bits (s.tab Win.PANEL (2 * n)) 0 8

/-- The compensation code CREF of a pin. -/
def Snap.cref (s : Snap) (n : Nat) : Nat := bits (s.tab Win.PANEL (2 * n + 1)) 0 6

/-- Whether a pin is in lane mask `m` (R143). -/
def Snap.masked (s : Snap) (m n : Nat) : Bool := (s.tab Win.LANE_MASK (10 * m + n / 16)).getLsbD (n % 16)

/-! ### Roles (R65, R66, R98, R100) -/

/-- The role of a ROW, COLUMN or SELF pin in a MODE 1 to 4 entry (Table 3.4, R66). -/
def gridRole (pr mode shield : Nat) (inMask : Bool) : Role :=
  match mode with
  | 1 => if inMask then (if pr = 1 then .drive else if pr = 2 then .sense else .ground) else .ground
  | 2 => if inMask then .self else .ground
  | 3 =>
    if inMask then .self
    else match shield with
      | 1 => .shieldA
      | 2 => .shieldB
      | 3 => if pr = 1 then .shieldA else .shieldB
      | _ => .ground
  | 4 => if inMask then .sense else .ground
  | _ => .ground

/-- The role of a pin of the selected axis in an OPEN or SHORT test (R100). -/
def testRole (kind phase : Nat) (index : Nat) : Role :=
  match kind with
  | 1 => .self
  | _ => if index % 2 = phase then .drive else .sense

/-- The role that an entry gives a pin (R65, R66, R97, R98, R100). -/
def Snap.role (s : Snap) (e : Entry) (n : Nat) : Role :=
  let pr := s.panelRole n
  let grid := pr = 1 || pr = 2 || pr = 3
  if e.act = 6 then
    if e.kind = 0 then .self
    else if grid && s.masked e.mask n && s.axis n = (e.code / 8) % 2 then testRole e.kind ((e.code / 16) % 2) (s.index n)
    else .ground
  else match pr with
    | 4 => .shieldA
    | 5 => .shieldB
    | 6 => .float
    | 0 => .ground
    | _ => gridRole pr e.act e.shield (s.masked e.mask n)

/-- The role of Table 3.3: SHIELD is one role on either bus (R66). -/
def Role.table (r : Role) : Role := if r = .shieldB then .shieldA else r

/-- A role whose lane converts. -/
def Role.converts : Role → Bool
  | .sense | .self => true
  | _ => false

/-- The pin a reserve lane serves. -/
def ReserveUse.pin : ReserveUse → Option Nat
  | .idle => none
  | .fault p => some p
  | .cal p => some p

/-- The reserve lane, 160 to 163, that stands in for a pin, if one does (R92). -/
def State.standIn (s : State) (n : Nat) : Option Nat :=
  if (s.reserve.toList.getD (n / 40) .idle).pin = some n then some (160 + n / 40) else none

/-- The lane whose result goes into slot `n` (R92). -/
def State.slotLane (s : State) (n : Nat) : Nat := (s.standIn n).getD n

/-- The lanes whose converter works on a calibration of its own (R376, R377). -/
def State.measuring (s : State) : List Nat := match s.cal.round with
  | some r => r.meas
  | none => []

/-- The pin whose electrode a lane is to serve: its own, or the one a reserve lane stands in for. -/
def State.lanePin (s : State) (n : Nat) : Option Nat :=
  if n < 160 then some n else (s.reserve.toList.getD (n - 160) .idle).pin

/-- The roles of all 164 lanes in an entry. In an INTERNAL test every lane converts its own capacitor (R98); a lane that
a reserve lane replaces and a lane in calibration are idle; a reserve lane takes the role of its pin (R92). The role of a
lane in an INTERNAL test is SELF, so that a lane that is SELF with the same GAIN before or after has no change there (R119;
DESIGN CHOICE, log entry 70). A lane whose converter works on a calibration of its own is not tested, and under a stand-in
its slot holds 0x0000 (R98 with R376; DESIGN CHOICE, log entry 69). -/
def State.laneRoles (s : State) (e : Entry) (off : Bool) : List Role :=
  (List.range 164).map (fun n =>
    if off || s.measuring.contains n then .ground
    else if e.internal then .self
    else if n < 160 then (if (s.standIn n).isSome then .ground else s.snap.role e n)
    else match s.lanePin n with
      | some p => s.snap.role e p
      | none => .ground)

/-- The crosspoint positions of the pins in an entry (R57, R98, R361). A pin that a reserve lane serves is in position
RESERVE where its role needs a lane; with GROUND, SHIELD or FLOAT it takes its role's position (R92 with Table 3.3; DESIGN
CHOICE, log entry 68). -/
def State.positions (s : State) (e : Entry) (off : Bool) : Vector Position 160 :=
  Vector.ofFn (fun n : Fin 160 =>
    if off || e.internal then .ground
    else match s.snap.role e n.val with
      | .drive | .sense | .self => if (s.standIn n.val).isSome then .reserve else .own
      | .shieldA => .shieldA
      | .shieldB => .shieldB
      | .ground | .sentinel => .ground
      | .float => .float)

/-! ### Code values (R75) and compensation (R71) -/

/-- The number of ones among the low 8 bits. -/
def popcount8 (n : Nat) : Nat := ((List.range 8).filter (fun i => n.testBit i)).length

/-- The Hadamard code value h(i, j). -/
def hadamard (i j : Nat) : Int := if popcount8 (i &&& j) % 2 = 0 then 1 else -1

/-- w_j: the sum of the code values over all DRIVE lanes (R71). -/
def State.driveSum (s : State) (roles : List Role) (code : Nat) : Int :=
  (List.range 164).foldl (fun w n =>
    if nth roles n .ground = .drive then
      match s.lanePin n with
      | some p => w + hadamard (s.snap.index p % 128) code
      | none => w
    else w) 0

/-! ### Drive settings (R73, R77, R78) -/

/-- CDIV in force (R77). -/
def Snap.cdiv (s : Snap) : Nat := max 48 (min 240 (s.fld Reg.DRIVE_CTL 8 8))

/-- AMP in force (R77). -/
def Snap.amp (s : Snap) : Nat := min 14 (s.fld Reg.DRIVE_CTL 4 4)

/-- LOWDRV in force (R77). -/
def Snap.lowdrv (s : Snap) : Bool := s.flag Reg.DRIVE_CTL 3

/-- HALF of a preset (Table 3.7). -/
def Snap.half (s : Snap) (f : Nat) : Nat :=
  let r : RegId := match f with
    | 0 => Reg.DRV_F0
    | 1 => Reg.DRV_F1
    | 2 => Reg.DRV_F2
    | _ => Reg.DRV_F3
  max 12 (min 960 (s.fld r 0 11))

/-- The charge of one compensation step per unit of w_j, in units of 1/3200 pC: CREF/8 times half the drive amplitude,
1.8 V with LOWDRV (R71). -/
def Snap.compCharge (s : Snap) (pin : Nat) : Int :=
  (s.cref pin : Int) * (if s.lowdrv then 90 else 25 * (10 + s.amp))

/-- The drive timebase frequency in Hz: FIO 96 MHz, or the DPLL (R78, R160). -/
def State.tbHz (s : State) : Nat := if s.flag Reg.CLK_STAT 15 then max 1 s.drive.dpllHz else 96000000

/-! ### Profiles (Table 4.4) -/

/-- The four words of a profile. -/
def Snap.profile (s : Snap) (r : Nat) : List Word := (List.range 4).map (fun i => s.tab Win.RS_PROFILE (4 * r + i))

/-- INC of a profile, unsigned Q8.24. -/
def profInc (p : List Word) : Nat := (nth p 0 0).toNat * 65536 + (nth p 1 0).toNat

/-- TRACK of a profile. -/
def profTrack (p : List Word) : Bool := (nth p 2 0).getLsbD 15

/-- PHASE_INIT of a profile. -/
def profInit (p : List Word) : Nat := bits (nth p 3 0) 0 8

/-- The phase delay L of a lane; a reserve lane uses that of the pin it serves (R114). -/
def State.laneDelay (s : State) (n : Nat) : Nat := match s.lanePin n with
  | some p => bits (s.snap.tab Win.PHASE p) 0 10
  | none => 0

/-! ### Effective FREQ, PROFILE and BANK (R148) -/

/-- `SYNC_CTL.EN` in force; it acts as 0 after an FIO fault (R166, R426). -/
def State.syncEn (s : State) : Bool := s.snap.flag Reg.SYNC_CTL 15 && !s.fio2

/-- The free-run values apply: LOST with FR_EN (Table 5.5). -/
def State.freeRun (s : State) : Bool := s.flag Reg.SYNC_STAT 15 && s.snap.flag Reg.SYNC_CTL 12

/-- The preset and profile that substitution gives MODE 1 entries, if any. -/
def State.subst (s : State) : Option (Nat × Nat) :=
  if s.freeRun then some (s.snap.fld Reg.SYNC_CTL 10 2, s.snap.fld Reg.SYNC_CTL 8 2)
  else if s.snap.flag Reg.SEQ_CTL 15 then some (s.seq.hop / 4, s.seq.hop % 4)
  else none

/-- Effective FREQ and PROFILE of an entry. -/
def State.effective (s : State) (e : Entry) : Nat × Nat :=
  if e.act = 1 then s.subst.getD (e.freq, e.profile) else (e.freq, e.profile)

/-- Effective BANK of an entry. -/
def State.effBank (s : State) (e : Entry) : Bool := if s.freeRun then s.snap.flag Reg.SYNC_CTL 7 else e.bank

/-! ### Changes and invalid chips (R119, R120) -/

/-- The drive settings whose change is an analog change (R80). -/
def Snap.driveCfg (s : Snap) : Word := word (s.cdiv * 32 + s.amp * 2 + s.lowdrv.toNat)

/-- 5 × FIO, which CDIV divides to give the cadence (R73). -/
def fioBy5 : Nat := 5 * 96000000

/-- The settings of an entry that the next one is compared with. -/
def State.cfgOf (s : State) (e : Entry) (roles : List Role) (freq profile : Nat) : LastCfg :=
  { roles := roles, inTest := e.internal, gain := e.gain, order := orderN e.order, decim := decimD e.decim, freq := freq,
    profile := word profile :: s.snap.profile profile,
    phase := (List.range 164).map (fun n => word (s.laneDelay n)),
    drive := s.snap.driveCfg,
    serve := (List.range 4).map (fun g => (s.lanePin (160 + g)).getD 255),
    halfN := s.snap.half freq * fioBy5, halfD := s.snap.cdiv * s.tbHz }

/-- The changes that concern every lane: a state with no previous entry, ORDER or DECIM, FREQ, PROFILE or its content,
CDIV, AMP or LOWDRV (Table 4.7). -/
def globalChange (p : Option LastCfg) (c : LastCfg) : Bool :=
  match p with
  | none => true
  | some p => p.order != c.order || p.decim != c.decim || p.freq != c.freq || p.profile != c.profile || p.drive != c.drive

/-- The changes that concern lane `n` alone: its role of Table 3.3, its GAIN while it converts in both entries, its
phase delay, a reserve lane that begins to serve a pin (Table 4.7). -/
def laneChange (p c : LastCfg) (n : Nat) : Bool :=
  let r := nth p.roles n .ground
  let r' := nth c.roles n .ground
  r.table != r'.table || (p.gain != c.gain && r.converts && r'.converts) || nth p.phase n 0 != nth c.phase n 0 ||
  (160 ≤ n && nth c.serve (n - 160) 255 != 255 && nth p.serve (n - 160) 255 != nth c.serve (n - 160) 255)

/-- For each lane, the number of CIC outputs that the changes of an entry make invalid; `all` an analog change of every
lane, `swap` an immediate bank swap, `sync` a synchronising reset (Table 4.7). -/
def invalidOutputs (p : Option LastCfg) (c : LastCfg) (all swap sync : Bool) : List Nat :=
  (List.range 164).map (fun n =>
    if all || swap || globalChange p c || (match p with
      | some p => laneChange p c n
      | none => true) then c.order + 7
    else if sync then c.order + 6
    else 0)

/-- The invalid chips of an entry: the largest K over INC, INC below 1.0 acting as 1.0, rounded up (R120). -/
def invalidChips (ks : List Nat) (inc : Nat) : Nat :=
  ceilDiv (ks.foldl max 0 * 2 ^ 24) (max inc (2 ^ 24))

/-- The hold chips before an entry, when a pin moves (R145): the previous entry's largest group delay and D (scaled by
64), its half chip as it ran, and the new preset's chip, in cadence periods. -/
def State.holdChips (s : State) (newFreq : Nat) : Nat :=
  match s.seq.prev with
  | none => 1
  | some p =>
    let conv := (List.range 164).filter (fun n => (nth p.roles n .ground).converts)
    if conv.isEmpty then 1
    else
      let l := conv.foldl (fun m n => max m (nth p.phase n 0).toNat) 0
      let g64 := 32 * p.order * (p.decim - 1) + 224 * p.decim + 2 * (l + profInit (p.profile.drop 1)) * p.decim
      let num : Int := (((g64 + 64 * p.decim + 192) * p.halfD : Nat) - (64 * p.halfN : Nat)) * (s.snap.cdiv * s.tbHz : Nat)
      let den := 64 * p.halfD * (2 * s.snap.half newFreq * fioBy5)
      if num ≤ 0 then 1 else max 1 (ceilDiv num.toNat den)

end Sys2Proof.Machine
end

