-- ==== Sys2Proof/Machine/Filters.lean ====
section
/-! DEFINITION. The converter and the filter chain: one cadence period of a lane, saturation and dirty chips, the CIC
decimator, calibration factors, chip positions, the resampler, bank fades and the Goertzel detectors (R68 to R136). -/

namespace Sys2Proof.Machine

/-! ### Converter (R68 to R71) -/

/-- Result of one cadence period of a converting lane: the new charge, the demodulated bit, the sign of a clip. -/
structure Conv where
  x    : Int
  d    : Int
  clip : Option Bool

/-- One cadence period of a converting lane at GAIN `g`: `qin` the charge that settles, `qc` the compensation, `s` the
demodulation sign; charges in units of 1/3200 pC, so that q is 160 × 2^g (R68). -/
def convert (x : Int) (g : Nat) (qin qc s : Int) : Conv :=
  let q : Int := 160 * 2 ^ g
  let x := x + qin - qc + 80 * 2 ^ g
  let b : Bool := 0 ≤ x
  let x := if b then x - q else x
  let d := s * (if b then 1 else -1)
  if 16 * q < x then ⟨16 * q, d, some true⟩
  else if x < -(16 * q) then ⟨-(16 * q), d, some false⟩
  else ⟨x, d, none⟩

/-- The integrators of order `n` take the demodulated bit (R103). -/
def integrate (n : Nat) (x : BitVec 41) : List (BitVec 41) → List (BitVec 41)
  | [] => []
  | i :: t => match n with
    | 0 => i :: t
    | n + 1 => (i + x) :: integrate n (i + x) t

/-- The combs of order `n` with differential delay 1 (R103): the result and the new comb memories. -/
def combs (n : Nat) (c : BitVec 41) : List (BitVec 41) → BitVec 41 × List (BitVec 41)
  | [] => (c, [])
  | z :: t => match n with
    | 0 => (c, z :: t)
    | n + 1 =>
      let r := combs n (c - z) t
      (r.1, c :: r.2)

/-- The comb result as the exact number of R103: the 41-bit pattern of 2^40 stands for +2^40 when the window held +1
throughout, as its last input `d` shows, and for -2^40 when it held -1 (log entry 30). -/
def combExact (c : BitVec 41) (d : Int) : Int := if c = BitVec.ofNat 41 (2 ^ 40) ∧ 0 < d then 2 ^ 40 else c.toInt

/-- Scale the comb result to 24 bits, rounding half up, saturating at the top (R103, Table 4.2). -/
def cicScale (n d : Nat) (c : Int) : Int :=
  let l := Nat.log2 d
  let y := if n * l ≤ 23 then c * 2 ^ (23 - n * l) else asr (c + 2 ^ (n * l - 23 - 1)) (n * l - 23)
  if 0x7FFFFF < y then 0x7FFFFF else y

/-- The calibration factors of a lane applied to a CIC output (R368). -/
def correct (y : Int) (offset gain : Word) : Int :=
  clampI (asr ((y - 256 * offset.toInt) * gain.toNat + 2 ^ 14) 15) (-0x800000) 0x7FFFFF

/-! ### Saturation and dirty chips (R88 to R90) -/

/-- A saturation reaches a chip when the chip is the saturated one, or one of the `n` chips of entries after it (R88, R89,
R91). -/
def Sat.reaches (t : Sat) (chip n : Nat) : Bool :=
  decide (t.chip + t.hold.toNat ≤ chip) && decide (chip ≤ t.chip + n)

/-- The saturations that make a chip dirty for a lane, by their signs: the lane's own saturated chips and the 3 chips
after them; a saturated chip of another lane of the reference group and the 1 chip after it. -/
def dirtySigns (sats : List Sat) (lane chip : Nat) : List Bool :=
  (sats.filter (fun t =>
    (t.lane == lane && t.reaches chip 3) ||
    (decide (lane < 160) && decide (t.lane < 160) && t.lane != lane && t.lane / 8 == lane / 8 &&
      t.reaches chip 1))).map Sat.high

/-- Note a clip: the last clip of a lane in a chip gives the sign (R69). -/
def noteSat (l : List Sat) (t : Sat) : List Sat :=
  (l.filter (fun u => !(u.chip == t.chip && u.lane == t.lane && u.hold == t.hold))) ++ [t]

/-- The number of the chip in progress: the last one driven. -/
def State.chipNow (s : State) : Nat := s.filt.chip - 1

/-- The entry that runs, while one runs. -/
def State.running (s : State) : Option EntryRun := if s.seq.phase = .running then s.seq.cur else none

/-- Whether the chip in progress is a counted chip of a run. -/
def State.inCounted (s : State) (r : EntryRun) : Bool := r.firstChip + r.prefill + 1 ≤ s.filt.chip

/-- The position of the cadence period that comes next, counted from the decimation origin without wrapping (R105). -/
def Filt.now (f : Filt) : Int := ((f.cad + 1) * 2 ^ 24 / f.decim : Nat) - 2 ^ 24

/-- The same for a position of the CIC timeline, which counts modulo 256 outputs: the place nearest to now (R105). -/
def Filt.place (f : Filt) (u : BitVec 32) : Int := f.now + (u - BitVec.ofInt 32 f.now).toInt

/-- The last chip of the entry that runs has ended: the cadence has come to the chip's end (R98, R144, R156, R167). -/
def State.chipsOver (s : State) : Bool := s.seq.left == 0 && decide (s.filt.ends ≤ s.filt.now)

/-- The newest CIC output lies past the end of the last chip of the entry that runs (R133). -/
def State.samplesOver (s : State) : Bool :=
  s.seq.left == 0 && decide (s.filt.ends < ((s.filt.cic : Int) - 1) * 2 ^ 24)

/-- The roles in force: those of the running entry; while pins are held, those of the entry before (R58). Outside any
chip, from a frame's last row to the next frame's first entry and while an entry waits for DSYNC, R70 gives no s[k]:
there the model gives no roles, so x stands and d is 0 (log entry 31). -/
def State.rolesNow (s : State) : List Role :=
  match s.seq.phase with
  | .running => match s.seq.cur with
    | some r => r.roles
    | none => []
  | .ready => match s.seq.prev with
    | some p => p.roles
    | none => []
  | _ => []

/-- The GAIN in force with those roles. -/
def State.gainNow (s : State) : Nat :=
  match s.seq.phase, s.seq.cur, s.seq.prev with
  | .running, some r, _ => r.e.gain
  | _, _, some p => p.gain
  | _, _, _ => 0

/-- The value that a fault in the lane's front end puts in place of its demodulated bit (R417). -/
def State.laneFault (s : State) (n : Nat) : Option Int :=
  s.fmon.faults.findSome? (fun f => match f.1 with
    | .lane m d => if m.val = n then some d else none
    | _ => none)

/-- The value that a fault in a lane's decimator puts in place of its CIC outputs (R417). -/
def State.decimatorFault (s : State) (n : Nat) : Option Data :=
  s.fmon.faults.findSome? (fun f => match f.1 with
    | .decimator m y => if m.val = n then some y else none
    | _ => none)

/-- The value that a fault in a lane's resampler puts in place of its outputs (R417). -/
def State.resamplerFault (s : State) (n : Nat) : Option Data :=
  s.fmon.faults.findSome? (fun f => match f.1 with
    | .resampler m y => if m.val = n then some y else none
    | _ => none)

/-- The value that a fault in a lane's accumulation puts in place of its sums (R417). -/
def State.accumulatorFault (s : State) (n : Nat) : Option Int :=
  s.fmon.faults.findSome? (fun f => match f.1 with
    | .accumulator m v => if m.val = n then some v else none
    | _ => none)

/-- The transient faults of a kind have altered an output and are gone (log entry 17). -/
def State.passFaults (s : State) (k : FaultSpec → Bool) : State :=
  { s with fmon := { s.fmon with faults := s.fmon.faults.filter (fun f => !(f.2 && k f.1)) } }

/-- The charge that a fault in a pin's connection puts in place of the pin's charge (R417). -/
def State.pinFault (s : State) (n : Nat) : Option Int :=
  s.fmon.faults.findSome? (fun f => match f.1 with
    | .electrode p q => if p.val = n then some q else none
    | _ => none)

/-- The sign of a half of a chip: of the demodulation (R70), of a start or mid edge (R71). -/
def edgeSign : Half → Int
  | .first => 1
  | .second => -1

/-- The charge of the internal test capacitor in a period with edge `e`: 2.00 pF times the 0.9 V of the self waveform,
1.8 pC with the edge's sign (R98; its 1 % is left out, log entry 32). -/
def testCharge : Option Half → Int
  | some e => edgeSign e * 5760
  | none => 0

/-- The charge that arrives in a lane in a period: the test capacitor's in an INTERNAL test, what a fault of the pin's
connection makes of it, or the pin's. -/
def State.chargeIn (s : State) (internal : Bool) (edge : Option Half) (q : List Int) (n : Nat) : Int :=
  if internal then testCharge edge else (((s.lanePin n).bind s.pinFault).getD (nth q n 0))

/-- The compensation charge of a lane in a period with edge `e` of a MODE 1 entry, `w` the sum of its code values (R71).
-/
def State.chargeComp (s : State) (role : Role) (edge : Option Half) (w : Option Int) (n : Nat) : Int :=
  match edge, w, role, s.lanePin n with
  | some e, some w, .sense, some p => edgeSign e * s.snap.compCharge p * w
  | _, _, _, _ => 0

/-- One cadence period of one lane: its new state and the sign of a clip. `edge` is the drive or excitation edge that
falls in the period, `w` the sum of code values of a MODE 1 entry. -/
def State.laneCadence (s : State) (roles : List Role) (gain : Nat) (cnt : Option Nat) (internal : Bool) (h : Half)
    (edge : Option Half) (w : Option Int) (q : List Int) (n : Nat) (l : Lane) : Lane × Option Bool :=
  let role := nth roles n .ground
  if role.converts then
    let c := convert l.x gain (s.chargeIn internal edge q n) (s.chargeComp role edge w n) (edgeSign h)
    let d := (s.laneFault n).getD c.d
    let l := { l with x := c.x, d := d, int := integrate s.filt.order (BitVec.ofInt 41 d) l.int }
    let l := match cnt with
      | some k => { l with cnt := aset l.cnt k ((alook l.cnt k).getD 0 + d) }
      | none => l
    (l, c.clip)
  else ({ l with d := 0, int := integrate s.filt.order 0 l.int }, none)

/-! ### Goertzel detectors (R131 to R136) -/

/-- GSHIFT of a detector's configuration. -/
def Det.gshift (d : Det) : Nat := bits (nth d.cfg 0 0) 12 3

/-- The block length B (Table 4.12). -/
def Det.blen (d : Det) : Nat := max 16 (min 4096 (bits (nth d.cfg 1 0) 0 13))

/-- The coefficient, signed Q2.22. -/
def Det.coef (d : Det) : Int :=
  (BitVec.ofNat 24 (bits (nth d.cfg 2 0) 0 8 * 65536 + (nth d.cfg 3 0).toNat)).toInt

/-- The lanes whose CIC outputs a detector takes: one lane, or the lane behind each slot of a mask (R132). -/
def State.detLanes (s : State) (d : Det) : List Nat :=
  let w := nth d.cfg 0 0
  let src := bits w 0 8
  if w.getLsbD 15 then
    let m := if src ≤ 7 then src else 0
    ((List.range 160).filter (fun n => s.snap.masked m n)).map s.slotLane
  else [if src ≤ 159 then src else 0]

/-- One sample into a detector's recurrence (R134). -/
def Det.sample (d : Det) (v : Int) : Det :=
  let s0 := v + asr (d.coef * d.s1 + 2 ^ 21) 22 - d.s2
  { d with s1 := s0, s2 := d.s1, n := d.n + 1 }

/-- The result of a block (R134). -/
def Det.mag (d : Det) : Nat :=
  let q := Nat.clog 2 d.blen
  let pw := d.s1 * d.s1 + d.s2 * d.s2 - asr (d.coef * d.s1 * d.s2 + 2 ^ 21) 22
  (clampI (asr pw (2 * q)) 0 0xFFFFFFFF).toNat

/-- Abort a detector's block; ABORT is set when it has taken a sample and `flag` says so (R133, R136). -/
def State.detAbort (s : State) (flag : Bool) (k : Fin 4) : State :=
  let d := s.dets.get k
  let s := { s with dets := s.dets.set k { d with busy := false, s1 := 0, s2 := 0, n := 0, dirty := false } }
  if flag && d.busy && 1 ≤ d.n then s.setFlag Reg.GOERTZEL_STAT (8 + k.val) true else s

/-- Abort every detector's block. -/
def State.detAbortAll (s : State) (flag : Bool) : State :=
  (((s.detAbort flag 0).detAbort flag 1).detAbort flag 2).detAbort flag 3

/-- Start a block with the configuration the window holds now (R131, R133). -/
def State.detStart (s : State) (k : Fin 4) : State :=
  let s := s.detAbort true k
  let cfg := (List.range 4).map (fun i => s.tab Win.GOERTZEL (8 * k.val + i))
  { s with dets := s.dets.set k { busy := true, s1 := 0, s2 := 0, n := 0, dirty := false, chip := 0, cfg := cfg } }

/-- One CIC output sample into a detector; `ys` the corrected outputs, `inv` which lanes' outputs are invalid. -/
def State.detSample (s : State) (ys : List Int) (inv : List Bool) (k : Fin 4) : State :=
  let d := s.dets.get k
  if d.busy && d.n < d.blen then
    let lanes := s.detLanes d
    let sum := lanes.foldl (fun a n => a + nth ys n 0) 0
    let v := if (nth d.cfg 0 0).getLsbD 15 then asr sum (8 + d.gshift) else asr sum 8
    let chip := s.chipNow
    let bad := lanes.any (fun n => nth inv n false || !(dirtySigns s.filt.sats n chip).isEmpty)
    { s with dets := s.dets.set k { d.sample v with dirty := d.dirty || bad, chip := chip } }
  else s

/-- A saturation in a chip that a detector has sampled makes its block dirty (R134). -/
def State.detDirty (s : State) (lane : Nat) (k : Fin 4) : State :=
  let d := s.dets.get k
  let hit := d.chip = s.chipNow &&
    (s.detLanes d).any (fun n => n = lane || (n < 160 && lane < 160 && n / 8 = lane / 8))
  if hit && d.busy && 1 ≤ d.n then { s with dets := s.dets.set k { d with dirty := true } } else s

/-- The B-th sample has been taken: the result words, DONE and DIRTY are written and the detector is idle (R134). -/
def State.detDone (s : State) (k : Fin 4) : State :=
  let d := s.dets.get k
  if d.busy && d.n = d.blen then
    let a := 8 * k.val
    let m := d.mag
    let s := s.setTabs Win.GOERTZEL (a + 4) [word (m / 65536), word m, s.seq.fc, s.tab Win.GOERTZEL (a + 7) + 1]
    let s := (s.setFlag Reg.GOERTZEL_STAT (12 + k.val) true).setFlag Reg.GOERTZEL_STAT (4 + k.val) d.dirty
    { s with dets := s.dets.set k { d with busy := false } }
  else s

/-- The entry's GZ field acts on the detectors (R133, R135): an enable bit that is clear aborts its block; with the
function disabled a block in progress goes on and none starts (Table 11.14). -/
def State.detAttach (s : State) (gz : Nat) (k : Fin 4) : State :=
  let on := s.effGz.getLsbD (12 + k.val)
  let s := if on then s else s.detAbort true k
  match gz with
  | 1 => if !on then s else if s.flag Reg.FUNC_EN 10 then s.detStart k else s
  | 2 => s
  | _ => s.detAbort true k

/-! ### Chip positions (R110, R111) -/

/-- The signed distance between two positions modulo 256 CIC outputs. -/
def posDiff (a b : BitVec 32) : Int := (a - b).toInt

/-- Place the next chip of a burst at its measured centre `u`; `first` says that it begins a burst (R110, R111). The
count of chips near their prediction goes on over a burst's anchor and over chips in FIXED mode (DESIGN CHOICE, log
entry 34). -/
def State.trackChip (s : State) (prof : List Word) (first : Bool) (u : BitVec 32) : State :=
  let f := s.filt
  let inc := profInc prof
  if first then { s with filt := { f with trkC := u } }
  else if !profTrack prof then { s with filt := { f with trkC := f.trkC + BitVec.ofNat 32 inc } }
  else
    let pred := f.trkC + BitVec.ofNat 32 inc + BitVec.ofInt 32 f.trkR
    let e := posDiff u pred
    if 2 ^ 23 ≤ e.natAbs then
      (({ s with filt := { f with trkC := u, near := 0 } }).setFlag Reg.FILT_CTL 14 true).setFlag Reg.FILT_CTL 15 false
    else
      let lim : Int := inc / 32
      let r := if s.snap.flag Reg.FILT_CTL 0 then f.trkR else clampI (f.trkR + asr e 4) (-lim) lim
      let near := if e.natAbs < 2 ^ 19 then f.near + 1 else 0
      let s := { s with filt := { f with trkC := pred + BitVec.ofInt 32 (asr e 2), trkR := r, near := min near 16 } }
      if 2 ^ 20 ≤ e.natAbs then s.setFlag Reg.FILT_CTL 15 false
      else if 16 ≤ near then s.setFlag Reg.FILT_CTL 15 true else s

/-! ### Banks and fades (R125 to R128) -/

/-- XFADE_LEN in outputs. -/
def State.xfadeLen (s : State) : Nat := 8 * 2 ^ (s.fld Reg.BANK_CTL 8 2)

/-- The latest requested bank (R125). -/
def Filt.latest (f : Filt) : Bool :=
  match f.pend, f.fade with
  | some b, _ => b
  | none, some t => t.target
  | none, none => f.cur

/-- A bank is in use while it is current, faded from or to, or pending (R128). -/
def Filt.inUse (f : Filt) (b : Bool) : Bool :=
  f.cur == b || f.pend == some b || (match f.fade with
    | some t => t.target == b
    | none => false)

/-- The end of a fade: the new bank is current; a pending request begins a fade with chip `next`, or is discarded
(R127). -/
def State.fadeEnd (s : State) (next : Nat) : State :=
  match s.filt.fade with
  | none => s
  | some t =>
    let f := { s.filt with cur := t.target, fade := none, pend := none }
    match s.filt.pend with
    | some b =>
      if b = t.target then { s with filt := f }
      else { s with filt := { f with fade := some { target := b, len := s.xfadeLen, first := next, pos := 0 } } }
    | none => { s with filt := f }

/-- An entry compares its BANK with the latest requested bank (R125). Answers whether an immediate swap took place. -/
def State.bankRequest (s : State) (bank xfade : Bool) : Bool × State :=
  let f := s.filt
  if bank = f.latest then (false, s)
  else if !xfade then
    let s' := { s with filt := { f with cur := bank, fade := none, pend := none } }
    (true, if f.fade.isSome || f.pend.isSome then s'.setFlag Reg.BANK_CTL 10 true else s')
  else match f.fade with
    | none =>
      (false, { s with filt := { f with fade := some { target := bank, len := s.xfadeLen, first := f.chip, pos := 0 } } })
    | some _ =>
      let s' := { s with filt := { f with pend := some bank } }
      (false, if f.pend.isSome then s'.setFlag Reg.BANK_CTL 11 true else s')

/-- The bank state as `BANK_CTL` shows it: a fade is in progress from its first output on (Table 4.10). -/
def Filt.view (f : Filt) : BankView :=
  let pos := match f.fade with
    | some t => t.pos
    | none => 0
  ⟨f.cur, decide (0 < pos), f.pend, pos⟩

/-- What `BANK_CTL` shows after the output just fixed: with the last output of a fade its target is current (R126,
R127). -/
def State.bankAfter (s : State) : BankView :=
  match s.filt.fade with
  | some t => if t.len ≤ t.pos then (s.fadeEnd (t.first + t.len)).filt.view else s.filt.view
  | none => s.filt.view

/-- The blend of a chip, fixed on the edge of its first output: old and new bank, output number and fade length. -/
def State.blendOf (s : State) (c : Chip) : Chip × State :=
  let s := match s.filt.fade with
    | some t => if t.first + t.len ≤ c.no then s.fadeEnd c.no else s
    | none => s
  match s.filt.fade with
  | some t =>
    if t.first ≤ c.no then
      let len := if c.no = t.first then s.xfadeLen else t.len
      let k := c.no - t.first
      let f := { s.filt with fade := some { t with len := len, pos := k + 1 }, edge := c.no + 1 }
      ({ c with fade := some (s.filt.cur, t.target, k, len), bank := s.filt.cur }, { s with filt := f })
    else ({ c with fade := none, bank := s.filt.cur }, { s with filt := { s.filt with edge := c.no + 1 } })
  | none => ({ c with fade := none, bank := s.filt.cur }, { s with filt := { s.filt with edge := c.no + 1 } })

/-- A chip with its blend, and with the bank state that its first output leaves. -/
def State.fixBlend (s : State) (c : Chip) : Chip × State :=
  let b := s.blendOf c
  ({ b.1 with after := b.2.bankAfter }, b.2)

/-! ### Resampler (R112) -/

/-- A word of a coefficient bank, with the bits that a double-bit error inverts (R425). -/
def State.coefWord (s : State) (code a : Nat) : Word :=
  match s.fmon.memErrs.find? (fun e => e.mem = .coef && e.addr = winKey code a) with
  | some e => if 2 ≤ ((List.range 16).filter (fun i => e.bits.testBit i)).length then s.tab code a ^^^ word e.bits
              else s.tab code a
  | none => s.tab code a

/-- A coefficient of a bank, signed Q2.16 (Table 4.3). -/
def State.coef (s : State) (bank : Bool) (k : Nat) : Int :=
  let code := if bank then Win.COEF_B else Win.COEF_A
  (BitVec.ofNat 18 (bits (s.coefWord code (2 * k)) 0 2 * 65536 + (s.coefWord code (2 * k + 1)).toNat)).toInt

/-- One output with one bank: `p` the phase, `x` the CIC outputs newest first. -/
def State.resample (s : State) (bank : Bool) (p : Nat) (x : List Data) : Int :=
  let acc := (List.range 8).foldl (fun a t => a + s.coef bank (8 * p + t) * (nth x t 0).toInt) 0
  clampI (asr (acc + 2 ^ 15) 16) (-0x800000) 0x7FFFFF

/-- The output of a chip, blended during a fade (R126). -/
def State.output (s : State) (c : Chip) (p : Nat) (x : List Data) : Int :=
  match c.fade with
  | none => s.resample c.bank p x
  | some (o, n, k, len) =>
    asr (s.resample o p x * (len - 1 - k : Nat) + s.resample n p x * (k + 1 : Nat) + (len / 2 : Nat)) (Nat.log2 len)

/-- The eight CIC outputs that the sum of R112 takes when the newest is `lag` outputs past floor(a); an output that the
history of eight no longer holds is a free value (log entry 33). -/
def State.tapsAt (s : State) (hist : List Data) (lag : Nat) : List Data :=
  (List.range 8).map (fun t => (hist[lag + t]?).getD (BitVec.ofInt 24 (Config.freeInt (s.freeCtr + t))))

/-- The position at which a lane computes its output of a chip (R112). -/
def State.outPos (s : State) (c : Chip) (n : Nat) : BitVec 32 :=
  c.pos + BitVec.ofNat 32 (c.init + s.laneDelay n * 2 ^ 19)

/-- The next chip a lane outputs. -/
def State.nextChip (s : State) (l : Lane) : Option Chip := s.filt.chips.find? (fun c => l.next ≤ c.no)

/-- Chips that every lane has output are forgotten. -/
def State.pruneChips (s : State) : State :=
  let m := s.lanes.toList.foldl (fun a l => min a l.next) s.filt.chip
  { s with filt := { s.filt with chips := s.filt.chips.filter (fun c => m ≤ c.no) } }

/-- The lane-independent part of G/D of an entry's chips, in Q8.24 (R114). -/
def delayBase (n d phaseInit : Nat) : Nat := n * (d - 1) * 2 ^ 23 / d + 7 * 2 ^ 23 + phaseInit * 2 ^ 19

/-! ### Synchronising reset and change of timeline (R105, R123) -/

/-- The place on the timeline of a new origin with decimation `d` of a position on the present one: the same moment, by
the cadence index that R105 gives each position (log entry 15). -/
def Filt.rebase (f : Filt) (d : Nat) (x : BitVec 32) : BitVec 32 :=
  let off := (x - BitVec.ofNat 32 (f.cic * 2 ^ 24)).toInt
  BitVec.ofInt 32 ((((f.cic + 1 : Nat) * 2 ^ 24 + off) * f.decim - (f.cad * 2 ^ 24 : Nat)) / d - 2 ^ 24)

/-- The same for a position that does not wrap. -/
def Filt.rebaseInt (f : Filt) (d : Nat) (x : Int) : Int := ((x + 2 ^ 24) * f.decim - (f.cad * 2 ^ 24 : Nat)) / d - 2 ^ 24

/-- A new decimation origin; c_prev and the chips still to be output keep their moments, but for a lane's own phase delay,
which counts in the D that is then in force (DESIGN CHOICE, log entry 15). -/
def Filt.newOrigin (f : Filt) (d : Nat) : Filt :=
  { f with cad := 0, cic := 0, decim := d, trkC := f.rebase d f.trkC, ends := f.rebaseInt d f.ends,
           chips := f.chips.map (fun c => { c with pos := f.rebase d (c.pos + BitVec.ofNat 32 c.init), init := 0 }) }

/-- A lane with its integrators, combs and history zeroed (R123). -/
def Lane.cleared (l : Lane) : Lane :=
  { l with int := List.replicate 5 0, comb := List.replicate 5 0, hist := List.replicate 8 0 }

/-- The bank state is shown as it stands, also for the chips whose outputs are still to come. -/
def Filt.showBank (f : Filt) : Filt :=
  { f with shown := f.view, chips := f.chips.map (fun c => { c with after := f.view }) }

/-- A synchronising reset of the filter chains (R123); the chip that follows is a burst anchor, and a fade in progress
completes at once. -/
def State.syncReset (s : State) : State :=
  let s := { s with lanes := s.lanes.map Lane.cleared }
  let s := (s.fadeEnd s.filt.chip).detAbortAll true
  { s with filt := { (s.filt.newOrigin s.filt.decim).showBank with first := true } }

end Sys2Proof.Machine
end

