-- ==== Sys2Proof/Machine/Image.lean ====
section
/-! DEFINITION. Images: header and directory, the checks of Table 6.11 in their order, and the installation of sections,
parameters and the contract (R200 to R205, R402, R443, R444). -/

namespace Sys2Proof.Machine

/-- Bytes `off` up to `off + n` of an image. -/
def slice (l : List Byte) (off n : Nat) : List Byte := (l.drop off).take n

/-- A field of an image as a number, high byte first. -/
def field (l : List Byte) (off n : Nat) : Nat := beNat (slice l off n)

/-- A directory entry: type, offset, length. -/
structure Sect where
  type : Nat
  off  : Nat
  len  : Nat

/-- The directory (R200). -/
def directory (img : List Byte) : List Sect :=
  let d := slice img 16 (12 * field img 6 2)
  (List.range (field img 6 2)).map (fun i => ⟨field d (12 * i) 2, field d (12 * i + 4) 4, field d (12 * i + 8) 4⟩)

/-- The section of a type, if the image has it. -/
def sectOf (ds : List Sect) (t : Nat) : Option Sect := ds.find? (fun d => d.type = t)

/-- The bytes of a section; none when it is absent. -/
def sectBytes (img : List Byte) (ds : List Sect) (t : Nat) : Option (List Byte) :=
  (sectOf ds t).map (fun d => slice img d.off d.len)

/-- A section length that Table 6.10 allows for the type; an unknown type has none. -/
def sectLenOk (t len : Nat) : Bool :=
  if t = 0x01 then len = 32
  else if t = 0x02 then len = 16
  else if 0x10 ≤ t ∧ t ≤ 0x16 then len % 6 = 0 && len ≤ 12288
  else if 0x20 ≤ t ∧ t ≤ 0x26 then len % 3 = 0 && len ≤ 12288
  else if t = 0x30 then len = 3072
  else if t = 0x31 ∨ t = 0x32 then len = 1024
  else if t = 0x33 then len = 32
  else if t = 0x34 then len = 160
  else if t = 0x35 then len = 640
  else if t = 0x36 then len = 128
  else if t = 0x37 then len % 4 = 0 && len ≤ 512
  else if t = 0x38 then len = 320
  else if t = 0x3F then len = 136
  else false

/-- The sections stand in ascending order from `lo`, without overlap, within the length; the signature block is the last
(R200, R201). -/
def dirOk (len : Nat) : Nat → List Sect → Bool
  | _, [] => true
  | lo, d :: t => lo ≤ d.off && d.off + d.len ≤ len && sectLenOk d.type d.len && (d.type != 0x3F || t.isEmpty) &&
      !t.any (fun e => e.type = d.type) && dirOk len (d.off + d.len) t

/-- Check 0x1: MAGIC and FORMAT. -/
def check1 (img : List Byte) : Bool := slice img 0 4 == [0x59, 0x44, 0x53, 0x43] && field img 4 1 == 1

/-- Check 0x2: LENGTH, COUNT and the directory. -/
def check2 (img : List Byte) : Bool :=
  let len := field img 8 4
  let count := field img 6 2
  11 ≤ count && count ≤ 26 && len % 2 = 0 && len ≤ 114688 && 16 + 12 * count ≤ len && len ≤ img.length &&
    dirOk len (16 + 12 * count) (directory img)

/-- Check 0x3: the required sections of Table 6.10. -/
def check3 (ds : List Sect) : Bool :=
  ([0x01, 0x02, 0x10, 0x11, 0x12, 0x13, 0x14, 0x15, 0x16, 0x30, 0x3F]).all (fun t => (sectOf ds t).isSome)

/-- A fuse is blown when at least 5 of its 8 bits read 1 (R397). -/
def fuseBlown (w : BitVec 32) (i : Nat) : Bool := 5 ≤ popcountBits w (8 * i)
where
  popcountBits (w : BitVec 32) (lo : Nat) : Nat := ((List.range 8).filter (fun b => w.getLsbD (lo + b))).length

/-- The fuses of key slot `k`, from the OTP shadow. -/
def State.enrolled (s : State) (k : Nat) : Bool := fuseBlown (s.sec.shadow.get 0) k
def State.production (s : State) (k : Nat) : Bool := fuseBlown (s.sec.shadow.get 1) k
def State.revoked (s : State) (k : Nat) : Bool := fuseBlown (s.sec.shadow.get 2) k

/-- An OTP word; out of range reads 0. -/
def State.otpWord (s : State) (a : Nat) : BitVec 32 := s.sec.otp.toList.getD a 0

/-- The key hash of a slot, 32 bytes (Table 13.3). -/
def State.keyHash (s : State) (k : Nat) : List Byte :=
  (List.range 8).flatMap (fun i => beBytes 4 (s.otpWord (8 * k + i)).toNat)

/-- Check 0x5: the key and signature under the lifecycle state (R402, Table 13.4). -/
def State.check5 (s : State) (img sig : List Byte) (before : Nat) : Bool :=
  match s.sec.life with
  | .opened | .returned => true
  | life =>
    let k := field sig 4 1
    let key := slice sig 8 64
    k ≤ 3 && s.enrolled k && !s.revoked k && (life != .secured || s.production k) &&
      sha256 key == s.keyHash k &&
      ecdsaVerify (beNat (key.take 32)) (beNat (key.drop 32)) (field sig 72 32) (field sig 104 32)
        (sha256 (img.take before))

/-- Check 0x6: no contract value is below Table 6.6 (R202). -/
def check6 (c : List Byte) : Bool := (List.range 29).all (fun i => nth Config.puMax i 0 ≤ (nth c i 0).toNat)

/-- Check 0x7: the four checks of R203. -/
def check7 (c v : List Byte) : Bool :=
  let vreq := field v 0 1
  let lim := field v 1 1
  let pu (k : Nat) : Nat := (nth c k 0).toNat
  vreq ≤ 28 && pu vreq ≤ lim && (vreq = 0 || lim < pu (vreq - 1)) && field v 8 4 < field v 4 4

/-! ### Code sections (R184) -/

/-- The opcode of an instruction word. -/
def opcode (w : Nat) : Nat := w / 2 ^ 42 % 64

/-- Whether an instruction word is listed, has its reserved bits 0 and no PRED 0b100 (Tables 6.2 and 6.4). -/
def insnOk (w : Nat) : Bool :=
  let f := w % 2 ^ 27
  let pred := f / 2 ^ 24 ≠ 4
  let op := opcode w
  if op ∈ [0x00, 0x01, 0x02, 0x04, 0x05, 0x06, 0x07, 0x08, 0x09, 0x0A, 0x0B, 0x0C, 0x0D, 0x0E, 0x11, 0x13, 0x14, 0x15,
      0x16, 0x17, 0x18, 0x19, 0x1C, 0x1D, 0x1E, 0x30, 0x31, 0x32] then pred && f % 2 ^ 24 = 0
  else if op ∈ [0x03, 0x0F, 0x10, 0x12, 0x1F, 0x22, 0x24, 0x39] then pred
  else if op ∈ [0x20, 0x21] then pred && f / 2 ^ 12 % 2 ^ 11 = 0
  else if op = 0x23 then pred && f / 2 ^ 16 % 8 = 0
  else if op ∈ [0x2C, 0x2D] then pred && f / 2 ^ 12 % 2 ^ 12 = 0
  else if op ∈ [0x2A, 0x2B] then f / 2 ^ 25 = 0 && f % 2 ^ 24 = 0
  else if op ∈ [0x28, 0x29] then f % 2 ^ 8 = 0 && f / 2 ^ 16 % 2 ^ 9 ≤ 383
  else if op = 0x38 then f / 2 ^ 11 % 2 ^ 5 = 0
  else if op = 0x3A then f / 2 ^ 9 = 0 && f % 2 ^ 9 ≤ 383
  else op = 0x3B

/-- The instructions of a section obey the rules on FRAME_END and LOOP, from address `a` with the ENDs of the enclosing
loops, innermost first; `last` is the address of the section's last instruction. -/
def codeOk (last : Nat) : Nat → List Nat → List Nat → Bool
  | _, _, [] => true
  | a, loops, w :: t =>
    let loops := loops.filter (fun e => a ≤ e)
    let op := opcode w
    if !insnOk w || (op = 0x3B) != (a = last) then false
    else if op = 0x38 then
      let e := w % 2 ^ 11
      a < e && e < last && loops.length < 4 && loops.all (fun f => e ≤ f) && codeOk last (a + 1) (e :: loops) t
    else codeOk last (a + 1) loops t

/-- The words of a section, `n` bytes each. -/
def sectWords (n : Nat) (l : List Byte) : List Nat := (List.range (l.length / n)).map (fun i => field l (n * i) n)

/-- Check 0x8 on one code section. -/
def check8 (l : List Byte) : Bool :=
  let ws := sectWords 6 l
  !ws.isEmpty && codeOk (ws.length - 1) 0 [] ws

/-! ### Parameters (R204, R443) -/

/-- The bits of a register that an image may set (Table 15.7); none for a register it may not name. -/
def paramMask (a : Nat) : Option Word :=
  match a with
  | 0x05 => some 0x2000
  | 0x08 => some 0xFFFE
  | 0x09 => some 0xFFF0
  | 0x19 | 0x1D | 0x1E => some 0xFFFF
  | 0x1B => some 0xFF80
  | 0x1F => some 0xFFFB
  | 0x23 => some 0x0300
  | 0x24 => some 0x8000
  | 0x26 => some 0xF000
  | 0x28 => some 0x3800
  | 0x2D => some 0x00FF
  | 0x2F => some 0x0FFF
  | 0x30 => some 0xFFF0
  | 0x33 => some 0xFF00
  | 0x4C | 0x4D | 0x4E | 0x4F => some 0x07FF
  | _ => none

/-- The register at an address below 80. -/
def regId (a : Nat) : RegId := Fin.ofNat 80 a

/-- The pairs of a parameters section. -/
def params (l : List Byte) : List (Nat × Word) :=
  (List.range (l.length / 4)).map (fun i => (field l (4 * i) 2, word (field l (4 * i + 2) 2)))

/-- One parameter pair changes only the fields so marked (R443). -/
def State.applyParam (s : State) (p : Nat × Word) : State :=
  match paramMask p.1 with
  | some m => s.setReg (regId p.1) ((s.reg (regId p.1) &&& ~~~m) ||| (p.2 &&& m))
  | none => s

/-! ### Panel map (R62) -/

/-- The limits of R62 on the words of a PANEL window. -/
def panelOk (w : Nat → Word) : Bool :=
  let role (n : Nat) : Nat := bits (w (2 * n)) 13 3
  let index (n : Nat) : Nat := bits (w (2 * n)) 0 8
  let rows := ((List.range 160).filter (fun n => role n = 1)).map index
  let cols := ((List.range 160).filter (fun n => role n = 2)).length
  let distinct := rows.eraseDups.length
  rows.all (fun i => i ≤ 127) && distinct ≤ 128 && 8 ≤ cols && distinct * cols ≤ 6144

/-- The PANEL words after an installation: the image's, or those that stand (R201, R205). -/
def State.panelAfter (s : State) (p : Option (List Byte)) : Nat → Word :=
  match p with
  | some l => fun a => word (field l (2 * a) 2)
  | none => fun a => s.tab Win.PANEL a

/-! ### The checks in order (R205) -/

/-- The first failing check of an image, 0 when none fails. -/
def State.checkImage (s : State) (img : List Byte) : Nat :=
  if !check1 img then 1
  else if !check2 img then 2
  else
    let ds := directory img
    if !check3 ds then 3
    else
      let sec (t : Nat) : List Byte := (sectBytes img ds t).getD []
      let sig := sec 0x3F
      let before := ((sectOf ds 0x3F).map Sect.off).getD 0
      if (crc32 (img.take before)).toNat ≠ field sig 0 4 then 4
      else if !s.check5 img sig before then 5
      else if !check6 (sec 0x01) then 6
      else if !check7 (sec 0x01) (sec 0x02) then 7
      else if !(List.range 7).all (fun k => check8 (sec (0x10 + k))) then 8
      else if !(params (sec 0x37)).all (fun p => (paramMask p.1).isSome) then 0xA
      else if !panelOk (s.panelAfter (sectBytes img ds 0x35)) then 9
      else 0

/-! ### Installation (R201, R204, R206) -/

/-- The memory that holds a window and the address of its word 0 there; the words of SEQ, RESULT and RING are numbered
from 0, the others by `winKey`. -/
def winMem (code : Nat) : MemId × Nat :=
  match code with
  | 1 => (.seq, 0)
  | 2 => (.result, 0)
  | 3 | 4 => (.coef, winKey code 0)
  | 11 => (.ring, 0)
  | _ => (.tables, winKey code 0)

/-- `n` words of a window from word `a` on are written: errors of theirs that are not stuck are gone. -/
def State.winRewrite (s : State) (code a n : Nat) : State :=
  s.rewriteRange (winMem code).1 ((winMem code).2 + a) ((winMem code).2 + a + n)

/-- A window section: its words in window order, reserved bits read 0 (R11); an absent section leaves the table. -/
def State.installWin (s : State) (l : Option (List Byte)) (code : Nat) : State :=
  match l with
  | some l =>
    let ws := (sectWords 2 l).map word
    (s.setTabs code 0 ((List.range ws.length).map (fun a => nth ws a 0 &&& winMask code a))).winRewrite code 0 ws.length
  | none => s

/-- Code and data of one logical cell into the physical cell that holds it; the rest of DMEM is cleared. -/
def State.installCell (s : State) (code : List Byte) (data : Option (List Byte)) (k : Nat) : State :=
  let p := (s.cald.map.toList.getD k 0).val
  let im := memWriteAll imemDefault s.cald.imem (p * 2048) ((sectWords 6 code).map (BitVec.ofNat 48))
  let d := memClear s.cald.dmem (p * 4096) ((p + 1) * 4096)
  let dm := memWriteAll dmemDefault d (p * 4096) ((sectWords 3 (data.getD [])).map (BitVec.ofNat 24))
  let s := { s with cald := { s.cald with imem := im, dmem := dm } }
  let c := s.cald.map.toList.getD k 0
  (s.rewriteRange (.imem c) 0 ((sectWords 6 code).length)).rewriteRange (.dmem c) 0 4096

/-- Everything an image that passed its checks installs, the parameters last (R201, R203, R444). -/
def State.installImage (s : State) (img : List Byte) : State :=
  let ds := directory img
  let sec (t : Nat) : Option (List Byte) := sectBytes img ds t
  let s := (List.range 7).foldl (fun s k => s.installCell ((sec (0x10 + k)).getD []) (sec (0x20 + k)) k) s
  let s := s.installWin (sec 0x30) Win.SEQ
  let s := s.installWin (sec 0x31) Win.COEF_A
  let s := s.installWin (sec 0x32) Win.COEF_B
  let s := s.installWin (sec 0x33) Win.RS_PROFILE
  let s := s.installWin (sec 0x34) Win.LANE_MASK
  let s := s.installWin (sec 0x35) Win.PANEL
  let s := s.installWin (sec 0x36) Win.KEYS
  let s := s.installWin (sec 0x38) Win.PHASE
  let v := (sec 0x02).getD []
  let s := (s.setFld Reg.PMU_STAT 6 5 (field v 0 1)).setFld Reg.PACE 8 8 (field v 1 1)
  let s := { s with sched := { s.sched with valid := true, pmin := field v 4 4, skew := field v 8 4 },
                    lib := { s.lib with on := Config.libraryImage (img.take (field img 8 4)) } }
  ((params ((sec 0x37).getD [])).foldl State.applyParam s).setFld Reg.SCHED_CTL 0 4 0

/-- The bytes written through the IMAGE window (R206). -/
def State.loadBuffer (s : State) : List Byte :=
  (List.range (s.sched.loaded / 2)).flatMap (fun w => bytesOfWord (s.tab Win.RESULT w))

/-- The check of the host load path: 0xB first (R205). -/
def State.checkLoaded (s : State) : Nat :=
  let b := s.loadBuffer
  if s.sched.badOrder || b.length < 12 || b.length < field b 8 4 then 0xB else s.checkImage b

end Sys2Proof.Machine
end

