-- ==== Sys2Proof/Machine/Queue.lean ====
section
/-! DEFINITION. The Fumarole report queue: staging, commit and abandonment, the gap state, the insertion buffer, and the
read side (R275 to R295). -/

namespace Sys2Proof.Machine

/-- A record of 8 words. -/
def recOf (h w1 w2 w3 w4 w5 w6 w7 : Word) : Rec := #v[h, w1, w2, w3, w4, w5, w6, w7]

/-- The header of a record without flags (Table 9.1). -/
def header (type sub : Nat) : Word := word (type * 4096 + sub)

/-- The low 16 bits of the AON time. -/
def State.time16 (s : State) : Word := s.aon.time.setWidth 16

/-- The occupancy of R278: committed and uncommitted items. -/
def Queue.occupancy (q : Queue) : Nat := q.items.length + q.staged.length

/-- A drop opens the gap state or makes it grow (R280). -/
def gapDrop (g : Option Gap) (fc time : Word) : Gap :=
  match g with
  | none => { dropped := 1, first := fc, last := fc, tFirst := time }
  | some g => { g with dropped := min 65535 (g.dropped + 1), last := fc }

/-- The GAP record that precedes a record accepted while the gap state is open (R281, Table 9.6). -/
def gapRec (g : Gap) (r : Rec) : Rec :=
  recOf (header 5 0) (r.get 1) (r.get 2) (word g.dropped) g.first g.last g.tFirst 0

/-- A record is pushed: accepted behind a GAP record if the gap state is open, or dropped (R279 to R281, R283). -/
def State.pushRec (s : State) (r : Rec) : State :=
  if !s.flag Reg.FUNC_EN 5 || 63 ≤ s.queue.occupancy then
    let q := { s.queue with gap := some (gapDrop s.queue.gap (r.get 1) s.time16), drops := s.queue.drops + 1 }
    { s with queue := q }.setFlag Reg.RPT_STAT 14 true
  else
    let pre := match s.queue.gap with
      | none => []
      | some g => [gapRec g r]
    let place (i : Nat) : Nat := 8 * ((s.queue.rd.toNat + s.queue.occupancy + i) % 64)
    let s := s.rewriteRange .fumarole (place 0) (place 0 + 8)
    let s := if pre.isEmpty then s else s.rewriteRange .fumarole (place 1) (place 1 + 8)
    { s with queue := { s.queue with staged := s.queue.staged ++ pre ++ [r], gap := none } }

/-- Committed drops are counted in RPT_GAPS (R282). -/
def State.countDrops (s : State) (n : Nat) : State :=
  s.setReg Reg.RPT_GAPS (word (min 65535 ((s.reg Reg.RPT_GAPS).toNat + n)))

/-- The QUEUE vote is withdrawn when the write side sees the occupancy fall to 0 (R293). -/
def State.queueVote (s : State) : State :=
  if s.queue.occupancy = 0 then { s with queue := { s.queue with vote := false } } else s

/-- A commit moves the commit pointer to the staging pointer, counts the drops, keeps the gap state for an abandonment,
holds the QUEUE vote and sets INT_STAT.RPT at the watermark (R277, R282, R293, R295). -/
def State.commitQueue (s : State) : State :=
  let q := s.queue
  let items := q.items ++ q.staged
  let s := (s.countDrops q.drops)
  let s := { s with queue := { q with items := items, staged := [], saved := q.gap, drops := 0,
                                      vote := q.vote || !items.isEmpty } }
  if max 1 (s.fld Reg.RPT_CTL 8 6) ≤ items.length then s.raise Irq.RPT else s

/-- An abandonment withdraws the uncommitted items and restores the gap state of the last commit (R277, R282). -/
def State.abandonQueue (s : State) : State :=
  ({ s with queue := { s.queue with staged := [], gap := s.queue.saved, drops := 0 } }).queueVote

/-- An event puts a record into the insertion buffer; a full buffer drops it, counted at once (R284, R282). -/
def State.insertRec (s : State) (r : Rec) : State :=
  if s.queue.ins.length < 4 then { s with queue := { s.queue with ins := s.queue.ins ++ [r] } }
  else
    let s := { s with queue := { s.queue with gap := some (gapDrop s.queue.gap s.seq.fc s.time16),
                                              saved := some (gapDrop s.queue.saved s.seq.fc s.time16) } }
    (s.countDrops 1).setFlag Reg.RPT_STAT 14 true

/-- An inserted record commits at its push; one that was dropped counts at once (R282, R284). -/
def State.commitInserted (s : State) : State :=
  if s.queue.staged.isEmpty then
    let t := s.countDrops s.queue.drops
    { t with queue := { t.queue with drops := 0, saved := t.queue.gap } }
  else s.commitQueue

/-- The oldest buffered record is pushed with the frame counter and the AON time of this moment and committed, once no
frame is staging, MAIN is ready and the queue is not stopped in a handshake (R284, R343). -/
def State.pushInserted (s : State) : State :=
  match s.queue.ins with
  | [] => s
  | r :: rest =>
    if s.cald.isOpen || !s.pwr.ready || s.queue.stopped then s
    else
      let r := (r.set 1 s.seq.fc).set 2 s.time16
      ({ s with queue := { s.queue with ins := rest } }.pushRec r).commitInserted

/-- Every buffered record is pushed in turn; the buffer holds at most four (R284). -/
def State.drainInserted (s : State) : State :=
  s.pushInserted.pushInserted.pushInserted.pushInserted

/-- EMPTY as the read side judges it; a queue stopped in a handshake reads empty (R286, R343). -/
def State.queueEmpty (s : State) : Bool := s.queue.stopped || s.queue.seen = 0

/-- Whether the next word can be read without an underrun or a stall (R286, R291). -/
def State.queueReady (s : State) : Bool :=
  !s.queue.stopped && (s.queue.cut || s.queue.word != 0 || s.queue.seen != 0)

/-- The host clock has run for 2 edges since the last commit: the read side sees every committed item (R30, R286). -/
def State.queueSync (s : State) : State := { s with queue := { s.queue with seen := s.queue.items.length } }

/-- A flush: every committed item is discarded, the gap state and its saved value close, and an item being read is cut
(R291). -/
def State.flushQueue (s : State) : State :=
  let q := s.queue
  let s := if q.word = 0 then s else s.setFlag Reg.RPT_STAT 12 true
  ({ s with queue := { q with items := [], seen := 0, gap := none, saved := none, last := 0xFFFF, cut := q.word != 0,
                              rd := q.rd + BitVec.ofNat 6 q.items.length } }).queueVote

/-- `FUNC_RESET.QUEUE`: a flush that also discards uncommitted items and the insertion buffer, clears RPT_GAPS and the
flags, and inserts a RESET record with SUB 0x06 (R292). -/
def State.resetQueue (s : State) : State :=
  let s := s.flushQueue
  let s := { s with queue := { s.queue with staged := [], drops := 0, ins := [], vote := false } }
  let s := (((s.setReg Reg.RPT_GAPS 0).setFlag Reg.RPT_STAT 13 false).setFlag Reg.RPT_STAT 14 false).setFlag
    Reg.RPT_STAT 11 false
  s.insertRec (recOf (header 6 6) 0 0 0 0 0 0 0)

end Sys2Proof.Machine
end

