-- ==== Sys2Proof/Machine/Report.lean ====
section
/-! DEFINITION. Fault events: their flag, INT_STAT.FAULT, FAULT_INFO, the counters and the FAULT record (R431,
Table 14.4). -/

namespace Sys2Proof.Machine

abbrev FaultClass.LANE : Nat := 1
abbrev FaultClass.ELEC : Nat := 2
abbrev FaultClass.CELL : Nat := 3
abbrev FaultClass.MEM : Nat := 4
abbrev FaultClass.OSC : Nat := 5
abbrev FaultClass.REG : Nat := 6
abbrev FaultClass.HOSTPIN : Nat := 7
abbrev FaultClass.RNG : Nat := 8
abbrev FaultClass.AON : Nat := 9

/-- A reserve lane serves a fault or is held failed (`FAULT_STAT.RESLOST`, R422). -/
def State.resLost (s : State) : Bool :=
  s.reserve.toList.any (fun u => match u with | .fault _ => true | _ => false) || s.fmon.failed.any (160 ≤ ·)

/-- FAULT_STAT as it reads: RESLOST computed, NOSPARE a copy of SCHED_STAT.NOSPARE (Table 14.7). -/
def State.faultStat (s : State) : Word :=
  putBits (putBits (s.reg Reg.FAULT_STAT) 4 1 s.resLost.toNat) 3 1 (s.flag Reg.SCHED_STAT 11).toNat

/-- The part of a fault event that needs MAIN: FAULT_INFO, the counter of its outcome, and the FAULT record while
`FAULT_EN.FREC` is 1 (R431). -/
def State.recordFault (s : State) (e : FaultEvent) : State :=
  let s := s.setReg Reg.FAULT_INFO (word (e.cls * 4096 + e.outcome * 1024 + e.elem))
  let s := if e.counted && e.outcome == 0 then s.satFld Reg.FAULT_CNT 4 4
           else if e.counted && e.outcome == 1 then s.satFld Reg.FAULT_CNT 0 4 else s
  if s.snap.flag Reg.FAULT_EN 6 then
    s.insertRec (recOf (header 4 0x20) 0 0 s.faultStat (s.reg Reg.FAULT_INFO) (s.reg Reg.FAULT_CNT) e.detail e.subst)
  else s

/-- A fault event: INT_STAT.FAULT at once; the rest at once too, or after the next wake or boot when MAIN is off
(R431). -/
def State.faultEvent (s : State) (e : FaultEvent) : State :=
  let s := s.raise Irq.FAULT
  if s.pwr.ready then s.recordFault e
  else { s with fmon := { s.fmon with later := s.fmon.later ++ [e] } }

/-- The events that waited for MAIN are recorded in order (R431). -/
def State.recordLater (s : State) : State :=
  let l := s.fmon.later
  l.foldl State.recordFault { s with fmon := { s.fmon with later := [] } }

/-- A fault event that sets a bit of FAULT_STAT. -/
def State.mainFault (s : State) (flag cls outcome elem : Nat) (detail subst : Word) : State :=
  (s.setFlag Reg.FAULT_STAT flag true).faultEvent
    { cls := cls, outcome := outcome, elem := elem, detail := detail, subst := subst, counted := true }

/-- A fault event that sets a bit of AON_FAULT. -/
def State.aonFault (s : State) (flag elem : Nat) (detail : Word) (outcome : Nat) : State :=
  (s.setFlag Reg.AON_FAULT flag true).faultEvent
    { cls := FaultClass.AON, outcome := outcome, elem := elem, detail := detail, subst := 0xFFFF, counted := true }

/-! ### Memory errors (R425, Table 14.4) -/

/-- ELEM of a memory. -/
def memElem : MemId → Nat
  | .imem c => c.val
  | .dmem c => 8 + c.val
  | .result => 0x10
  | .seq => 0x11
  | .coef => 0x12
  | .tables => 0x13
  | .fumarole => 0x14
  | .ring => 0x15

/-- The number of ones of a mask of at most 64 bits. -/
def ones (m : Nat) : Nat := ((List.range 64).filter (fun i => m.testBit i)).length

/-- The error that a word of a memory holds. -/
def State.memErr (s : State) (m : MemId) (addr : Nat) : Option MemErr :=
  s.fmon.memErrs.find? (fun e => e.mem = m && e.addr = addr)

/-- A single-bit error has been found by a read. -/
def State.markFound (s : State) (m : MemId) (addr : Nat) : State :=
  { s with fmon := { s.fmon with memErrs := s.fmon.memErrs.map (fun e =>
      if e.mem = m ∧ e.addr = addr then { e with found := true } else e) } }

/-- The record of a word that was in error at its last scrub. -/
def State.scrubOf (s : State) (m : MemId) (addr : Nat) : Option Scrubbed :=
  s.fmon.scrubbed.find? (fun w => w.mem = m && w.addr = addr)

/-- The records of the other words. -/
def State.scrubForget (s : State) (m : MemId) (addr : Nat) : List Scrubbed :=
  s.fmon.scrubbed.filter (fun w => !(w.mem = m && w.addr = addr))

/-- The scrubber rewrites a corrected word: a passing error is gone, a stuck one stays; an error that shows in a word
that the scrubber rewrote at its last scrub is a stuck bit, reported once (R425). -/
def State.scrubRewrite (s : State) (e : MemErr) : State :=
  let mine (f : MemErr) : Bool := f.mem = e.mem && f.addr = e.addr
  let errs := if e.stuck then s.fmon.memErrs.map (fun f : MemErr => if mine f then { f with found := false } else f)
    else s.fmon.memErrs.filter (fun f => !mine f)
  let old := s.scrubOf e.mem e.addr
  let t := { s with fmon := { s.fmon with
    memErrs := errs, scrubbed := s.scrubForget e.mem e.addr ++ [⟨e.mem, e.addr, old.isSome⟩] } }
  if old.any (fun w => !w.told) then
    t.mainFault 12 FaultClass.MEM 0 (memElem e.mem) (word (e.addr % 131072)) 0xFFFF
  else t

/-- A read of a protected word: a single-bit error is corrected and counted, a double-bit error is a fault event and the
word is delivered as read. Answers the bits that read inverted. -/
def State.readErr (s : State) (m : MemId) (addr : Nat) : Nat × State :=
  match s.memErr m addr with
  | none => (0, s)
  | some e =>
    if ones e.bits = 0 then (0, s)
    else if ones e.bits = 1 then (0, (s.markFound m addr).satFld Reg.FAULT_CNT 8 8)
    else (e.bits, s.mainFault 11 FaultClass.MEM 1 (memElem m) (word (addr % 131072)) 0xFFFF)

end Sys2Proof.Machine
end

