-- ==== Sys2Proof/Machine/Views.lean ====
section
/-! DEFINITION. Registers as they read: the stored words with the fields that are views of the state, the fields a host
write changes, and the frame snapshot (15_register_map, R33, R440, R441). -/

namespace Sys2Proof.Machine

/-! ### How the host writes a register (Table 15.2) -/

/-- The RW fields of a register. -/
def rwMask (a : Nat) : Word :=
  match a with
  | 0x04 => 0xFFF0 | 0x05 => 0x3000 | 0x06 => 0x0001 | 0x08 => 0xFFFE | 0x09 => 0xFFF0 | 0x0C => 0xFFFF
  | 0x11 => 0x06FF | 0x12 => 0x7FFF | 0x14 => 0xFC1F | 0x16 => 0x1C00 | 0x19 => 0xFFFF | 0x1B => 0xFF80
  | 0x1D => 0xFFFF | 0x1E => 0xFFFF | 0x1F => 0xFFFB | 0x20 => 0xC000 | 0x22 => 0x0001 | 0x23 => 0x0300
  | 0x24 => 0xFC00 | 0x26 => 0xF000 | 0x28 => 0x381F | 0x2D => 0x00FF | 0x2F => 0x4FFF | 0x30 => 0xFFF0
  | 0x33 => 0xFF00 | 0x34 => 0x3F9F | 0x38 => 0x8000 | 0x3B => 0x0FFF | 0x3C => 0x008F | 0x3D => 0xFFFF
  | 0x3E => 0xFFFF | 0x40 => 0x0F00 | 0x43 => 0x7F80 | 0x45 => 0xFFFF | 0x47 => 0xFFC0 | 0x48 => 0xFFFF
  | 0x4A => 0xE0FF | 0x4C => 0x07FF | 0x4D => 0x07FF | 0x4E => 0x07FF | 0x4F => 0x07FF
  | _ => 0

/-- The W1C fields of a register. -/
def w1cMask (a : Nat) : Word :=
  match a with
  | 0x03 => 0xFFF0 | 0x0F => 0xFC00 | 0x13 => 0x2400 | 0x15 => 0x0020 | 0x17 => 0x3000 | 0x1C => 0x3000
  | 0x22 => 0x4000 | 0x23 => 0x0C00 | 0x25 => 0x2000 | 0x27 => 0xFF00 | 0x29 => 0x1000 | 0x35 => 0x7800
  | 0x39 => 0x6000 | 0x3A => 0x8000 | 0x3F => 0xF800 | 0x41 => 0x6000 | 0x44 => 0x1C00 | 0x46 => 0xFFC0
  | 0x4B => 0x3F00
  | _ => 0

/-- The plain part of a host write: RW fields take the value, W1C fields with a 1 written clear, everything else stays
(R9, R11). -/
def State.plainWrite (s : State) (r : RegId) (v : Word) : State :=
  let rw := rwMask r.val
  let old := s.reg r
  s.setReg r (((old &&& ~~~rw) ||| (v &&& rw)) &&& ~~~(v &&& w1cMask r.val))

/-! ### Views -/

/-- A number of one bit placed at bit `b`. -/
def bitAt (b : Nat) (v : Bool) : Nat := v.toNat * 2 ^ b

/-- `SCHED_STAT.STATE` (Table 6.13). -/
def SchedState.code : SchedState → Nat
  | .stopped => 0 | .load => 1 | .running => 2 | .copy => 3

/-- The physical cell that `SCHED_CTL.MAPPHY` shows; free for the spare while there is none (Table 6.12). -/
def State.mapPhy (s : State) : Nat :=
  let k := s.fld Reg.SCHED_CTL 10 3
  if k = 7 then match s.cald.spareShown with
    | some p => p.val
    | none => bits (Config.freeWord s.freeCtr) 0 3
  else (s.cald.mapShown.toList.getD k 0).val

/-- The background round measures a group in block mode (`CAL_STAT.NOSTANDIN`, R377). -/
def State.noStandIn (s : State) : Bool := match s.cal.round with
  | some r => r.block && !r.meas.isEmpty
  | none => false

/-- The octet of LANE_CAL_FAIL that `CAL_CMD.FSEL` selects (Table 12.6). -/
def State.fbits (s : State) : Nat := (s.cal.fail.toNat >>> (8 * min 20 (s.fld Reg.CAL_CMD 0 5))) % 256

/-- `LIFECYCLE.STATE` (Table 13.8). -/
def Lifecycle.code : Lifecycle → Nat
  | .opened => 0 | .develop => 1 | .secured => 2 | .returned => 3

/-- The fuses of the four slots as four bits. -/
def fuseBits (f : Nat → Bool) : Nat := (List.range 4).foldl (fun n k => n + bitAt k (f k)) 0

/-- The KEYSET fuse (R400, Table 13.3). -/
def State.keyset (s : State) : Bool := fuseBlown (s.sec.shadow.get 3) 3

/-- LIFECYCLE as it reads (Table 13.8). -/
def State.lifeWord (s : State) : Nat :=
  s.sec.life.code * 2 ^ 14 + bitAt 13 s.keyset + fuseBits s.enrolled * 256 + fuseBits s.production * 16 +
    fuseBits s.revoked

/-- Items the read side sees (Table 9.11). -/
def State.depth (s : State) : Nat := if s.queue.stopped then 0 else s.queue.seen

/-- The fields of RESERVE_MAP for the selected reserve lane (Table 3.11). -/
def State.reserveView (s : State) : Nat :=
  match s.reserve.toList.getD (s.fld Reg.RESERVE_MAP 14 2) .idle with
  | .idle => 0x00FF
  | .fault p => 0x1000 + p
  | .cal p => 0x2000 + p

/-- The fields of a register that are views of the state: their mask and their value. -/
def State.viewPart (s : State) (a : Nat) : Nat × Nat :=
  match a with
  | 0x02 => (0xFC08, s.pwr.cause * 2 ^ 13 + s.pwr.pstate.code * 2 ^ 10 + bitAt 3 s.pwr.ready)
  | 0x06 => (0xFFFF, s.voteWord.toNat)
  | 0x0A => (0xFFFF, s.aon.time.toNat / 65536)
  | 0x0B => (0xFFFF, s.aon.time.toNat % 65536)
  | 0x13 => (0x1000, bitAt 12 (s.aon.slow = .xtal))
  | 0x15 => (0x0010, bitAt 4 (decide (s.fld Reg.PMU_STAT 11 5 < s.fld Reg.PMU_STAT 6 5)))
  | 0x16 => (0x0380, s.mapPhy * 128)
  | 0x17 => (0xC000, s.sched.state.code * 2 ^ 14)
  | 0x20 => (0x3FFF, s.reserveView)
  | 0x23 =>
    (0xF03F, bitAt 15 s.filt.shown.cur + bitAt 14 s.filt.shown.fading + bitAt 13 s.filt.shown.pend.isSome +
      bitAt 12 (s.filt.shown.pend = some true) + s.filt.shown.pos % 64)
  | 0x25 => (0xC000, bitAt 15 s.seq.run + bitAt 14 (s.seq.phase = .waiting))
  | 0x27 => (0x000F, (List.range 4).foldl (fun n k => n + bitAt k (s.dets.toList.getD k Det.reset).busy) 0)
  | 0x29 => (0x88FF, bitAt 15 s.calBusy + bitAt 11 s.noStandIn + s.fbits)
  | 0x35 => (0x87FF, bitAt 15 s.queueEmpty + bitAt 10 s.queue.gap.isSome + s.queue.word * 128 + s.depth)
  | 0x39 => (0x8FFF, bitAt 15 s.ring.mark.isSome + s.ring.markIdx.toNat)
  | 0x3A => (0x6FFF, bitAt 14 s.ring.wrapped + bitAt 13 (decide (s.ring.u = 4096)) + s.ring.wr.toNat)
  | 0x3B => (0xFFFF, s.ring.rd.toNat)
  | 0x41 => (0x8000, bitAt 15 s.nvmBusy)
  | 0x42 => (0xFFFF, s.lifeWord)
  | 0x43 => (0x8000, bitAt 15 (s.sec.asked || s.sec.trans = .develop || s.sec.trans = .secured))
  | 0x44 =>
    (0xE21F, s.dstate * 2 ^ 14 + bitAt 13 s.sec.nonce.isSome + bitAt 9 s.sec.holdoff + s.sec.resp.length)
  | 0x46 => (0xFFFF, s.faultStat.toNat)
  | 0x4B => (0xC000, bitAt 15 s.aon.hsel + bitAt 14 s.aon.hsdo)
  | _ => (0, 0)

/-- A register as it reads, without the side effects of a read; RPT_DATA, WIN_DATA and AUTH_CHAL read 0 here (R441). -/
def State.viewReg (s : State) (r : RegId) : Word :=
  match r.val with
  | 0x36 => 0
  | 0x3E => 0
  | 0x45 => 0
  | a =>
    let p := s.viewPart a
    (s.reg r &&& ~~~(word p.1)) ||| (word p.2 &&& word p.1)

/-- The frame snapshot: every register 0x00 to 0x4F and every table as they stand on this edge (R33, R440). -/
def State.snapNow (s : State) : Snap :=
  { regs := Vector.ofFn s.viewReg, tables := s.tables, time := s.aon.time }

end Sys2Proof.Machine
end

