-- ==== Sys2Proof/Machine/NvmOps.lean ====
section
/-! DEFINITION. The contents of the flash: calibration records, the panel signature and slot records, and the steps that
write them (R384 to R395). -/

namespace Sys2Proof.Machine

/-- A sector of the flash. -/
def sectorLen : Nat := 4096

/-- Programming of a run of bytes in pages of 256, the first page beginning at `a`, as steps. -/
def pagesFrom : Nat → Nat → List Byte → List FlashStep
  | 0, _, _ => []
  | n + 1, a, l =>
    if l.isEmpty then [] else .program a (l.take 256) :: pagesFrom n (a + 256) (l.drop 256)

/-- Programming of bytes from a page boundary on. -/
def pages (a : Nat) (l : List Byte) : List FlashStep := pagesFrom (l.length / 256 + 1) a l

/-- COMMIT (0x5A5A). -/
def commitBytes : List Byte := [0x5A, 0x5A]

/-! ### Calibration records (R386, R387) -/

/-- The base of calibration sector `k`. -/
def calBase (k : Nat) : Nat := 0x38000 + k * sectorLen

/-- The record of a calibration sector is valid (R386). -/
def State.calValid (s : State) (k : Nat) : Bool :=
  let r := s.flashBytes (calBase k) 678
  slice r 0 2 == [0x43, 0x41] && field r 2 1 == 0 && field r 10 2 == 164 &&
    (crc32 (slice r 0 672)).toNat == field r 672 4 && field r 676 2 == 0x5A5A

/-- SEQ of the record of a calibration sector. -/
def State.calSeq (s : State) (k : Nat) : Nat := beNat (s.flashBytes (calBase k + 4) 4)

/-- The sector of the newest valid record, if there is one. -/
def State.calNewest (s : State) : Option Nat :=
  match s.calValid 0, s.calValid 1 with
  | false, false => none
  | true, false => some 0
  | false, true => some 1
  | true, true => if s.calSeq 0 < s.calSeq 1 then some 1 else some 0

/-- Bytes 0 to 675 of a new record (Table 12.11). -/
def State.calRecord (s : State) (seq : Nat) : List Byte :=
  let head : List Byte := [0x43, 0x41, 0x00, 0x01] ++ beBytes 4 seq ++ bytesOfWord s.cal.temp ++ beBytes 2 164 ++
    beBytes 4 0
  let r := head ++ (List.range 328).flatMap (fun a => bytesOfWord (s.tab Win.CALF a))
  r ++ beBytes 4 (crc32 r).toNat

/-- The steps that write a record: the sector that does not hold the newest one is erased, COMMIT is last (R387). -/
def State.calSteps (s : State) : List FlashStep :=
  let k := match s.calNewest with
    | some 0 => 1
    | _ => 0
  let seq := match s.calNewest with
    | some j => s.calSeq j + 1
    | none => 1
  .erase (calBase k) sectorLen :: (pages (calBase k) (s.calRecord seq) ++ [.program (calBase k + 676) commitBytes])

/-! ### Panel signature (R389, R390) -/

/-- The signature sector. -/
def sigBase : Nat := 0x3A000

/-- CRC-32 over the words of the PANEL window. -/
def State.panelCrc (s : State) : Nat :=
  (crc32 ((List.range 320).flatMap (fun a => bytesOfWord (s.tab Win.PANEL a)))).toNat

/-- The signature in flash is valid for the installed panel map (R390). -/
def State.sigOk (s : State) : Bool :=
  let r := s.flashBytes sigBase 342
  slice r 0 2 == [0x53, 0x47] && field r 2 2 == 1 && field r 4 4 == s.panelCrc &&
    (crc32 (slice r 0 336)).toNat == field r 336 4 && field r 340 2 == 0x5A5A

/-- The check of the signature: SIG_VALID, and the copy into the DMEM of L5 (R390). -/
def State.sigCheck (s : State) : State :=
  let ok := s.sigOk
  let p := s.phys 5
  let s := s.setFlag Reg.NVM_STAT 4 ok
  if ok then
    let vs := (List.range 160).map (fun n => BitVec.ofNat 24 (beNat (s.flashBytes (sigBase + 16 + 2 * n) 2)))
    let dm := memWriteAll dmemDefault s.cald.dmem (p * 4096 + 0xF00) (vs ++ [1])
    { s with cald := { s.cald with dmem := dm } }
  else s.dmemWrite p 0xFA0 0

/-- A value of the signature while it is valid. -/
def State.sigValue (s : State) (n : Nat) : Nat := beNat (s.flashBytes (sigBase + 16 + 2 * n) 2)

/-- The mean of the slots captured for a pin, rounded half up; 0xFFFF for a pin without slots. Keys below 256 hold sums,
keys from 256 on the counts. -/
def sigMean (sums : List (Nat × Int)) (n : Nat) : Word :=
  match alook sums n, alook sums (256 + n) with
  | some t, some c => iword ((2 * t + c) / (2 * c))
  | _, _ => 0xFFFF

/-- The steps that write a captured signature, COMMIT last (Table 12.12). -/
def State.sigSteps (s : State) : List FlashStep :=
  let head : List Byte := [0x53, 0x47, 0x00, 0x01] ++ beBytes 4 s.panelCrc ++ beBytes 8 0
  let r := head ++ (List.range 160).flatMap (fun n => bytesOfWord (sigMean s.nvm.sums n))
  let r := r ++ beBytes 4 (crc32 r).toNat
  .erase sigBase sectorLen :: (pages sigBase r ++ [.program (sigBase + 340) commitBytes])

/-! ### Slot records (R391, R394) -/

/-- The base of image slot `k`. -/
def slotBase (k : Nat) : Nat := k * 0x1C000

/-- The base of slot record sector `j`. -/
def recBase (j : Nat) : Nat := 0x3B000 + j * sectorLen

/-- A slot record as read: slot, SEQ, LENGTH, COMMIT, its bytes. -/
structure SlotRec where
  slot   : Nat
  seq    : Nat
  length : Nat
  commit : Nat
  bytes  : List Byte

/-- A place of a record sector as a record: MAGIC, SLOT and RECCRC must check. -/
def slotRecOf (r : List Byte) : Option SlotRec :=
  if slice r 0 2 == [0x53, 0x4C] && field r 2 1 ≤ 1 && (crc32 (slice r 0 16)).toNat == field r 16 4 then
    some ⟨field r 2 1, field r 4 4, field r 8 4, field r 30 2, r⟩
  else none

/-- The records of a sector. -/
def State.recsOf (s : State) (j : Nat) : List SlotRec :=
  (List.range 128).filterMap (fun i => slotRecOf (s.flashBytes (recBase j + 32 * i) 32))

/-- The record with the largest SEQ. -/
def newestRec (l : List SlotRec) : Option SlotRec :=
  l.foldl (fun b r => match b with
    | none => some r
    | some t => if t.seq < r.seq then some r else b) none

/-- The newest record of a slot. -/
def State.slotRec (s : State) (k : Nat) : Option SlotRec :=
  newestRec ((s.recsOf 0 ++ s.recsOf 1).filter (fun r => r.slot = k))

/-- A slot is valid (R394). -/
def State.slotValid (s : State) (k : Nat) : Bool := match s.slotRec k with
  | some r => r.commit = 0x5A5A && r.length != 0
  | none => false

/-- A slot is torn (R394). -/
def State.slotTorn (s : State) (k : Nat) : Bool := match s.slotRec k with
  | some r => r.commit = 0xFFFF
  | none => false

/-- The slots boot tries, the valid slot with the larger SEQ first (R394); `false` is A. -/
def State.bootSlots (s : State) : List Bool :=
  let seq (k : Nat) : Nat := match s.slotRec k with
    | some r => r.seq
    | none => 0
  match s.slotValid 0, s.slotValid 1 with
  | false, false => []
  | true, false => [false]
  | false, true => [true]
  | true, true => if seq 0 < seq 1 then [true, false] else [false, true]

/-- The image bytes of a slot. -/
def State.slotImage (s : State) (k : Nat) : List Byte :=
  match s.slotRec k with
  | some r => s.flashBytes (slotBase k) (min r.length 0x1C000)
  | none => []

/-- The current record sector: the one that holds the largest SEQ, sector 0 while neither holds a record. -/
def State.recSector (s : State) : Nat :=
  match newestRec (s.recsOf 0), newestRec (s.recsOf 1) with
  | some a, some b => if a.seq < b.seq then 1 else 0
  | none, some _ => 1
  | _, none => 0

/-- The first place of a sector from which on everything is erased. -/
def State.recFree (s : State) (j : Nat) : Nat :=
  (List.range 128).foldl (fun f i =>
    if (s.flashBytes (recBase j + 32 * i) 32).all (· == 0xFF) then f else i + 1) 0

/-- The steps that make room for a record and the address it goes to (R391). -/
def State.recPlace (s : State) : List FlashStep × Nat :=
  let j := s.recSector
  let f := s.recFree j
  if f < 128 then ([], recBase j + 32 * f)
  else
    let o := 1 - j
    let keep := [s.slotRec 0, s.slotRec 1].filterMap id
    let copies := (List.range keep.length).map (fun i =>
      .program (recBase o + 32 * i) ((keep.map SlotRec.bytes).getD i []))
    (.erase (recBase o) sectorLen :: copies, recBase o + 32 * keep.length)

/-- Bytes 0 to 29 of a new slot record (Table 12.13). -/
def State.newRec (s : State) (slot len crc : Nat) : List Byte :=
  let seq := (match newestRec (s.recsOf 0 ++ s.recsOf 1) with
    | some r => r.seq
    | none => 0) + 1
  let r : List Byte := [0x53, 0x4C, BitVec.ofNat 8 slot, 0x00] ++ beBytes 4 seq ++ beBytes 4 len ++ beBytes 4 crc
  r ++ beBytes 4 (crc32 r).toNat ++ List.replicate 10 0xFF

/-- The erasure of a slot's 28 sectors. -/
def slotErase (slot : Nat) : List FlashStep :=
  (List.range 28).map (fun i => .erase (slotBase slot + i * sectorLen) sectorLen)

/-- The steps of programming a slot with an image, or of erasing it (empty image), in the order of R392 and R393. -/
def State.slotSteps (s : State) (slot : Nat) (img : List Byte) : List FlashStep :=
  let p := s.recPlace
  let r := s.newRec slot img.length (if img.isEmpty then 0 else (crc32 img).toNat)
  p.1 ++ (.program p.2 r :: slotErase slot) ++ pages (slotBase slot) img ++ [.program (p.2 + 30) commitBytes]

/-- The fields of NVM_STAT that show the flash (R394, Table 12.16). -/
def State.nvmViews (s : State) : State :=
  let ta := s.slotTorn 0
  let tb := s.slotTorn 1
  let s := ((s.setFlag Reg.NVM_STAT 9 (ta || tb)).setFlag Reg.NVM_STAT 8 ta).setFlag Reg.NVM_STAT 7 tb
  let s := (s.setFlag Reg.NVM_STAT 6 (s.slotValid 0)).setFlag Reg.NVM_STAT 5 (s.slotValid 1)
  s.setFlag Reg.NVM_STAT 3 (s.calNewest = some 1)

/-! ### Operations (R395) -/

/-- An operation begins: GO reads 1, the steps are still to do. -/
def State.nvmBegin (s : State) (op : NvmOp) (todo : List FlashStep) : State :=
  { s with nvm := { s.nvm with op := some op, todo := todo, err := 0, frames := 0, sums := [], bad := false,
                               paused := !s.flag Reg.FUNC_EN 7 } }

/-- An operation ends: DONE, ERR where it failed, the views of the flash (R395); the automatic record write is no
operation of NVM_CTL and only ends (R387). -/
def State.nvmEnd (s : State) : State :=
  let err := s.nvm.err
  let own := s.nvm.op != some .autoSave
  let s := { s with nvm := { s.nvm with op := none, todo := [], err := 0, frames := 0, sums := [], bad := false } }
  let s := (s.nvmViews).setFlag Reg.FUNC_RESET 7 false
  if own then
    let s := (s.setFlag Reg.NVM_STAT 14 true).setFlag Reg.NVM_CTL 15 false
    let s := if err = 0 then s else (s.setFlag Reg.NVM_STAT 13 true).setFld Reg.NVM_STAT 10 3 err
    s.raise Irq.NVM
  else s

/-- A request is refused with an error code; it sets ERR and INT_STAT.NVM (R395). -/
def State.nvmRefuse (s : State) (code : Nat) : State :=
  ((s.setFlag Reg.NVM_STAT 13 true).setFld Reg.NVM_STAT 10 3 code).raise Irq.NVM

/-- A RETURN request has been accepted: every NVM operation stops, and none begins (R413). -/
def State.returning (s : State) : Bool := s.sec.trans = .returned || s.sec.trans = .returnFuse

/-- The automatic record of a calibration: at once, or after the operation that runs (R387). -/
def State.autoSave (s : State) : State :=
  if s.flag Reg.CAL_CMD 11 && !s.returning then
    if s.nvm.op.isSome then { s with nvm := { s.nvm with after := true } } else s.nvmBegin .autoSave s.calSteps
  else s

/-- The verification of a programming step: the bytes programmed read back as they were given (R392 step 4). -/
def State.flashVerify (s : State) : FlashStep → Bool
  | .erase _ _ => true
  | .program a l => s.flashBytes a l.length == l

/-- One page program or sector erase takes place. -/
def State.flashStep (s : State) : FlashStep → State
  | .erase b n => s.flashErase b (b + n)
  | .program a l => s.flashProgram a l

/-- A step that a reset or a loss of power cuts short: a sector is erased or not, and of a page each bit to be programmed
is programmed or not; which is free (log entry 62). -/
def State.stepCut (s : State) : FlashStep → State
  | .erase b n =>
    let r := s.drawBit
    if r.1 then r.2.flashErase b (b + n) else r.2
  | .program a l =>
    let part := (List.range l.length).map (fun i => nth l i 0 ||| (Config.freeWord (s.freeCtr + i)).setWidth 8)
    { s.flashProgram a part with freeCtr := s.freeCtr + l.length }

/-- The erasure of RETURN cut short: each of its 61 sectors is erased or not; which is free (R413; log entry 62). -/
def State.eraseCut (s : State) : State :=
  (List.range 61).foldl (fun s j =>
    let r := s.drawBit
    if r.1 then r.2.flashErase (j * sectorLen) ((j + 1) * sectorLen) else r.2) s

/-- What a reset or a loss of power does to the flash: it cuts short the step in progress, or the erasure of RETURN, which
follows the last page (R413). -/
def State.flashCut (s : State) : State :=
  match s.nvm.op, s.nvm.todo with
  | some _, p :: _ => if s.nvm.paused then s else s.stepCut p
  | _, _ => if s.sec.trans = .returned then s.eraseCut else s

end Sys2Proof.Machine
end

