-- ==== Sys2Proof/Machine/Calib.lean ====
section
/-! DEFINITION. Calibration: factors from measurements, plausibility, the fail map, background rounds with their
stand-ins, and the end of a calibration (R367 to R381). -/

namespace Sys2Proof.Machine

/-! ### Factors (R369, R371) -/

/-- OFFSET: the mean of y / 256, rounded half up (Table 12.2). -/
def measOffset (m : Meas) : Int := (2 * m.sum + 256 * m.n) / (512 * m.n)

/-- E = round(2^23 × 4.5 / n_c), n_c the cadence over 100 kHz (Table 12.2). -/
def calE (cdiv : Nat) : Nat := (2 * 2 ^ 23 * 9 * cdiv + 9600) / 19200

/-- GAIN = E / (mean of y − 256 × OFFSET) in Q1.15, rounded half up; free when the divisor is 0. -/
def State.calGain (s : State) (m : Meas) (off : Int) : Int × State :=
  let den := m.sum - 256 * off * m.n
  let num : Int := (2 * 2 ^ 15 * (calE s.snap.cdiv * m.n) : Nat)
  if 0 < den then ((num + den) / (2 * den), s)
  else if den < 0 then ((-num - den) / (-(2 * den)), s)
  else
    let r := s.drawWord
    (r.1.toNat, r.2)

/-- A plausible pair of factors (R369). -/
def plausible (off gain : Int) : Bool := decide (off.natAbs ≤ 0x800) && decide (0x6800 ≤ gain) && decide (gain ≤ 0x9800)

/-- The factors of a lane from its two measurements, if they are plausible. -/
def State.calFactors (s : State) (off : Int) (gain : Meas) : Option (Word × Word) × State :=
  let r := s.calGain gain off
  (if plausible off r.1 then some (iword off, iword r.1) else none, r.2)

/-- A lane's factors are written and its bit in LANE_CAL_FAIL clears (R369). -/
def State.calPass (s : State) (n : Nat) (o g : Word) : State :=
  let s := s.setTabs Win.CALF (2 * n) [o, g]
  { s with cal := { s.cal with fail := s.cal.fail &&& ~~~(BitVec.ofNat 164 (2 ^ n)) } }

/-- A lane failed: it keeps its factors, its bit in the map is set, and the fault monitor reports it (R369, R422). -/
def State.calFailLane (s : State) (n : Nat) : State :=
  let s := { s with cal := { s.cal with fail := s.cal.fail ||| BitVec.ofNat 164 (2 ^ n) } }
  s.mainFault 6 FaultClass.LANE 1 n 0x8000 (match s.standIn n with
    | some m => word m
    | none => 0xFFFF)

/-- The updates at the end of a calibration (R372, R380): count, time, T_LAST, FAIL, INT_STAT.CAL, and the automatic
record when no lane failed. -/
def State.calFinish (s : State) (failed : Bool) : State :=
  let s := s.setReg Reg.CAL_COUNT (s.reg Reg.CAL_COUNT + 1)
  let s := (s.setReg Reg.CAL_TIME_H (word (s.aon.time.toNat / 65536))).setReg Reg.CAL_TIME_L (word s.aon.time.toNat)
  let t := s.reg Reg.TEMP
  let s := s.setFld Reg.CAL_TEMP_DELTA 8 8 (iword (asr (t.toInt + 8) 4)).toNat
  let s := { s with cal := { s.cal with temp := t, measured := true } }
  let s := if failed then s.setFlag Reg.CAL_STAT 12 true else s
  let s := s.raise Irq.CAL
  if failed then s else s.autoSave

/-! ### Background rounds (R374 to R381) -/

/-- Entry `e` of the sequence table as it stands. -/
def State.entryAt (s : State) (e : Nat) : Entry :=
  Entry.ofWords (s.tab Win.SEQ (4 * e)) (s.tab Win.SEQ (4 * e + 1)) (s.tab Win.SEQ (4 * e + 2)) (s.tab Win.SEQ (4 * e + 3))

/-- A MODE 7 entry with BG = 1 (Table 12.3). -/
def Entry.bg (e : Entry) : Bool := e.mode = 7 && 64 ≤ e.code

/-- The frame has a MODE 7 entry with BG = 1 (R374). -/
def State.hasBg (s : State) : Bool :=
  let n := ((List.range 384).find? (fun e => endsFrame e (s.entryAt e))).getD 383
  (List.range (n + 1)).any (fun e => (s.entryAt e).bg)

/-- A trigger of a background round: ignored while a round or a self-calibration is in progress, discarded while the
image has no entry for it (R374). -/
def State.calTrigger (s : State) : State :=
  if s.calBusy || s.flag Reg.CAL_STAT 14 || !s.hasBg then s
  else { (s.setFlag Reg.CAL_STAT 14 true) with cal := { s.cal with dueRnd := true } }

/-- TEMP is updated and compared with T_LAST; the first update without a measured T_LAST sets it (R156, R374). -/
def State.tempUpdate (s : State) (v : Word) : State :=
  let s := s.setReg Reg.TEMP v
  if !s.cal.measured then
    let s := s.setFld Reg.CAL_TEMP_DELTA 8 8 (iword (asr (v.toInt + 8) 4)).toNat
    { s with cal := { s.cal with measured := true } }
  else
    let last : Int := (BitVec.ofNat 8 (s.fld Reg.CAL_TEMP_DELTA 8 8)).toInt
    let delta : Int := max 1 (s.fld Reg.CAL_TEMP_DELTA 0 8)
    if s.flag Reg.CAL_CMD 12 && decide (16 * delta < ((v.toInt - 16 * last).natAbs : Int)) then s.calTrigger else s

/-- Set what reserve lane 160 + g does. -/
def State.setReserve (s : State) (g : Nat) (u : ReserveUse) : State :=
  { s with reserve := s.reserve.set (g % 4) u (Nat.mod_lt _ (by decide)) }

/-- What reserve lane 160 + g does. -/
def State.reserveUse (s : State) (g : Nat) : ReserveUse := s.reserve.toList.getD g .idle

/-- Every calibration stand-in ends. -/
def State.endStandIns (s : State) : State :=
  { s with reserve := s.reserve.map (fun u => match u with
      | .cal _ => .idle
      | u => u) }

/-- A round ends without its factors (R373, R381). -/
def State.dropRound (s : State) : State :=
  let s := ((s.endStandIns).setFlag Reg.CAL_STAT 14 false).setFlag Reg.CAL_CMD 14 false
  { s with cal := { s.cal with round := none, dueRnd := false } }

/-- Reserve lane 160 + g is free for a stand-in as a group begins (R376, R377, R422). -/
def State.reserveFree (s : State) (g : Nat) : Bool :=
  s.reserveUse g = .idle && !s.fmon.failed.contains (160 + g)

/-- The lanes of the current group or lane go to their references (R376, R377, R379). -/
def State.roundStart (s : State) (r : Round) : State :=
  let r := { r with lost := false }
  if 20 ≤ r.group then
    let l := ((List.range 4).filter (fun g => s.reserveUse g = .idle)).map (160 + ·)
    { s with cal := { s.cal with round := some { r with meas := l, ready := false, ended := l.isEmpty } } }
  else if r.block then
    let l := (List.range (8 - r.lane)).map (fun i => 8 * r.group + r.lane + i)
    { s with cal := { s.cal with round := some { r with meas := l, ready := false } } }
  else
    let n := 8 * r.group + r.lane
    let s := s.setReserve (r.group / 5) (.cal n)
    { s with cal := { s.cal with round := some { r with meas := [n], ready := false } } }

/-- The next group begins; it runs in block mode while its reserve lane is not free (R377, R378). -/
def State.groupBegin (s : State) (r : Round) (g : Nat) : State :=
  let block := decide (g < 20) && (!s.reserveFree (g / 5) || r.forced.contains (g / 5))
  s.roundStart { r with group := g, lane := 0, block := block, meas := [], ready := false }

/-- The lane or block whose 4.8 ms have ended returns, and the next one begins at the same entry (R376, R377, R380). -/
def State.roundNext (s : State) (r : Round) : State :=
  let s := s.endStandIns
  if 20 ≤ r.group then
    { s with cal := { s.cal with round := some { r with meas := [], ready := false, ended := true } } }
  else if r.block || 7 ≤ r.lane then s.groupBegin r (r.group + 1)
  else s.roundStart { r with lane := r.lane + 1 }

/-- A calibration-slot entry with BG = 1 begins, advances or ends a round, or starts the 4.8 ms of a lane or block again
whose measurement SLEEP has lost (R374 to R381). -/
def State.calSlot (s : State) : State :=
  match s.cal.round with
  | none =>
    if s.cal.dueRnd then
      let s := { s with cal := { s.cal with dueRnd := false } }
      s.groupBegin ⟨0, 0, false, [], false, false, [], [], [], false⟩ 0
    else s
  | some r =>
    if r.ended then s
    else if r.meas.isEmpty then
      (if decide (r.group < 20) && decide (8 ≤ r.lane) then s.groupBegin r (r.group + 1) else s.roundStart r)
    else if r.ready then s.roundNext r
    else if r.lost then s.roundStart r
    else s

/-- Slot 0 of the row of a calibration-slot entry (Table 12.3). -/
def State.calSlotWord (s : State) : Word :=
  match s.cal.round with
  | none => 0
  | some r =>
    if r.ended then 0
    else
      let pin := match s.reserveUse (r.group / 5) with
        | .cal p => p
        | _ => 0xFF
      word (0x8000 + bitAt 14 r.block + r.group * 256 + (if r.block || 20 ≤ r.group then 0xFF else pin))

/-- The slots that keep their values while a group is measured in block mode (R377, R378). -/
def State.blockedSlots (s : State) : List Nat :=
  match s.cal.round with
  | some r => if r.block && !r.meas.isEmpty && decide (r.group < 20) then (List.range 8).map (8 * r.group + ·) else []
  | none => []

/-- The held factors of an ended round apply at a frame start (R380). -/
def State.roundApply (s : State) : State :=
  match s.cal.round with
  | some r =>
    if r.ended then
      let s := r.held.foldl (fun s f => s.calPass f.1 f.2.1 f.2.2) s
      let s := r.failed.foldl State.calFailLane s
      let s := (s.dropRound).calFinish (!r.failed.isEmpty)
      s
    else s
  | none => s

/-- The measurements of the lanes of a round are judged; their factors are held (R376, R380). -/
def State.roundHold (s : State) (r : Round) (off gain : List Meas) : State :=
  let step (acc : Round × State) (i : Nat) : Round × State :=
    let n := nth r.meas i 0
    let f := acc.2.calFactors (measOffset (nth off i ⟨0, 1⟩)) (nth gain i ⟨0, 1⟩)
    match f.1 with
    | some w => ({ acc.1 with held := acc.1.held ++ [(n, w.1, w.2)] }, f.2)
    | none => ({ acc.1 with failed := acc.1.failed ++ [n] }, f.2)
  let res := (List.range r.meas.length).foldl step (r, s)
  { res.2 with cal := { res.2.cal with round := some { res.1 with ready := true } } }

/-- A fault takes the reserve lane of group `g` for a pin at a frame start; a calibration stand-in ends, and the round
goes on in block mode with the first lane whose factors are not held; an idle reserve lane under measurement returns
(R94, R378, R379). -/
def State.takeReserve (s : State) (g pin : Nat) : State :=
  let old := s.reserveUse g
  let s := s.setReserve g (.fault pin)
  match old, s.cal.round with
  | .cal _, some r =>
    let lane := if r.ready then r.lane + 1 else r.lane
    let r := { r with lane := lane, block := true, meas := [], ready := false, forced := addOnce r.forced g }
    { s with cal := { s.cal with round := some r } }
  | _, some r => { s with cal := { s.cal with round := some { r with meas := r.meas.filter (· != 160 + g) } } }
  | _, none => s

end Sys2Proof.Machine
end

