-- ==== Sys2Proof/Machine/Frame.lean ====
section
/-! DEFINITION. The sequencer: frame starts, entry boundaries, entry starts, the end of a frame, and the frame cut short
(R137 to R172). -/

namespace Sys2Proof.Machine

/-! ### The frame timer (R157, R189, R426) -/

/-- The period that a FRAME_PERIOD word gives in microseconds (Table 5.9). -/
def framePeriodOf (w : Word) : Nat := max 2083 (min 1000000 (bits w 0 15 * (if w.getLsbD 15 then 32 else 1)))

/-- The period that FRAME_PERIOD gives in microseconds. -/
def State.framePeriod (s : State) : Nat := framePeriodOf (s.reg Reg.FRAME_PERIOD)

/-- The period that the frame timer runs with: the larger of FRAME_PERIOD and PMIN, twice that after an FIO fault. -/
def State.periodNow (s : State) : Nat := max s.framePeriod s.sched.pmin * (if s.fio2 then 2 else 1)

/-- A handshake block has agreed and stopped (Table 11.4). -/
def State.agreed (s : State) (code : Nat) : Bool := match s.pwr.hs with
  | some h => h.agreed.contains code
  | none => false

/-- A handshake has come to a block: it is asked, or has agreed. -/
def State.asked (s : State) (code : Nat) : Bool := match s.pwr.hs with
  | some h => code ≤ h.block
  | none => false

/-- The sequencer may start frames: MAIN runs, a schedule runs, the function is enabled, and no quiesce, load request or
pause of a handshake holds it; the pause begins as QUEUE, the first block, agrees (R157, R206, R337, R344, R361). -/
def State.seqMay (s : State) : Bool :=
  s.mainUp && s.flag Reg.FUNC_EN 2 && (s.sched.state = .running || s.sched.state = .copy) && !s.sched.loadWait &&
    !s.pwr.quiesce && !s.asked 2

/-! ### Frame start (R157) -/

/-- The pump at a frame start (R81): it follows LOWDRV, and an AMP change clears PUMP_RDY. -/
def State.pumpFrame (s : State) (old : Snap) : State :=
  if s.snap.lowdrv then { s.setFlag Reg.LANE_STAT 15 false with drive := { s.drive with pump := false } }
  else if s.drive.pump then (if old.amp = s.snap.amp then s else s.setFlag Reg.LANE_STAT 15 false)
  else { s.setFlag Reg.LANE_STAT 15 false with drive := { s.drive with pump := true } }

/-- The reserve lanes begin the fault substitutions that wait; each counts as masked here (R93, R421, Table 14.5). A
reserve lane that has failed meanwhile is never used again: the lane's fault is then detected and not masked (R422). -/
def State.substFrame (s : State) : State :=
  s.fmon.toSub.foldl (fun s n =>
    if s.fmon.failed.contains (160 + n / 40) then (s.setFlag Reg.FAULT_STAT 5 true).satFld Reg.FAULT_CNT 0 4
    else
      let s := (s.takeReserve (n / 40) n).satFld Reg.FAULT_CNT 4 4
      { s with fmon := { s.fmon with rebase := aset s.fmon.rebase n (s.seq.fc + 1).toNat } })
    { s with fmon := { s.fmon with toSub := [] } }

/-- The state enters ACQUIRE, or OFF: LOST and LOCKED clear and MATCH is 0 (R169). -/
def State.syncClear (s : State) : State :=
  ((s.setFlag Reg.SYNC_STAT 15 false).setFlag Reg.SYNC_STAT 14 false).setFld Reg.SYNC_STAT 10 2 0

/-- Synchronisation at a frame start: EN taken from the new snapshot, and the relock, for which MATCH must still be 2 (R166,
R169; DESIGN CHOICE, log entry 72). `was` is EN before. -/
def State.syncFrame (s : State) (was : Bool) : State :=
  if !s.syncEn || !was then s.syncClear
  else if !s.flag Reg.SYNC_STAT 14 && s.fld Reg.SYNC_STAT 10 2 == 2 then
    let s := if s.flag Reg.SYNC_STAT 15 then (s.incFld Reg.SYNC_STAT 0 8).raise Irq.SYNC else s
    (s.setFlag Reg.SYNC_STAT 15 false).setFlag Reg.SYNC_STAT 14 true
  else s

/-- F_APPLIED and P_APPLIED (Table 5.11). -/
def State.showApplied (s : State) : State :=
  let p := s.subst.getD (0, 0)
  (s.setFld Reg.SEQ_STAT 11 2 p.1).setFld Reg.SEQ_STAT 9 2 p.2

/-- The hop pair of the frame (R149). -/
def State.hopFrame (s : State) : State :=
  let p := if s.snap.flag Reg.SEQ_CTL 14 then s.snap.fld Reg.SEQ_CTL 12 2 * 4 + s.snap.fld Reg.SEQ_CTL 10 2
           else s.seq.hopPub
  { s with seq := { s.seq with hop := p } }

/-- TRK_CLR acts at a frame start (Table 4.11). It clears the lock and the correction; whether the 16 chips that lock
are then counted from none is not said, and the count stays (DESIGN CHOICE, log entry 34). -/
def State.trkFrame (s : State) : State :=
  if s.filt.clr then { s.setFlag Reg.FILT_CTL 15 false with filt := { s.filt with trkR := 0, clr := false } } else s

/-- The Caldera frame of a sequencer frame is owed while CALDERA is enabled and not stopped (R185, R190, R339). -/
def State.oweFrame (s : State) : State :=
  if s.flag Reg.FUNC_EN 3 && !s.agreed 2 then
    { s with cald := { s.cald with owed := s.cald.owed ++ [⟨s.seq.fc, s.snap⟩] } }
  else s

/-- The sequencer reads the window tables for the frame: words with a double-bit error stand as read (R425). -/
def State.readTables (s : State) : State :=
  (s.fmon.memErrs.filter (fun e => e.mem = .tables || e.mem = .coef)).foldl (fun t e =>
    let r := t.readErr e.mem e.addr
    let w := memRead tabDefault r.2.snap.tables e.addr ^^^ word r.1
    { r.2 with snap := { r.2.snap with tables := memWrite tabDefault r.2.snap.tables e.addr w } }) s

/-- A frame starts: the counter, the timer's period, held factors, substitutions, the snapshot, the pump, the relock,
the hop pair, and entry 0 at its boundary (R33, R153, R157, R169, R380, R421). -/
def State.frameStart (s : State) : State :=
  let old := s.snap
  let was := s.syncEn
  let s := (s.roundApply).substFrame
  let s := { s with seq := { s.seq with
      fc := s.seq.fc + 1, run := true, due := false, cut := false, phase := .boundary, entry := 0, left := 0,
      fresh := true, ovrRows := 0, testFail := false, period := s.periodNow } }
  let s := { s with snap := s.snapNow }
  let s := ((((s.pumpFrame old).syncFrame was).hopFrame).showApplied).trkFrame
  let s := ({ s with snap := s.snapNow }).readTables
  s.oweFrame

/-! ### Entry boundary (R144) -/

/-- A pending move of the drive timebase takes place (R162, R163). -/
def State.moveTimebase (s : State) : State :=
  let now := s.flag Reg.CLK_STAT 15
  let dpll := !s.drive.toFio && decide (2 ≤ s.fld Reg.CLK_CTL 13 2) && s.flag Reg.CLK_STAT 14 && !s.fio2
  let s := { s with drive := { s.drive with toFio := false } }
  if dpll = now then s else { s.setFlag Reg.CLK_STAT 15 dpll with filt := { s.filt with first := true } }

/-- A pending reset of the lane front ends acts at the boundary (Table 11.14, R381). -/
def State.lanesBoundary (s : State) : State :=
  if s.flag Reg.FUNC_RESET 0 then
    let s := (s.dropRound).setFlag Reg.FUNC_RESET 0 false
    { s with lanes := s.lanes.map (fun l => { l with x := 0 }), seq := { s.seq with analog := true } }
  else s

/-- The entry that the boundary leads to. -/
def State.nextEntry (s : State) : Nat := match s.seq.fresh, s.seq.cur with
  | false, some r => r.idx + 1
  | _, _ => 0

/-- The entry uses a word of the window tables: its lane mask, its profile, and the tables of all lanes and pins. -/
def tableUsed (mask profile a : Nat) : Bool :=
  match a / 131072 with
  | 5 => a % 131072 / 10 == mask
  | 14 => a % 131072 / 4 == profile
  | 6 | 7 | 12 => true
  | _ => false

/-- The entry's outputs use a bank: it is current, or a fade leads to it (R125, R126). -/
def Filt.uses (f : Filt) (b : Bool) : Bool := f.cur == b || (match f.fade with
  | some t => t.target == b
  | none => false)

/-- A table word or coefficient that the entry uses holds a double-bit error; the banks are those its outputs use, as its
start leaves them (R148, R425). -/
def State.tableErr (s : State) (e : Entry) (profile : Nat) : Bool :=
  s.fmon.memErrs.any (fun x => decide (2 ≤ ones x.bits) && (match x.mem with
    | .tables => tableUsed e.mask profile x.addr
    | .coef => (decide (x.addr / 131072 = Win.COEF_A) && s.filt.uses false) ||
        (decide (x.addr / 131072 = Win.COEF_B) && s.filt.uses true)
    | _ => false))

/-- Entry `e` of the frame as the sequencer reads it, with the bits that memory errors invert (R425). -/
def State.fetchEntry (s : State) (e : Nat) : Entry × Bool × State :=
  let r (acc : List Word × Bool × State) (i : Nat) : List Word × Bool × State :=
    let m := acc.2.2.readErr .seq (4 * e + i)
    (acc.1 ++ [s.snap.tab Win.SEQ (4 * e + i) ^^^ word m.1], acc.2.1 || m.1 != 0, m.2)
  let w := (List.range 4).foldl r ([], false, s)
  (Entry.ofWords (nth w.1 0 0) (nth w.1 1 0) (nth w.1 2 0) (nth w.1 3 0), w.2.1, w.2.2)

/-- The entry as the words of the sequence table give it, without the effects of the read. -/
def State.entryRead (s : State) (e : Nat) : Entry := (s.fetchEntry e).1

/-- A wait for DSYNC applies to an entry (R166, R170, R269). -/
def State.mustWait (s : State) (e : Entry) : Bool :=
  s.syncEn && e.sync && !s.flag Reg.SYNC_STAT 15 && !s.seq.noWait

/-- Every contributing output of the entries before has been taken (R58). -/
def State.outputsTaken (s : State) : Bool := s.filt.chips.all (fun c => !c.counted)

/-- The entry at the boundary stands in its positions, which its pins take once its hold chips are done and the last
contributing output before has been taken; then it is ready, and waits for DSYNC if it must (R58, R144, R166). -/
def State.becomeReady (s : State) : State :=
  if s.seq.phase = .ready && s.seq.hold = 0 then
    let e := s.entryRead s.seq.entry
    let s := if s.seq.placed || !s.outputsTaken then s
      else { s with seq := { s.seq with pins := s.positions e (!s.flag Reg.FUNC_EN 0), placed := true } }
    if s.seq.placed && s.mustWait e then { s with seq := { s.seq with phase := .waiting } } else s
  else s

/-- The entry boundary: timebase, lane reset and hold chips (Table 5.4); the burst that runs ends before the hold chips of
an entry that will wait (R167, Table 5.21). -/
def State.entryBoundary (s : State) : State :=
  let idx := s.nextEntry
  let s := (s.moveTimebase).lanesBoundary
  let e := s.entryRead idx
  let pos := s.positions e (!s.flag Reg.FUNC_EN 0)
  let hold := if pos = s.seq.pins then 0 else s.holdChips (s.effective e).1
  let first := s.filt.first || s.seq.fresh || s.seq.anchor
  let s := { s with seq := { s.seq with phase := .ready, entry := idx, left := 0, hold := hold,
                                        placed := decide (pos = s.seq.pins) },
                    filt := { s.filt with first := first }, drive := { s.drive with half := none },
                    sync := { s.sync with burst := s.sync.burst && !s.mustWait e } }
  s.becomeReady

/-! ### Entry start (R144, R119 to R125) -/

/-- The synchronising reset of an entry: FRESET at the first entry of a frame, FUNC_RESET.FILTERS, or the filters
enabled again (R123, Table 11.14). A FUNC_RESET.FILTERS written between an entry's boundary and its start acts at that
start; R123 does not say whether it then waits for the next boundary (DESIGN CHOICE, log entry 35). -/
def State.syncStart (s : State) : Bool × State :=
  let rst := s.flag Reg.FUNC_RESET 1
  if rst || s.seq.syncRst || (s.seq.fresh && s.snap.flag Reg.SYNC_CTL 13) then
    let s := s.syncReset
    let s := { s with seq := { s.seq with syncRst := false } }
    (true, if rst then { (s.setFlag Reg.FILT_CTL 15 false).setFlag Reg.FUNC_RESET 1 false with
                         filt := { s.filt with trkR := 0 } }
           else s)
  else (false, s)

/-- A change of ORDER or DECIM sets a new decimation origin (R105). -/
def State.setOrder (s : State) (e : Entry) : State :=
  let n := orderN e.order
  let d := decimD e.decim
  if s.filt.order = n ∧ s.filt.decim = d then s
  else { s with filt := { s.filt.newOrigin d with order := n } }

/-- The blend of every chip driven so far is fixed: outputs of an entry's chips that are still due when the next entry
starts keep the bank or the fade that stood when they were driven (Table 4.9; at an immediate swap DESIGN CHOICE, log
entry 51). -/
def State.fixChips (s : State) : State :=
  s.filt.chips.foldl (fun s c =>
    if s.filt.edge ≤ c.no then
      let b := s.fixBlend c
      { b.2 with filt := { b.2.filt with
          chips := b.2.filt.chips.map (fun d : Chip => if d.no = c.no then b.1 else d) } }
    else s) s

/-- A fade whose last output is out completes before the entry's bank is compared (R127). -/
def State.fadeSettle (s : State) : State :=
  match s.filt.fade with
  | some t => if t.first + t.len ≤ s.filt.edge then s.fadeEnd (t.first + t.len) else s
  | none => s

/-- The lanes take note of their invalid outputs (R119). -/
def State.markInvalid (s : State) (ks : List Nat) : State :=
  { s with lanes := Vector.ofFn (fun i : Fin 164 =>
      let l := s.lanes.get i
      { l with inv := max l.inv (nth ks i.val 0) }) }

/-- An entry that runs as MODE 0 (Table 5.2, R97, R375). -/
def Entry.asIdle (e : Entry) (round : Bool) : Bool := e.act = 0 || (e.act = 7 && !(e.bg && round))

/-- The entry starts (Table 5.4): FREQ, PROFILE and BANK are fixed, changes and prefill worked out, the detectors
attached, the calibration slot served. `anchor` says that the entry has waited. -/
def State.entryStart (s : State) (anchor : Bool) : State :=
  let idx := s.seq.entry
  let f := s.fetchEntry idx
  let e := f.1
  let s := f.2.2
  let s := { s with effGz := s.reg Reg.GOERTZEL_CTL, filt := { s.filt with first := s.filt.first || anchor } }
  let s := s.fixChips.fadeSettle
  let s := if e.bg then s.calSlot else s
  let y := s.syncStart
  let s := y.2.setOrder e
  let eff := s.effective e
  let b := s.bankRequest (s.effBank e) e.xfade
  let s := b.2
  let idle := !s.flag Reg.FUNC_EN 0
  let roles := s.laneRoles e idle
  let cfg := s.cfgOf e roles eff.1 eff.2
  let prof := s.snap.profile eff.2
  let ks := invalidOutputs s.seq.prev cfg s.seq.analog b.1 y.1
  let s := s.markInvalid ks
  let inv := max s.seq.invalid (invalidChips ks (profInc prof))
  let fill := if e.noPrefill || e.nofill then 0 else inv
  let run : EntryRun :=
    { idx := idx, e := e, freq := eff.1, profile := eff.2, roles := roles, firstChip := s.filt.chip,
      counted := e.counted, invalid := if e.nofill && !e.noPrefill then min e.counted inv else 0,
      lost := s.flag Reg.SYNC_STAT 15, noPump := e.act = 1 && !s.flag Reg.LANE_STAT 15, fc := s.seq.fc,
      slot0 := if e.bg then s.calSlotWord else 0, blocked := s.blockedSlots, off := !s.flag Reg.FUNC_EN 1,
      idle := idle, memErr := f.2.1 || s.tableErr e eff.2, serve := cfg.serve, prefill := fill, hk := [] }
  let s := { s with seq := { s.seq with
      phase := .running, left := fill + e.counted, hold := 0, placed := false, cur := some run, pend := s.seq.pend ++ [run],
      prev := some cfg, invalid := inv, analog := false, fresh := false,
      anchor := e.asIdle s.cal.round.isSome || e.act = 5 } }
  let s := (((s.detAttach e.gz 0).detAttach e.gz 1).detAttach e.gz 2).detAttach e.gz 3
  s.setFld Reg.SEQ_STAT 0 9 idx

/-! ### The end of a frame -/

/-- No further entry of the frame starts: it was cut, or the sequencer stops (R339, R340, R361). -/
def State.noMoreEntries (s : State) : Bool := s.seq.cut || !s.flag Reg.FUNC_EN 2 || s.asked 3

/-- A frame of a capture of the panel signature ends, complete or cut short: after the 16th the signature is written, or
the capture has failed. A pin's mean is over the slots that those frames have given (R389; log entry 63); while NVMCTL is
disabled no page of it is written (R361). -/
def State.captureFrame (s : State) : State :=
  if s.nvm.op = some .captureSig ∧ 1 ≤ s.nvm.frames then
    let f := s.nvm.frames - 1
    let s := { s with nvm := { s.nvm with frames := f } }
    if f = 0 then
      if s.nvm.bad then { s with nvm := { s.nvm with err := 5 } }
      else { s with nvm := { s.nvm with todo := s.sigSteps, paused := !s.flag Reg.FUNC_EN 7 } }
    else s
  else s

/-- RUN ends when the last row of the frame is written, and ENTRY shows the last entry completed; a completed frame shows
OVR_ROWS and TEST_FAIL (R91, R142, R159, Table 3.14). Table 3.14 gives TEST_FAIL for the last completed frame and Table
14.5 names the INTERNAL row: it shows at the frame's end (DESIGN CHOICE, log entry 71). A pending FUNC_RESET.SEQ is complete (Table 11.14). -/
def State.frameDone (s : State) (completed : Bool) : State :=
  let s := { s with seq := { s.seq with run := false, phase := .stopped, cut := false, noWait := false, left := 0,
                                        hold := 0 },
                    sync := { s.sync with burst := false }, drive := { s.drive with half := none } }
  let s := s.setFld Reg.SEQ_STAT 0 9 s.seq.finished
  let s := if completed then
      (s.setFld Reg.LANE_STAT 0 8 (min 255 s.seq.ovrRows)).setFlag Reg.LANE_STAT 13 s.seq.testFail
    else s
  (s.setFlag Reg.FUNC_RESET 2 false).captureFrame.quiesceCheck

/-- The frame ends if its last entry is done and every row is written. -/
def State.frameCheck (s : State) : State :=
  if s.seq.run && s.seq.pend.isEmpty then
    match s.seq.phase with
    | .running =>
      if s.seq.left = 0 then
        match s.seq.cur with
        | some r =>
          if endsFrame r.idx r.e then s.frameDone true
          else if s.noMoreEntries then s.frameDone false else s
        | none => s
      else s
    | .stopped => s
    | _ => if s.noMoreEntries then s.frameDone false else s
  else s

/-- The rows of the frame in progress are released, and no Caldera frame opens for it (R339). -/
def State.releaseCut (s : State) : State :=
  if s.cald.owed.any (fun o => o.fc == s.seq.fc) then
    let now := s.seq.fc.toNat % 64
    { s with cald := { s.cald with owed := s.cald.owed.filter (fun o => o.fc != s.seq.fc) },
             rowHeld := s.rowHeld.filter (fun r => bits (s.rowWord r 0) 0 6 != now) }
  else s

/-- The rest of the frame is cut after the entry in progress (R339). -/
def State.cutFrame (s : State) : State :=
  if s.seq.run then ({ s.releaseCut with seq := { s.seq with cut := true } }).frameCheck else s

/-! ### The Caldera frame that a row belongs to (R339) -/

/-- A Caldera frame has opened or will open for sequencer frame `fc`. -/
def State.calderaFrameFor (s : State) (fc : Word) : Bool :=
  s.cald.last == some fc || s.cald.owed.any (fun o => o.fc == fc)

end Sys2Proof.Machine
end

