-- ==== Sys2Proof/Machine/Lanes.lean ====
section
/-! DEFINITION. Meanings of the lane, filter and detector events: DRIVE_CHIP, CADENCE_PERIOD, CIC_OUTPUT,
RESAMPLER_OUTPUT, FADE_COMPLETE, GOERTZEL_BLOCK_DONE, HK_CONVERSION_DONE. -/

namespace Sys2Proof.Machine

/-! ### DRIVE_CHIP (R76, R110, R145) -/

/-- A hold chip: a chip of the burst without number, edges or outputs (R145). -/
def State.holdChip (s : State) (u : BitVec 32) : State :=
  let e := s.entryRead s.seq.entry
  let s := s.trackChip (s.snap.profile (s.effective e).2) s.filt.first u
  let s := { s with filt := { s.filt with first := false }, seq := { s.seq with hold := s.seq.hold - 1 } }
  s.becomeReady

/-- Half a chip of preset `f` in CIC outputs, with 24 fraction bits (R78). -/
def State.halfOutputs (s : State) (f : Nat) : Nat := s.snap.half f * fioBy5 * 2 ^ 24 / (s.snap.cdiv * s.tbHz * s.filt.decim)

/-- A chip of the running entry begins: its position, its end, its place among the prefill or counted chips, one invalid
chip fewer; the waveforms stand in its first half (R76, R86). -/
def State.entryChip (s : State) (r : EntryRun) (u : BitVec 32) : State :=
  let prof := s.snap.profile r.profile
  let s := s.trackChip prof s.filt.first u
  let no := s.filt.chip
  let c : Chip :=
    { no := no, pos := s.filt.trkC, counted := decide (r.firstChip + r.prefill ≤ no), run := r.firstChip,
      init := delayBase (orderN r.e.order) (decimD r.e.decim) (profInit prof), fade := none, bank := s.filt.cur,
      after := s.filt.view }
  let chips := if r.off then s.filt.chips else s.filt.chips ++ [c]
  { s with filt := { s.filt with
             first := false, chip := no + 1, chips := chips, ends := s.filt.place u + s.halfOutputs r.freq },
           drive := { s.drive with half := some .first },
           seq := { s.seq with left := s.seq.left - 1, invalid := s.seq.invalid - 1 } }

/-- The sequencer drives one chip: a hold chip before the entry, or the entry's next chip. -/
def State.driveChip (s : State) (u : BitVec 32) : State :=
  match s.seq.phase, s.seq.cur with
  | .ready, _ => if 0 < s.seq.hold then s.holdChip u else s
  | .running, some r => if 0 < s.seq.left then s.entryChip r u else s
  | _, _ => s

/-- DRIVE_CHIP: `u` is the measured position of the chip's centre on the CIC timeline (R110). -/
def execDriveChip (u : BitVec 32) (s : State) : Host.Outcome State Fault Refusal :=
  .next (if s.mainUp then s.driveChip u else s)

/-! ### CADENCE_PERIOD (R68 to R71, R103) -/

/-- A clip of a lane is noted, and makes the block of a detector dirty that has sampled the lane in the chip; a hold chip
gives no samples, and the chip before it stays clean (R69, R91, R134, R145). -/
def State.clip (s : State) (n : Nat) (high : Bool) : State :=
  let hold : Bool := s.seq.phase = .ready
  let s := { s with filt := { s.filt with sats := noteSat s.filt.sats ⟨s.chipNow, n, high, hold⟩ } }
  if hold then s else (((s.detDirty n 0).detDirty n 1).detDirty n 2).detDirty n 3

/-- The sum of code values when a drive edge of a MODE 1 entry falls in the period; in prefill the drive rests and has no
edges (R71, R76). -/
def State.edgeSum (s : State) (edge : Option Half) : Option Int :=
  match s.running with
  | some r => if edge.isSome && r.e.act = 1 && s.inCounted r then some (s.driveSum r.roles r.e.code) else none
  | none => none

/-- The run that counts demodulated bits: an INTERNAL test in a counted chip, up to the end of the last one (R98). -/
def State.countRun (s : State) : Option Nat :=
  match s.running with
  | some r => if r.e.internal && s.inCounted r && !s.chipsOver then some r.firstChip else none
  | none => none

/-- The lanes are disconnected from their pins: an INTERNAL test runs, or the chips before the next entry hold its roles
(R58, R98). -/
def State.internalNow (s : State) : Bool := match s.seq.phase, s.seq.cur, s.seq.prev with
  | .running, some r, _ => r.e.internal
  | .ready, _, some p => p.inTest
  | _, _, _ => false

/-- The edge that a period brings: only chips of an entry have edges (R145). -/
def State.edgeNow (s : State) (edge : Option Half) : Option Half := if s.running.isSome then edge else none

/-- A transient fault of a lane or of an electrode's connection lasts one cadence period (log entry 17). -/
def State.laneTransients (s : State) : State := s.passFaults (fun
  | .lane _ _ | .electrode _ _ => true
  | _ => false)

/-- The half of the chip that the waveforms stand in after an edge of the running entry (R76, R86). -/
def State.waveHalf (s : State) (edge : Option Half) : Option Half := (s.edgeNow edge).or s.drive.half

/-- One cadence period of all lanes. -/
def State.cadence (s : State) (h : Half) (edge : Option Half) (q : List Int) : State :=
  let roles := s.rolesNow
  let edge := s.edgeNow edge
  let w := s.edgeSum edge
  let res := Vector.ofFn (fun i : Fin 164 =>
    s.laneCadence roles s.gainNow s.countRun s.internalNow h edge w q i.val (s.lanes.get i))
  let s := { s with lanes := res.map Prod.fst, filt := { s.filt with cad := s.filt.cad + 1 },
                    drive := { s.drive with half := s.waveHalf edge } }
  let s := s.laneTransients
  (List.range 164).foldl (fun s n =>
    match (res.toList.map Prod.snd).getD n none with
    | some high => s.clip n high
    | none => s) s

/-- CADENCE_PERIOD: `h` the half of the chip in force, `edge` the drive or excitation edge that falls in the period, named
by the half it begins, `q` the charge that settles in each of the 164 lanes in units of 1/3200 pC. Nothing happens while
the filters are stopped in a handshake (Table 11.4). -/
def execCadencePeriod (h : Half) (edge : Option Half) (q : List Int) (s : State) : Host.Outcome State Fault Refusal :=
  .next (if s.mainUp && !s.agreed 4 then s.cadence h edge q else s)

/-! ### CIC_OUTPUT (R103, R368, R134) -/

/-- One CIC output of a lane: combs, scaling, calibration factors, the history of eight outputs. -/
def State.laneOutput (s : State) (n : Nat) (l : Lane) : Lane :=
  let i := nth l.int (s.filt.order - 1) 0
  let c := combs s.filt.order i l.comb
  let y := cicScale s.filt.order s.filt.decim (combExact c.1 l.d)
  let y := correct y (s.snap.tab Win.CALF (2 * n)) (s.snap.tab Win.CALF (2 * n + 1))
  { l with comb := c.2, hist := ((s.decimatorFault n).getD (BitVec.ofInt 24 y) :: l.hist).take 8, inv := l.inv - 1 }

/-- The decimators of all lanes take an output; the detectors take it as a sample from the start of the first counted
chip to the end of the last one (R133). -/
def State.cicOutput (s : State) : State :=
  let inv := s.lanes.toList.map (fun l => decide (0 < l.inv))
  let lanes := Vector.ofFn (fun i : Fin 164 => s.laneOutput i.val (s.lanes.get i))
  let ys := lanes.toList.map (fun l => (nth l.hist 0 0).toInt)
  let s := ({ s with lanes := lanes, filt := { s.filt with cic := s.filt.cic + 1 } } : State).passFaults (fun
    | .decimator _ _ => true
    | _ => false)
  match s.running with
  | some r =>
    if s.inCounted r && !s.samplesOver then
      (((s.detSample ys inv 0).detSample ys inv 1).detSample ys inv 2).detSample ys inv 3
    else s
  | none => s

/-- CIC_OUTPUT: due once cadence index (m + 1)·D − 1 has passed (R105). -/
def execCicOutput (s : State) : Host.Outcome State Fault Refusal :=
  .next (if s.mainUp && !s.agreed 4 && decide ((s.filt.cic + 1) * s.filt.decim ≤ s.filt.cad) then s.cicOutput else s)

/-! ### RESAMPLER_OUTPUT (R112, R126, R141) -/

/-- By how many outputs, modulo 256, the newest CIC output is past floor(a). -/
def State.outputLag (s : State) (c : Chip) (n : Nat) : Nat :=
  (s.filt.cic + 255 + 256 - (s.outPos c n).toNat / 2 ^ 24) % 256

/-- CIC output floor(a) exists: positions count modulo 256, and the nearer reading is taken (R105, R112). -/
def State.outputDue (s : State) (c : Chip) (n : Nat) : Bool := decide (s.outputLag c n < 128)

/-- The output of lane `n` for chip `c`, added to the accumulator of its entry when the chip is counted. -/
def State.laneResample (s : State) (n : LaneId) (c : Chip) : State :=
  let b := if s.filt.edge ≤ c.no then s.fixBlend c else (c, s)
  let c := b.1
  let s := b.2
  let l := s.lanes.get n
  let p := (s.outPos c n.val).toNat / 2 ^ 19 % 32
  let lag := s.outputLag c n.val
  let y := match s.resamplerFault n.val with
    | some v => v.toInt
    | none => s.output c p (s.tapsAt l.hist lag)
  let acc := if c.counted then aset l.acc c.run ((alook l.acc c.run).getD 0 + y) else l.acc
  let s := { s with
    filt := { s.filt with chips := s.filt.chips.map (fun d : Chip => if d.no = c.no then c else d),
                          shown := if s.filt.out ≤ c.no then c.after else s.filt.shown, out := max s.filt.out (c.no + 1) },
    lanes := s.lanes.set n { l with acc := acc, next := c.no + 1 }, freeCtr := s.freeCtr + (if lag = 0 then 0 else 8) }
  (s.pruneChips.becomeReady).passFaults (fun
    | .resampler m _ => decide (m = n)
    | _ => false)

/-- RESAMPLER_OUTPUT: lane `n` computes its output for the next chip once the CIC output floor(a) exists. -/
def execResamplerOutput (n : LaneId) (s : State) : Host.Outcome State Fault Refusal :=
  .next (match s.nextChip (s.lanes.get n) with
    | some c => if s.mainUp && !s.agreed 4 && s.outputDue c n.val then s.laneResample n c else s
    | none => s)

/-! ### FADE_COMPLETE, GOERTZEL_BLOCK_DONE, HK_CONVERSION_DONE -/

/-- FADE_COMPLETE: after the last output of a fade its target is current (R126, R127). -/
def execFadeComplete (s : State) : Host.Outcome State Fault Refusal :=
  .next (if s.mainUp then s.fadeSettle else s)

/-- GOERTZEL_BLOCK_DONE of detector `k`: on the B-th sample (R134). -/
def execGoertzelBlockDone (k : Fin 4) (s : State) : Host.Outcome State Fault Refusal :=
  .next (if s.mainUp && !s.agreed 4 then s.detDone k else s)

/-- The value of a channel: VPUMP reads 0 while the pump is stopped (Table 5.7). -/
def State.hkValue (s : State) (ch : Nat) (v : Word) : Word := if ch = 6 && !s.drive.pump then 0 else v

/-- A conversion of the running MODE 5 entry before its end, channels in slot order; channel 0 updates TEMP. A conversion
still in progress at the entry's end is dropped, that of channel 0 with no update of TEMP: the spec does not say whether
it runs on (R155, R156; DESIGN CHOICE, log entry 52). -/
def State.hkDone (s : State) (ch : Nat) (v : Word) : State :=
  match s.running with
  | some r =>
    if r.e.act = 5 ∧ ch = r.hk.length ∧ !s.chipsOver then
      let r' := { r with hk := r.hk ++ [s.hkValue ch v] }
      let pend := s.seq.pend.map (fun p => if p.firstChip = r.firstChip then r' else p)
      let s := { s with seq := { s.seq with cur := some r', pend := pend } }
      if ch = 0 then s.tempUpdate v else s
    else s
  | none => s

/-- HK_CONVERSION_DONE: a conversion of a MODE 5 entry, or the temperature conversion of a self-calibration, whose update of
TEMP triggers no round (R371, R374). -/
def execHkConversionDone (ch : Fin 7) (v : Word) (s : State) : Host.Outcome State Fault Refusal :=
  .next (
    if s.mainUp then
      if s.calBusy then (if ch = 0 then s.tempUpdate v else s) else s.hkDone ch.val v
    else s)

end Sys2Proof.Machine
end

