-- ==== Sys2Proof/Machine/Rows.lean ====
section
/-! DEFINITION. Writing a row of the result store: slots, the INTERNAL check, the row status word, release and capture
(R25 to R27, R87, R98, R117, R151, R389, R421). -/

namespace Sys2Proof.Machine

/-! ### Slots -/

/-- The formatter (R117). -/
def formatSlot (align signed : Bool) (v : Int) : Word :=
  let w := if align then asr v 8 else v
  if signed then iword (clampI w (-32767) 32766) else iword (clampI w 0 65534)

/-- The overrange code (R87). -/
def overCode (signed : Bool) (signs : List Bool) : Word :=
  if !signed then 0xFFFF else if signs.all id then 0x7FFF else 0x8000

/-- The signs of the saturations that reach a counted chip of an entry for a lane (R87). -/
def State.entrySigns (s : State) (r : EntryRun) (lane : Nat) : List Bool :=
  (List.range r.counted).flatMap (fun i => dirtySigns s.filt.sats lane (r.firstChip + r.prefill + i))

/-- The lane whose result goes into slot `n` of an entry (R92, R98). -/
def EntryRun.slotLane (r : EntryRun) (n : Nat) : Nat :=
  if !r.e.internal && nth r.serve (n / 40) 255 = n then 160 + n / 40 else n

/-- A slot of a converting lane: the formatted sum, or the overrange code. -/
def State.convSlot (s : State) (r : EntryRun) (lane : Nat) : Word × Bool :=
  let signed := r.e.signed && !r.e.internal
  let signs := s.entrySigns r lane
  if !signs.isEmpty then (overCode signed signs, true)
  else
    let sum := (s.accumulatorFault lane).getD ((alook (s.lanes.toList.getD lane Lane.reset).acc r.firstChip).getD 0)
    (formatSlot r.e.align signed (asr sum r.e.shift), false)

/-- A word is an overrange code of the row's format; no value of the formatter is one (R87, R117). -/
def EntryRun.isOver (r : EntryRun) (w : Word) : Bool :=
  if r.e.signed && !r.e.internal then w == 0x7FFF || w == 0x8000 else w == 0xFFFF

/-- Slot `n` of a row, whether it holds the overrange code, whether it keeps a previous value. The slots of a group in
block mode keep theirs in every row, but for those that hold no lane's result (R375, R377; log entry 26). -/
def State.slot (s : State) (r : EntryRun) (n : Nat) : Word × Bool × Bool :=
  let keep := s.rowWord r.idx (1 + n)
  if r.e.act = 5 && decide (n < 7) then (match r.hk[n]? with
    | some v => (v, false, false)
    | none => (keep, false, true))
  else if r.e.act = 7 && n == 0 then (r.slot0, false, false)
  else if r.blocked.contains n then (keep, r.isOver keep, true)
  else if r.e.act = 5 || r.e.act = 7 then (0, false, false)
  else if r.off || r.idle then (0, false, true)
  else
    let lane := r.slotLane n
    if (nth r.roles lane .ground).converts then
      let c := s.convSlot r lane
      (c.1, c.2, false)
    else (0, false, false)

/-! ### The INTERNAL check (R98, R99, R421, R422) -/

/-- The count of a lane in a run. -/
def State.count (s : State) (r : EntryRun) (n : Nat) : Int :=
  (alook (s.lanes.toList.getD n Lane.reset).cnt r.firstChip).getD 0

/-- A fault of a lane behind its converter, in decimator, resampler or accumulation, which the INTERNAL check finds: a
lasting one, or one of the accumulation in this row. R98 does not say where in the lane the check takes its count; Table
14.3 has it find every fault of the lane (R417, DEDUCED, log entry 64). -/
def State.stageFault (s : State) (n : Nat) : Bool :=
  s.fmon.faults.any (fun f => match f.1 with
    | .decimator m _ | .resampler m _ => !f.2 && decide (m.val = n)
    | .accumulator m _ => decide (m.val = n)
    | _ => false)

/-- A lane passes if it does not saturate, its count is within 12.5 % of 144 × chips / 2^GAIN, and the stages behind its
converter are sound (R98, R417). -/
def State.lanePasses (s : State) (r : EntryRun) (n : Nat) : Bool :=
  let total := r.prefill + r.counted
  let sat := s.filt.sats.any (fun t =>
    t.lane == n && !t.hold && decide (r.firstChip ≤ t.chip) && decide (t.chip < r.firstChip + total))
  let e : Int := 144 * r.counted
  !sat && !s.stageFault n && decide (8 * (s.count r n * 2 ^ r.e.gain - e).natAbs ≤ e.natAbs)

/-- A lane that fails the check is held failed; a reserve lane substitutes from the next frame start if it can
(R421, R422, Table 14.4). -/
def State.laneFails (s : State) (r : EntryRun) (n : Nat) : State :=
  let s := { s with seq := { s.seq with testFail := true } }
  if !s.snap.flag Reg.FAULT_EN 15 || s.fmon.failed.contains n then s
  else
    let g := n / 40
    let detail := word (clampI (s.count r n) 0 0x7FFF).toNat
    let s := { s with fmon := { s.fmon with failed := s.fmon.failed ++ [n] } }
    let s := s.setFlag Reg.FAULT_STAT 15 true
    let event (out : Nat) (counted : Bool) : FaultEvent :=
      { cls := FaultClass.LANE, outcome := out, elem := n, detail := detail, subst := 0xFFFF, counted := counted }
    if n < 160 then
      let free := (match s.reserveUse g with
        | .fault _ => false
        | _ => true) && !s.fmon.failed.contains (160 + g) && !s.fmon.toSub.any (fun m => m / 40 == g)
      if s.snap.flag Reg.FAULT_EN 14 && free then
        { s with fmon := { s.fmon with toSub := s.fmon.toSub ++ [n] } }.faultEvent (event 0 false)
      else (s.setFlag Reg.FAULT_STAT 5 true).faultEvent (event 1 true)
    else
      let t := match s.reserveUse (n - 160) with
        | .fault _ => s.setFlag Reg.FAULT_STAT 5 true
        | _ => s
      t.faultEvent (event 1 true)

/-- The lanes that convert their test capacitors and fail the check. -/
def State.failingLanes (s : State) (r : EntryRun) : List Nat :=
  (List.range 164).filter (fun n => nth r.roles n .ground = .self && !s.lanePasses r n)

/-- The check of every lane that converts its test capacitor; what it found is kept for the frames that may still be
judged, of which there are at most a few (R98, R423). -/
def State.internalCheck (s : State) (r : EntryRun) : State :=
  if r.e.internal && !r.idle then
    let bad := s.failingLanes r
    let s := { s with fmon := { s.fmon with tests := (aset s.fmon.tests r.fc.toNat bad).drop (s.fmon.tests.length - 7) } }
    bad.foldl (fun s n => s.laneFails r n) s
  else s

/-- A failed lane that no reserve lane serves took a working role in the entry, or a word the entry read was in error
(Table 5.6, R425). -/
def State.rowFault (s : State) (r : EntryRun) : Bool :=
  r.memErr || (!(r.e.act = 0 || r.e.act = 5 || r.e.act = 7) &&
    s.fmon.failed.any (fun n =>
      (match nth r.roles n .ground with
        | .drive | .sense | .self => true
        | _ => false) && !(decide (n < 160) && nth r.serve (n / 40) 255 == n)))

/-! ### The row -/

/-- A slot of a row as the entry's SIGNED field gives it. -/
def slotVal (e : Entry) (w : Word) : Int := if e.signed then w.toInt else w.toNat

/-- The row status word (Table 5.6). -/
def rowStatus (ovr settle stale lost overrun fault : Bool) (scount : Nat) (fc : Word) : Word :=
  word (bitAt 15 ovr + bitAt 14 settle + bitAt 13 stale + bitAt 12 lost + bitAt 11 overrun + bitAt 10 fault +
    min 15 scount * 64 + fc.toNat % 64)

/-- A capture of the panel signature takes the slots of the first MODE 3 entry of the frame in which a pin has role SELF;
an overrange code, STALE or SETTLE fails it (R389). -/
def State.captureRow (s : State) (r : EntryRun) (bad : Bool) (overs : List Bool) : State :=
  if s.nvm.op = some .captureSig ∧ 1 ≤ s.nvm.frames ∧ s.nvm.frames ≤ 16 ∧ r.e.act = 3 then
    let mine := (List.range 160).filter (fun n =>
      s.snap.role r.e n = .self &&
      !(List.range r.idx).any (fun j => (s.snap.entry j).act = 3 && s.snap.role (s.snap.entry j) n = .self))
    let sums := mine.foldl (fun (m : List (Nat × Int)) n =>
      let m := aset m n ((alook m n).getD 0 + slotVal r.e (s.rowWord r.idx (1 + n)))
      aset m (256 + n) ((alook m (256 + n)).getD 0 + 1)) s.nvm.sums
    let fails := !mine.isEmpty && (bad || mine.any (fun n => nth overs n false))
    { s with nvm := { s.nvm with sums := sums, bad := s.nvm.bad || fails } }
  else s

/-- Saturations that reach no chip still to be judged are forgotten, and the lanes drop the sums of the written run. -/
def State.rowForget (s : State) (r : EntryRun) : State :=
  let lo := match s.seq.pend with
    | p :: _ => p.firstChip
    | [] => s.filt.chip
  { s with filt := { s.filt with sats := s.filt.sats.filter (fun t => lo ≤ t.chip + 3) },
           lanes := s.lanes.map (fun l => { l with acc := adel l.acc r.firstChip, cnt := adel l.cnt r.firstChip }) }

/-- The whole row at once: slots first, the status word last, then the complete flag (R25). -/
def State.putRow (s : State) (r : EntryRun) (overrun : Bool) : State :=
  let s := s.internalCheck r
  let slots := (List.range 160).map (s.slot r)
  let overs := slots.map (fun w => w.2.1)
  let ovr := overs.any id
  let stale := slots.any (fun w => w.2.2)
  let settle := decide (0 < r.invalid) || r.noPump
  let st := rowStatus ovr settle stale r.lost overrun (s.rowFault r) r.invalid r.fc
  let s := (s.setTabs Win.RESULT (161 * r.idx) (st :: slots.map Prod.fst)).rewriteRange .result (161 * r.idx)
    (161 * r.idx + 161)
  let s := { s with seq := { s.seq with ovrRows := s.seq.ovrRows + ovr.toNat } }
  let held := if s.calderaFrameFor r.fc then addOnce s.rowHeld r.idx else s.rowHeld.filter (· != r.idx)
  ({ s with rowDone := addOnce s.rowDone r.idx, rowHeld := held }).captureRow r (stale || settle) overs

/-- A row that the transaction in progress has read begins to be rewritten (R154, R323). -/
def State.raceMark (s : State) (k : Nat) : State :=
  match s.port.txn with
  | some t =>
    if t.read.contains k then { s with port := { s.port with txn := some { t with redone := addOnce t.redone k } } }
    else s
  | none => s

/-- The entry whose row comes next has driven its chips and every lane has given its outputs; a MODE 5 entry and an
INTERNAL test, which is checked over the whole entry, have also ended (R25, R98, R156). -/
def State.rowReady (s : State) (r : EntryRun) : Bool :=
  (match s.running with
    | some c => !(c.firstChip == r.firstChip) || (s.seq.left == 0 && ((r.e.act != 5 && !r.e.internal) || s.chipsOver))
    | none => true) && s.filt.chips.all (fun c => c.run != r.firstChip)

/-- The oldest row that waits is written; with it the frame may end. `overrun` says that the release was not seen. -/
def State.rowWrite (s : State) (r : EntryRun) (rest : List EntryRun) (overrun : Bool) : State :=
  let s := (s.raceMark r.idx).putRow r overrun
  let s := { s with seq := { s.seq with pend := rest, finished := r.idx } }
  let s := (s.rowForget r).passFaults (fun
    | .accumulator _ _ => true
    | _ => false)
  s.frameCheck

/-- OVERRUN as the sequencer sees it: an unreleased result, or, when the release and the overwrite fall within two
timebase periods, an outcome the spec leaves open (R26, R27). -/
def State.overrunSeen (s : State) (row : Nat) (racing : Bool) : Bool × State :=
  if s.rowHeld.contains row then (true, s) else if racing then s.drawBit else (false, s)

/-- ROW_WRITE: `racing` says that the row's release falls within two timebase periods of the overwrite (R27). -/
def execRowWrite (racing : Bool) (s : State) : Host.Outcome State Fault Refusal :=
  .next (match s.seq.pend with
    | r :: rest =>
      if s.mainUp && s.rowReady r then
        let o := s.overrunSeen r.idx racing
        o.2.rowWrite r rest o.1
      else s
    | [] => s)

end Sys2Proof.Machine
end

