-- ==== Sys2Proof/Machine/Operands.lean ====
section
/-! DEFINITION. Operand forms of the Caldera: registers, predicates, effective addresses, saturation, the flow of a
cell's program, and the values a cell takes in and gives out (R173 to R182). -/

namespace Sys2Proof.Machine

/-! ### Registers and predicates of a cell (Table 6.1, R178) -/

/-- Register r; x0 reads 0. -/
def Cell.get (c : Cell) (r : XReg) : Data := if r.val = 0 then 0 else c.x.get r

/-- Write register r; a write of x0 is ignored. -/
def Cell.put (c : Cell) (r : XReg) (v : Data) : Cell := if r.val = 0 then c else { c with x := c.x.set r v }

/-- Accumulator d[0]. -/
def Cell.acc (c : Cell) (r : XReg) : Acc := if r.val % 2 = 0 then c.a0 else c.a1

/-- Write accumulator d[0]. -/
def Cell.setAcc (c : Cell) (r : XReg) (v : Acc) : Cell :=
  if r.val % 2 = 0 then { c with a0 := v } else { c with a1 := v }

/-- Predicate r[1:0]; index 0 reads as 1 (Table 6.4, PAND). -/
def Cell.predBit (c : Cell) (r : XReg) : Bool := match r.val % 4 with
  | 1 => c.p1
  | 2 => c.p2
  | 3 => c.p3
  | _ => true

/-- Write predicate d[1:0]; d[1:0] names P1 to P3, and index 0 names none. -/
def Cell.setPred (c : Cell) (r : XReg) (v : Bool) : Cell := match r.val % 4 with
  | 1 => { c with p1 := v }
  | 2 => { c with p2 := v }
  | 3 => { c with p3 := v }
  | _ => c

/-- The condition of PRED holds (R178). -/
def Cell.holds (c : Cell) : Pred → Bool
  | .always => true
  | .ifP1 => c.p1
  | .ifP2 => c.p2
  | .ifP3 => c.p3
  | .notP1 => !c.p1
  | .notP2 => !c.p2
  | .notP3 => !c.p3

/-! ### Values -/

/-- Clamp to −0x800000 … 0x7FFFFF (R180). -/
def sat24 (x : Int) : Data := BitVec.ofInt 24 (clampI x (-0x800000) 0x7FFFFF)

/-- A condition as a signed comparison of two data words. -/
def signedLt (a b : Data) : Bool := decide (a.toInt < b.toInt)

/-- The signed minimum. -/
def minS (a b : Data) : Data := if signedLt b a then b else a

/-- The signed maximum. -/
def maxS (a b : Data) : Data := if signedLt a b then b else a

/-- The median of three signed values. -/
def med3 (x a b : Data) : Data := maxS (minS a b) (minS (maxS a b) x)

/-- RACC: add half of the last place, shift right by s, saturate; no rounding when s = 0 (Table 6.4). -/
def raccValue (acc : Acc) (s : Nat) : Data :=
  if s = 0 then sat24 acc.toInt else sat24 (asr (acc.toInt + 2 ^ (s - 1)) s)

/-- The product of two data words in an accumulator's width. -/
def mulAcc (a b : Data) : Acc := BitVec.ofInt 56 (a.toInt * b.toInt)

/-- The effective address of format M (Table 6.2). -/
def effAddr (c : Cell) (b : XReg) (idx : Bool) (addr : BitVec 12) : Nat :=
  if idx then (addr.toNat + (c.get b).toNat) % 4096 else addr.toNat

/-- The effective word address of format G: plus b, modulo 2^24, when IDX = 1 (Table 6.2). -/
def winEff (c : Cell) (b : XReg) (idx : Bool) (addr : Word) : Nat :=
  if idx then (addr.toNat + (c.get b).toNat) % 2 ^ 24 else addr.toNat

/-- The effective word of format P: plus b[7:0] when IDX = 1 (Table 6.2, R182). -/
def rowEff (c : Cell) (b : XReg) (idx : Bool) (w : Byte) : Nat :=
  if idx then w.toNat + (c.get b).toNat % 256 else w.toNat

/-- The windows that GETW reads (Table 6.4). -/
def getwWindow (code : Nat) : Bool := code = 1 || (3 ≤ code && code ≤ 8) || (12 ≤ code && code ≤ 14)

/-! ### The flow of a cell's program (R180 LOOP) -/

/-- The address after the instruction at `pc`, and the loops still running: the body's last instruction goes back to its
first while passes are left. -/
def flow (pc : Nat) : List LoopFrame → Nat × List LoopFrame
  | [] => (pc + 1, [])
  | l :: t =>
    if l.last = pc then
      if 1 < l.left then (l.start, { l with left := l.left - 1 } :: t) else flow pc t
    else (pc + 1, l :: t)

/-- The instruction completes: the cell goes on with the next one. -/
def Cell.advance (c : Cell) : Cell :=
  let f := flow c.pc c.loops
  { c with pc := f.1, loops := f.2, st := .run }

/-! ### Cells in the state -/

/-- Logical cell c. -/
def State.cell (s : State) (c : CellId) : Cell := s.cald.cells.get c

/-- Replace logical cell c. -/
def State.setCell (s : State) (c : CellId) (v : Cell) : State :=
  { s with cald := { s.cald with cells := s.cald.cells.set c v } }

/-- A lasting fault has stopped a physical cell (R417). -/
def State.cellHalted (s : State) (p : PhysId) : Bool := s.fmon.faults.any (fun f => !f.2 && (match f.1 with
  | .halt c => decide (c = p)
  | _ => false))

/-- Cell c issues an instruction now: its frame is open, its last instruction has completed, and no fault stops it
(R179, R417). -/
def State.issues (s : State) (c : CellId) : Bool :=
  s.mainUp && s.cald.isOpen && (s.cell c).st = .run && !s.cellHalted (s.cald.map.get c)

/-- The frame's discard flag is set (R185). -/
def State.setDiscard (s : State) : State := { s with cald := { s.cald with discard := true } }

/-- A cell reads a protected word: a double-bit error sets the discard flag (R175, R425). Answers the inverted bits. -/
def State.cellRead (s : State) (m : MemId) (addr : Nat) : Nat × State :=
  let r := s.readErr m addr
  (r.1, if r.1 = 0 then r.2 else r.2.setDiscard)

/-- The word that cell c fetches at its address: corrected, or after a double-bit error as it was read (R175). -/
def State.fetched (s : State) (c : CellId) : Code :=
  let a := (s.cell c).pc % 2048
  s.imemRead (s.phys c) a ^^^ BitVec.ofNat 48 (s.readErr (.imem (s.cald.map.get c)) a).1

/-- Cell c issues command `i` now: it is the instruction that the word it fetches spells (R177, R179). -/
def State.runs (s : State) (c : CellId) (i : Instr) : Bool := s.issues c && decodeCell c (s.fetched c) == some i

/-- The fetch of the instruction at the cell's address (R175). -/
def State.fetchErr (s : State) (c : CellId) : State := (s.cellRead (.imem (s.cald.map.get c)) ((s.cell c).pc % 2048)).2

/-- A DMEM word that a cell loads. -/
def State.loadData (s : State) (c : CellId) (a : Nat) : Data × State :=
  let r := s.cellRead (.dmem (s.cald.map.get c)) (a % 4096)
  (s.ldmem c a ^^^ BitVec.ofNat 24 r.1, r.2)

/-- DMEM words one after another, their low 16 bits. -/
def State.loadWords (s : State) (c : CellId) (a : Nat) : Nat → List Word × State
  | 0 => ([], s)
  | n + 1 =>
    let r := s.loadWords c a n
    let d := r.2.loadData c (a + n)
    (r.1 ++ [d.1.setWidth 16], d.2)

/-! ### Outgoing values and the shadow (R197, R198, R417) -/

/-- What the faults of a physical cell exclusive-or onto its outgoing values. -/
def State.cellMask (s : State) (p : PhysId) : Data :=
  s.fmon.faults.foldl (fun m f => match f.1 with
    | .cell c k => if c = p then m ^^^ k else m
    | _ => m) 0

/-- Transient faults of a physical cell end with the token that they altered or held back; `full` says that the token
carries a value (log entry 17). -/
def State.cellTransients (s : State) (p : PhysId) (full : Bool) : State := s.passFaults (fun
  | .cell c _ => full && decide (c = p)
  | .halt c => decide (c = p)
  | _ => false)

/-- What the faults of a physical cell's intake port exclusive-or onto the words it takes in. -/
def State.intakeMask (s : State) (p : PhysId) : Word :=
  s.fmon.faults.foldl (fun m f => match f.1 with
    | .intake c k => if c = p then m ^^^ k else m
    | _ => m) 0

/-- A physical cell gives no token now: a fault has stopped it for good, or for one token. -/
def State.mute (s : State) (p : PhysId) : Bool := s.fmon.faults.any (fun f => match f.1 with
  | .halt c => decide (c = p)
  | _ => false)

/-- A token of the shadowed cell and the spare's differ: MISMATCH and the discard flag are set, and the pair of cells is
noted for the takeover (R198). -/
def State.mismatch (s : State) (c : CellId) : State :=
  let s := (((s.setFlag Reg.SCHED_STAT 12 true).raise Irq.SCHED).setDiscard)
  { s with cald := { s.cald with suspect := some (s.cald.suspect.getD c) } }

/-- A token of the shadowed cell c that the spare does not give yet waits in the buffer; more than 64 of them are a
mismatch (R198). -/
def State.spareLags (s : State) (c : CellId) (t : Token) : State :=
  let l := s.cald.lag ++ [t]
  let u := { s with cald := { s.cald with lag := l } }
  if 64 < l.length then u.mismatch c else u

/-- The faults of cell p alter a token as the shadowed cell's have. -/
def State.altersAs (s : State) (p : PhysId) (t : Token) : Bool := t.all (fun w => w.altered == s.cellMask p &&& w.bits)

/-- The spare q has caught up: the tokens of the shadowed cell c that wait and the one given now meet the spare's. Once an
intake port has given the two cells different words, whether a token shows it hangs on what the cells compute from them,
and the outcome is free (R197, R198; log entry 17). -/
def State.spareCompares (s : State) (c : CellId) (q : PhysId) (t : Token) : State :=
  let u := { s with cald := { s.cald with lag := [] } }
  let d := if s.cald.astray then u.drawBit else (false, u)
  if (s.cald.lag ++ [t]).all (s.altersAs q) && !d.1 then d.2 else d.2.mismatch c

/-- A token leaves cell c: each word, with the bits that it carries, is altered by the faults of the physical cell, and
the token is compared with the spare's while the cell is shadowed. What an instruction gives out is one token, a store
with its address and a record or entry whole among them; a null token has no words (R181, R197, R198; DEDUCED, log entry
65). -/
def State.token (s : State) (c : CellId) (ws : List (Data × Data)) : List Data × State :=
  let p := s.cald.map.get c
  let k := s.cellMask p
  let t : Token := ws.map (fun w => ⟨w.1, k &&& w.1⟩)
  let full := !ws.isEmpty
  let s' := match s.cald.shadow, s.cald.spare with
    | some l, some q =>
      if l = c then (if s.mute q then s.spareLags c t else s.spareCompares c q t).cellTransients q full else s
    | _, _ => s
  (ws.map (fun w => w.2 ^^^ (k &&& w.1)), s'.cellTransients p full)

/-- A word that the intake port of cell c takes in, altered by the port's faults; where the spare shadows the cell, the two
no longer hold the same values if their ports altered it differently (R197, R417). -/
def State.takenIn (s : State) (c : CellId) (v : Word) : Word × State :=
  let p := s.cald.map.get c
  let k := s.intakeMask p
  let differs := match s.cald.shadow, s.cald.spare with
    | some l, some q => decide (l = c) && s.intakeMask q != k
    | _, _ => false
  let s := if differs then { s with cald := { s.cald with astray := true } } else s
  (v ^^^ k, s.passFaults (fun
    | .intake q _ => decide (q = p)
    | _ => false))

/-! ### Running an instruction -/

/-- Instruction `i` of cell c, which changes only its cell, under its predicate; a false predicate changes nothing but the
address (R178). -/
def State.cellOp (s : State) (c : CellId) (i : Instr) (p : Pred) (f : Cell → Cell) : State :=
  if s.runs c i then
    let s := s.fetchErr c
    let x := s.cell c
    s.setCell c (if x.holds p then f x else x).advance
  else s

/-- An instruction of cell c that writes register d. -/
def State.cellReg (s : State) (c : CellId) (i : Instr) (p : Pred) (d : XReg) (f : Cell → Data) : State :=
  s.cellOp c i p (fun x => x.put d (f x))

/-- An instruction of cell c that writes predicate d[1:0]. -/
def State.cellPred (s : State) (c : CellId) (i : Instr) (p : Pred) (d : XReg) (f : Cell → Bool) : State :=
  s.cellOp c i p (fun x => x.setPred d (f x))

/-- An instruction of cell c that writes accumulator d[0]. -/
def State.cellAcc (s : State) (c : CellId) (i : Instr) (p : Pred) (d : XReg) (f : Cell → Acc) : State :=
  s.cellOp c i p (fun x => x.setAcc d (f x))

/-- The instruction of cell c completes. -/
def State.cellAdvance (s : State) (c : CellId) : State := s.setCell c (s.cell c).advance

/-- Instruction `i` of cell c, which acts beyond its cell, under its predicate. -/
def State.cellAct (s : State) (c : CellId) (i : Instr) (p : Pred) (f : State → State) : State :=
  if s.runs c i then
    let s := s.fetchErr c
    (if (s.cell c).holds p then f s else s).cellAdvance c
  else s

/-- EMIT or ERING `i` of cell c: with a false condition a null token goes to the emit port (R181). -/
def State.cellEmit (s : State) (c : CellId) (i : Instr) (p : Pred) (f : State → State) : State :=
  if s.runs c i then
    let s := s.fetchErr c
    (if (s.cell c).holds p then f s else (s.token c []).2).cellAdvance c
  else s

/-- Cell c blocks on what it waits for. -/
def State.cellBlock (s : State) (c : CellId) (w : CellState) : State := s.setCell c { s.cell c with st := w }

end Sys2Proof.Machine
end

