-- ==== Sys2Proof/Machine/Ring.lean ====
section
/-! DEFINITION. The Sinter ring: writing entries at a commit, the read pointer, the mark and the rewind (R296 to R304). -/

namespace Sys2Proof.Machine

/-- Write one entry at WR (R298) and judge the mark (R300). -/
def State.ringWrite (s : State) (e : Vector Word 4) : State :=
  let r := s.ring
  let s := (s.setTabs Win.RING (4 * r.wr.toNat) e.toList).rewriteRange .ring (4 * r.wr.toNat) (4 * r.wr.toNat + 4)
  let full : Bool := r.u = 4096
  let lost : Bool := r.mark.isSome && r.since = 4096
  let s := if full then s.setFlag Reg.RING_WR 15 true else s
  let s := if lost then s.setFlag Reg.RING_STAT 14 true else s
  { s with ring := { r with
      wr := r.wr + 1
      rd := if full then r.rd + 1 else r.rd
      u := if full then 4096 else r.u + 1
      wrapped := r.wrapped || r.wr = 4095
      mark := if lost then none else r.mark
      since := r.since + 1
      count := min 4096 (r.count + 1) } }

/-- The number of valid entries, those written since the last clear, and the oldest of them: at WR once 4096 have been
written, and entry 0 before that after a reset (R298, R303; log entry 47). -/
def Ring.valid (r : Ring) : Nat := r.count
def Ring.oldest (r : Ring) : BitVec 12 := r.wr - BitVec.ofNat 12 r.count

/-- A write of RING_RD; a position outside the valid entries takes the oldest valid entry (R299). -/
def State.ringSetRd (s : State) (v : Word) : State :=
  let r := s.ring
  let p : BitVec 12 := v.setWidth 12
  let rd := if (r.wr - p).toNat ≤ r.count then p else r.oldest
  { s with ring := { r with rd := rd, u := (r.wr - rd).toNat } }

/-- `RING_CTL.MARK` (R300). -/
def State.ringMark (s : State) : State :=
  { s with ring := { s.ring with mark := some s.ring.wr, markIdx := s.ring.wr, since := 0 } }

/-- `RING_CTL.REWIND` (R301). -/
def State.ringRewind (s : State) : State :=
  let r := s.ring
  match r.mark with
  | some m => { s with ring := { r with rd := m, u := min 4096 r.since } }
  | none => { s with ring := { r with rd := r.oldest, u := r.valid } }.setFlag Reg.RING_STAT 13 true

/-- `RING_CTL.CLEAR` (R303). -/
def State.ringClear (s : State) : State :=
  { s with ring := { s.ring with rd := s.ring.wr, u := 0, wrapped := false, mark := none, count := 0 } }

/-- `FUNC_RESET.RING`: as CLEAR, with WR and RD 0, every entry zero and the W1C bits clear (R303). -/
def State.ringReset (s : State) : State :=
  let s := ((s.ringClear).clearTab Win.RING).rewriteRange .ring 0 16384
  let s := { s with ring := { s.ring with wr := 0, rd := 0 } }
  ((s.setFlag Reg.RING_STAT 14 false).setFlag Reg.RING_STAT 13 false).setFlag Reg.RING_WR 15 false

end Sys2Proof.Machine
end

