-- ==== Sys2Proof/Machine/Close.lean ====
section
/-! DEFINITION. The Caldera's frame cycle: the servo, the open, the close by commit or abandonment, the row waits, the
chains of waits, and the takeover (R182 to R199, R424, R442). -/

namespace Sys2Proof.Machine

/-! ### The servo (R194, R195, R211) -/

/-- The present setpoint code. -/
def State.vset (s : State) : Nat := s.fld Reg.PMU_STAT 11 5

/-- VREQ of the installed image. -/
def State.vreq (s : State) : Nat := s.fld Reg.PMU_STAT 6 5

/-- PACE_LIM of the installed image. -/
def State.paceLim (s : State) : Nat := s.fld Reg.PACE 8 8

/-- VFLOOR in force; above 28 it acts as 28 (Table 6.16). -/
def State.vfloor (s : State) : Nat := min 28 (bits s.pace.effCtl 10 5)

/-- SERVO in force. -/
def State.servo (s : State) : Bool := s.pace.effCtl.getLsbD 15

/-- The setpoint changes; the buck moves, and the count of frames since the change begins again. -/
def State.setVset (s : State) (v : Nat) : State :=
  { s.setFld Reg.PMU_STAT 11 5 v with pace := { s.pace with moving := true, good := 0 } }

/-- The setpoint that SERVO = 0 holds, and that boot, a wake and an image commit start from (R194, R195). -/
def State.vsafe (s : State) : Nat := min 28 (max s.vreq s.vfloor)

/-- The setpoint starts at the larger of VREQ and VFLOOR (R195). -/
def State.vstart (s : State) : State :=
  { s.setFld Reg.PMU_STAT 11 5 s.vsafe with pace := { s.pace with moving := false, good := 0, target := none } }

/-- A raise lies less than 100 µs back, in slow-clock periods of AON time (log entry 18). -/
def recentRaise (now : BitVec 32) (t : Option (BitVec 32)) : Bool := match t with
  | some t => decide ((now - t).toNat < 4)
  | none => false

/-- The servo raises the setpoint by one step, on the way to a climb's target or past it; at code 28 it sets CEIL
(R194). -/
def State.raiseVcore (s : State) : State :=
  if 28 ≤ s.vset then s.setFlag Reg.PMU_STAT 5 true
  else
    let t := (s.setVset (s.vset + 1)).incFld Reg.PMU_STAT 0 4
    let goal := t.pace.target.filter (fun g => s.vset + 1 < g)
    { t with pace := { t.pace with raised := some s.aon.time, target := goal } }

/-- A climb to its target goes on by one step (R194). -/
def State.climb (s : State) : State :=
  match s.pace.target with
  | none => s
  | some t =>
    if s.vset = t then { s with pace := { s.pace with target := none } }
    else if s.pace.moving then s
    else s.setVset (if s.vset < t then s.vset + 1 else s.vset - 1)

/-- What the PMU does at a frame open: PMU_CTL takes effect; the setpoint goes to its floor, to its fixed value, or one
step down after 16 frames with margin (R194, R211). -/
def State.servoOpen (s : State) : State :=
  let s := { s with pace := { s.pace with effCtl := s.reg Reg.PMU_CTL, max := 0, target := none } }
  if !s.servo then { s with pace := { s.pace with target := some s.vsafe } }.climb
  else if s.vset < s.vfloor then { s with pace := { s.pace with target := some s.vfloor } }.climb
  else if 16 ≤ s.pace.good ∧ s.vfloor < s.vset then s.setVset (s.vset - 1)
  else s

/-! ### Publication (R183, R186, R442) -/

/-- The value that takes effect for a publication target: that of the cell with the highest logical index. -/
def pubValue (l : List (Nat × Nat × Word)) (target : Nat) : Option Word :=
  (l.foldl (fun (b : Option (Nat × Word)) p =>
    if p.2.1 = target then
      match b with
      | some w => if w.1 ≤ p.1 then some (p.1, p.2.2) else b
      | none => some (p.1, p.2.2)
    else b) none).map Prod.snd

/-- A confirmed Geyser wake: GWAKE, and the rejections and the back-off end (R270 to R272). -/
def State.gwake (s : State) : State :=
  let s := (s.raise Irq.GWAKE).setFlag Reg.GEYSER_THR 1 false
  { s with geyser := { s.geyser with rej := 0, woke := false } }

/-- A publication takes effect (R442, Table 15.6). -/
def State.publish (s : State) (target : Nat) (v : Word) : State :=
  match target with
  | 0x03 => if v.getLsbD 14 then s.gwake else s
  | 0x2F => if v.getLsbD 15 then s else s.setFlag Reg.BASE_CTL 15 false
  | 0x31 => s.setReg Reg.TOUCH_STAT (v &&& 0xFF8F)
  | 0x32 => s.setReg Reg.KEY_STAT v
  | 0x80 => { s with seq := { s.seq with hopPub := bits v 0 4 } }
  | _ => s

/-- Every staged publication takes effect. -/
def State.publishAll (s : State) : State :=
  [0x03, 0x2F, 0x31, 0x32, 0x80].foldl (fun t k => match pubValue s.cald.pubs k with
    | some v => t.publish k v
    | none => t) s

/-- The staged VOTE setting takes effect: that of the cell with the highest logical index. -/
def State.voteClose (s : State) : State :=
  match s.cald.votes.foldl (fun (b : Option (Nat × Bool)) p => match b with
      | some w => if w.1 ≤ p.1 then some p else b
      | none => some p) none with
  | some p => s.setFlag Reg.PWR_VOTE 1 p.2
  | none => s

/-! ### The close (R186, R187) -/

/-- The entries of the frame. -/
def Snap.frameEntries (sn : Snap) : List Nat :=
  let last := ((List.range 384).find? (fun e => endsFrame e (sn.entry e))).getD 383
  List.range (last + 1)

/-- The rows that the library's loads of the frame read (log entry 9). -/
def State.libRows (s : State) : List Nat := s.cald.snap.frameEntries

/-- The row that a word of a code section reads or waits on. -/
def codeRow (w : Code) : Option Nat :=
  match codeBits w 42 6 with
  | 0x28 | 0x29 => some (codeBits w 16 9)
  | 0x3A => some (codeBits w 0 9)
  | _ => none

/-- The rows that the code of a physical cell reads or waits on, up to its FRAME_END. -/
def State.codeRows (s : State) (p : PhysId) : List Nat :=
  ((s.cald.imem.filter (fun e => e.1 / 2048 == p.val)).takeWhile (fun e => codeBits e.2 42 6 != 0x3B)).filterMap
    (fun e => codeRow e.2)

/-- The rows of the frame: every row that the schedule reads or waits on in it, the library's among them (R187). -/
def State.frameRows (s : State) : List Nat :=
  s.cald.map.toList.flatMap s.codeRows ++ s.cald.rows ++ (if s.lib.on then s.libRows else [])

/-- Every row of the frame is released. -/
def State.releaseRows (s : State) : State :=
  let rows := s.frameRows
  { s with rowHeld := s.rowHeld.filter (fun r => !rows.contains r) }

/-- What every close does, by commit or by abandonment: the rows, PACE.MAX, and the cells stop (R187, R194). Each frame is
judged at its close, with the HYST then in force (DESIGN CHOICE, log entry 74). -/
def State.frameOver (s : State) : State :=
  let s := s.releaseRows
  let good : Bool := s.pace.max + bits s.pace.effCtl 0 5 ≤ s.paceLim
  let s := s.setFld Reg.PACE 0 8 (min 255 s.pace.max)
  { s with
    pace := { s.pace with good := if good then s.pace.good + 1 else 0 },
    cald := { s.cald with
      isOpen := false, rows := [], pubs := [], votes := [], ring := [], stalled := s.cald.stalls, stalls := [],
      cells := s.cald.cells.map (fun c => { c with st := .idle }) } }

/-- What the library takes from the commit of a frame that it ran: its contacts are one committed frame older, and the
frame's judgement of a Geyser wake counts (R272, Table 9.2). A close that clears RECAP clears it for the frames after the
sequencer's present one, `fc`, whose snapshot still holds it (R33, R223). -/
def Lib.commit (l : Lib) (fc : Word) : Lib :=
  if l.stage < 2 then l
  else
    let l := { l with contacts := l.contacts.map (fun c : Contact => { c with age := min 65535 (c.age + 1) }),
                      capDone := if l.capEnd then some fc else l.capDone }
    match l.wakeRes with
    | some .confirm => { l with wakeWait := none, rejects := 0 }
    | some .reject => { l with wakeWait := none, rejects := min 255 (l.rejects + 1), dropVote := true }
    | some .wait => { l with wakeWait := l.wakeWait.map (· - 1) }
    | none => l

/-- The frame's records, ring entries, publications, vote and frame counter take effect (R186, R298). -/
def State.commitFrame (s : State) : State :=
  let s := s.commitQueue
  let s := { s with lib := s.lib.commit s.seq.fc }
  let s := s.cald.ring.foldl (fun s e => (s.raceMark (384 + s.ring.wr.toNat)).ringWrite e) s
  (s.publishAll.voteClose).setReg Reg.FRAME_CNT s.cald.fc

/-- The frame's uncommitted records and ring entries are withdrawn (R187). -/
def State.abandonFrame (s : State) : State :=
  { s.abandonQueue with cald := { s.cald with ring := [] } }

/-! ### Takeover (Table 6.8, R424) -/

/-- The schedule restarts: the next frame opens with x2 = 0, and the SCHED vote is held (R190, R335). -/
def State.restartSchedule (s : State) : State :=
  { s.setFlag Reg.PWR_VOTE 1 true with cald := { s.cald with restart := true, stalls := [], stalled := [] } }

/-- A takeover of a logical cell begins; `subst` and `why` are those of its fault event. -/
def State.beginTakeover (s : State) (c : CellId) (q : PhysId) : State :=
  let t := (s.setFlag Reg.SCHED_STAT 11 true).setFlag Reg.FAULT_STAT 13 true
  { t with sched := { t.sched with state := .copy },
           cald := { t.cald with spare := none, shadow := none, suspect := none, stalled := [],
                                 takeover := some ⟨c, s.cald.map.get c, q, false⟩ } }

/-- After a mismatch, once the frame is over: the takeover and its fault event (R198, R424). -/
def State.afterMismatch (s : State) : State :=
  match s.cald.suspect, s.cald.spare with
  | some c, some q =>
    let p := s.cald.map.get c
    (s.beginTakeover c q).faultEvent
      { cls := FaultClass.CELL, outcome := 0, elem := p.val, detail := word (c.val * 256 + 1), subst := word q.val,
        counted := true }
  | _, _ => { s with cald := { s.cald with suspect := none } }

/-- After a second stall in a row, at its deadline: the takeover, or a restart when no spare exists (R424). `stalls` are
the logical cells that stalled in this frame and in the one before; the spare takes over the first of them, and what it
cannot take over is not masked. -/
def State.afterStalls (s : State) (stalls : List CellId) : State :=
  match stalls with
  | [] => s
  | c :: rest =>
    if !s.snap.flag Reg.FAULT_EN 11 then s
    else if s.cald.takeover.isSome then s.setFlag Reg.FAULT_STAT 5 true
    else match s.cald.spare with
      | some q => (if rest.isEmpty then s else s.setFlag Reg.FAULT_STAT 5 true).beginTakeover c q
      | none =>
        (((s.setFlag Reg.FAULT_STAT 13 true).setFlag Reg.FAULT_STAT 5 true).restartSchedule).insertRec
          (recOf (header 6 3) 0 0 0 0 0 0 0)

/-- What follows every close: inserted records are pushed, and sleep may become due (R285, R336). -/
def State.afterClose (s : State) : State := s.drainInserted.dueAtClose

/-- The logical cells that stalled in the open frame and in the one before (R424). -/
def State.stalledTwice (s : State) : List CellId := s.cald.stalls.filter (fun c => s.cald.stalled.contains c)

/-- The frame closes, committed or, with the discard flag set, abandoned (R186, R187). A cell that stalled in two frames
in a row is taken over here too, where the frame of the second stall still closes before its deadline (DEDUCED, log
entry 50). -/
def State.closeFrame (s : State) : State :=
  let twice := s.stalledTwice
  let s := if s.cald.discard then s.abandonFrame.incFld Reg.SCHED_STAT 5 5 else s.commitFrame
  ((s.frameOver.afterMismatch).afterStalls twice).afterClose

/-! ### The open (R176, R185, R189) -/

/-- A frame may open: one is owed, none is open, and no copy of a takeover is in progress. -/
def State.mayOpen (s : State) : Bool :=
  s.mainUp && !s.cald.isOpen && !s.cald.owed.isEmpty && (match s.cald.takeover with
    | some t => t.copied
    | none => true)

/-- A copied takeover takes place: the logical cell runs on its new cell, the schedule restarts, and its RESET record is
inserted (Table 6.8). -/
def State.takeOver (s : State) : State :=
  match s.cald.takeover with
  | some t =>
    let s := { s with cald := { s.cald with map := s.cald.map.set t.logical t.new, takeover := none } }
    s.restartSchedule.insertRec (recOf (header 6 4) 0 0 (word (t.logical.val * 256 + t.new.val)) 0 0 0 0)
  | none => s

/-- A corrected word of a cell's memory that the scrubber has not yet written back. -/
def MemErr.toScrub (e : MemErr) : Bool := e.found && (match e.mem with
  | .imem _ | .dmem _ => true
  | _ => false)

/-- The scrubber, while it runs, writes corrected words of the cells' memories back before a frame opens (R175, R425). -/
def State.scrubFound (s : State) : State :=
  if s.snap.flag Reg.FAULT_EN 10 then (s.fmon.memErrs.filter MemErr.toScrub).foldl State.scrubRewrite s else s

/-- A cell at a frame open (R176). -/
def Cell.atOpen (k : Nat) (fc : Word) (x2 : Data) : Cell :=
  let x := Vector.ofFn (fun i : Fin 32 => match i.val with
    | 1 => fc.setWidth 24
    | 2 => x2
    | 3 => BitVec.ofNat 24 k
    | _ => (0 : Data))
  { Cell.reset with x := x, st := .run }

/-- The shadow target of a frame (R197, R199). -/
def State.shadowTarget (s : State) (o : Owed) : Option CellId :=
  if o.snap.flag Reg.FAULT_EN 12 && s.cald.spare.isSome then some (Fin.ofNat 7 (o.fc.toNat % 7)) else none

/-- The library begins a frame; a pending FUNC_RESET.TRACK and a schedule start take effect, and those that an abandoned
frame has not carried out stay (R222, R250). -/
def State.libOpen (s : State) : State :=
  { s.setFlag Reg.FUNC_RESET 4 false with
    lib := { s.lib with stage := 0, trackNow := s.lib.trackNow || s.lib.trackRst, trackRst := false, wakeRes := none,
                        again := s.lib.again || s.cald.restart } }

/-- A Caldera frame opens. -/
def State.openFrame (s : State) (o : Owed) (rest : List Owed) : State :=
  let s := s.servoOpen.takeOver.scrubFound.drainInserted.libOpen
  let x2 : Data := if s.cald.restart then 0 else if s.cald.x2 = 0xFFFFFF then 0xFFFFFF else s.cald.x2 + 1
  let sh := s.shadowTarget o
  let s := s.setFld Reg.SCHED_CTL 4 3 (match sh with
    | some c => c.val
    | none => 7)
  { s with cald := { s.cald with
      cells := Vector.ofFn (fun k : Fin 7 => Cell.atOpen k.val o.fc x2),
      mapShown := s.cald.map, spareShown := s.cald.spare, lag := [], astray := false, ringOn := s.flag Reg.FUNC_EN 6,
      last := some o.fc,
      isOpen := true, fc := o.fc, snap := o.snap, x2 := x2, restart := false, discard := false, shadow := sh,
      suspect := none, rows := [], pubs := [], votes := [], ring := [], stalls := [], owed := rest } }

/-! ### Rows (R26, R28, R182) -/

/-- A row holds a completed write of the open frame or of a later one (R182). FRAME holds 6 bits of the frame counter, and
the spec does not say which of its values are later: those 0 to 31 ahead modulo 64 count as the frame's or later (DESIGN
CHOICE, log entry 39). -/
def State.rowComplete (s : State) (row : Nat) : Bool :=
  s.rowDone.contains row && decide ((bits (s.rowWord row 0) 0 6 + 64 - s.cald.fc.toNat % 64) % 64 < 32)

/-- The status of a row passes the check of R28. -/
def State.rowPasses (s : State) (row : Nat) : Bool :=
  let st := s.rowWord row 0
  bits st 0 6 == s.cald.fc.toNat % 64 && !st.getLsbD 11

/-- An INTAKE completes: the check, the word, and the release (R26, R28, R182). -/
def State.intakeDone (s : State) (c : CellId) (row w : Nat) (d : XReg) (rel signed : Bool) : State :=
  let s := if s.rowPasses row then s else s.setDiscard
  let r := if w ≤ 160 then s.cellRead .result (161 * row + w) else (0, s)
  let r := r.2.takenIn c (if w ≤ 160 then s.rowWord row w ^^^ word r.1 else 0)
  let v := r.1
  let s := r.2
  let s := if rel then { s with rowHeld := s.rowHeld.filter (· != row) } else s
  s.setCell c (((s.cell c).put d (if signed then v.signExtend 24 else v.setWidth 24)).advance)

/-- A row of the frame: it is read or waited on (R187). -/
def State.frameRow (s : State) (row : Nat) : State :=
  { s with cald := { s.cald with rows := addOnce s.cald.rows row } }

/-- An INTAKE is issued: it completes at once on a complete row, and blocks otherwise (R182). -/
def State.intake (s : State) (c : CellId) (i : Instr) (d b : XReg) (rel idx : Bool) (row : Nat) (word : Byte)
    (signed : Bool) : State :=
  if s.runs c i then
    let s := (s.fetchErr c).frameRow row
    let w := rowEff (s.cell c) b idx word
    if s.rowComplete row then s.intakeDone c row w d rel signed else s.cellBlock c (.intake row w d rel signed)
  else s

/-! ### Channels and chains of waits (R174, R188, R196) -/

/-- The cell at the other end of a channel. -/
def peer (c : CellId) : Dir → CellId
  | .next => c + 1
  | .prev => c + 6

/-- The other end's name for a channel. -/
def dirFlip : Dir → Dir
  | .next => .prev
  | .prev => .next

/-- The chain of waits of a cell, followed through at most `n` cells, ends in a WAIT_ENTRY or INTAKE on an incomplete
row. -/
def State.waitsForRow (s : State) : Nat → CellId → Bool
  | 0, _ => false
  | n + 1, c => match (s.cell c).st with
    | .waitRow r => !s.rowComplete r
    | .intake r _ _ _ _ => !s.rowComplete r
    | .send d _ => s.waitsForRow n (peer c d)
    | .recv d _ => s.waitsForRow n (peer c d)
    | .library => !s.libRows.all s.rowComplete
    | _ => false

/-- A cell has completed FRAME_END, or is not in a frame. -/
def State.cellDone (s : State) (c : CellId) : Bool := match (s.cell c).st with
  | .done | .idle => true
  | _ => false

/-- The frame is row-late: every cell that has not completed FRAME_END waits for an incomplete row (R188). -/
def State.rowLate (s : State) : Bool :=
  (List.finRange 7).all (fun c => s.cellDone c || s.waitsForRow 7 c)

/-- The frame meets its deadline unclosed (R188, R194, R424). A frame with a shadow mismatch that is not row-late counts
in LATE, as R188 gives for any other case, where Table 6.8 has DISCARD at "close or deadline" (DESIGN CHOICE, log entry
54). A raise at the deadline comes after the frame's close has been counted, so the 16 frames of R194 begin with the
next. -/
def State.deadline (s : State) : State :=
  let twice := s.stalledTwice
  let late := !s.rowLate
  let s := s.abandonFrame
  let s := if late then (s.incFld Reg.SCHED_STAT 0 5).raise Irq.SCHED else s.incFld Reg.SCHED_STAT 5 5
  let s := s.frameOver
  let s := if late && s.servo && !recentRaise s.aon.time s.pace.raised then s.raiseVcore else s
  ((s.afterMismatch).afterStalls twice).afterClose

end Sys2Proof.Machine
end

