-- ==== Sys2Proof/Machine/Stream.lean ====
section
/-! DEFINITION. The read side of the Fumarole: words read one after another, in the register class and as a stream
(R286 to R289, R291). -/

namespace Sys2Proof.Machine

/-- The queue moves past one word: word 7 pops the item (R286). -/
def State.wordTaken (s : State) (w : Word) (rest : List Rec) : State :=
  let q := s.queue
  let next := (q.word + 1) % 8
  let q := { q with word := next, last := w, items := if next = 0 then rest else q.items,
                    seen := if next = 0 then q.seen - 1 else q.seen,
                    rd := if next = 0 then q.rd + 1 else q.rd }
  ({ s with queue := q }).queueVote

/-- The next queue word is read and the index advances; a cut item reads 0xFFFF; a word of the Fumarole with a
double-bit error is delivered as read (R286, R291, R425). -/
def State.takeWord (s : State) : Word × State :=
  let i := s.queue.word
  if s.queue.cut then
    (0xFFFF, { s with queue := { s.queue with word := (i + 1) % 8, last := 0xFFFF, cut := (i + 1) % 8 != 0 } })
  else
    match s.queue.items with
    | [] => (s.queue.last, s)
    | r :: rest =>
      let m := s.readErr .fumarole (8 * s.queue.rd.toNat + i % 8)
      let w := r[i % 8]'(Nat.mod_lt _ (by decide)) ^^^ word m.1
      (w, m.2.wordTaken w rest)

/-- A register-class read: the next word, or the last word delivered and UNDERRUN (R287). -/
def State.readRptData (s : State) : Word × State :=
  if s.queueReady then
    let r := s.takeWord
    (r.1, s.settle r.2)
  else (s.queue.last, s.setFlag Reg.RPT_STAT 13 true)

/-- The next word of a stream burst (R288, R343): a queue word; 0xFFFF while the queue is stopped in a handshake and once
the burst has passed its stall limit; at an empty item boundary a stall begins, and with STALL_LIMIT = 0 its limit is
reached at once. -/
def State.streamWord (s : State) : Word × State :=
  if s.queue.stream = .filler then (0xFFFF, s)
  else if s.queue.stopped then (0xFFFF, { s with queue := { s.queue with stream := .running } })
  else if s.queueReady then
    let r := s.takeWord
    (r.1, s.settle { r.2 with queue := { r.2.queue with stream := .running } })
  else if s.fld Reg.RPT_CTL 0 5 = 0 then
    (0xFFFF, { s.setFlag Reg.RPT_STAT 11 true with queue := { s.queue with stream := .filler } })
  else (0xFFFF, { s with queue := { s.queue with stream := .stalled } })

/-- A stall has lasted STALL_LIMIT (R288). -/
def State.streamStallOver (s : State) : State :=
  { s.setFlag Reg.RPT_STAT 11 true with queue := { s.queue with stream := .filler } }

end Sys2Proof.Machine
end

