-- ==== Sys2Proof/Machine/Windows.lean ====
section
/-! DEFINITION. The memory windows as the host reaches them: the window address, what each window reads, and which
writes it takes (R321 to R324, Table 10.6, R446). -/

namespace Sys2Proof.Machine

/-! ### The window address (R322) -/

/-- The window code. -/
def State.winCode (s : State) : Nat := s.fld Reg.WIN_SEL 0 4

/-- The window address, 17 bits: AHI and ADDR. -/
def State.winAddr (s : State) : Nat := s.fld Reg.WIN_SEL 7 1 * 65536 + (s.reg Reg.WIN_ADDR).toNat

/-- The window address advances by one; a carry out of WIN_ADDR increments AHI. -/
def State.winNext (s : State) : State :=
  let a := (s.winAddr + 1) % 131072
  (s.setReg Reg.WIN_ADDR (word a)).setFld Reg.WIN_SEL 7 1 (a / 65536)

/-- The number of words of the IMAGE window: LENGTH / 2 once the header with LENGTH has been written, at most 57,344. -/
def State.imageWords (s : State) : Nat :=
  if 12 ≤ s.sched.loaded then min 57344 (ceilDiv (field s.loadBuffer 8 4) 2) else 57344

/-- The number of words of a window. -/
def State.winLimit (s : State) (code : Nat) : Nat := if code = 9 then s.imageWords else winSize code

/-- REFUSED and RANGE are set as an access calls for; the word counts once in ERRCNT (Table 10.10). -/
def State.winRefuse (s : State) (refused range : Bool) : State :=
  if refused && range then (s.setFlag Reg.WIN_STAT WinErr.RANGE true).winErr WinErr.REFUSED
  else if refused then s.winErr WinErr.REFUSED
  else if range then s.winErr WinErr.RANGE
  else s

/-! ### Reads -/

/-- A code without a window, or one that only takes writes (R321). -/
def winUnreadable (code : Nat) : Bool := code = 0 || code = 9 || code = 15

/-- The flash bytes of an NVM word are withheld: image slots and the configuration area, in SECURED unless the debug
state is unlocked (R414). -/
def State.nvmWithheld (s : State) (a : Nat) : Bool :=
  s.sec.life = .secured && s.dstate != 2 && (decide (a < 0x1C000) || (decide (0x1D800 ≤ a) && decide (a < 0x1E800)))

/-- An operation of NVM_CTL runs (R385). -/
def State.nvmRuns (s : State) : Bool := match s.nvm.op with
  | some .autoSave => false
  | some _ => true
  | none => false

/-- A word of the NVM window (R385). -/
def State.nvmRead (s : State) (a : Nat) : Word × State :=
  if s.nvmRuns then (0xFFFF, s)
  else if s.nvmWithheld a then (0, s.winErr WinErr.DENY)
  else (wordOfBytes (s.flashByte (2 * a)) (s.flashByte (2 * a + 1)), s)

/-- A word of the GOERTZEL window: word 4 latches word 5 in the same capture (R131). -/
def State.goertzelRead (s : State) (a : Nat) : Word × State :=
  let v := s.tab Win.GOERTZEL a
  if a % 8 = 4 then
    (v, { s with aon := { s.aon with latchG := aset s.aon.latchG (a / 8) (s.tab Win.GOERTZEL (a + 1)) } })
  else if a % 8 = 5 then
    ((alook s.aon.latchG (a / 8)).getD v, { s with aon := { s.aon with latchG := adel s.aon.latchG (a / 8) } })
  else (v, s)

/-- A transaction reads a row or a ring entry: RACE when it has been rewritten since the transaction first read it
(R323). -/
def State.raceRead (s : State) (k : Nat) : State :=
  match s.port.txn with
  | some t =>
    let u := { s with port := { s.port with txn := some { t with read := addOnce t.read k } } }
    if t.redone.contains k then u.winErr WinErr.RACE else u
  | none => s

/-- A word of a window whose memory holds it as a table: errors are corrected, or the word is delivered as read
(R425). -/
def State.tableRead (s : State) (code a : Nat) : Word × State :=
  let m := s.readErr (winMem code).1 ((winMem code).2 + a)
  (s.tab code a ^^^ word m.1, m.2)

/-- A word inside a readable window. -/
def State.winWord (s : State) (code a : Nat) : Word × State :=
  match code with
  | 2 => (s.raceRead (a / 161)).tableRead code a
  | 10 => s.nvmRead a
  | 11 => (s.raceRead (384 + a / 4)).tableRead code a
  | 13 => s.goertzelRead a
  | _ => s.tableRead code a

/-- A read of the window word at the window address, which advances (R322). -/
def State.winRead (s : State) : Word × State :=
  let code := s.winCode
  let a := s.winAddr
  let bad := winUnreadable code
  let out := decide (s.winLimit code ≤ a) && code != 0 && code != 15
  if bad || out then (0, (s.winRefuse bad out).winNext)
  else
    let r := s.winWord code a
    (r.1, r.2.winNext)

/-! ### Writes -/

/-- A coefficient bank is in use: current, in a fade, or pending, for the chips driven or for the outputs still to come
(R128). -/
def State.bankInUse (s : State) (bank : Bool) : Bool :=
  s.filt.inUse bank || s.filt.shown.cur = bank || s.filt.shown.pend = some bank || s.filt.shown.fading

/-- Whether the window's rule refuses a write of word `a` now (R61, R128, R131, R138, R206, R321). -/
def State.winForbids (s : State) (code a : Nat) : Bool :=
  match code with
  | 1 => s.sched.state != .load && (s.flag Reg.FUNC_EN 2 || s.seq.run)
  | 3 => s.bankInUse false
  | 4 => s.bankInUse true
  | 5 | 6 | 7 | 8 | 14 => false
  | 9 => s.sched.state != .load
  | 12 => a % 2 = 0 && s.sched.state != .load
  | 13 => 4 ≤ a % 8
  | _ => true

/-- No valid image exists any more: PACE.LIM reads 0x00 and VREQ 28 (R206, R210, R211). -/
def State.noImage (s : State) : State :=
  let s := (s.setFld Reg.PACE 8 8 0).setFld Reg.PMU_STAT 6 5 28
  { s with sched := { s.sched with valid := false } }

/-- An IMAGE word out of order is ignored and makes the image fail check 0xB (R206, R323). -/
def State.imageDisorder (s : State) : State :=
  let s := s.winErr WinErr.IMG_ORDER
  { s with sched := { s.sched with badOrder := true } }

/-- An IMAGE word in load mode: the next expected one is appended to the buffer in the result store, any other is
ignored and makes the image fail check 0xB; the first one makes the installed image invalid (R206, R392). -/
def State.imageWrite (s : State) (a : Nat) (v : Word) : State :=
  if a = s.sched.loaded / 2 then
    let s := (s.setTab Win.RESULT a v).rewrite .result a
    let s := if s.sched.loaded = 0 then s.noImage else s
    { s with sched := { s.sched with loaded := s.sched.loaded + 2 }, rowDone := [], rowHeld := [] }
  else s.imageDisorder

/-- A word of a window is written; its reserved bits stay 0 (R11). -/
def State.winPut (s : State) (code a : Nat) (v : Word) : State :=
  if code = 9 then s.imageWrite a v else (s.setTab code a (v &&& winMask code a)).winRewrite code a 1

/-- A write of the window word at the window address, which advances (R321, R322); an IMAGE word beyond the image's length
is out of order as well, unless it is the next one expected (R206). -/
def State.winWrite (s : State) (v : Word) : State :=
  let code := s.winCode
  let a := s.winAddr
  let bad := s.winForbids code a
  let out := decide (s.winLimit code ≤ a) && code != 0 && code != 15
  if bad || out then
    let t := if code = 9 && !bad && decide (a ≠ s.sched.loaded / 2) then s.imageDisorder else s
    (t.winRefuse bad out).winNext
  else (s.winPut code a v).winNext

/-- A window transaction or pointer names a window: CODE takes it before the first word, as a write of WIN_SEL; 0 uses
CODE as it stands (Table 10.3). -/
def State.winSelect (s : State) (code : Nat) : State :=
  if code = 0 then s else (s.setFld Reg.WIN_SEL 0 4 code).setFld Reg.WIN_STAT 0 8 0

end Sys2Proof.Machine
end

