-- ==== Sys2Proof/Machine/Sched.lean ====
section
/-! DEFINITION. The load of an image by the host: load mode, its entry, COMMIT and ABORT, and what starting a schedule
does (R205 to R208, R390, R444). -/

namespace Sys2Proof.Machine

/-! ### Load mode (R206) -/

/-- A write of 1 to LOAD requests load mode; it reads 1 until load mode ends (R206, Table 6.12). -/
def State.schedLoad (s : State) : State :=
  if s.flag Reg.SCHED_CTL 15 then s
  else { s.setFlag Reg.SCHED_CTL 15 true with sched := { s.sched with loadWait := true } }

/-- Load mode may begin: it was requested, and no sequencer frame, Caldera frame or takeover copy is in progress. -/
def State.loadReady (s : State) : Bool :=
  s.mainUp && s.sched.loadWait && !s.seq.run && !s.calderaBusy && s.sched.state != .copy

/-- Load mode begins; the IMAGE window expects word 0. -/
def State.loadEnter (s : State) : State :=
  { s with sched := { s.sched with state := .load, loadWait := false, loaded := 0, badOrder := false, commit := false } }

/-- A write of 1 to COMMIT: verification begins; outside load mode it is ignored (Table 6.12). -/
def State.schedCommit (s : State) : State :=
  if s.sched.state = .load then
    { s.setFlag Reg.SCHED_CTL 14 true with sched := { s.sched with commit := true } }
  else s

/-- Load mode ends. -/
def State.loadEnd (s : State) (st : SchedState) : State :=
  let t := (s.setFlag Reg.SCHED_CTL 15 false).setFlag Reg.SCHED_CTL 14 false
  { t with sched := { t.sched with state := st, commit := false, badOrder := false } }

/-! ### The start of a schedule -/

/-- At least seven cells are not retired; otherwise the schedule does not start (R197). -/
def State.cellsOk (s : State) : Bool := s.cald.retired.length < 2

/-- STATE as a schedule starts. -/
def State.startState (s : State) : SchedState := if s.cellsOk then .running else .stopped

/-- The first frame of a schedule starts at once; a self-calibration that is running or due comes first (R206, R370). -/
def State.firstFrame (s : State) : State :=
  if !s.seqMay then s
  else if s.calBusy || s.cal.due then { s with cal := { s.cal with frame := true } }
  else s.frameStart

/-- The schedule of an image starts anew with a RESET record of sub-type `sub` (R206, R207, Table 9.7). -/
def State.schedStart (s : State) (sub : Nat) (w : Word) : State :=
  let s := (s.sigCheck).restartSchedule
  ((s.insertRec (recOf (header 6 sub) 0 0 w 0 0 0 0)).drainInserted).firstFrame

/-- The library of an image whose DMEM has just been initialised (R201); a wake still pending, POWERUP_TOUCH and a reset
of TRACK stay so (R229, R250, R272). -/
def State.libInstalled (s : State) : State :=
  { s with lib := { Lib.reset with on := s.lib.on, trackOn := s.lib.trackOn, trackRst := s.lib.trackRst,
                                   trackNow := s.lib.trackNow, puTouch := s.lib.puTouch, wakeCnt := s.lib.wakeCnt,
                                   wakeWait := s.lib.wakeWait } }

/-- The end of a COMMIT; after a rejection the next IMAGE address and the out-of-order mark stay as they are, so that a
new image needs ABORT and LOAD (DESIGN CHOICE, log entry 41). On success the image is installed and its schedule starts;
on failure REJ is set and the block stays in load mode (R205, R206). -/
def State.commitDone (s : State) : State :=
  let s0 := s
  let code := s.checkLoaded
  if code = 0 then
    let s := (s.takeOver.installImage s.loadBuffer).libInstalled
    let s := (s.loadEnd s.startState).setFld Reg.SYS_STAT 5 2 2
    s0.settle ((s.vstart).schedStart 5 0x0200)
  else
    { (s.setFld Reg.SCHED_CTL 0 4 code).setFlag Reg.SCHED_CTL 14 false with sched := { s.sched with commit := false } }

/-- ABORT in load mode: with no IMAGE word written, a valid image whose panel map passes R62 runs again with x2 = 0;
otherwise nothing runs until an image is installed (R207). Sleep may become due where no schedule runs then (R336). -/
def State.schedAbort (s : State) : State :=
  if s.sched.state = .load then
    if s.sched.valid && panelOk (s.tab Win.PANEL) then
      s.settle ((s.takeOver.loadEnd s.startState).schedStart 7 0)
    else
      let t := (s.loadEnd .stopped).setFld Reg.SYS_STAT 5 2 3
      s.settle t.noImage
  else s

/-! ### Meanings -/

/-- SCHED_LOAD: a write of 1 to `SCHED_CTL.LOAD`. -/
def execSchedLoad (s : State) : Host.Outcome State Fault Refusal := .next (if s.mainUp then s.schedLoad else s)

/-- LOAD_MODE_ENTER: the frames in progress have finished (R206). -/
def execLoadModeEnter (s : State) : Host.Outcome State Fault Refusal := .next (if s.loadReady then s.loadEnter else s)

/-- SCHED_COMMIT: a write of 1 to `SCHED_CTL.COMMIT`; IMAGE_INSTALL_DONE ends it. -/
def execSchedCommit (s : State) : Host.Outcome State Fault Refusal := .next (if s.mainUp then s.schedCommit else s)

/-- SCHED_ABORT: a write of 1 to `SCHED_CTL.ABORT`. -/
def execSchedAbort (s : State) : Host.Outcome State Fault Refusal := .next (if s.mainUp then s.schedAbort else s)

end Sys2Proof.Machine
end

