-- ==== Sys2Proof/Machine/Funcs.lean ====
section
/-! DEFINITION. Function reset and disable: one operation per function and per effect, and the meanings of the
FUNC_RESET and FUNC_EN commands (R190, R250, R283, R292, R303, R329, R360, R361, R395, Table 11.14). -/

namespace Sys2Proof.Machine

/-! ### Function resets (R360) -/

/-- LANES: pending until the next entry boundary. -/
def State.resetLanes (s : State) : State := s.setFlag Reg.FUNC_RESET 0 true

/-- FILTERS: pending until the next entry boundary (R123). -/
def State.resetFilters (s : State) : State := s.setFlag Reg.FUNC_RESET 1 true

/-- SEQ: the rest of the frame is cut after the entry in progress; the next frame waits for the timer (R339). -/
def State.resetSeq (s : State) : State :=
  let s := { s with seq := { s.seq with due := false } }
  if s.seq.run then (s.setFlag Reg.FUNC_RESET 2 true).cutFrame else s

/-- The open Caldera frame is abandoned at once, with no count in LATE or DISCARD (R190). A shadow mismatch of the frame
is forgotten with it: no takeover follows (DESIGN CHOICE, log entry 40). -/
def State.abandonNow (s : State) : State :=
  if s.cald.isOpen then
    let t := s.abandonFrame.frameOver
    { t with cald := { t.cald with suspect := none } }
  else s

/-- CALDERA: the frame is abandoned, a RESET record is queued, and the schedule restarts (R190). -/
def State.resetCaldera (s : State) : State :=
  (((s.abandonNow).restartSchedule).insertRec (recOf (header 6 3) 0 0 0 0 0 0 0)).afterClose

/-- TRACK: pending until the next frame open (R250). -/
def State.resetTrack (s : State) : State :=
  { s.setFlag Reg.FUNC_RESET 4 true with lib := { s.lib with trackRst := true } }

/-- A host transaction that has read the queue is in progress (R292). -/
def State.readsQueue (s : State) : Bool := s.queue.stream != .off || (match s.port.txn with
  | some t => t.queue
  | none => false)

/-- The reset of the queue takes place. -/
def State.queueReset (s : State) : State := (s.resetQueue.setFlag Reg.FUNC_RESET 5 false).drainInserted

/-- QUEUE: at the end of a host transaction in progress that reads the queue, else at once (R292). -/
def State.resetQueueFn (s : State) : State :=
  if s.readsQueue then s.setFlag Reg.FUNC_RESET 5 true else s.settle s.queueReset

/-- RING (R303). -/
def State.resetRing (s : State) : State := s.ringReset

/-- NVMCTL: the page in progress completes, then the operation is abandoned with error code 7 (R395). -/
def State.resetNvmctl (s : State) : State :=
  if s.nvm.op.isSome then
    let page := s.nvm.todo.take (if s.nvm.paused then 0 else 1)
    { s.setFlag Reg.FUNC_RESET 7 true with
      nvm := { s.nvm with todo := page, err := 7, frames := 0, after := false } }
  else s

/-- An unlock in force ends (R412). -/
def State.relock (s : State) : State := { s with sec := { s.sec with unlocked := false } }

/-- The reset of the host port takes place (R329). -/
def State.hostReset (s : State) : State :=
  let s := s.setReg Reg.HOST_STAT (s.reg Reg.HOST_STAT &&& 0xC000)
  let s := (s.setFld Reg.WIN_STAT 0 8 0).setFlag Reg.FUNC_RESET 8 false
  { s with port := { s.port with ptr := 0, txn := none, stretch := none, rstDue := false } }

/-- HOSTPORT: at the end of the transaction in progress, at once when there is none (R329); with HLOCK set its write also
relocks (R412). -/
def State.resetHostport (s : State) : State :=
  let s := if s.flag Reg.DEBUG_CTL 7 then s.relock else s
  if s.port.txn.isSome then
    { s.setFlag Reg.FUNC_RESET 8 true with port := { s.port with rstDue := true } }
  else s.hostReset

/-- GEYSER: pattern, baselines, KIND, rejection count and back-off are cleared. -/
def State.resetGeyser (s : State) : State :=
  let s := (s.setFld Reg.GEYSER_THR 2 2 0).setFlag Reg.GEYSER_THR 1 false
  { s with geyser := { s.geyser with buses := [], cand := false, evs := [], cover := false, rej := 0 } }

/-- GOERTZEL: every block is aborted without ABORT (R136). -/
def State.resetGoertzel (s : State) : State := s.detAbortAll false

/-! ### Disable and enable (R361) -/

/-- LANES; re-enabling is an analog change. -/
def State.enLanes (s : State) (on : Bool) : State :=
  let back := on && !s.flag Reg.FUNC_EN 0
  { s.setFlag Reg.FUNC_EN 0 on with seq := { s.seq with analog := s.seq.analog || back } }

/-- FILTERS; re-enabling gives a synchronising reset at the next entry. -/
def State.enFilters (s : State) (on : Bool) : State :=
  let back := on && !s.flag Reg.FUNC_EN 1
  { s.setFlag Reg.FUNC_EN 1 on with seq := { s.seq with syncRst := s.seq.syncRst || back } }

/-- SEQ: the current entry completes and no further entry starts; re-enabling waits for the frame timer. -/
def State.enSeq (s : State) (on : Bool) : State :=
  let s := s.setFlag Reg.FUNC_EN 2 on
  if on then s
  else
    let s := { s with seq := { s.seq with due := false, cut := s.seq.cut || s.seq.run } }
    s.frameCheck

/-- No Caldera frame opens for the sequencer frames that wait for one; their rows are released (R190, R339). -/
def State.dropOwed (s : State) : State :=
  let fcs := s.cald.owed.map (fun o => o.fc.toNat % 64)
  { s with cald := { s.cald with owed := [] },
           rowHeld := s.rowHeld.filter (fun r => !fcs.contains (bits (s.rowWord r 0) 0 6)) }

/-- CALDERA: the frame in progress runs to its close or deadline, and no further frame opens (R190). -/
def State.enCaldera (s : State) (on : Bool) : State :=
  let s := s.setFlag Reg.FUNC_EN 3 on
  if on then s else s.dropOwed.quiesceCheck

/-- TRACK (R250). -/
def State.enTrack (s : State) (on : Bool) : State := s.setFlag Reg.FUNC_EN 4 on

/-- QUEUE (R283). -/
def State.enQueue (s : State) (on : Bool) : State := s.setFlag Reg.FUNC_EN 5 on

/-- RING. -/
def State.enRing (s : State) (on : Bool) : State := s.setFlag Reg.FUNC_EN 6 on

/-- NVMCTL: the page in progress completes; re-enabling resumes at the next page. -/
def State.enNvmctl (s : State) (on : Bool) : State :=
  { s.setFlag Reg.FUNC_EN 7 on with nvm := { s.nvm with paused := s.nvm.paused && !on } }

/-- GEYSER: latched at sleep entries. -/
def State.enGeyser (s : State) (on : Bool) : State := s.setFlag Reg.FUNC_EN 9 on

/-- GOERTZEL: blocks in progress complete, and none starts. -/
def State.enGoertzel (s : State) (on : Bool) : State := s.setFlag Reg.FUNC_EN 10 on

/-! ### Meanings of the FUNC_RESET commands -/

/-- A command that acts through a MAIN register: no effect while MAIN is not ready (R325). -/
def State.inMain (s : State) (f : State → State) : State := if s.mainUp then f s else s

/-- FUNC_RESET_LANES. -/
def execFuncResetLanes (s : State) : Host.Outcome State Fault Refusal := .next (s.inMain State.resetLanes)

/-- FUNC_RESET_FILTERS. -/
def execFuncResetFilters (s : State) : Host.Outcome State Fault Refusal := .next (s.inMain State.resetFilters)

/-- FUNC_RESET_SEQ. -/
def execFuncResetSeq (s : State) : Host.Outcome State Fault Refusal := .next (s.inMain State.resetSeq)

/-- FUNC_RESET_CALDERA. -/
def execFuncResetCaldera (s : State) : Host.Outcome State Fault Refusal := .next (s.inMain State.resetCaldera)

/-- FUNC_RESET_TRACK. -/
def execFuncResetTrack (s : State) : Host.Outcome State Fault Refusal := .next (s.inMain State.resetTrack)

/-- FUNC_RESET_QUEUE. -/
def execFuncResetQueue (s : State) : Host.Outcome State Fault Refusal := .next (s.inMain State.resetQueueFn)

/-- FUNC_RESET_RING. -/
def execFuncResetRing (s : State) : Host.Outcome State Fault Refusal := .next (s.inMain State.resetRing)

/-- FUNC_RESET_NVMCTL. -/
def execFuncResetNvmctl (s : State) : Host.Outcome State Fault Refusal := .next (s.inMain State.resetNvmctl)

/-- FUNC_RESET_HOSTPORT. -/
def execFuncResetHostport (s : State) : Host.Outcome State Fault Refusal := .next (s.inMain State.resetHostport)

/-- FUNC_RESET_GEYSER. -/
def execFuncResetGeyser (s : State) : Host.Outcome State Fault Refusal := .next (s.inMain State.resetGeyser)

/-- FUNC_RESET_GOERTZEL. -/
def execFuncResetGoertzel (s : State) : Host.Outcome State Fault Refusal := .next (s.inMain State.resetGoertzel)

/-! ### Meanings of the FUNC_EN commands -/

/-- FUNC_EN_LANES. -/
def execFuncEnLanes (on : Bool) (s : State) : Host.Outcome State Fault Refusal := .next (s.inMain (fun t => t.enLanes on))

/-- FUNC_EN_FILTERS. -/
def execFuncEnFilters (on : Bool) (s : State) : Host.Outcome State Fault Refusal :=
  .next (s.inMain (fun t => t.enFilters on))

/-- FUNC_EN_SEQ. -/
def execFuncEnSeq (on : Bool) (s : State) : Host.Outcome State Fault Refusal := .next (s.inMain (fun t => t.enSeq on))

/-- FUNC_EN_CALDERA. -/
def execFuncEnCaldera (on : Bool) (s : State) : Host.Outcome State Fault Refusal :=
  .next (s.inMain (fun t => t.enCaldera on))

/-- FUNC_EN_TRACK. -/
def execFuncEnTrack (on : Bool) (s : State) : Host.Outcome State Fault Refusal := .next (s.inMain (fun t => t.enTrack on))

/-- FUNC_EN_QUEUE. -/
def execFuncEnQueue (on : Bool) (s : State) : Host.Outcome State Fault Refusal := .next (s.inMain (fun t => t.enQueue on))

/-- FUNC_EN_RING. -/
def execFuncEnRing (on : Bool) (s : State) : Host.Outcome State Fault Refusal := .next (s.inMain (fun t => t.enRing on))

/-- FUNC_EN_NVMCTL. -/
def execFuncEnNvmctl (on : Bool) (s : State) : Host.Outcome State Fault Refusal :=
  .next (s.inMain (fun t => t.enNvmctl on))

/-- FUNC_EN_GEYSER. -/
def execFuncEnGeyser (on : Bool) (s : State) : Host.Outcome State Fault Refusal :=
  .next (s.inMain (fun t => t.enGeyser on))

/-- FUNC_EN_GOERTZEL. -/
def execFuncEnGoertzel (on : Bool) (s : State) : Host.Outcome State Fault Refusal :=
  .next (s.inMain (fun t => t.enGoertzel on))

end Sys2Proof.Machine
end

