-- ==== Sys2Proof/Machine/Nvm.lean ====
section
/-! DEFINITION. Meanings of the NVM controller's commands (R384 to R396). -/

namespace Sys2Proof.Machine

/-! ### The start of an operation (R392 to R395) -/

/-- All LENGTH bytes of the image have been written in load mode (R392). -/
def State.imageComplete (s : State) : Bool :=
  let b := s.loadBuffer
  s.sched.state = .load && decide (12 ≤ b.length) && decide (field b 8 4 ≤ b.length)

/-- GO reads 1 while the operation runs. -/
def State.nvmGoing (s : State) (op : NvmOp) (todo : List FlashStep) : State :=
  (s.nvmBegin op todo).setFlag Reg.NVM_CTL 15 true

/-- PROGRAM_A or PROGRAM_B: the image is checked, REJ takes the code, and a failure ends the operation (R392). -/
def State.nvmProgram (s : State) (op : NvmOp) (slot : Nat) : State :=
  if s.imageComplete then
    let b := s.loadBuffer
    let img := b.take (field b 8 4)
    let code := s.checkImage img
    let s := s.setFld Reg.SCHED_CTL 0 4 code
    if code = 0 then s.nvmGoing op (s.slotSteps slot img)
    else
      let t := s.nvmGoing op []
      { t with nvm := { t.nvm with err := 2 } }
  else s.nvmRefuse 1

/-- ERASE_A or ERASE_B; in SECURED only an unlocked debug session may erase (Table 13.1). -/
def State.nvmErase (s : State) (op : NvmOp) (slot : Nat) : State :=
  if s.sec.life = .secured && s.dstate != 2 then s.nvmRefuse 4 else s.nvmGoing op (s.slotSteps slot [])

/-- CAPTURE_SIG: the 16 frames that start after the write are measured (R389). -/
def State.nvmCapture (s : State) : State :=
  if s.sched.state = .running then
    let t := s.nvmGoing .captureSig []
    { t with nvm := { t.nvm with frames := 16 + s.seq.run.toNat } }
  else s.nvmRefuse 5

/-- The operation that an OP code names begins or is refused, in the order: busy, reserved OP, key or lifecycle, and
what the operation asks for (R395). In a lifecycle transition BUSY reads 1, and a request is refused as busy (DEDUCED, log
entry 62). -/
def State.nvmStart (s : State) (op : Nat) (key : Byte) : State :=
  if s.nvmBusy then s.nvmRefuse 6
  else if op < 1 || 6 < op then s.nvmRefuse 1
  else if (op = 1 || op = 2 || op = 5 || op = 6) && key != 0x5A then s.nvmRefuse 4
  else match op with
    | 1 => s.nvmProgram .programA 0
    | 2 => s.nvmProgram .programB 1
    | 3 => s.nvmGoing .saveCal s.calSteps
    | 4 => s.nvmCapture
    | 5 => s.nvmErase .eraseA 0
    | _ => s.nvmErase .eraseB 1

/-- A write of NVM_CTL with GO: OP takes its value, also where the command is refused (R8, R13); once NVMCTL has agreed
in a handshake the command is held (R342). -/
def State.nvmGo (s : State) (op : Nat) (key : Byte) : State :=
  let s := s.setFld Reg.NVM_CTL 8 4 op
  if s.nvmBusy then s.nvmRefuse 6
  else
    if s.agreed 6 then
      { s.setFlag Reg.NVM_CTL 15 true with nvm := { s.nvm with held := some (word (op * 256 + key.toNat)) } }
    else s.nvmStart op key

/-- A held command starts (R342). -/
def State.nvmRelease (s : State) : State :=
  match s.nvm.held with
  | some w =>
    let s := { s.setFlag Reg.NVM_CTL 15 false with nvm := { s.nvm with held := none } }
    s.nvmStart (bits w 8 4) (w.setWidth 8)
  | none => s

/-! ### Meanings -/

/-- NVM_PROGRAM_A. -/
def execNvmProgramA (key : Byte) (s : State) : Host.Outcome State Fault Refusal := .next (s.inMain (fun t => t.nvmGo 1 key))

/-- NVM_PROGRAM_B. -/
def execNvmProgramB (key : Byte) (s : State) : Host.Outcome State Fault Refusal := .next (s.inMain (fun t => t.nvmGo 2 key))

/-- NVM_SAVE_CAL. -/
def execNvmSaveCal (key : Byte) (s : State) : Host.Outcome State Fault Refusal := .next (s.inMain (fun t => t.nvmGo 3 key))

/-- NVM_CAPTURE_SIG. -/
def execNvmCaptureSig (key : Byte) (s : State) : Host.Outcome State Fault Refusal :=
  .next (s.inMain (fun t => t.nvmGo 4 key))

/-- NVM_ERASE_A. -/
def execNvmEraseA (key : Byte) (s : State) : Host.Outcome State Fault Refusal := .next (s.inMain (fun t => t.nvmGo 5 key))

/-- NVM_ERASE_B. -/
def execNvmEraseB (key : Byte) (s : State) : Host.Outcome State Fault Refusal := .next (s.inMain (fun t => t.nvmGo 6 key))

/-- NVM_RESERVED_OP: an OP that is not 1 to 6 (error code 1). -/
def execNvmReservedOp (op : BitVec 4) (s : State) : Host.Outcome State Fault Refusal :=
  .next (if 1 ≤ op.toNat && op.toNat ≤ 6 then s else s.inMain (fun t => t.nvmGo op.toNat 0))

/-- The page in progress completes; it is read back, and a mismatch ends the operation (R392). -/
def State.pageDone (s : State) (p : FlashStep) (rest : List FlashStep) : State :=
  let s := s.flashStep p
  let bad := !s.flashVerify p
  { s with nvm := { s.nvm with todo := if bad then [] else rest, err := if bad then 3 else s.nvm.err,
                               paused := !s.flag Reg.FUNC_EN 7 } }

/-- NVM_PAGE_DONE. -/
def execNvmPageDone (s : State) : Host.Outcome State Fault Refusal :=
  .next (match s.nvm.todo with
    | p :: rest => if s.mainUp && s.nvm.op.isSome && !s.nvm.paused then s.pageDone p rest else s
    | [] => s)

/-- The operation ends; a capture is checked; an automatic record that waited begins (R387, R390, R395). -/
def State.nvmDone (s : State) : State :=
  let cap : Bool := s.nvm.op = some .captureSig
  let after := s.nvm.after
  let t := s.nvmEnd
  let t := if cap then t.sigCheck else t
  let t := { t with nvm := { t.nvm with after := false } }
  let t := if after then t.nvmBegin .autoSave t.calSteps else t
  (s.settle t).quiesceCheck

/-- NVM_OP_COMPLETE. -/
def execNvmOpComplete (s : State) : Host.Outcome State Fault Refusal :=
  .next (if s.mainUp && s.nvm.op.isSome && s.nvm.todo.isEmpty && s.nvm.frames = 0 then s.nvmDone else s)

end Sys2Proof.Machine
end

