-- ==== Sys2Proof/Machine/Sleep.lean ====
section
/-! DEFINITION. Sleep by vote and by handshake, the sleep sequence, and the latches it sets (R335 to R348, Table 11.4,
Table 11.6). -/

namespace Sys2Proof.Machine

/-! ### The refusal of a handshake (R344) -/

/-- Microseconds between two AON times, in whole slow-clock periods (log entry 18). -/
def microseconds (t0 t1 : BitVec 32) : Nat := (t1 - t0).toNat * 1000000 / 32768

/-- The agreed blocks restart in the reverse of their order (R344): NVMCTL takes up a held command, LANES counts as an
analog change and starts the pump (R81), QUEUE is visible again; a frame deferred before the pause waits for the next
expiry of the frame timer. -/
def State.restartBlocks (s : State) (agreed : List Nat) : State :=
  let s := if agreed.isEmpty then s else { s with seq := { s.seq with due := false } }
  let s := if agreed.contains 6 then s.nvmRelease else s
  let s := if agreed.contains 5 then
      { s with seq := { s.seq with analog := true }, drive := { s.drive with pump := !s.snap.lowdrv } } else s
  if agreed.contains 1 then { s with queue := { s.queue with stopped := false } } else s

/-- The PAUSED record: the pause in microseconds, the refusing block and the reason (Table 9.5). -/
def pausedRec (us block reason : Nat) : Rec :=
  recOf (header 4 0x10) 0 0 (word (us / 65536)) (word us) (word block) (word reason) 0

/-- A block refuses: the agreed blocks restart, SLEEP_ABORT and INT_STAT.SLP_ABORT tell of it, and a PAUSED record
follows when a block had stopped (R344). -/
def State.hsRefuse (s : State) (block reason : Nat) : State :=
  let agreed := match s.pwr.hs with
    | some h => h.agreed
    | none => []
  let start := match s.pwr.hs with
    | some h => h.start
    | none => none
  let s := { s with pwr := { s.pwr with hs := none, quiesce := false, pstate := .active } }
  let s := (s.restartBlocks agreed).setFlag Reg.SLEEP_CTL 14 false
  let s := ((s.setFld Reg.SLEEP_ABORT 13 3 block).setFld Reg.SLEEP_ABORT 10 3 reason).incFld Reg.SLEEP_ABORT 0 8
  let s := s.raise Irq.SLP_ABORT
  match start with
  | some t => (s.insertRec (pausedRec (microseconds t s.aon.time) block reason)).drainInserted
  | none => s

/-! ### The answers (Table 11.4) -/

/-- The delay condition of a block. -/
def State.delays (s : State) (block : Nat) : Bool :=
  match block with
  | 1 => s.queue.word != 0 || !s.queue.ins.isEmpty
  | 2 => s.cald.isOpen
  | 3 => s.seq.run && !s.seq.pend.isEmpty
  | 5 => s.calBusy
  | 6 => s.nvm.op.isSome
  | _ => false

/-- Every pin takes GROUND and the pump stops (Table 11.4, LANES). -/
def State.groundLanes (s : State) : State :=
  { s.setFlag Reg.LANE_STAT 15 false with
    seq := { s.seq with pins := Vector.replicate 160 .ground }, drive := { s.drive with pump := false } }

/-- What agreeing and stopping means for a block. -/
def State.stopBlock (s : State) (block : Nat) : State :=
  match block with
  | 1 => { s with queue := { s.queue with stopped := true } }
  | 2 => s.dropOwed
  | 3 => { s.cutFrame with seq := { s.cutFrame.seq with due := false } }
  | 4 => s.detAbortAll false
  | 5 => s.groundLanes
  | _ => s

/-- A block agrees; the next one is asked, and after DEBUG the sleep sequence begins (R340, R345). -/
def State.hsAgree (s : State) (h : Handshake) : State :=
  let t := s.stopBlock h.block
  let h' : Handshake :=
    { block := h.block + 1, delays := 0, agreed := h.agreed ++ [h.block], start := some (h.start.getD s.aon.time) }
  { t with pwr := { t.pwr with hs := some h', goSleep := h.block = 7 } }

/-- The block that is asked answers: DEBUG refuses while the TAP is out of Test-Logic-Reset; a block in its delay
condition gives no answer yet; any other agrees. -/
def State.hsAnswer (s : State) (h : Handshake) : State :=
  if 7 < h.block || s.delays h.block then s
  else if h.block = 7 && s.sec.tapOut then s.hsRefuse 7 4
  else s.hsAgree h

/-! ### Requests -/

/-- A write of 1 to REQ: the HOST vote clears; outside a handshake, and with MAIN on, the request is armed
(R336, R342, R438). -/
def State.sleepReq (s : State) : State :=
  let t := s.setFlag Reg.PWR_VOTE 0 false
  if t.pwr.hs.isSome || t.pwr.pstate = .sleep || t.pwr.pstate = .waking || t.pwr.pstate = .wakeFail then t
  else (t.setFlag Reg.SLEEP_CTL 15 true).dueIfStopped

/-- The first question is answered at once where the votes forbid sleep (R340). -/
def State.sleepAsk (s : State) : State :=
  if s.mainUp && s.pwr.hs.isNone && !s.pwr.goSleep && (s.pwr.pstate = .active || s.pwr.pstate = .entry) then
    let t := s.setFlag Reg.SLEEP_CTL 14 true
    let t := { t with pwr := { t.pwr with pstate := .entry } }
    if s.vote 4 then t.hsRefuse 6 3
    else if s.vote 2 then t.hsRefuse 7 3
    else { t with pwr := { t.pwr with hs := some ⟨1, 0, [], none⟩ } }
  else s

/-- SLEEP_REQ: an AON register's bit, writable while no reset holds the block. -/
def execSleepReq (s : State) : Host.Outcome State Fault Refusal := .next (if s.aonUp then s.sleepReq else s)

/-- SLEEP_ASK: ignored during a handshake, and while the block is neither ACTIVE nor quiescing (R342). -/
def execSleepAsk (s : State) : Host.Outcome State Fault Refusal := .next (if s.aonUp then s.sleepAsk else s)

/-- HANDSHAKE_BLOCK_ANSWER: the block that is asked answers, its delay condition having ended (R340). -/
def execHandshakeBlockAnswer (s : State) : Host.Outcome State Fault Refusal :=
  .next (match s.pwr.hs with
    | some h => if s.mainUp && !s.pwr.goSleep then s.hsAnswer h else s
    | none => s)

/-- The block is asked again after 2 ms; a delay that would be its fifth counts as a refusal (R341). -/
def State.hsAskAgain (s : State) (h : Handshake) : State :=
  if s.delays h.block then
    if 3 ≤ h.delays then s.hsRefuse h.block 2
    else { s with pwr := { s.pwr with hs := some { h with delays := h.delays + 1 } } }
  else s.hsAnswer h

/-- HANDSHAKE_DELAY_EXPIRY: 2 ms after a DELAY. -/
def execHandshakeDelayExpiry (s : State) : Host.Outcome State Fault Refusal :=
  .next (match s.pwr.hs with
    | some h => if s.mainUp && !s.pwr.goSleep then s.hsAskAgain h else s
    | none => s)

/-! ### The Geyser's latches (R261, R274) -/

/-- The bus of a pin: the lowest of the first `n` masks that holds it; no bus for the roles that never join. -/
def State.busOf (s : State) (n pin : Nat) : Option Nat :=
  let snap := { s.snap with tables := s.tables }
  let base := 4 * s.fld Reg.GEYSER_CFG 7 1
  if 1 ≤ snap.panelRole pin && snap.panelRole pin ≤ 3 then
    (List.range n).find? (fun k => snap.masked (base + k) pin)
  else none

/-- What the Geyser takes into AON at a sleep entry; KIND clears (R261, R272, R274). -/
def State.geyserLatch (s : State) : State :=
  let n := s.fld Reg.GEYSER_CFG 8 2 + 1
  let map := (List.range 160).map (s.busOf n)
  let s := s.setFld Reg.GEYSER_THR 2 2 0
  { s with
    pwr := { s.pwr with geyEn := s.flag Reg.FUNC_EN 9, dsyncWk := s.flag Reg.SLEEP_CTL 12,
                        pol := s.flag Reg.SYNC_CTL 14 },
    geyser := { s.geyser with
      on := s.flag Reg.GEYSER_CFG 15 && s.flag Reg.FUNC_EN 9, map := map, count := n,
      sgain := s.fld Reg.GEYSER_CFG 4 3, buses := List.replicate n Bus.reset, scan := 0, cand := false, evs := [],
      cover := false } }

/-- MAIN returns to SLEEP without a confirmation: a rejection is counted, and the fourth starts the back-off
(R270, R271). -/
def State.geyserRejection (s : State) : State :=
  if s.geyser.woke then
    let n := s.geyser.rej + 1
    let t := { s with geyser := { s.geyser with rej := n, woke := false } }
    if n = 4 && t.flag Reg.GEYSER_CFG 1 then t.setFlag Reg.GEYSER_THR 1 true else t
  else s

/-! ### The sleep sequence (Table 11.6) -/

/-- Slow-clock periods of a unit of the wake timer (Table 11.21). -/
def timerUnit (u : Nat) : Nat := match u with
  | 0 => 32
  | 1 => 1024
  | 2 => 32768
  | _ => 1966080

/-- The wake timer starts with what WAKE_TIMER holds; 0 is off (R351). -/
def State.timerStart (s : State) : State :=
  { s with pwr := { s.pwr with timerLeft := s.fld Reg.WAKE_TIMER 0 14 * timerUnit (s.fld Reg.WAKE_TIMER 14 2) } }

/-- The pins in SLEEP: on their sentinel bus where the Geyser watches them, grounded otherwise (Table 2.3). With the Geyser
off no pin joins a bus: R96 and R261 do not say what its masks do then (DESIGN CHOICE, log entry 56). -/
def State.sleepPins (s : State) : State :=
  let pins : Vector Position 160 := Vector.ofFn (fun n : Fin 160 =>
    if s.geyser.on && (nth s.geyser.map n.val none).isSome then .sentinel else .ground)
  { s with seq := { s.seq with pins := pins } }

/-- What does not survive a sleep entry in the engines: the measurement of a lane in calibration (R381), the pump and
the DPLL, chips under way. -/
def State.enginesOff (s : State) : State :=
  let s := ((s.setFlag Reg.LANE_STAT 15 false).setFlag Reg.CLK_STAT 15 false).setFlag Reg.CLK_STAT 14 false
  let round := match s.cal.round with
    | some r => some { r with lost := !r.ready && !r.meas.isEmpty }
    | none => none
  { s with drive := { s.drive with pump := false, toFio := false }, cal := { s.cal with round := round },
           seq := { s.seq with due := false } }

/-- Unlock, nonce and debug state end as retention capture begins (R410, R412, R414). -/
def State.secAsleep (s : State) : State :=
  { s with sec := { s.sec with unlocked := false, tapOut := false, ir := 0x01, nonce := none, chal := 0, resp := [], asked := false } }

/-- The sleep sequence as a whole: afterwards MAIN is off and PSTATE reads SLEEP (R346 to R348). -/
def State.sleepEntry (s : State) : State :=
  let s := ((s.setFlag Reg.SLEEP_CTL 15 false).setFlag Reg.SLEEP_CTL 14 false).geyserRejection
  let s := (((s.enginesOff).geyserLatch).sleepPins).secAsleep
  let s := s.timerStart
  { s with pwr := { s.pwr with pstate := .sleep, ready := false, step := 0, retried := false, waiting := false,
                               quiesce := false, goSleep := false } }

/-- SLEEP_ENTRY: once the quiesce has ended or DEBUG has agreed. -/
def execSleepEntry (s : State) : Host.Outcome State Fault Refusal :=
  .next (if s.mainUp && s.pwr.goSleep then s.sleepEntry else s)

end Sys2Proof.Machine
end

