-- ==== Sys2Proof/Machine/Geyser.lean ====
section
/-! DEFINITION. The Geyser: auto-zero, baselines, touches, wake patterns and the meanings of its commands (R261 to
R274). -/

namespace Sys2Proof.Machine

/-! ### Thresholds (R265, R271) -/

/-- The effective ON: ON, or one and a half times ON during back-off. -/
def State.geyOnThr (s : State) : Int :=
  let n := max 1 (s.fld Reg.GEYSER_THR 8 8)
  if s.flag Reg.GEYSER_THR 1 then ((n + n / 2 : Nat) : Int) else (n : Int)

/-- OFF. -/
def State.geyOffThr (s : State) : Int := max 1 (s.geyOnThr * (s.fld Reg.GEYSER_THR 4 4 : Int) / 16)

/-! ### Auto-zero (R263) -/

/-- The result of a bus over a scan: the sum of d, and the charge left in the integrator. A sentinel lane converts as R68
describes at q_s, in 32 chips of two halves of 8 sentinel-clock periods; each edge brings its charge less what the
compensation of 0.1 pC per step removes, in the first period of its half (R262). -/
def busConvert (sgain comp : Nat) (x : Int) (e : BusScan) : Int × Int :=
  (List.range 512).foldl (fun (a : Int × Int) k =>
    let sg : Int := if k / 8 % 2 = 0 then 1 else -1
    let q : Int := if k % 8 = 0 then sg * nth e (k / 8) 0 else 0
    let qc : Int := if k % 8 = 0 then sg * (320 * comp) else 0
    let c := convert a.2 sgain q qc sg
    (a.1 + c.d, c.x)) (0, x)

/-- The last step of a bus's compensation, 400 pF in steps of 0.25 pF. -/
def compMax : Nat := 1600

/-- The compensation by successive approximation: from the highest bit down, each bit judged in a chip of its own, to the
nearest step (R263). -/
def autoComp (e : BusScan) : Nat :=
  (List.range 11).foldl (fun c i =>
    let t := c + 2 ^ (10 - i)
    if t ≤ compMax ∧ 320 * (t : Int) ≤ nth e (2 * i) 0 + 160 then t else c) 0

/-- The residual of a scan, its mean over the 64 edges, exceeds 3 q_s (R263; log entry 48). -/
def residualExceeds (sgain comp : Nat) (e : BusScan) : Bool :=
  let sum : Int := (List.range 64).foldl (fun t j => t + nth e j 0 - 320 * comp) 0
  decide (64 * 3 * 160 * 2 ^ sgain < sum.natAbs)

/-- A bus after scan `k` of the auto-zero. -/
def Bus.zeroScan (sgain k : Nat) (b : Bus) (e : BusScan) : Bus :=
  if k = 1 then
    let c := autoComp e
    { b with comp := c, x := (busConvert sgain c b.x e).2, base := 0, sums := 0, excl := c = 0 || compMax ≤ c }
  else
    let r := busConvert sgain b.comp b.x e
    let sum := b.sums + r.1
    let b := { b with x := r.2, sums := sum }
    if k = 4 then { b with base := (2 * sum + 3) / 6, excl := b.excl || residualExceeds sgain b.comp e } else b

/-- Apply one scan's results to the buses. -/
def scanBuses (f : Bus → BusScan → Bus) (bs : List Bus) (rs : List BusScan) : List Bus :=
  (List.range bs.length).map (fun i => f (nth bs i Bus.reset) (nth rs i []))

/-- Scan `k` of the auto-zero: buses newly excluded are reported, and with none left the Geyser stops (R263, R430). -/
def State.zeroScan (s : State) (k : Nat) (rs : List BusScan) : State :=
  let old := s.geyser.buses
  let new := scanBuses (Bus.zeroScan s.geyser.sgain k) old rs
  let out := (List.range new.length).filter (fun i => (nth new i Bus.reset).excl && !(nth old i Bus.reset).excl)
  let s := { s with geyser := { s.geyser with buses := new, scan := k, on := !new.all Bus.excl } }
  let mask := fuseBits (fun i => (nth new i Bus.reset).excl)
  out.foldl (fun s i => s.aonFault 11 2 (word i) 1) (s.setFld Reg.AON_FAULT 4 4 mask)

/-! ### Touches (R264, R265) -/

/-- A bus after a scan: touched or not by its signal, the result less the baseline; its baseline while IDLE; its last
result. -/
def Bus.touchScan (sgain : Nat) (onT offT : Int) (idle : Bool) (b : Bus) (e : BusScan) : Bus :=
  if b.excl then b
  else
    let r := busConvert sgain b.comp b.x e
    let x := r.1 - b.base
    let touched := if b.touched then decide (offT ≤ x) else decide (onT ≤ x)
    let neg := decide (x ≤ -onT)
    let take := idle && neg && b.low
    let base := if take then r.1
                else if idle && decide ((x.natAbs : Int) < offT) then
                  (if 0 < x then b.base + 1 else if x < 0 then b.base - 1 else b.base)
                else b.base
    { b with touched := touched, base := base, low := neg && !take, sums := r.1, x := r.2 }

/-- The buses that count in R267. -/
def Geyser.counting (g : Geyser) : List Nat :=
  (List.range g.buses.length).filter (fun i => !(nth g.buses i Bus.reset).excl)

/-! ### Wake patterns (R267, Table 8.4) -/

/-- A time between two scans is at most `ms` milliseconds. -/
def scanWithinMs (a b : BitVec 32) (ms : Nat) : Bool := decide ((b - a).toNat * 1000 ≤ ms * 32768)

/-- Whether time `a` is later than `b`, judged by how long before `now` they lie. -/
def laterThan (now a b : BitVec 32) : Bool := decide ((now - a).toNat < (now - b).toNat)

/-- HOLD: one bus touched for 1000 ms and no other bus touched meanwhile. -/
def isHold (now : BitVec 32) (evs : List GTouch) : Bool :=
  evs.any (fun e => e.t1.isNone && decide (32768 ≤ (now - e.t0).toNat) &&
    evs.all (fun f => f.bus = e.bus || (match f.t1 with
      | none => false
      | some t => !laterThan now t e.t0)))

/-- The touches by the scan in which they began, and within a scan in the direction's own order. -/
def touchOrder (up : Bool) (evs : List GTouch) : List GTouch :=
  evs.mergeSort (fun a b => if a.scan = b.scan then (if up then a.bus ≤ b.bus else b.bus ≤ a.bus) else a.scan ≤ b.scan)

/-- The buses of touches rise, or fall, strictly. -/
def strictly (up : Bool) : List GTouch → Bool
  | a :: b :: t => (if up then decide (a.bus < b.bus) else decide (b.bus < a.bus)) && strictly up (b :: t)
  | _ => true

/-- The touches of a list form a swipe that ends now: a strict direction, enough buses, different scans for the first
and the last touch, within 600 ms. -/
def swipeOf (now : BitVec 32) (need : Nat) (up : Bool) (l : List GTouch) : Bool :=
  match l with
  | [] => false
  | a :: _ => strictly up l && decide (need ≤ l.length) && scanWithinMs a.t0 now 600 && (match l.getLast? with
    | some z => a.scan != z.scan
    | none => false)

/-- The last touches that form a swipe in a direction, whatever came before them. -/
def isSwipe (now : BitVec 32) (need : Nat) (up : Bool) (evs : List GTouch) : Bool :=
  (touchOrder up evs).tails.any (swipeOf now need up)

/-- The spans in which some bus was touched, oldest first: touches that overlap or follow in the same scan join. -/
def episodes (now : BitVec 32) (l : List GTouch) : List (BitVec 32 × BitVec 32) :=
  l.foldl (fun acc e =>
    let e1 := e.t1.getD now
    match acc.getLast? with
    | some (a, z) =>
      if laterThan now e.t0 z then acc ++ [(e.t0, e1)]
      else acc.dropLast ++ [(a, if laterThan now e1 z then e1 else z)]
    | none => [(e.t0, e1)]) []

/-- DTAP: the last two spans are taps of at most 250 ms with a gap of at most 350 ms. -/
def isDtap (now : BitVec 32) (evs : List GTouch) : Bool :=
  match (episodes now (touchOrder true evs)).reverse with
  | b :: a :: _ => scanWithinMs a.1 a.2 250 && scanWithinMs a.2 b.1 350 && scanWithinMs b.1 b.2 250
  | _ => false

/-- The pattern that completes in this scan: 1 DTAP, 2 SWIPE, 3 HOLD; `done` says that the last touch was released in
it. -/
def State.pattern (s : State) (g : Geyser) (done : Bool) : Option Nat :=
  let now := s.aon.time
  let n := g.counting.length
  let dir := s.fld Reg.GEYSER_CFG 2 2
  let up := dir != 2 && isSwipe now (min 3 n) true g.evs
  let down := dir != 1 && isSwipe now (min 3 n) false g.evs
  if s.flag Reg.GEYSER_CFG 12 && isHold now g.evs then some 3
  else if s.flag Reg.GEYSER_CFG 13 && done && decide (2 ≤ n) && (up || down) then some 2
  else if s.flag Reg.GEYSER_CFG 14 && done && isDtap now g.evs then some 1
  else none

/-! ### A scan (R266 to R268) -/

/-- Touches that began and ended in a scan enter the record of the Geyser; `old` are the buses before. -/
def Geyser.record (g : Geyser) (old : List Bus) (now : BitVec 32) : Geyser :=
  let is (l : List Bus) (i : Nat) : Bool := (nth l i Bus.reset).touched
  let evs := g.evs.map (fun e : GTouch =>
    if e.t1.isNone && !is g.buses e.bus then { e with t1 := some now } else e)
  let new := (List.range g.buses.length).filter (fun i => is g.buses i && !is old i)
  { g with evs := evs ++ new.map (fun i => ⟨i, g.scan, now, none⟩) }

/-- A wake source asks for a wake in SLEEP (R349). -/
def State.wakeRequest (s : State) (w : WakeSource) : State :=
  if s.pwr.pstate = .sleep && !s.pwr.reqs.contains w then { s with pwr := { s.pwr with reqs := s.pwr.reqs ++ [w] } } else s

/-- A wake candidate: KIND, the request, and the Geyser is IDLE again (R266, R268). -/
def State.candidate (s : State) (kind : Nat) : State :=
  let s := s.setFld Reg.GEYSER_THR 2 2 kind
  ({ s with geyser := { s.geyser with cand := false, evs := [] } }).wakeRequest .geyser

/-- What a scan after the auto-zero leaves of the buses and the record of touches, and whether the last touch was released
in it (R264 to R267). -/
def State.watchBuses (s : State) (rs : List BusScan) : State × Bool :=
  let g := s.geyser
  let old := g.buses
  let new := scanBuses (Bus.touchScan g.sgain s.geyOnThr s.geyOffThr (!g.cand)) old rs
  let count := g.counting
  let any := new.any Bus.touched
  let all := decide (2 ≤ count.length) && count.all (fun i => (nth new i Bus.reset).touched)
  let g := { g with buses := new, scan := g.scan + 1, cand := g.cand || any }
  let cover := all || (g.cover && any)
  let g := if cover then { g with cover := true, evs := [] } else { g.record old s.aon.time with cover := false }
  let done := old.any Bus.touched && !any
  ({ s with geyser := g }, done)

/-- A scan after the auto-zero: a pattern that completes in it is a wake candidate (R266 to R268). -/
def State.watchScan (s : State) (rs : List BusScan) : State :=
  let u := s.watchBuses rs
  match u.1.pattern u.1.geyser u.2 with
  | some k => u.1.candidate k
  | none => u.1

/-- GEYSER_SCAN: the edge charges of each bus. -/
def execGeyserScan (bs : List BusScan) (s : State) : Host.Outcome State Fault Refusal :=
  .next (
    if s.aonUp && s.pwr.pstate = .sleep && s.geyser.on then
      if s.geyser.scan < 4 then s.zeroScan (s.geyser.scan + 1) bs else s.watchScan bs
    else s)

/-- GEYSER_CANDIDATE_TIMEOUT: back to IDLE, after 400 ms with no bus touched or 2 s since the entry; every bus still
touched takes its current result as its baseline (R266). -/
def execGeyserCandidateTimeout (s : State) : Host.Outcome State Fault Refusal :=
  .next (
    if s.aonUp && s.pwr.pstate = .sleep && s.geyser.cand then
      { s with geyser := { s.geyser with
          cand := false, evs := [], cover := false,
          buses := s.geyser.buses.map (fun b : Bus => if b.touched then { b with touched := false, base := b.sums } else b) } }
    else s)

/-- GEYSER_REJECT_CLEAR: 60 s without a rejection clear the count (R270). -/
def execGeyserRejectClear (s : State) : Host.Outcome State Fault Refusal :=
  .next (if s.aonUp then { s with geyser := { s.geyser with rej := 0 } } else s)

/-- BACKOFF_EXPIRY: 60 s without a wake candidate end the back-off (R271). -/
def execBackoffExpiry (s : State) : Host.Outcome State Fault Refusal :=
  .next (if s.aonUp then s.setFlag Reg.GEYSER_THR 1 false else s)

end Sys2Proof.Machine
end

