-- ==== Sys2Proof/Machine/Wake.lean ====
section
/-! DEFINITION. The wake: sources, the power-up steps that wake and boot share, their time-outs, the end of a wake, and
the move to FIO2 (R349 to R355, R426). -/

namespace Sys2Proof.Machine

/-! ### FIO2 (R426) -/

/-- The entry in progress, up to the end of its last chip, is cut without its row, and with it the rest of the frame; the
frame's Caldera frame still
opens and ends row-late (R426). -/
def State.cutEntry (s : State) : State :=
  if s.seq.run then
    let run := if s.seq.phase = .running && !s.chipsOver then s.seq.cur.map EntryRun.firstChip else none
    let pend := s.seq.pend.filter (fun r => some r.firstChip != run)
    let chips := s.filt.chips.filter (fun c => some c.run != run)
    let phase := if s.seq.phase = .stopped then .stopped else .boundary
    let t := { s with drive := { s.drive with half := none },
                      seq := { s.seq with cut := true, pend := pend, phase := phase, left := 0, hold := 0, cur := none },
                      filt := { s.filt with chips := chips } }
    t.frameCheck
  else s

/-- FIO-domain logic, the cadence and the timebase run from FIO2 until a reset that boots; CLK_CTL.TB acts as 0b00, so
the DPLL is off and its lock ends; SYNC_CTL.EN acts as 0, so the synchronisation state is OFF (R161, R165, R169, R426). -/
def State.toFio2 (s : State) : State :=
  let s := (((s.setFlag Reg.CLK_STAT 11 true).setFlag Reg.CLK_STAT 15 false).setFlag Reg.CLK_STAT 14 false).syncClear
  { s.cutEntry with seq := { s.cutEntry.seq with analog := true } }

/-- The event of an FIO fault that FIO2 masks; `why` is 1 stopped, 2 off frequency (Table 14.4). -/
def State.fioEvent (s : State) (why : Word) : State := s.mainFault 10 FaultClass.OSC 0 1 why 2

/-! ### Wake sources (R349, R350) -/

/-- WAKE_TIMER_EXPIRY: the timer runs in SLEEP. -/
def execWakeTimerExpiry (s : State) : Host.Outcome State Fault Refusal :=
  .next (
    if s.aonUp && s.pwr.pstate = .sleep && s.pwr.timerLeft != 0 then
      ({ s with pwr := { s.pwr with timerLeft := 0 } }).wakeRequest .timer
    else s)

/-- DSYNC_WAKE: an edge of the latched polarity, with DSYNC_WK latched. -/
def execDsyncWake (falling : Bool) (s : State) : Host.Outcome State Fault Refusal :=
  .next (if s.aonUp && s.pwr.dsyncWk && s.pwr.pol = falling then s.wakeRequest .dsync else s)

/-- TCK_WAKE: a rising TCK edge, in every lifecycle state except SECURED. -/
def execTckWake (s : State) : Host.Outcome State Fault Refusal :=
  .next (if s.aonUp && s.sec.life != .secured then s.wakeRequest .tck else s)

/-- The bits of WAKE_SRC (Table 11.19). -/
def wakeBits (l : List WakeSource) : Nat :=
  bitAt 15 (l.contains .geyser) + bitAt 14 (l.contains .host) + bitAt 13 (l.contains .timer) +
    bitAt 12 (l.contains .dsync) + bitAt 11 (l.contains .tck)

/-- The PMU recognises the requests of this slow-clock period; the Geyser and the timer stop, and MAIN powers up
(R268, R350 to R352). -/
def State.wakeEvent (s : State) : State :=
  let l := s.pwr.reqs
  let s := s.setReg Reg.WAKE_SRC (word (wakeBits l + s.fld Reg.WAKE_SRC 0 8))
  { s with
    pwr := { s.pwr with pstate := .waking, reqs := [], step := 2, retried := false, waiting := false, timerLeft := 0 },
    geyser := { s.geyser with on := false, cand := false, evs := [], cover := false, woke := l.contains .geyser } }

/-- WAKE_EVENT. -/
def execWakeEvent (s : State) : Host.Outcome State Fault Refusal :=
  .next (if s.aonUp && s.pwr.pstate = .sleep && !s.pwr.reqs.isEmpty then s.wakeEvent else s)

/-! ### Power-up (Table 11.10) -/

/-- MAIN is powering up, in a wake or a boot, and waits in step `n`. -/
def State.powering (s : State) (n : Nat) : Bool :=
  s.aonUp && (s.pwr.pstate = .waking || s.pwr.pstate = .boot) && s.pwr.step = n && !s.pwr.waiting

/-- WAKE_SUPPLY_READY: step 2 ends. -/
def execWakeSupplyReady (s : State) : Host.Outcome State Fault Refusal :=
  .next (if s.powering 2 then { s with pwr := { s.pwr with step := 3 } } else s)

/-- The code of WF_STEP (Table 11.16). -/
def WakeStep.code : WakeStep → Nat
  | .vcore => 1 | .vana => 2 | .oscillators => 3

/-- A step has timed out: the switch opens and 1 ms is waited, or, the second time, WAKE_FAIL is entered (R354). -/
def State.stepFailed (s : State) (w : WakeStep) : State :=
  if s.pwr.retried then
    let t := { s with pwr := { s.pwr with pstate := .wakeFail, step := 0 } }
    ((t.setFlag Reg.SYS_STAT 9 true).setFld Reg.SYS_STAT 7 2 (WakeStep.code w)).raise Irq.WAKE_FAIL
  else { s with pwr := { s.pwr with retried := true, waiting := true, step := 0 } }

/-- WAKE_RETRY: 1 ms after a failed step the power-up repeats from step 1. -/
def execWakeRetry (s : State) : Host.Outcome State Fault Refusal :=
  .next (if s.aonUp && s.pwr.waiting then { s with pwr := { s.pwr with waiting := false, step := 2 } } else s)

/-! ### The end of a wake (Table 11.8, Table 11.10 step 6) -/

/-- What every wake sets afresh (Table 11.8). -/
def State.wakeAfresh (s : State) : State :=
  let s := (s.setFld Reg.CLK_CTL 13 2 0).syncClear
  let s := (s.vstart).detAbortAll false
  { s with seq := { s.seq with analog := true }, sync := { s.sync with seen := false, ivals := [], burst := false },
           queue := { s.queue with stopped := false } }

/-- The first frame of a wake starts, and its first entry's pins are set before it (R59, R269, R352). -/
def State.wakeFrame (s : State) : State :=
  let s := { s with seq := { s.seq with noWait := s.flag Reg.WAKE_SRC 15, pins := Vector.replicate 160 .ground } }
  if s.seqMay then
    let t := s.frameStart
    { t with seq := { t.seq with pins := t.positions (t.entryRead 0) (!t.flag Reg.FUNC_EN 0) } }
  else s

/-- Retention is restored and MAIN is ready: what waited for it takes place, and the first frame starts. -/
def State.wakeDone (s : State) : State :=
  let s := { s with pwr := { s.pwr with ready := true, step := 0, pstate := .active, hs := none, retried := false } }
  let s := (s.wakeAfresh).incFld Reg.WAKE_SRC 0 8
  let s := ((s.raise Irq.WAKE).recordLater).nvmRelease
  (s.drainInserted).wakeFrame

/-- RETENTION_RESTORED: in a wake, once isolation is released. No vote is withdrawn in it, so no sleep becomes due. -/
def execRetentionRestored (s : State) : Host.Outcome State Fault Refusal :=
  .next (if s.powering 5 && s.pwr.pstate = .waking then s.wakeDone else s)

/-! ### Writes that act in SLEEP -/

/-- A write of WAKE_TIMER: the register, and in SLEEP the count restarts (R351). -/
def State.wakeTimerWrite (s : State) (v : Word) : State :=
  let t := s.setReg Reg.WAKE_TIMER v
  if t.pwr.pstate = .sleep then t.timerStart else t

/-- WAKE_TIMER_WRITE. -/
def execWakeTimerWrite (v : Word) (s : State) : Host.Outcome State Fault Refusal :=
  .next (if s.aonUp then s.wakeTimerWrite v else s)

end Sys2Proof.Machine
end

