-- ==== Sys2Proof/Machine/Boot.lean ====
section
/-! DEFINITION. Resets and boot: what each reset keeps, the power-up of MAIN, the cells' self-test, the images of the
slots, the calibration record, and the end of boot (R42 to R45, R197, R333, R357 to R363, R388, R390, R394, R397). -/

namespace Sys2Proof.Machine

/-! ### What a reset keeps (R357, Table 11.13) -/

/-- The lifecycle state that the fuses of OTP word 43 decode to (R397). -/
def lifeOf (w : BitVec 32) : Lifecycle :=
  if fuseBlown w 2 then .returned else if fuseBlown w 1 then .secured else if fuseBlown w 0 then .develop else .opened

/-- The OTP words 40 to 43 as they read now. -/
def State.fuseWords (s : State) : Vector (BitVec 32) 4 := #v[s.otpWord 40, s.otpWord 41, s.otpWord 42, s.otpWord 43]

/-- The security block after a reset that boots: the OTP, and the shadow read from it (R397). -/
def State.secBooted (s : State) : Sec :=
  { Sec.reset with otp := s.sec.otp, shadow := s.fuseWords, life := lifeOf (s.otpWord 43) }

/-- The faults that are present in the hardware after a reset: lasting ones, and stuck bits of the memories. -/
def Fmon.booted (f : Fmon) : Fmon :=
  { Fmon.reset with faults := f.faults.filter (fun x => !x.2),
                    memErrs := (f.memErrs.filter MemErr.stuck).map (fun e => { e with found := false }) }

/-- A reset of AON and MAIN: what is left is the flash, as far as a step in progress leaves it, the OTP, the hardware's faults, the straps as given, the draw
number of the free values and the queue of commands. -/
def State.rebooted (s : State) (cause : Nat) (hsel hsdo : Bool) : State :=
  let s := s.flashCut
  { State.reset with
    flash := s.flash, sec := s.secBooted, fmon := s.fmon.booted, aon := { Aon.reset with hsel := hsel, hsdo := hsdo },
    pwr := { Pwr.reset with cause := cause }, freeCtr := s.freeCtr, pending := s.pending }

/-- A MAIN reset: AON registers, AON time, the straps, the host front end and the Geyser's counts are kept; boot enters
at the MAIN power-up (Table 11.13, R428). A Geyser wake stays judged, or still to be judged (R272). It is a reset that boots (R421), so the watchdog ring gives way to the internal
oscillator (R427). -/
def State.mainReset (s : State) : State :=
  let t := s.rebooted 4 s.aon.hsel s.aon.hsdo
  let regs : Vector Word 80 := Vector.ofFn (fun i : Fin 80 => if i.val < 16 then s.regs.get i else t.regs.get i)
  let slow : SlowSrc := if s.aon.slow = .watchdog then .internal else s.aon.slow
  { t with aon := { s.aon with slow := slow, latchC := none, latchG := [] }, regs := regs, port := { s.port with ptr := 0 }, geyser := { s.geyser with on := false },
           sec := { t.sec with shadow := s.sec.shadow, life := s.sec.life },
           fmon := { t.fmon with later := s.fmon.later },
           lib := { t.lib with wakeCnt := s.lib.wakeCnt, wakeWait := s.lib.wakeWait } }

/-- A system reset: the straps are sampled at its end (R45, R358). -/
def State.systemReset (s : State) (st : Straps) : State := s.rebooted 3 st.hsel st.hsdo

/-! ### Boot (Table 11.15) -/

/-- The cells that pass the built-in self-test (R197). -/
def State.passing (s : State) : List PhysId :=
  (List.finRange 8).filter (fun p => !s.fmon.faults.any (fun f => !f.2 && (match f.1 with
    | .cell c m => decide (c = p) && m != 0
    | .intake c m => decide (c = p) && m != 0
    | .halt c => decide (c = p)
    | _ => false)))

/-- The logical cells are mapped to the passing cells in ascending order; the lowest one left over is the spare
(R197). -/
def State.cellBist (s : State) : State :=
  let ok := s.passing
  let map : Vector PhysId 7 := Vector.ofFn (fun k : Fin 7 => nth ok k.val ⟨k.val, by omega⟩)
  let spare := ok[7]?
  let bad := (List.finRange 8).filter (fun p => !ok.contains p)
  { s.setFlag Reg.SCHED_STAT 11 spare.isNone with
    cald := { s.cald with map := map, spare := spare, retired := bad } }

/-- CALF and T_LAST take the newest valid record, or CAL_STAT.NONE is set (R388). -/
def State.calLoad (s : State) : State :=
  match s.calNewest with
  | some k =>
    let b := calBase k
    let temp : Word := word (beNat (s.flashBytes (b + 8) 2))
    let ws := (List.range 328).map (fun i => word (beNat (s.flashBytes (b + 16 + 2 * i) 2)))
    let s := s.setTabs Win.CALF 0 ws
    let s := s.setFld Reg.CAL_TEMP_DELTA 8 8 (iword (asr (temp.toInt + 8) 4)).toNat
    { s with cal := { s.cal with measured := true, temp := temp } }
  | none => s.setFlag Reg.CAL_STAT 13 true

/-- The image source that the RESET record of a boot names (Table 9.7). -/
def State.imageSource (s : State) : Nat := match s.fld Reg.SYS_STAT 5 2 with
  | 0 => 0
  | 1 => 1
  | _ => 0xFF

/-- Boot ends: BOOT_DONE, PSTATE ACTIVE, the RESET record and the faults that waited, the first frame (R285, R362,
R363). -/
def State.bootFinish (s : State) : State :=
  let st : SchedState := if s.sched.valid then s.startState else .stopped
  let s := s.setFlag Reg.SYS_STAT 4 true
  let s := { s with pwr := { s.pwr with pstate := .active, boot := .done, slots := [] },
                    sched := { s.sched with state := st } }
  let sub := if s.pwr.cause = 3 then 2 else 1
  let r := recOf (header 6 sub) 0 0 (word (s.imageSource * 256 + s.pwr.cause)) 0 0 0 0
  let s := ((s.insertRec r).drainInserted).recordLater.drainInserted
  s.firstFrame.dueIfStopped

/-- After the images: the record, VCORE, and the self-calibration that AUTO asks for, with the settings that boot has
loaded (Table 11.15, R371). -/
def State.bootCal (s : State) : State :=
  let s := if s.sched.valid then s else s.setFld Reg.SYS_STAT 5 2 3
  let s := ((s.calLoad).vstart).nvmViews
  let s := { s with snap := s.snapNow }
  if s.flag Reg.CAL_CMD 13 then
    { s with pwr := { s.pwr with boot := .selfCal }, cal := { s.cal with due := true } }
  else s.bootFinish

/-- The configuration words of the GOERTZEL window are loaded from the image's parameters at boot (R131). No parameter of
R204 names one, so where in the image they stand is not given, and what they load is a free value of the image
(DESIGN CHOICE, log entry 45). -/
def State.bootGoertzel (s : State) (img : List Byte) : State :=
  (List.range 4).foldl (fun s k => s.setTabs Win.GOERTZEL (8 * k)
    ((List.range 4).map (fun i => Config.imageGoertzel img (8 * k + i) &&& winMask Win.GOERTZEL (8 * k + i)))) s

/-- A slot is tried: an image that passes is installed, one that fails gives REJ (R394, R205). `b` is slot B. -/
def State.bootSlot (s : State) (b : Bool) : State :=
  let img := s.slotImage b.toNat
  let code := s.checkImage img
  if code = 0 then
    let s := ((s.installImage img).libInstalled).setFld Reg.SYS_STAT 5 2 b.toNat
    (s.bootGoertzel img).sigCheck
  else s.setFld Reg.SCHED_CTL 0 4 code

/-- The stream of one slot ends: on success, or with no slot left, boot goes on. -/
def State.bootStream (s : State) : State :=
  match s.pwr.slots with
  | b :: rest =>
    let t := s.bootSlot b
    let t := { t with pwr := { t.pwr with slots := rest } }
    if t.sched.valid || rest.isEmpty then t.bootCal else t
  | [] => s.bootCal

/-- MAIN is powered in a boot: the register file answers, the cells are tested, and the slots to be tried are chosen. -/
def State.bootInit (s : State) : State :=
  let s := { s with pwr := { s.pwr with ready := true, step := 0, retried := false, boot := .stream, slots := s.bootSlots } }
  let s := s.cellBist.nvmViews
  if s.pwr.slots.isEmpty then s.bootCal else s

/-! ### Power-up events that boot shares with the wake -/

/-- Step 3 ends: isolation is released; a boot goes on at once (Table 11.10, Table 11.15). -/
def State.fioReady (s : State) : State :=
  let s := { s with pwr := { s.pwr with step := 5 } }
  if s.pwr.pstate = .boot then s.bootInit else s

/-- FIO_READY. -/
def execFioReady (s : State) : Host.Outcome State Fault Refusal := .next (if s.powering 3 then s.fioReady else s)

/-- The wake goes on with FIO2; whether FIO stands still or is off frequency the step does not say (R352, Table 14.4). -/
def State.wakeOnFio2 (s : State) : State :=
  let r := s.drawBit
  ((r.2.toFio2).fioEvent (if r.1 then 1 else 2)).fioReady

/-- WAKE_STEP_TIMEOUT: step 2 ends without VCORE or VANA, step 3 without FIO; with FIO2 ready step 3 goes on with it
(R352, R354). -/
def execWakeStepTimeout (w : WakeStep) (fio2Ready : Bool) (s : State) : Host.Outcome State Fault Refusal :=
  .next (match w with
    | .oscillators =>
      if s.powering 3 then (if fio2Ready then s.wakeOnFio2 else s.stepFailed w) else s
    | .vcore => if s.powering 2 then s.stepFailed w else s
    | .vana => if s.powering 2 then s.stepFailed w else s)

/-- IMAGE_INSTALL_DONE: a host COMMIT ends, once no slot is being programmed (R206, R392), or the stream of a slot at
boot. -/
def execImageInstallDone (s : State) : Host.Outcome State Fault Refusal :=
  .next (
    if !s.mainUp then s
    else if s.pwr.boot = .stream then s.bootStream
    else if s.sched.commit && s.nvm.op != some .programA && s.nvm.op != some .programB then s.settle s.commitDone
    else s)

/-! ### Resets -/

/-- POWER_ON_RESET: the reset acts at once, and at its release the straps are sampled and boot begins (R333, R45). -/
def execPowerOnReset (e : SupplyEdge) (st : Straps) (s : State) : Host.Outcome State Fault Refusal :=
  .next (match e with
    | .falls =>
      let t := s.rebooted 0 false false
      { t with aon := { t.aon with por := true, vioLow := s.aon.vioLow } }
    | .rises =>
      if s.aon.por then { s with aon := { s.aon with por := false, hsel := st.hsel, hsdo := st.hsdo } } else s)

/-- VIO_LOW: the block is held in reset; the strap values are kept (R42, Table 11.13). -/
def execVioLow (s : State) : Host.Outcome State Fault Refusal :=
  .next (
    if s.aon.por then { s with aon := { s.aon with vioLow := true } }
    else
      let t := s.rebooted 2 s.aon.hsel s.aon.hsdo
      { t with aon := { t.aon with vioLow := true } })

/-- VIO_RESTORED: boot from the start (R451). -/
def execVioRestored (s : State) : Host.Outcome State Fault Refusal := .next { s with aon := { s.aon with vioLow := false } }

/-- RST_N_RESET: a low pulse of at least 1 µs resets, one shorter than 100 ns does not, and between the two bounds both
are allowed (R44); the straps are sampled at the rising edge. An edge while VIO is low acts on nothing: the block is
held in reset then, and R45's sampling is taken to give way to it (DESIGN CHOICE, log entry 36). -/
def execRstNReset (lowNs : Nat) (st : Straps) (s : State) : Host.Outcome State Fault Refusal :=
  .next (
    if !s.aonUp || decide (lowNs < 100) then s
    else if 1000 ≤ lowNs then s.rebooted 1 st.hsel st.hsdo
    else
      let r := s.drawBit
      if r.1 then r.2.rebooted 1 st.hsel st.hsdo else r.2)

/-- SYS_RESET: a write whose high byte is 0xA5 resets; any other has no effect (R358). -/
def State.sysReset (s : State) (v : Word) (st : Straps) : State := if bits v 8 8 = 0xA5 then s.systemReset st else s

/-- SYS_RESET. -/
def execSysReset (v : Word) (st : Straps) (s : State) : Host.Outcome State Fault Refusal :=
  .next (if s.aonUp then s.sysReset v st else s)

/-- XTAL_SWITCH: after 1024 good XIN32 cycles the slow clock runs from XIN32 (R53). -/
def execXtalSwitch (s : State) : Host.Outcome State Fault Refusal :=
  .next (if s.aonUp && s.aon.slow = .internal then { s with aon := { s.aon with slow := .xtal } } else s)

end Sys2Proof.Machine
end

