-- ==== Sys2Proof/Machine/CalRun.lean ====
section
/-! DEFINITION. Meanings of the calibration commands: self-calibration and background rounds (R367 to R383). -/

namespace Sys2Proof.Machine

/-! ### Self-calibration (R370 to R373) -/

/-- A write of 1 to SELF: a run is due; with a frame in progress it takes the place of the next frame (R370). -/
def State.calSelf (s : State) : State :=
  if s.flag Reg.CAL_CMD 15 then s
  else { s.setFlag Reg.CAL_CMD 15 true with cal := { s.cal with due := true, waits := s.seq.run } }

/-- CAL_SELF. -/
def execCalSelf (s : State) : Host.Outcome State Fault Refusal := .next (s.inMain State.calSelf)

/-- A run that is due may start: no frame is in progress, and the frame it takes the place of has come due (R370). -/
def State.calMayStart (s : State) : Bool :=
  s.mainUp && s.cal.due && !s.calBusy && !s.seq.run && !(s.cal.waits && s.seqMay)

/-- A run starts: pins at GROUND, stand-ins and the round end, the offset phase begins (R371, R373). -/
def State.calStart (s : State) : State :=
  let s := (s.dropRound).setFlag Reg.CAL_CMD 15 true
  { s with seq := { s.seq with pins := Vector.replicate 160 .ground },
           cal := { s.cal with phase := .offset, due := false, waits := false, offs := [] } }

/-- SELF_CAL_START. -/
def execSelfCalStart (s : State) : Host.Outcome State Fault Refusal := .next (if s.calMayStart then s.calStart else s)

/-- SELF_CAL_GAIN_PHASE: the offset of every lane is set from its measurement, and the gain phase begins (R371). -/
def execSelfCalGainPhase (m : List Meas) (s : State) : Host.Outcome State Fault Refusal :=
  .next (
    if s.mainUp && s.cal.phase = .offset then
      { s with cal := { s.cal with phase := .gain, offs := (List.range 164).map (fun n => measOffset (nth m n ⟨0, 1⟩)) } }
    else s)

/-- The factors of lane `n` are judged: plausible ones are written, others fail the lane (R369). Answers whether a lane
has failed. -/
def State.calJudge (m : List Meas) (acc : Bool × State) (n : Nat) : Bool × State :=
  let f := acc.2.calFactors (nth acc.2.cal.offs n 0) (nth m n ⟨0, 1⟩)
  match f.1 with
  | some w => (acc.1, f.2.calPass n w.1 w.2)
  | none => (true, f.2.calFailLane n)

/-- A run ends: the factors, the counters, and the frame that it deferred (R371, R372); at boot, boot goes on. -/
def State.calEnd (s : State) (m : List Meas) : State :=
  let r := (List.range 164).foldl (State.calJudge m) (false, s)
  let t := (r.2.calFinish r.1).setFlag Reg.CAL_CMD 15 false
  let defer := t.cal.frame
  let t := { t with cal := { t.cal with phase := .idle, frame := false }, seq := { t.seq with analog := true } }
  let t := s.settle t
  if t.pwr.boot = .selfCal then t.bootFinish
  else if defer && t.seqMay then t.frameStart
  else t

/-- SELF_CAL_END. -/
def execSelfCalEnd (m : List Meas) (s : State) : Host.Outcome State Fault Refusal :=
  .next (if s.mainUp && s.cal.phase = .gain then s.calEnd m else s)

/-! ### Background rounds (R374 to R381) -/

/-- A write of 1 to RECAL; it reads 1 until the round it makes due ends (R374, R380). -/
def State.calRecal (s : State) : State :=
  let t := s.calTrigger
  if t.cal.dueRnd && !s.cal.dueRnd then t.setFlag Reg.CAL_CMD 14 true else t

/-- CAL_RECAL. -/
def execCalRecal (s : State) : Host.Outcome State Fault Refusal := .next (s.inMain State.calRecal)

/-- LANE_CAL_DONE: the 4.8 ms of the lanes under measurement end; their factors are held (R376, R380, R381). -/
def execLaneCalDone (off gain : List Meas) (s : State) : Host.Outcome State Fault Refusal :=
  .next (match s.cal.round with
    | some r => if s.mainUp && !r.ready && !r.lost && !r.ended && !r.meas.isEmpty then s.roundHold r off gain else s
    | none => s)

end Sys2Proof.Machine
end

