-- ==== Sys2Proof/Machine/Caldera.lean ====
section
/-! DEFINITION. Meanings of the Caldera instructions that change only their cell: arithmetic, logic, shifts, predicates,
accumulators, WHT, SORT, MED3, LOOP, GETR and GETW (Table 6.4). -/

namespace Sys2Proof.Machine

def execNop (c : CellId) (p : Pred) (s : State) : Host.Outcome State Fault Refusal :=
  .next (s.cellOp c (.nop c p) p id)

def execAdd (c : CellId) (p : Pred) (d a b : XReg) (s : State) : Host.Outcome State Fault Refusal :=
  .next (s.cellReg c (.add c p d a b) p d (fun x => x.get a + x.get b))

def execSub (c : CellId) (p : Pred) (d a b : XReg) (s : State) : Host.Outcome State Fault Refusal :=
  .next (s.cellReg c (.sub c p d a b) p d (fun x => x.get a - x.get b))

def execAddi (c : CellId) (p : Pred) (d a : XReg) (imm : Data) (s : State) : Host.Outcome State Fault Refusal :=
  .next (s.cellReg c (.addi c p d a imm) p d (fun x => x.get a + imm))

def execAdds (c : CellId) (p : Pred) (d a b : XReg) (s : State) : Host.Outcome State Fault Refusal :=
  .next (s.cellReg c (.adds c p d a b) p d (fun x => sat24 ((x.get a).toInt + (x.get b).toInt)))

def execSubs (c : CellId) (p : Pred) (d a b : XReg) (s : State) : Host.Outcome State Fault Refusal :=
  .next (s.cellReg c (.subs c p d a b) p d (fun x => sat24 ((x.get a).toInt - (x.get b).toInt)))

def execMin (c : CellId) (p : Pred) (d a b : XReg) (s : State) : Host.Outcome State Fault Refusal :=
  .next (s.cellReg c (.min c p d a b) p d (fun x => minS (x.get a) (x.get b)))

def execMax (c : CellId) (p : Pred) (d a b : XReg) (s : State) : Host.Outcome State Fault Refusal :=
  .next (s.cellReg c (.max c p d a b) p d (fun x => maxS (x.get a) (x.get b)))

def execAbs (c : CellId) (p : Pred) (d a : XReg) (s : State) : Host.Outcome State Fault Refusal :=
  .next (s.cellReg c (.abs c p d a) p d (fun x => sat24 (x.get a).toInt.natAbs))

def execAnd (c : CellId) (p : Pred) (d a b : XReg) (s : State) : Host.Outcome State Fault Refusal :=
  .next (s.cellReg c (.and c p d a b) p d (fun x => x.get a &&& x.get b))

def execOr (c : CellId) (p : Pred) (d a b : XReg) (s : State) : Host.Outcome State Fault Refusal :=
  .next (s.cellReg c (.or c p d a b) p d (fun x => x.get a ||| x.get b))

def execXor (c : CellId) (p : Pred) (d a b : XReg) (s : State) : Host.Outcome State Fault Refusal :=
  .next (s.cellReg c (.xor c p d a b) p d (fun x => x.get a ^^^ x.get b))

/-- Zeros come in; shifts of 24 or more give 0. -/
def execShl (c : CellId) (p : Pred) (d a b : XReg) (s : State) : Host.Outcome State Fault Refusal :=
  .next (s.cellReg c (.shl c p d a b) p d (fun x => x.get a <<< ((x.get b).toNat % 32)))

def execShr (c : CellId) (p : Pred) (d a b : XReg) (s : State) : Host.Outcome State Fault Refusal :=
  .next (s.cellReg c (.shr c p d a b) p d (fun x => x.get a >>> ((x.get b).toNat % 32)))

def execSar (c : CellId) (p : Pred) (d a b : XReg) (s : State) : Host.Outcome State Fault Refusal :=
  .next (s.cellReg c (.sar c p d a b) p d (fun x => (x.get a).sshiftRight ((x.get b).toNat % 32)))

def execShli (c : CellId) (p : Pred) (d a : XReg) (imm : Data) (s : State) : Host.Outcome State Fault Refusal :=
  .next (s.cellReg c (.shli c p d a imm) p d (fun x => x.get a <<< (imm.toNat % 32)))

def execSari (c : CellId) (p : Pred) (d a : XReg) (imm : Data) (s : State) : Host.Outcome State Fault Refusal :=
  .next (s.cellReg c (.sari c p d a imm) p d (fun x => (x.get a).sshiftRight (imm.toNat % 32)))

def execMov (c : CellId) (p : Pred) (d a : XReg) (s : State) : Host.Outcome State Fault Refusal :=
  .next (s.cellReg c (.mov c p d a) p d (fun x => x.get a))

def execMovi (c : CellId) (p : Pred) (d : XReg) (imm : Data) (s : State) : Host.Outcome State Fault Refusal :=
  .next (s.cellReg c (.movi c p d imm) p d (fun _ => imm))

def execPlt (c : CellId) (p : Pred) (d a b : XReg) (s : State) : Host.Outcome State Fault Refusal :=
  .next (s.cellPred c (.plt c p d a b) p d (fun x => signedLt (x.get a) (x.get b)))

def execPle (c : CellId) (p : Pred) (d a b : XReg) (s : State) : Host.Outcome State Fault Refusal :=
  .next (s.cellPred c (.ple c p d a b) p d (fun x => !signedLt (x.get b) (x.get a)))

def execPeq (c : CellId) (p : Pred) (d a b : XReg) (s : State) : Host.Outcome State Fault Refusal :=
  .next (s.cellPred c (.peq c p d a b) p d (fun x => x.get a == x.get b))

def execPne (c : CellId) (p : Pred) (d a b : XReg) (s : State) : Host.Outcome State Fault Refusal :=
  .next (s.cellPred c (.pne c p d a b) p d (fun x => x.get a != x.get b))

def execPand (c : CellId) (p : Pred) (d a b : XReg) (s : State) : Host.Outcome State Fault Refusal :=
  .next (s.cellPred c (.pand c p d a b) p d (fun x => x.predBit a && x.predBit b))

def execPnot (c : CellId) (p : Pred) (d a : XReg) (s : State) : Host.Outcome State Fault Refusal :=
  .next (s.cellPred c (.pnot c p d a) p d (fun x => !x.predBit a))

def execClra (c : CellId) (p : Pred) (d : XReg) (s : State) : Host.Outcome State Fault Refusal :=
  .next (s.cellAcc c (.clra c p d) p d (fun _ => 0))

def execMul (c : CellId) (p : Pred) (d a b : XReg) (s : State) : Host.Outcome State Fault Refusal :=
  .next (s.cellAcc c (.mul c p d a b) p d (fun x => mulAcc (x.get a) (x.get b)))

def execMac (c : CellId) (p : Pred) (d a b : XReg) (s : State) : Host.Outcome State Fault Refusal :=
  .next (s.cellAcc c (.mac c p d a b) p d (fun x => x.acc d + mulAcc (x.get a) (x.get b)))

def execMsu (c : CellId) (p : Pred) (d a b : XReg) (s : State) : Host.Outcome State Fault Refusal :=
  .next (s.cellAcc c (.msu c p d a b) p d (fun x => x.acc d - mulAcc (x.get a) (x.get b)))

def execRacc (c : CellId) (p : Pred) (d a : XReg) (imm : Data) (s : State) : Host.Outcome State Fault Refusal :=
  .next (s.cellReg c (.racc c p d a imm) p d (fun x => raccValue (x.acc a) (imm.toNat % 64)))

/-- A register of the frame's snapshot, zero-extended; an address from 0x50 on gives 0 (R441). -/
def execGetr (c : CellId) (p : Pred) (d : XReg) (imm : Data) (s : State) : Host.Outcome State Fault Refusal :=
  let a := imm.toNat % 256
  .next (s.cellReg c (.getr c p d imm) p d (fun _ => if a < 80 then (s.cald.snap.reg (regId a)).setWidth 24 else 0))

/-- A window word of the frame's snapshot; an address beyond the window and any other window read 0. -/
def execGetw (c : CellId) (p : Pred) (d b : XReg) (code : BitVec 4) (idx : Bool) (addr : Word) (s : State) :
    Host.Outcome State Fault Refusal :=
  .next (s.cellReg c (.getw c p d b code idx addr) p d (fun x =>
    let a := winEff x b idx addr
    if getwWindow code.toNat && a < winSize code.toNat then (s.cald.snap.tab code.toNat a).setWidth 24 else 0))

/-- The sum goes to d, then the difference to d + 1. d = 31 is forbidden (Table 6.4). Both operands are read before either
result is written: Table 6.4 does not say whether the difference sees the new d where d names a or b (DESIGN CHOICE, log
entry 55). -/
def execWht (c : CellId) (p : Pred) (d a b : XReg) (s : State) : Host.Outcome State Fault Refusal :=
  if d.val = 31 then .refused .forbiddenOperand
  else
    .next (s.cellOp c (.wht c p d a b) p (fun x =>
      let u := (x.get a).toInt
      let v := (x.get b).toInt
      (x.put d (sat24 (u + v))).put (d + 1) (sat24 (u - v))))

/-- a takes the minimum and b the maximum. -/
def execSort (c : CellId) (p : Pred) (a b : XReg) (s : State) : Host.Outcome State Fault Refusal :=
  .next (s.cellOp c (.sort c p a b) p (fun x => (x.put a (minS (x.get a) (x.get b))).put b (maxS (x.get a) (x.get b))))

def execMed3 (c : CellId) (p : Pred) (d a b : XReg) (s : State) : Host.Outcome State Fault Refusal :=
  .next (s.cellReg c (.med3 c p d a b) p d (fun x => med3 (x.get d) (x.get a) (x.get b)))

/-- The body from the next address up to END runs COUNT times; COUNT 0 means 2048 (Table 6.2). -/
def execLoop (c : CellId) (count : BitVec 11) (last : BitVec 11) (s : State) : Host.Outcome State Fault Refusal :=
  let n := if count.toNat = 0 then 2048 else count.toNat
  .next (
    if s.runs c (.loop c count last) then
      let s := s.fetchErr c
      let x := s.cell c
      s.setCell c { x with pc := x.pc + 1, loops := ⟨x.pc + 1, last.toNat, n⟩ :: x.loops }
    else s)

end Sys2Proof.Machine
end

