-- ==== Sys2Proof/Machine/FrameCycle.lean ====
section
/-! DEFINITION. Meanings of the Caldera's frame cycle: opens, closes, deadlines, stalls, takeovers, pace, and the
instructions that wait (R173 to R199, R424). -/

namespace Sys2Proof.Machine

/-- CALDERA_FRAME_OPEN: T_n + SKEW of the oldest sequencer frame whose Caldera frame has not opened (R185, R189). -/
def execCalderaFrameOpen (s : State) : Host.Outcome State Fault Refusal :=
  .next (match s.cald.owed with
    | o :: rest => if s.mayOpen then s.openFrame o rest else s
    | [] => s)

/-- PACE_SAMPLE: a sample of `v` sixteenths of an FIO period; with a valid image and SERVO, a sample above PACE_LIM raises
VCORE unless a sample raised it within the last 100 µs (R191, R194, R210). That no sample raises it while there is no valid
image, and PACE.LIM reads 0x00, is the model's choice (DESIGN CHOICE, log entry 73). -/
def execPaceSample (v : Nat) (s : State) : Host.Outcome State Fault Refusal :=
  .next (
    if s.mainUp then
      let t := { s with pace := { s.pace with max := max s.pace.max v } }
      if t.sched.valid && t.servo && decide (t.paceLim < v) && !recentRaise t.aon.time t.pace.raisedP then
        let u := t.raiseVcore
        { u with pace := { u.pace with raisedP := if t.vset < 28 then some t.aon.time else t.pace.raisedP } }
      else t
    else s)

/-- VCORE_STEP_DONE: the buck has completed a step; a climb goes on (R194). -/
def execVcoreStepDone (s : State) : Host.Outcome State Fault Refusal :=
  .next (
    if s.mainUp && s.pace.moving then { s with pace := { s.pace with moving := false } }.climb else s)

/-! ### Rows -/

/-- INTAKE: zero-extended (Table 6.4); a row above 383 is no operand (R184). -/
def execIntake (c : CellId) (d b : XReg) (rel idx : Bool) (row : Nat) (word : Byte) (s : State) :
    Host.Outcome State Fault Refusal :=
  if 383 < row then .refused .forbiddenOperand else .next (s.intake c (.intake c d b rel idx row word) d b rel idx row word false)

/-- INTAKES: sign-extended (Table 6.4). -/
def execIntakes (c : CellId) (d b : XReg) (rel idx : Bool) (row : Nat) (word : Byte) (s : State) :
    Host.Outcome State Fault Refusal :=
  if 383 < row then .refused .forbiddenOperand else .next (s.intake c (.intakes c d b rel idx row word) d b rel idx row word true)

/-- WAIT_ENTRY: blocks until the row is complete (R182). -/
def execWaitEntry (c : CellId) (entry : Nat) (s : State) : Host.Outcome State Fault Refusal :=
  if 383 < entry then .refused .forbiddenOperand
  else
    .next (
      if s.runs c (.waitEntry c entry) then
        let t := (s.fetchErr c).frameRow entry
        if t.rowComplete entry then t.cellAdvance c else t.cellBlock c (.waitRow entry)
      else s)

/-! ### Channels (R174) -/

/-- SEND: cell c offers register a on a channel and waits for its peer. -/
def execSend (c : CellId) (a : XReg) (dir : Dir) (s : State) : Host.Outcome State Fault Refusal :=
  .next (
    if s.runs c (.send c a dir) then
      let t := s.fetchErr c
      t.cellBlock c (.send dir ((t.cell c).get a))
    else s)

/-- RECV: cell c waits for a word on a channel. -/
def execRecv (c : CellId) (d : XReg) (dir : Dir) (s : State) : Host.Outcome State Fault Refusal :=
  .next (if s.runs c (.recv c d dir) then (s.fetchErr c).cellBlock c (.recv dir d) else s)

/-- CHANNEL_PAIR_COMPLETE: the word that cell c sends in a direction reaches its peer's RECV, and both complete. -/
def execChannelPairComplete (c : CellId) (dir : Dir) (s : State) : Host.Outcome State Fault Refusal :=
  .next (
    let q := peer c dir
    match (s.cell c).st, (s.cell q).st with
    | .send e v, .recv f d =>
      if s.mainUp && s.cald.isOpen && decide (e = dir) && decide (f = dirFlip dir) then
        let t := s.token c [(0xFFFFFF, v)]
        let u := t.2.cellAdvance c
        u.setCell q (((u.cell q).put d (nth t.1 0 0)).advance)
      else s
    | _, _ => s)

/-! ### The end of a frame -/

/-- FRAME_END: the cell is done; with the last of the seven the frame closes (R186). -/
def execFrameEnd (c : CellId) (s : State) : Host.Outcome State Fault Refusal :=
  .next (
    if s.runs c (.frameEnd c) then
      let t := (s.fetchErr c).cellBlock c .done
      if (List.finRange 7).all t.cellDone then t.closeFrame else t
    else s)

/-- FRAME_DEADLINE: T_n + SKEW + P_n with the frame still open (R188). -/
def execFrameDeadline (s : State) : Host.Outcome State Fault Refusal :=
  .next (if s.mainUp && s.cald.isOpen then s.deadline else s)

/-- The event of a second stall in a row of a logical cell; masked when the spare will take it over: no mismatch and no
other cell's second stall in the frame claims the spare before it (R424, Table 14.4). -/
def State.secondStall (s : State) (c : CellId) : State :=
  let p := s.cald.map.get c
  let first := s.stalledTwice.head? == some c && s.cald.suspect.isNone
  let masked := s.snap.flag Reg.FAULT_EN 11 && s.cald.spare.isSome && first
  let q := match s.cald.spare with
    | some q => if masked then word q.val else 0xFFFF
    | none => 0xFFFF
  s.mainFault 9 FaultClass.CELL (if masked then 0 else 1) p.val (word (c.val * 256 + 2)) q

/-- The port on which a cell waits; EMIT completes as it is issued, so no cell is found waiting on it (R196). -/
def CellState.port : CellState → CellPort
  | .send d _ => .send d
  | .recv d _ => .recv d
  | .waitRow _ | .intake .. | .library => .intake
  | .idle | .run | .done => .instruction

/-- The fault monitor receives the stalled cell and the port on which it waits (R196). -/
def State.noteStall (s : State) (c : CellId) : State :=
  { s with fmon := { s.fmon with stall := some ⟨s.cald.map.get c, c, (s.cell c).st.port⟩ } }

/-- STALL_TIMEOUT: the stall timer of logical cell c expires; it is suspended while the cell's chain of waits ends at an
incomplete row (R196, R424). -/
def execStallTimeout (c : CellId) (s : State) : Host.Outcome State Fault Refusal :=
  .next (
    if s.mainUp && s.cald.isOpen && !s.cellDone c && !s.waitsForRow 7 c then
      let t := ((s.setFlag Reg.SCHED_STAT 13 true).raise Irq.SCHED).noteStall c
      let t := if t.cald.stalls.contains c then t
               else
                 let u := { t with cald := { t.cald with stalls := t.cald.stalls ++ [c] } }
                 if u.cald.stalled.contains c then u.secondStall c else u
      t
    else s)

/-! ### Takeover (Table 6.8) -/

/-- TAKEOVER_COPY_DONE: IMEM and DMEM of the suspected cell are in the spare; the suspected cell begins its self-test,
and the next open restarts the schedule. -/
def execTakeoverCopyDone (s : State) : Host.Outcome State Fault Refusal :=
  .next (match s.cald.takeover with
    | some t =>
      if s.mainUp && !t.copied then
        let im := memCopy imemDefault s.cald.imem (t.old.val * 2048) (t.new.val * 2048) 2048
        let dm := memCopy dmemDefault s.cald.dmem (t.old.val * 4096) (t.new.val * 4096) 4096
        let st := if s.sched.state = .copy then .running else s.sched.state
        { s with sched := { s.sched with state := st },
                 cald := { s.cald with imem := im, dmem := dm, takeover := some { t with copied := true },
                                       testing := some (t.old, t.logical) } }
      else s
    | none => s)

/-- A physical cell has a lasting fault. -/
def State.cellFaulty (s : State) (p : PhysId) : Bool := s.fmon.faults.any (fun f => !f.2 && (match f.1 with
  | .cell c _ | .intake c _ | .halt c => decide (c = p)
  | _ => false))

/-- The physical cell that holds a logical cell, or will hold it from the next open. -/
def State.holder (s : State) (c : CellId) : PhysId := match s.cald.takeover with
  | some t => if t.logical = c then t.new else s.cald.map.get c
  | none => s.cald.map.get c

/-- CELL_SELF_TEST_DONE: the suspected cell becomes the spare, or is retired (Table 6.8, R424, R431). -/
def execCellSelfTestDone (s : State) : Host.Outcome State Fault Refusal :=
  .next (match s.cald.testing with
    | some (p, c) =>
      if s.mainUp then
        let t := { s with cald := { s.cald with testing := none } }
        let event (out code : Nat) : FaultEvent :=
          { cls := FaultClass.CELL, outcome := out, elem := p.val, detail := word (0xFF00 + code),
            subst := word (s.holder c).val, counted := false }
        let t := t.setFlag Reg.FAULT_STAT 13 true
        if s.cellFaulty p then
          { t with cald := { t.cald with retired := t.cald.retired ++ [p] } }.faultEvent (event 1 3)
        else
          ({ t with cald := { t.cald with spare := some p } }.setFlag Reg.SCHED_STAT 11 false).faultEvent (event 2 4)
      else s
    | none => s)

end Sys2Proof.Machine
end

