-- ==== Sys2Proof/Machine/Monitor.lean ====
section
/-! DEFINITION. Meanings of the fault monitor's commands: oscillators, supplies, IRQ_N, the scrubber, the AON self-check,
and a fault arising in the hardware (R401, R417, R425 to R430). -/

namespace Sys2Proof.Machine

/-! ### Oscillators (R426, R427) -/

/-- A count differs by more than 2 % from its nominal value. -/
def offFrequency (n nom : Nat) : Bool := decide (nom < 50 * ((n : Int) - nom).natAbs)

/-- Consecutive bad windows, counted to 3. -/
def badWindows (was : Nat) (bad : Bool) : Nat := if bad then min 3 (was + 1) else 0

/-- OSC_MONITOR_WINDOW: the counts of FIO and FIO2 over 32 slow-clock periods; the second bad window in a row is a fault
(R426). The nominal counts are those of 96 MHz and 48 MHz. -/
def execOscMonitorWindow (fio fio2 : Nat) (s : State) : Host.Outcome State Fault Refusal :=
  .next (
    if s.mainUp && s.snap.flag Reg.FAULT_EN 9 then
      let a := badWindows s.fmon.fioBad (offFrequency fio 93750)
      let b := badWindows s.fmon.fio2Bad (offFrequency fio2 46875)
      let t := { s with fmon := { s.fmon with fioBad := a, fio2Bad := b } }
      let t := if a = 2 && !t.fio2 then t.toFio2.fioEvent 2 else t
      if b = 2 then t.mainFault 10 FaultClass.OSC 1 2 (if fio2 = 0 then 1 else 2) 0xFFFF else t
    else s)

/-- FIO_STOP_DETECT: FIO shows no edge within 1 µs of FIO2 (R426). -/
def execFioStopDetect (s : State) : Host.Outcome State Fault Refusal :=
  .next (if s.mainUp && s.snap.flag Reg.FAULT_EN 9 && !s.fio2 then s.toFio2.fioEvent 1 else s)

/-- An AON fault whose DETAIL the table does not give (Table 14.4). -/
def State.aonFaultFree (s : State) (flag elem outcome : Nat) : State :=
  let r := s.drawWord
  r.2.aonFault flag elem r.1 outcome

/-- XTAL_FAIL: the crystal misses 4 edges, and the internal slow oscillator takes over (R427). -/
def execXtalFail (s : State) : Host.Outcome State Fault Refusal :=
  .next (
    if s.aonUp && s.aon.slow = .xtal then
      ({ s with aon := { s.aon with slow := .internal } }).aonFaultFree 12 3 0
    else s)

/-- SLOW_OSC_FAIL: the internal oscillator shows no edge for 4 ms, and AON runs on the watchdog ring (R427). -/
def execSlowOscFail (s : State) : Host.Outcome State Fault Refusal :=
  .next (
    if s.aonUp && s.aon.slow != .watchdog then
      ({ s with aon := { s.aon with slow := .watchdog } }).aonFaultFree 13 4 1
    else s)

/-! ### Supplies and pins (R428, R429) -/

/-- The code of a supply in AON_FAULT.SUPPLY and FAULT_INFO. -/
def Supply.code : Supply → Nat
  | .vcore => 1 | .vana => 2 | .vpump => 3

/-- A supply out of its window counts: not VCORE during a commanded step, VPUMP while the pump runs, once
PUMP_LOW is set (R83, R428). -/
def State.supplyCounts (s : State) (p : Supply) : Bool := match p with
  | .vcore => !s.pace.moving
  | .vana => true
  | .vpump => s.drive.pump && s.flag Reg.LANE_STAT 14

/-- A regulator fault: AON_FAULT tells of it, and MAIN is reset without retention (R428, R431). -/
def State.supplyFault (s : State) (p : Supply) : State :=
  let t := (s.mainReset.setFld Reg.AON_FAULT 8 2 (Supply.code p)).satFld Reg.AON_FAULT 0 4
  (t.setFlag Reg.AON_FAULT 15 true).faultEvent
    { cls := FaultClass.REG, outcome := 1, elem := Supply.code p, detail := 0, subst := 0xFFFF, counted := true }

/-- SUPPLY_FAULT. -/
def execSupplyFault (p : Supply) (s : State) : Host.Outcome State Fault Refusal :=
  .next (if s.mainUp && s.snap.flag Reg.FAULT_EN 8 && s.supplyCounts p then s.supplyFault p else s)

/-- IRQ_READBACK: `level` on the IRQ_N ball, once per slow-clock period; the second difference in a row is a fault
(R429). -/
def execIrqReadback (level : Bool) (s : State) : Host.Outcome State Fault Refusal :=
  .next (
    if s.aonUp && s.snap.flag Reg.FAULT_EN 7 then
      let n := badWindows s.fmon.irqDiff (level == s.irqAsserted)
      let t := { s with fmon := { s.fmon with irqDiff := n } }
      if n = 2 then t.mainFault 8 FaultClass.HOSTPIN 1 1 (word level.toNat) 0xFFFF else t
    else s)

/-! ### Scrubbing (R175, R425) -/

/-- SCRUB_WORD: while ACTIVE with FAULT_EN.SCRUB a word is read, corrected and rewritten; a word without an error has no
history left (R425). -/
def execScrubWord (m : MemId) (addr : Nat) (s : State) : Host.Outcome State Fault Refusal :=
  .next (
    if s.mainUp && s.snap.flag Reg.FAULT_EN 10 && s.pwr.pstate = .active then
      match s.memErr m addr with
      | some e => if ones e.bits = 1 then (s.readErr m addr).2.scrubRewrite e else (s.readErr m addr).2
      | none => { s with fmon := { s.fmon with scrubbed := s.scrubForget m addr } }
    else s)

/-! ### The AON self-check (R401, R430) -/

/-- The first of the OTP words 40 to 43 that differs from its shadow. -/
def State.otpDiffers (s : State) : Option Nat :=
  (List.range 4).find? (fun i => s.fuseWords.toList.getD i 0 != s.sec.shadow.toList.getD i 0)

/-- AON_SELF_CHECK: the OTP against its shadow, the parity of the AON registers, the slow-clock edges seen by the
watchdog ring. The table gives no ELEM for a parity error (log entry 2). -/
def execAonSelfCheck (parityOk ringOk : Bool) (s : State) : Host.Outcome State Fault Refusal :=
  .next (
    if s.aonUp then
      let s := match s.otpDiffers with
        | some i => s.aonFault 14 1 (word (40 + i)) 1
        | none => s
      let s := if parityOk then s
               else
                 let r := s.drawWord
                 r.2.aonFaultFree 10 (bits r.1 0 8) 1
      if ringOk then s else s.aonFaultFree 13 4 1
    else s)

/-! ### A fault arises (R417) -/

/-- Bits of a memory word read inverted from now on, beside those that did before. -/
def State.memFault (s : State) (m : MemId) (addr bits : Nat) (stuck : Bool) : State :=
  let old := s.memErr m addr
  let e : MemErr := match old with
    | some e => { e with bits := e.bits ||| bits, stuck := e.stuck || stuck }
    | none => { mem := m, addr := addr, bits := bits, stuck := stuck, found := false }
  let rest := s.fmon.memErrs.filter (fun f => f.mem != m || f.addr != addr)
  { s with fmon := { s.fmon with memErrs := rest ++ [e] } }

/-- SINGLE_FAULT: a permanent or transient fault in one covered element. -/
def execSingleFault (f : FaultSpec) (transient : Bool) (s : State) : Host.Outcome State Fault Refusal :=
  .next (match f with
    | .memory m addr bits stuck => s.memFault m addr bits (stuck && !transient)
    | _ => { s with fmon := { s.fmon with faults := s.fmon.faults ++ [(f, transient)] } })

end Sys2Proof.Machine
end

