-- ==== Sys2Proof/Machine/Security.lean ====
section
/-! DEFINITION. Lifecycle, challenge and response, the TAP's own registers, and OTP programming (R397 to R416). -/

namespace Sys2Proof.Machine

/-- A request or response word is refused. -/
def State.secRefuse (s : State) : State := s.setFlag Reg.DEBUG_STAT 10 true

/-! ### The nonce (R408 to R410) -/

/-- The nonce becomes invalid, and the words of its response are discarded (R410). -/
def State.nonceDrop (s : State) : State := { s with sec := { s.sec with nonce := none, chal := 0, resp := [] } }

/-- Production slots that are enrolled and not revoked. -/
def State.liveProduction (s : State) : List Nat :=
  (List.range 4).filter (fun k => s.enrolled k && s.production k && !s.revoked k)

/-- A purpose may be asked for now: UNLOCK always, RETURN outside RETURN while ACTIVE, REVOKE in SECURED unless it names
the last live production slot (R398, R403, R409). -/
def State.purposeOk (s : State) (purpose slot : Nat) : Bool :=
  match purpose with
  | 0 => true
  | 1 => s.sec.life != .returned && s.pwr.pstate = .active
  | 2 => s.sec.life = .secured && s.liveProduction != [slot]
  | _ => false

/-- REQ = NONCE (R408, R409). -/
def State.nonceRequest (s : State) (purpose slot : Nat) : State :=
  let s := s.nonceDrop
  if s.keyset && !s.sec.holdoff && s.purposeOk purpose slot then
    { s with sec := { s.sec with asked := true, purpose := purpose, rslot := slot } }
  else s.secRefuse

/-! ### Lifecycle transitions (R398, Table 13.2) -/

/-- A lifecycle transition begins, and any unlock ends (R398, R412). -/
def State.transBegin (s : State) (t : Transition) : State := { s.relock with sec := { s.relock.sec with trans := t } }

/-- A transition may be requested: the KEY byte is 0xC3, the block is ACTIVE, and none is in progress. -/
def State.transMay (s : State) (key : Byte) : Bool := key = 0xC3 && s.pwr.pstate = .active && s.sec.trans = .none

/-- REQ = ADV_DEVELOP. -/
def State.advDevelop (s : State) (key : Byte) : State :=
  if s.transMay key && s.sec.life = .opened && (List.range 4).any (fun k => s.enrolled k && !s.revoked k) then
    s.transBegin .develop
  else s.secRefuse

/-- REQ = ADV_SECURED. -/
def State.advSecured (s : State) (key : Byte) : State :=
  if s.transMay key && s.sec.life = .develop && !s.liveProduction.isEmpty && s.keyset then s.transBegin .secured
  else s.secRefuse

/-- REQ = RELOCK (R412). -/
def State.reqRelock (s : State) : State := s.relock

/-- A write of DEBUG_CTL: its fields, the nonce, and with GO the request (R409, R410, R416). -/
def State.debugCtl (s : State) (v : Word) : State :=
  let s := s.plainWrite Reg.DEBUG_CTL v
  let s := if s.sec.nonce.isSome then s.nonceDrop else s
  if v.getLsbD 15 then
    match bits v 12 3 with
    | 0 => s.nonceRequest (bits v 10 2) (bits v 8 2)
    | 1 => s.advDevelop (v.setWidth 8)
    | 2 => s.advSecured (v.setWidth 8)
    | 3 => s.reqRelock
    | _ => s.secRefuse
  else s

/-- The word of DEBUG_CTL with GO and REQ set; the other fields stay. -/
def State.debugWord (s : State) (req : Nat) : Word :=
  putBits (putBits (s.reg Reg.DEBUG_CTL) 12 3 req) 15 1 1

/-- DEBUG_NONCE: a write of DEBUG_CTL with GO, REQ = NONCE, PURPOSE and RSLOT; HLOCK stays. -/
def execDebugNonce (purpose rslot : BitVec 2) (s : State) : Host.Outcome State Fault Refusal :=
  .next (s.inMain (fun t =>
    t.debugCtl (putBits (putBits (t.debugWord 0) 10 2 purpose.toNat) 8 2 rslot.toNat)))

/-- ADV_DEVELOP: a write of DEBUG_CTL with GO, REQ = ADV_DEVELOP and the KEY byte. -/
def execAdvDevelop (key : Byte) (s : State) : Host.Outcome State Fault Refusal :=
  .next (s.inMain (fun t => t.debugCtl (putBits (t.debugWord 1) 0 8 key.toNat)))

/-- ADV_SECURED: a write of DEBUG_CTL with GO, REQ = ADV_SECURED and the KEY byte. -/
def execAdvSecured (key : Byte) (s : State) : Host.Outcome State Fault Refusal :=
  .next (s.inMain (fun t => t.debugCtl (putBits (t.debugWord 2) 0 8 key.toNat)))

/-- RELOCK: a write of DEBUG_CTL with GO and REQ = RELOCK. -/
def execRelock (s : State) : Host.Outcome State Fault Refusal := .next (s.inMain (fun t => t.debugCtl (t.debugWord 3)))

/-- NONCE_READY: a fresh nonce, or a failed health test of the random source (R408, R409). -/
def execNonceReady (nonce : BitVec 128) (healthy : Bool) (s : State) : Host.Outcome State Fault Refusal :=
  .next (
    if s.mainUp && s.sec.asked then
      let t := { s with sec := { s.sec with asked := false } }
      if healthy then { t with sec := { t.sec with nonce := some nonce, chal := 0, resp := [] } }
      else t.secRefuse.mainFault 7 FaultClass.RNG 1 0 0 0xFFFF
    else s)

/-- NONCE_EXPIRY: 10 s after it was issued (R410). -/
def execNonceExpiry (s : State) : Host.Outcome State Fault Refusal :=
  .next (if s.sec.nonce.isSome then s.nonceDrop else s)

/-- HOLDOFF_END (R411). -/
def execHoldoffEnd (s : State) : Host.Outcome State Fault Refusal :=
  .next { s with sec := { s.sec with holdoff := false } }

/-! ### AUTH_CHAL (R408) -/

/-- The 12 challenge words: the nonce, then the UID, each high byte first. -/
def State.challenge (s : State) (nonce : BitVec 128) : List Word :=
  (List.range 8).map (fun i => word (nonce.toNat >>> (16 * (7 - i)))) ++
    [word ((s.otpWord 44).toNat / 65536), word (s.otpWord 44).toNat,
     word ((s.otpWord 45).toNat / 65536), word (s.otpWord 45).toNat]

/-- A read of AUTH_CHAL: the next challenge word; 0 beyond the twelfth and without a nonce. -/
def State.readChal (s : State) : Word × State :=
  match s.sec.nonce with
  | some n => (nth (s.challenge n) s.sec.chal 0, { s with sec := { s.sec with chal := min 12 (s.sec.chal + 1) } })
  | none => (0, s)

/-- AUTH_CHAL_READ; the word is driven on the port. -/
def execAuthChalRead (s : State) : Host.Outcome State Fault Refusal :=
  .next (s.inMain (fun t =>
    let r := t.readChal
    { r.2 with port := { r.2.port with out := bytesOfWord r.1 } }))

/-- A write of AUTH_CHAL: the next response word; refused while no nonce is valid (R409). -/
def State.writeChal (s : State) (w : Word) : State :=
  if s.sec.nonce.isNone then s.secRefuse
  else if s.sec.resp.length < 16 then { s with sec := { s.sec with resp := s.sec.resp ++ [w] } }
  else s

/-- AUTH_CHAL_WRITE. -/
def execAuthChalWrite (w : Word) (s : State) : Host.Outcome State Fault Refusal :=
  .next (s.inMain (fun t => t.writeChal w))

/-! ### The comparison (R408, R411, R413) -/

/-- The unlock key K, 32 bytes. -/
def State.unlockKey (s : State) : List Byte := (List.range 8).flatMap (fun i => beBytes 4 (s.otpWord (32 + i)).toNat)

/-- The 26 bytes of the message: nonce, UID, purpose, argument. -/
def State.authMessage (s : State) (nonce : BitVec 128) : List Byte :=
  let arg := if s.sec.purpose = 2 then s.sec.rslot else 0
  beBytes 16 nonce.toNat ++ beBytes 4 (s.otpWord 44).toNat ++ beBytes 4 (s.otpWord 45).toNat ++
    beBytes 1 (s.sec.purpose + 1) ++ beBytes 1 arg

/-- The response is HMAC-SHA-256 of the message under K. -/
def State.authMatches (s : State) (nonce : BitVec 128) : Bool :=
  s.sec.resp.flatMap bytesOfWord == hmacSha256 s.unlockKey (s.authMessage nonce)

/-- RETURN begins: NVM operations stop at the next page boundary, and none follows (R413). -/
def State.returnBegin (s : State) : State :=
  let page := s.nvm.todo.take (if s.nvm.paused then 0 else 1)
  let code := if s.nvm.op.isSome then 7 else 0
  let t := { s with nvm := { s.nvm with todo := page, err := code, frames := 0, held := none, after := false } }
  t.transBegin .returned

/-- What Capture-DR of OTP_PROG loads: BUSY, REFUSED, data (R407). -/
def otpCapture (busy refused : Bool) (data : BitVec 32) : BitVec 40 :=
  BitVec.ofNat 40 (busy.toNat * 2 ^ 33 + refused.toNat * 2 ^ 32 + data.toNat)

/-- The data of the last read. -/
def State.otpData (s : State) : BitVec 32 := s.sec.otpDr.setWidth 32

/-- A program of an OTP word has been refused since the last one was accepted. -/
def State.otpRefused (s : State) : Bool := s.sec.otpDr.getLsbD 32

/-- A program of an OTP word begins: BUSY reads 1 until it completes (R407). -/
def State.otpBegin (s : State) (a : Nat) (d : BitVec 32) (refused : Bool) : State :=
  { s with sec := { s.sec with otpProg := some (a, d), otpDr := otpCapture true refused s.otpData } }

/-- What a matching response does (R411). -/
def State.authAct (s : State) : State :=
  match s.sec.purpose with
  | 0 => if s.sec.life = .secured then { s with sec := { s.sec with unlocked := true } } else s
  | 1 => s.returnBegin
  | _ => s.otpBegin 42 (BitVec.ofNat 32 (0xFF <<< (8 * s.sec.rslot))) s.otpRefused

/-- The comparison ends: the nonce is consumed, and the purpose acts, or a failure is counted and a hold-off begins. -/
def State.authDone (s : State) (nonce : BitVec 128) : State :=
  let ok := s.authMatches nonce
  let s := (s.nonceDrop).raise Irq.AUTH
  if ok then ((s.setFlag Reg.DEBUG_STAT 12 true).setFld Reg.DEBUG_STAT 5 4 0).authAct
  else
    let s := (s.setFlag Reg.DEBUG_STAT 11 true).satFld Reg.DEBUG_STAT 5 4
    { s with sec := { s.sec with holdoff := true } }

/-- AUTH_COMPARE_DONE: after the 16th response word. -/
def execAuthCompareDone (s : State) : Host.Outcome State Fault Refusal :=
  .next (match s.sec.nonce with
    | some n => if s.mainUp && s.sec.resp.length = 16 then s.authDone n else s
    | none => s)

/-! ### Fuses (R398, R413) -/

/-- Bits of an OTP word are programmed; a bit once 1 stays 1 (R399). -/
def State.otpProgram (s : State) (a : Nat) (d : BitVec 32) : State :=
  if h : a < 64 then { s with sec := { s.sec with otp := s.sec.otp.set a (s.sec.otp[a] ||| d) } } else s

/-- FUSE_PROGRAM_DONE: fuse D, S or R is blown, and a system reset follows (R398, R413). -/
def execFuseProgramDone (st : Straps) (s : State) : Host.Outcome State Fault Refusal :=
  .next (match s.sec.trans with
    | .develop => (s.otpProgram 43 0x000000FF).systemReset st
    | .secured => (s.otpProgram 43 0x0000FF00).systemReset st
    | .returnFuse => (s.otpProgram 43 0x00FF0000).systemReset st
    | _ => s)

/-- RETURN_ERASE_DONE: flash bytes 0x00000 to 0x3CFFF are erased, once the page in progress at the request has ended, and
fuse R is programmed next: FUSE_PROGRAM_DONE ends that, and resets. A power loss in between leaves the flash erased and the
fuse as it was, one before leaves a part of it erased (R413; log entry 62). -/
def execReturnEraseDone (_st : Straps) (s : State) : Host.Outcome State Fault Refusal :=
  .next (match s.sec.trans with
    | .returned =>
      if s.nvm.todo.isEmpty then
        let t := s.flashErase 0 0x3D000
        { t with sec := { t.sec with trans := .returnFuse } }
      else s
    | _ => s)

/-! ### The TAP (R404, R407, R414) -/

/-- The instruction register takes a code (R404, Table 13.5). -/
def State.tapIr (s : State) (ir : BitVec 5) : State := { s with sec := { s.sec with ir := ir } }

/-- TAP_ATTACH: the TAP leaves Test-Logic-Reset, with IDCODE in its instruction register; held there while MAIN is not
ready (R404). -/
def execTapAttach (s : State) : Host.Outcome State Fault Refusal :=
  .next (s.inMain (fun t => t.settle { t.tapIr 0x01 with sec := { (t.tapIr 0x01).sec with tapOut := true } }))

/-- TAP_DETACH: the TAP reaches Test-Logic-Reset, which loads IDCODE; an unlock in SECURED stays (R412). -/
def execTapDetach (s : State) : Host.Outcome State Fault Refusal :=
  .next (s.inMain (fun t => t.settle { t.tapIr 0x01 with sec := { (t.tapIr 0x01).sec with tapOut := false } }))

/-- The TAP is out of Test-Logic-Reset and shifts. -/
def State.tapRuns (s : State) : Bool := s.mainUp && s.sec.tapOut

/-- The 32 bits of IDCODE (Table 13.5). -/
def State.idcode (s : State) : BitVec 32 :=
  BitVec.ofNat 32 (s.fld Reg.CHIP_REV 0 4 * 2 ^ 28 + 0x6144 * 2 ^ 12 + 1)

/-- IDCODE. -/
def execIdcode (s : State) : Host.Outcome State Fault Refusal :=
  .next (if s.tapRuns then { s with sec := { s.sec with ir := 0x01, tdo := s.idcode } } else s)

/-- A code of Table 13.5 that selects another register than BYPASS. -/
def irListed (ir : BitVec 5) : Bool := ir = 0x01 || ir = 0x08 || ir = 0x0C

/-- The code of an instruction that selects BYPASS: 0x1F or any that Table 13.5 does not list. Which of them the probe
shifts in is free (R404; log entry 2). -/
def bypassCode (k : Nat) : BitVec 5 :=
  let c : BitVec 5 := (Config.freeWord k).setWidth 5
  if irListed c then 0x1F else c

/-- BYPASS: the 1-bit register is selected; IEEE 1149.1 captures it as 0 (R404, log entry 16). -/
def execBypass (s : State) : Host.Outcome State Fault Refusal :=
  .next (if s.tapRuns then { s with sec := { s.sec with ir := bypassCode s.freeCtr, tdo := 0 }, freeCtr := s.freeCtr + 1 } else s)

/-- A program of an OTP word is allowed (Table 13.3, R407). -/
def State.otpAllowed (s : State) (a : Nat) (d : BitVec 32) : Bool :=
  if s.sec.life = .secured || s.sec.life = .returned || s.sec.otpProg.isSome then false
  else if a < 32 then !s.enrolled (a / 8)
  else if a < 40 then !s.keyset
  else if a = 40 || a = 42 then true
  else if a = 41 then (List.range 4).all (fun k => !s.enrolled k || bitsOf k = 0)
  else a = 43 && d.toNat % 2 ^ 24 = 0
where
  bitsOf (k : Nat) : Nat := d.toNat >>> (8 * k) % 256

/-- What OTP_PROG does with its fields: OP 0b01 programs, 0b10 reads the word, or 0 for the unlock key, and any other
value is no operation (R400, R407). -/
def State.otpUpdate (s : State) (op : BitVec 2) (addr : BitVec 6) (data : BitVec 32) : State :=
  match op.toNat with
  | 1 =>
    if s.otpAllowed addr.toNat data then s.otpBegin addr.toNat data false
    else { s with sec := { s.sec with otpDr := otpCapture s.sec.otpProg.isSome true s.otpData } }
  | 2 =>
    let w : BitVec 32 := if 32 ≤ addr.toNat && addr.toNat ≤ 39 then 0 else s.otpWord addr.toNat
    { s with sec := { s.sec with otpDr := otpCapture s.sec.otpProg.isSome false w } }
  | _ => s

/-- The 40 bits shifted into OTP_PROG take effect at Update-DR: [39:38] OP, [37:32] word address, [31:0] data (R407). -/
def State.otpShift (s : State) (dr : BitVec 40) : State :=
  (s.tapIr 0x0C).otpUpdate (dr.extractLsb' 38 2) (dr.extractLsb' 32 6) (dr.setWidth 32)

/-- OTP_PROG_PROGRAM: a shift-in with OP 0b01, as its bits [39:32], OP and address, and its data. -/
def execOtpProgProgram (high : BitVec 8) (data : BitVec 32) (s : State) : Host.Outcome State Fault Refusal :=
  .next (if s.tapRuns then s.otpShift (high ++ data) else s)

/-- OTP_PROG_READ: a shift-in with any other OP; 0b10 reads, and 0b00 and 0b11 are no operation (log entry 75). -/
def execOtpProgRead (dr : BitVec 40) (s : State) : Host.Outcome State Fault Refusal :=
  .next (if s.tapRuns then s.otpShift dr else s)

/-- OTP_PROGRAM_DONE: the bits are blown, and the shadow and LIFECYCLE follow; the lifecycle state waits for the next
boot. REFUSED stays as a program refused meanwhile has left it (R407). -/
def execOtpProgramDone (s : State) : Host.Outcome State Fault Refusal :=
  .next (match s.sec.otpProg with
    | some (a, d) =>
      let t := s.otpProgram a d
      { t with sec := { t.sec with otpProg := none, shadow := t.fuseWords, otpDr := otpCapture false t.otpRefused t.otpData } }
    | none => s)

end Sys2Proof.Machine
end

