-- ==== Sys2Proof/Machine/Sequencer.lean ====
section
/-! DEFINITION. Meanings of the frame, entry, display synchronisation, pump and DPLL events (05, R81 to R83). -/

namespace Sys2Proof.Machine

/-! ### Frames (R157, R370) -/

/-- A requested self-calibration takes the place of the frame that now starts: the frame is deferred and SLIP is set
(R370). -/
def State.deferForCal (s : State) : State :=
  { s.setFlag Reg.SEQ_STAT 13 true with
    cal := { s.cal with waits := false, frame := true }, seq := { s.seq with due := false } }

/-- FRAME_TIMER_EXPIRY: a frame starts; while the previous frame still runs, or during a self-calibration, it is
deferred (R157, R370, R372). -/
def execFrameTimerExpiry (s : State) : Host.Outcome State Fault Refusal :=
  .next (
    if !s.seqMay then s
    else if s.calBusy || s.seq.run then { s with seq := { s.seq with due := true } }
    else if s.cal.due then s.deferForCal
    else s.frameStart)

/-- SLIP_FRAME_START: the deferred frame starts once the previous frame's last row is written, and SLIP is set; a
requested self-calibration comes first (R157, R370). -/
def execSlipFrameStart (s : State) : Host.Outcome State Fault Refusal :=
  .next (
    if !s.seqMay || !s.seq.due || s.seq.run || s.calBusy then s
    else if s.cal.due then s.deferForCal
    else (s.setFlag Reg.SEQ_STAT 13 true).frameStart)

/-! ### Entries (R144) -/

/-- The sequencer stands at an entry boundary: at the frame's first entry, or after the last chip of an entry that does
not end the frame. -/
def State.atBoundary (s : State) : Bool :=
  s.seq.run && !s.noMoreEntries && (match s.seq.phase, s.seq.cur with
    | .boundary, _ => true
    | .running, some r => s.seq.left == 0 && !endsFrame r.idx r.e
    | _, _ => false)

/-- ENTRY_BOUNDARY (Table 5.4). -/
def execEntryBoundary (s : State) : Host.Outcome State Fault Refusal :=
  .next (if s.mainUp && s.atBoundary then s.entryBoundary else s)

/-- ENTRY_START: a ready entry, its pins in place, that waits for nothing starts (R58, Table 5.4). -/
def execEntryStart (s : State) : Host.Outcome State Fault Refusal :=
  .next (if s.mainUp && s.seq.phase = .ready && s.seq.hold = 0 && s.seq.placed && !s.noMoreEntries then s.entryStart false else s)

/-! ### Display synchronisation (R166 to R170) -/

/-- An interval matches a period within 3 % (R168). -/
def within3 (i p : Nat) : Bool := decide (100 * ((i : Int) - p).natAbs ≤ 3 * p)

/-- The last four intervals agree: each of the first three lies within 3 % of the fourth (R169). -/
def agree4 (l : List Nat) : Bool :=
  l.length == 4 && (List.range 3).all (fun k => within3 (nth l k 0) (nth l 3 0))

/-- An interval between active DSYNC edges is judged (R168, R169). -/
def State.syncInterval (s : State) (i : Nat) : State :=
  let ok := within3 i s.sync.pexp
  if !s.syncEn then s
  else if s.flag Reg.SYNC_STAT 14 then
    if ok then { s with sync := { s.sync with pexp := i } } else s
  else if s.sync.pexp = 0 then { s with sync := { s.sync with pexp := i } }
  else if ok then
    { s.setFld Reg.SYNC_STAT 10 2 (min 2 (s.fld Reg.SYNC_STAT 10 2 + 1)) with sync := { s.sync with ivals := [] } }
  else
    let l := (s.sync.ivals ++ [i]).drop (s.sync.ivals.length + 1 - 4)
    if s.flag Reg.SYNC_STAT 15 && agree4 l then
      { s.setFld Reg.SYNC_STAT 10 2 2 with sync := { s.sync with pexp := i, ivals := [] } }
    else { s.setFld Reg.SYNC_STAT 10 2 0 with sync := { s.sync with ivals := l } }

/-- DSYNC_EDGE: an edge; the active one is chosen by POL and comes its interval in FIO periods after the active edge
before it, of which the first measures nothing. A waiting entry starts. DSYNC is ignored until boot has applied the
configuration, which the model takes to be the end of boot (R41, R166, R168, R172; DESIGN CHOICE, log entry 67). -/
def execDsyncEdge (e : SyncPulse) (s : State) : Host.Outcome State Fault Refusal :=
  .next (
    if s.mainUp && s.pwr.boot = .done && s.snap.flag Reg.SYNC_CTL 14 == e.falling then
      let t := if s.sync.seen then s.syncInterval e.interval else s
      let t := { t with sync := { t.sync with seen := true } }
      if t.seq.phase = .waiting && !t.noMoreEntries then
        { t with sync := { t.sync with burst := true } }.entryStart true
      else t
    else s)

/-- Synchronisation is lost. F_APPLIED and P_APPLIED follow at once: Table 5.22 lists them with the segment's start, and
no rule says when within the frame they change (R169, R170; DESIGN CHOICE, log entry 53). -/
def State.syncLost (s : State) : State :=
  let s := ((s.setFlag Reg.SYNC_STAT 15 true).setFlag Reg.SYNC_STAT 13 true).setFlag Reg.SYNC_STAT 14 false
  let s := (s.setFld Reg.SYNC_STAT 10 2 0).raise Irq.SYNC
  { s with sync := { s.sync with ivals := [] } }.showApplied

/-- SYNC_TIMEOUT_EXPIRY: the waiting entry starts at once and entries run free (R170). -/
def execSyncTimeoutExpiry (s : State) : Host.Outcome State Fault Refusal :=
  .next (if s.mainUp && s.seq.phase = .waiting && !s.noMoreEntries then s.syncLost.entryStart true else s)

/-- The burst that a DSYNC edge started still has chips in progress: it ends with the last chip of the frame, of the cut
frame's last entry, or of the entry before one that will wait; between entries it goes on unless the frame has been cut
(R167). -/
def State.burstRuns (s : State) : Bool :=
  s.sync.burst && (match s.running with
    | some r => !(s.chipsOver && (endsFrame r.idx r.e || s.noMoreEntries || s.mustWait (s.entryRead (r.idx + 1))))
    | none => !s.noMoreEntries)

/-- SPILL_CHECK: QUIET_LEN periods after the edge that started a burst (R167). -/
def execSpillCheck (s : State) : Host.Outcome State Fault Refusal :=
  .next (
    if s.mainUp && s.burstRuns && s.snap.reg Reg.QUIET_LEN != 0 && !s.flag Reg.SYNC_STAT 15 then
      s.setFlag Reg.SYNC_STAT 12 true
    else s)

/-! ### Charge pump (R81, R83) -/

/-- PUMP_READY: VPUMP is within 2 % of its setpoint while the pump runs. -/
def execPumpReady (s : State) : Host.Outcome State Fault Refusal :=
  .next (if s.mainUp && s.drive.pump then (s.setFlag Reg.LANE_STAT 15 true).setFlag Reg.LANE_STAT 14 false else s)

/-- PUMP_LOW: VPUMP has stayed below 85 % for 1 ms while the pump runs. The regulator fault that follows is
SUPPLY_FAULT. -/
def execPumpLow (s : State) : Host.Outcome State Fault Refusal :=
  .next (if s.mainUp && s.drive.pump then (s.setFlag Reg.LANE_STAT 14 true).setFlag Reg.LANE_STAT 15 false else s)

/-! ### DPLL (R160 to R164) -/

/-- TB in force; it acts as 0b00 after an FIO fault (R426). -/
def State.tb (s : State) : Nat := if s.fio2 then 0 else s.fld Reg.CLK_CTL 13 2

/-- The DPLL output in Hz for a reference (R160). -/
def State.dpllOut (s : State) (refHz : Nat) : Nat := refHz * max 1 (s.fld Reg.CLK_CTL 0 12)

/-- The DPLL output lies within 24 to 96 MHz. -/
def dpllInRange (f : Nat) : Bool := decide (24000000 ≤ f) && decide (f ≤ 96000000)

/-- DPLL_LOCK: the DPLL acquires lock on its reference, or finds its output out of range and does not (R164). It is off
until boot has applied the configuration, and LCLK is ignored till then (R41, R356; log entry 67). -/
def execDpllLock (refHz : Nat) (s : State) : Host.Outcome State Fault Refusal :=
  .next (
    if s.mainUp && s.pwr.boot = .done && s.tb != 0 then
      if dpllInRange (s.dpllOut refHz) then
        { s.setFlag Reg.CLK_STAT 14 true with drive := { s.drive with dpllHz := s.dpllOut refHz } }
      else if s.flag Reg.CLK_STAT 14 then s
      else s.setFlag Reg.CLK_STAT 10 true
    else s)

/-- The DPLL no longer drives from the next entry boundary on (R161, R163). -/
def State.leaveDpll (s : State) : State :=
  if s.flag Reg.CLK_STAT 15 then { s with drive := { s.drive with toFio := true } } else s

/-- DPLL_UNLOCK: a locked DPLL loses lock; DPLL_UNLOCK is set only when it drove the timebase (R163, R164). -/
def execDpllUnlock (c : UnlockCause) (s : State) : Host.Outcome State Fault Refusal :=
  .next (
    if s.mainUp && s.flag Reg.CLK_STAT 14 then
      let t := (s.setFlag Reg.CLK_STAT 14 false).leaveDpll
      let t := if s.flag Reg.CLK_STAT 15 then t.setFlag Reg.CLK_STAT 13 true else t
      match c with
      | .range => t.setFlag Reg.CLK_STAT 10 true
      | _ => t
    else s)

/-- A write of CLK_CTL: a changed REF or MULT restarts acquisition while the DPLL is on; TB 0b00 turns it off (R160 to
R162). -/
def State.clkCtlWrite (s : State) (v : Word) : State :=
  let was := s.fld Reg.CLK_CTL 13 2
  let old := s.fld Reg.CLK_CTL 0 13
  let s := s.plainWrite Reg.CLK_CTL v
  if s.fld Reg.CLK_CTL 13 2 = 0 then s.setFlag Reg.CLK_STAT 14 false
  else if was ≠ 0 ∧ s.fld Reg.CLK_CTL 0 13 ≠ old then (s.setFlag Reg.CLK_STAT 14 false).leaveDpll
  else s

/-- CLK_CTL_WRITE, while MAIN is ready (R161, R325). -/
def execClkCtlWrite (v : Word) (s : State) : Host.Outcome State Fault Refusal :=
  .next (if s.mainUp then s.clkCtlWrite v else s)

end Sys2Proof.Machine
end

