-- ==== Sys2Proof/Machine/Regs.lean ====
section
/-! DEFINITION. Registers as the host and the TAP reach them: what a read does beside delivering the register, and what
a committed write sets off (R8 to R14, R32, R309, R435 to R445). -/

namespace Sys2Proof.Machine

/-! ### Reads -/

/-- A read of an _H register latches the low half of the pair (R32). -/
def State.readTimeH (s : State) : Word × State :=
  (s.viewReg Reg.AON_TIME_H, { s with aon := { s.aon with latch := some (s.viewReg Reg.AON_TIME_L) } })

/-- A read of an _L register delivers the latched half and releases the latch (R32). -/
def State.readTimeL (s : State) : Word × State :=
  (s.aon.latch.getD (s.viewReg Reg.AON_TIME_L), { s with aon := { s.aon with latch := none } })

/-- CAL_TIME_H, as `readTimeH`. -/
def State.readCalH (s : State) : Word × State :=
  (s.viewReg Reg.CAL_TIME_H, { s with aon := { s.aon with latchC := some (s.viewReg Reg.CAL_TIME_L) } })

/-- CAL_TIME_L, as `readTimeL`. -/
def State.readCalL (s : State) : Word × State :=
  (s.aon.latchC.getD (s.viewReg Reg.CAL_TIME_L), { s with aon := { s.aon with latchC := none } })

/-- A register read at host-port address `a`, with its side effect; reserved addresses read 0 (R12, R309). -/
def State.readReg (s : State) (a : Nat) : Word × State :=
  match a with
  | 0x0A => s.readTimeH
  | 0x0B => s.readTimeL
  | 0x2B => s.readCalH
  | 0x2C => s.readCalL
  | 0x36 => s.readRptData
  | 0x3E => s.winRead
  | 0x45 => s.readChal
  | _ => if h : a < 80 then (s.viewReg ⟨a, h⟩, s) else (0, s)

/-- An address whose access needs MAIN: MAIN registers; AON registers and reserved addresses do not (R325, R437). -/
def needsMain (a : Nat) : Bool := decide (0x10 ≤ a) && decide (a < 0x50)

/-! ### What a committed write sets off -/

/-- `f` where a bit of the written word is 1. -/
def onBit (v : Word) (b : Nat) (f : State → State) (s : State) : State := if v.getLsbD b then f s else s

/-- SLEEP_CTL: AUTO and DSYNC_WK, then REQ, then ASK; with no schedule running sleep may become due (R336). -/
def State.writeSleepCtl (s : State) (v : Word) : State :=
  let s := s.plainWrite Reg.SLEEP_CTL v
  (onBit v 14 State.sleepAsk (onBit v 15 State.sleepReq s)).dueIfStopped

/-- Setting the HOST vote cancels a request, and a sleep that has become due and whose sequence has not yet begun
(R336, R337, R445). -/
def State.hostVoteSet (s : State) : State :=
  let t := s.setFlag Reg.SLEEP_CTL 15 false
  if t.pwr.hs.isNone && t.pwr.goSleep then ({ t with pwr := { t.pwr with goSleep := false } }).quiesceCheck else t

/-- PWR_VOTE: the HOST vote (R336). -/
def State.writePwrVote (s : State) (v : Word) : State :=
  s.settle (onBit v 0 State.hostVoteSet (s.plainWrite Reg.PWR_VOTE v))

/-- GEYSER_CFG: in SLEEP, clearing EN stops the Geyser and discards any pattern (R274). -/
def State.writeGeyserCfg (s : State) (v : Word) : State :=
  let t := s.plainWrite Reg.GEYSER_CFG v
  if t.pwr.pstate = .sleep && !v.getLsbD 15 then
    { t with geyser := { t.geyser with on := false, cand := false, evs := [], cover := false } }
  else t

/-- FUNC_RESET: each bit written 1 requests its reset (R360). -/
def State.writeFuncReset (s : State) (v : Word) : State :=
  applyAll
    [onBit v 0 State.resetLanes, onBit v 1 State.resetFilters, onBit v 2 State.resetSeq, onBit v 3 State.resetCaldera,
     onBit v 4 State.resetTrack, onBit v 5 State.resetQueueFn, onBit v 6 State.resetRing, onBit v 7 State.resetNvmctl,
     onBit v 8 State.resetHostport, onBit v 9 State.resetGeyser, onBit v 10 State.resetGoertzel] s

/-- FUNC_EN: each function takes its bit (R361); HOSTPORT always reads 1. -/
def State.writeFuncEn (s : State) (v : Word) : State :=
  let on (b : Nat) : Bool := v.getLsbD b
  applyAll
    [fun t => t.enLanes (on 0), fun t => t.enFilters (on 1), fun t => t.enSeq (on 2), fun t => t.enCaldera (on 3),
     fun t => t.enTrack (on 4), fun t => t.enQueue (on 5), fun t => t.enRing (on 6), fun t => t.enNvmctl (on 7),
     fun t => t.enGeyser (on 9), fun t => t.enGoertzel (on 10)] s

/-- SCHED_CTL: MAPSEL, then LOAD, COMMIT and ABORT (R206, R207). -/
def State.writeSchedCtl (s : State) (v : Word) : State :=
  applyAll [onBit v 15 State.schedLoad, onBit v 14 State.schedCommit, onBit v 13 State.schedAbort]
    (s.plainWrite Reg.SCHED_CTL v)

/-- FILT_CTL: TRK_HOLD and TRK_SNAP; TRK_CLR acts at the next frame start (R130). -/
def State.writeFiltCtl (s : State) (v : Word) : State :=
  onBit v 1 (fun t => { t with filt := { t.filt with clr := true } }) (s.plainWrite Reg.FILT_CTL v)

/-- CAL_CMD: its fields, then SELF and RECAL (R370, R374). -/
def State.writeCalCmd (s : State) (v : Word) : State :=
  onBit v 14 State.calRecal (onBit v 15 State.calSelf (s.plainWrite Reg.CAL_CMD v))

/-- BASE_CTL: its fields, and a request of RECAP (R223). -/
def State.writeBaseCtl (s : State) (v : Word) : State :=
  onBit v 15 (fun t => t.setFlag Reg.BASE_CTL 15 true) (s.plainWrite Reg.BASE_CTL v)

/-- `RPT_CTL.CLRGAP` clears RPT_GAPS (R295). -/
def State.clrGap (s : State) : State := s.setReg Reg.RPT_GAPS 0

/-- RPT_CTL: its fields, then FLUSH and CLRGAP; a change of the QUEUE vote may make sleep due. -/
def State.writeRptCtl (s : State) (v : Word) : State :=
  s.settle (onBit v 14 State.clrGap (onBit v 15 State.flushQueue (s.plainWrite Reg.RPT_CTL v)))

/-- RING_CTL: EN, then MARK, REWIND and CLEAR (R302). -/
def State.writeRingCtl (s : State) (v : Word) : State :=
  applyAll [onBit v 14 State.ringMark, onBit v 13 State.ringRewind, onBit v 12 State.ringClear]
    (s.plainWrite Reg.RING_CTL v)

/-- WIN_SEL: its fields; ERRCNT clears (Table 10.10). -/
def State.writeWinSel (s : State) (v : Word) : State := (s.plainWrite Reg.WIN_SEL v).setFld Reg.WIN_STAT 0 8 0

/-- NVM_CTL: OP, and with GO the operation it names (R395). -/
def State.writeNvmCtl (s : State) (v : Word) : State :=
  if v.getLsbD 15 then s.nvmGo (bits v 8 4) (v.setWidth 8) else s.plainWrite Reg.NVM_CTL v

/-- HOST_CTL: the register and the copy in the AON front end (R330). -/
def State.writeHostCtl (s : State) (v : Word) : State :=
  let t := s.plainWrite Reg.HOST_CTL v
  { t with port := { t.port with ctl := t.reg Reg.HOST_CTL } }

/-- A write of SYS_RESET through a port or the TAP: the command carries no strap levels, so those sampled at the end of
the system reset are free (R45; DESIGN CHOICE, log entry 37). -/
def State.sysResetFree (s : State) (v : Word) : State :=
  let a := s.drawBit
  let b := a.2.drawBit
  if bits v 8 8 = 0xA5 then b.2.systemReset ⟨a.1, b.1⟩ else s

/-- A write committed at host-port address `a` (R13, R436); reserved addresses ignore it (R12). -/
def State.commitReg (s : State) (a : Nat) (v : Word) : State :=
  match a with
  | 0x05 => s.writeSleepCtl v
  | 0x06 => s.writePwrVote v
  | 0x08 => s.writeGeyserCfg v
  | 0x0C => s.wakeTimerWrite v
  | 0x0D => s.sysResetFree v
  | 0x10 => s.writeFuncReset v
  | 0x11 => s.writeFuncEn v
  | 0x12 => s.clkCtlWrite v
  | 0x16 => s.writeSchedCtl v
  | 0x22 => s.writeFiltCtl v
  | 0x28 => s.writeCalCmd v
  | 0x2F => s.writeBaseCtl v
  | 0x34 => s.writeRptCtl v
  | 0x38 => s.writeRingCtl v
  | 0x3B => s.ringSetRd v
  | 0x3C => s.writeWinSel v
  | 0x3E => s.winWrite v
  | 0x40 => s.writeNvmCtl v
  | 0x43 => s.debugCtl v
  | 0x45 => s.writeChal v
  | 0x4A => s.writeHostCtl v
  | _ => if h : a < 80 then s.plainWrite ⟨a, h⟩ v else s

/-- The register answers now: AON registers while no reset holds the block, MAIN registers while MAIN is ready. -/
def State.answers (s : State) (a : Nat) : Bool := if needsMain a then s.mainUp else s.aonUp

/-! ### Meanings of the register rows -/

/-- REGISTER_WRITE: a write that reaches the register file. -/
def execRegisterWrite (a : BitVec 7) (v : Word) (s : State) : Host.Outcome State Fault Refusal :=
  .next (if s.answers a.toNat then s.commitReg a.toNat v else s)

/-- RPT_DATA_READ; the transaction's own bytes have clocked the read side (R286), and the word is driven on the port. -/
def execRptDataRead (s : State) : Host.Outcome State Fault Refusal :=
  .next (s.inMain (fun t =>
    let r := t.queueSync.readRptData
    { r.2 with port := { r.2.port with out := bytesOfWord r.1 } }))

/-- RPT_FLUSH: a write of 1 to `RPT_CTL.FLUSH` (R291). -/
def execRptFlush (s : State) : Host.Outcome State Fault Refusal := .next (s.inMain (fun t => t.settle t.flushQueue))

/-- RPT_CLRGAP: a write of 1 to `RPT_CTL.CLRGAP`. -/
def execRptClrgap (s : State) : Host.Outcome State Fault Refusal := .next (s.inMain State.clrGap)

/-- INSERT_PUSH: the oldest buffered record is pushed once no frame is staging (R284). -/
def execInsertPush (s : State) : Host.Outcome State Fault Refusal := .next (s.inMain State.pushInserted)

/-- RING_MARK. -/
def execRingMark (s : State) : Host.Outcome State Fault Refusal := .next (s.inMain State.ringMark)

/-- RING_REWIND. -/
def execRingRewind (s : State) : Host.Outcome State Fault Refusal := .next (s.inMain State.ringRewind)

/-- RING_CLEAR. -/
def execRingClear (s : State) : Host.Outcome State Fault Refusal := .next (s.inMain State.ringClear)

/-- RING_RD_WRITE. -/
def execRingRdWrite (v : Word) (s : State) : Host.Outcome State Fault Refusal := .next (s.inMain (fun t => t.ringSetRd v))

/-- WIN_DATA_ACCESS: a register access to WIN_DATA; a word read is driven on the port. -/
def execWinDataAccess (rd : Bool) (v : Word) (s : State) : Host.Outcome State Fault Refusal :=
  .next (s.inMain (fun t =>
    if rd then
      let r := t.winRead
      { r.2 with port := { r.2.port with out := bytesOfWord r.1 } }
    else t.winWrite v))

end Sys2Proof.Machine
end

