-- ==== Sys2Proof/Machine/Port.lean ====
section
/-! DEFINITION. The host port: SPI and I2C transactions, their CRC, what happens while MAIN is not ready, the PORT vote,
and DBG_ACCESS (R305 to R330, R405, R406). -/

namespace Sys2Proof.Machine

/-! ### Pins (Table 14.1, class host-port pin) -/

/-- The mask by which faults of the given pins alter a byte. -/
def State.pinMask (s : State) (ps : List HostPin) : Byte :=
  s.fmon.faults.foldl (fun m f => match f.1 with
    | .pin p k => if ps.contains p then m ^^^ k else m
    | _ => m) 0

/-- A byte as the block receives it. -/
def State.heard (s : State) (b : Byte) : Byte := b ^^^ s.pinMask [.hsck, .hsdi, .hcsN]

/-- The bytes the block drives in this command. -/
def State.drives (s : State) (l : List Byte) : State :=
  let m := if s.aon.hsel then s.pinMask [.hsck, .hsdi] else s.pinMask [.hsdo]
  { s with port := { s.port with out := l.map (fun b => b ^^^ m) } }

/-- A command of the port begins with nothing driven and nothing left unacknowledged. -/
def State.quiet (s : State) : State := { s with port := { s.port with out := [], nack := false } }

/-- The host clocks a command or address byte: the read side of the queue sees every committed item (R286). -/
def State.clocked (s : State) : State := s.quiet.queueSync

/-- A byte of the host is not acknowledged, in I2C. -/
def State.nacks (s : State) : State := { s with port := { s.port with nack := s.aon.hsel } }

/-! ### Transactions -/

/-- Change the transaction in progress. -/
def State.onTxn (s : State) (f : Txn → Txn) : State := { s with port := { s.port with txn := s.port.txn.map f } }

/-- A transaction begins. -/
def State.txnOpen (s : State) (rd : Bool) (kind addr : Nat) (crcOn dead : Bool) : State :=
  let t : Txn := { rd := rd, kind := kind, needs := false, crcOn := crcOn, crc := 0xFF, dead := dead, void := dead, addr := addr,
                   read := [], redone := [], queue := false }
  { s with port := { s.port with txn := some t } }

/-- The transaction has no further effect. -/
def State.txnDies (s : State) : State := s.onTxn (fun t => { t with dead := true })

/-- The transaction addresses MAIN: the PORT vote is held, and in SLEEP a wake starts (R325, R326). -/
def State.touchMain (s : State) : State :=
  let t := { s with port := { s.port with vote := true } }.onTxn (fun t => { t with needs := true })
  if t.mainUp then t else t.wakeRequest .host

/-- Transient faults of the port's pins end with the transaction they altered (log entry 17). -/
def State.pinTransients (s : State) : State :=
  { s with fmon := { s.fmon with faults := s.fmon.faults.filter (fun f => !f.2 || (match f.1 with
      | .pin p _ => p = .irqN
      | _ => true)) } }

/-- A transaction ends: a reset of the queue that waited for its end acts (R292, R310). -/
def State.txnOver (s : State) : State :=
  if s.port.txn.isSome then
    let s := s.pinTransients
    let t := { s with port := { s.port with txn := none, stretch := none }, queue := { s.queue with stream := .off } }
    if t.flag Reg.FUNC_RESET 5 then s.settle t.queueReset else t
  else s

/-- A transaction ends with HCS_N or with STOP: a reset of the port that waited for it acts (R329). -/
def State.txnEnd (s : State) : State :=
  let t := s.txnOver
  if t.port.rstDue then t.hostReset else t

/-- The transaction's header gives it no effect (R307, R319, R320). -/
def State.txnVoid (s : State) : State := s.onTxn (fun t => { t with dead := true, void := true })

/-- The window code of an accepted window transaction is selected before the first word that MAIN answers, whether or not
that word's CRC then checks (Table 10.3). It is selected once: the transaction's address then holds code 0, which leaves
the selection as it stands. -/
def State.txnSelect (s : State) : State :=
  match s.port.txn with
  | some t => if t.kind = 1 && s.mainUp then (s.winSelect t.addr).onTxn (fun u => { u with addr := 0 }) else s
  | none => s

/-- An error of HOST_STAT that PREV_ERR shows (Table 10.4). -/
def State.prevErr (s : State) : Bool := (s.reg Reg.HOST_STAT &&& 0x2F00) != 0

/-- A status byte; where the transaction's own error has just changed PREV_ERR or IRQ, whether the byte shows it yet is
open (R308; log entry 2). `s` is the state before the error, `t` the state after it. -/
def State.status (s t : State) (resp : Nat) : Byte × State :=
  let e := if s.prevErr = t.prevErr then (t.prevErr, t) else t.drawBit
  let i := if s.irqAsserted = t.irqAsserted then (t.irqAsserted, e.2) else e.2.drawBit
  (BitVec.ofNat 8 (resp * 32 + bitAt 4 t.mainUp + bitAt 3 i.1 + bitAt 2 e.1 + 1), i.2)

/-! ### One word read (R309, R322) -/

/-- The next word of the transaction needs MAIN (R325). -/
def Txn.needsMain (t : Txn) : Bool := match t.kind with
  | 0 => Sys2Proof.Machine.needsMain t.addr
  | 3 => false
  | _ => true

/-- What the transaction's address becomes after one word; a window code not yet selected waits for MAIN. -/
def Txn.nextAddr (t : Txn) : Nat := match t.kind with
  | 0 => (t.addr + 1) % 128
  | 3 => min 4 (t.addr + 1)
  | _ => t.addr

/-- Word `k` of the special STATUS read: in I2C the status byte comes first (R309, Table 10.5). -/
def State.statusWord (s : State) (k : Nat) : Word × State :=
  let j := if s.aon.hsel then k else k + 1
  if j = 0 then
    let r := s.status s 4
    (word (r.1.toNat * 256), r.2)
  else if j = 1 then (s.viewReg Reg.INT_STAT, s)
  else if j = 2 then (s.viewReg Reg.SYS_STAT, s)
  else (0, s)

/-- The word that the transaction `t` reads next, with MAIN ready where it is needed. -/
def State.portWord (s : State) (t : Txn) : Word × State := match t.kind with
  | 0 => s.readReg t.addr
  | 1 => s.winRead
  | 2 => s.streamWord
  | _ => s.statusWord t.addr

/-- The word is captured: its side effects have happened, and the transaction moves on. -/
def State.capture (s : State) (t : Txn) : Word × State :=
  let s := (if t.needsMain then s.touchMain else s).txnSelect
  let r := s.portWord t
  (r.1, r.2.queueSync.onTxn (fun u => { u with addr := u.nextAddr, queue := u.queue || t.kind = 2 || (t.kind = 0 && t.addr = 0x36) }))

/-- The bytes of a read word: its own two, and its CRC byte when CRC is on (R317). -/
def State.wordOut (s : State) (t : Txn) (w : Word) : List Byte × State :=
  let c := crc8From t.crc (bytesOfWord w)
  ((if t.crcOn then bytesOfWord w ++ [c] else bytesOfWord w), s.onTxn (fun u => { u with crc := c }))

/-! ### One word written (R31, R309, R318, R319) -/

/-- A written word commits. -/
def State.commitWord (s : State) (t : Txn) (v : Word) : State :=
  let s := if t.needsMain then s.touchMain else s
  let s := match t.kind with
    | 0 => s.commitReg t.addr v
    | 1 => s.winWrite v
    | _ => s
  s.queueSync.onTxn (fun u => { u with addr := u.nextAddr })

/-- A written word arrives, after the window that the transaction names is selected: with CRC it commits only when the CRC checks; a failure ends the transaction (R318, R319). A
word without the CRC byte that belongs to it does not commit. `f` is what committing means. -/
def State.takeWire (s : State) (t : Txn) (w : WireWord) (f : State → Txn → Word → State) : State :=
  let s := s.txnSelect
  let bs := (bytesOfWord w.word).map s.heard
  let v := wordOfBytes (nth bs 0 0) (nth bs 1 0)
  let c := crc8From t.crc bs
  let s := s.onTxn (fun u => { u with crc := c })
  if t.crcOn then
    match w.crc with
    | some k => if s.heard k = c then f s t v else s.crcErr.nacks.txnDies
    | none => s
  else f s t v

/-! ### SPI (R306 to R310, R318 to R320, R325) -/

/-- A word that an SPI read gets: one that needs MAIN while MAIN is not ready reads 0xFFFF, and NR is set (R325). -/
def State.spiCapture (s : State) (t : Txn) : Word × State :=
  if t.needsMain && !s.mainUp then
    (0xFFFF, (s.touchMain.hostErr HostErr.NR).onTxn (fun u => { u with addr := t.nextAddr }))
  else s.capture t

/-- The bytes of `n` more words of an SPI read; after a refusal every byte is 0xFF (Table 10.4). -/
def State.spiRead : Nat → State → List Byte × State
  | 0, s => ([], s)
  | n + 1, s =>
    match s.port.txn with
    | none => ([], s)
    | some t =>
      let h : List Byte × State :=
        if t.dead then (List.replicate (if t.crcOn then 3 else 2) 0xFF, s)
        else
          let r := s.spiCapture t
          r.2.wordOut t r.1
      let rest := State.spiRead n h.2
      (h.1 ++ rest.1, rest.2)

/-- A word that an SPI write commits; one that needs MAIN while MAIN is not ready is lost (R325). -/
def State.spiCommit (s : State) (t : Txn) (v : Word) : State :=
  if t.needsMain && !s.mainUp then
    (s.touchMain.hostErr HostErr.WR_LOST).onTxn (fun u => { u with addr := t.nextAddr })
  else s.commitWord t v

/-- The words of an SPI write, one after another. -/
def State.spiWrite (s : State) (ws : List WireWord) : State :=
  ws.foldl (fun s w => match s.port.txn with
    | some t => if t.dead || t.rd || t.kind = 3 then s else s.takeWire t w State.spiCommit
    | none => s) s

/-- More words of the SPI transaction in progress, whatever it is: `n` words clocked, `ws` the host's data. -/
def State.spiMore (s : State) (ws : List WireWord) (n : Nat) : State :=
  match s.port.txn with
  | none => s
  | some t =>
    if t.rd then
      let r := State.spiRead n s
      r.2.drives r.1
    else (s.spiWrite ws).drives (List.replicate (n * (if t.crcOn then 3 else 2)) 0)

/-- A transaction that has no effect: a read answers `resp` and 0xFF in every later byte (R307, R319, R320, R325). `s` is
the state before the error, `t` the state after it. -/
def State.spiDead (s t : State) (rd crcOn : Bool) (resp n : Nat) : State :=
  let head : List Byte := List.replicate (if crcOn then 3 else 2) 0
  let t := t.txnVoid
  if rd then
    let y := s.status t resp
    y.2.drives (head ++ y.1 :: List.replicate (n * (if crcOn then 3 else 2)) 0xFF)
  else t.drives (head ++ List.replicate (n * (if crcOn then 3 else 2)) 0)

/-- A read whose header stands: the status byte READY, then the words (R308). -/
def State.spiServe (s : State) (crcOn : Bool) (n : Nat) : State :=
  let head : List Byte := List.replicate (if crcOn then 3 else 2) 0
  let y := s.status s 4
  let r := State.spiRead n (y.2.onTxn (fun u => { u with crc := crc8 [y.1] }))
  r.2.drives (head ++ y.1 :: r.1)

/-- A command byte that asks for what Table 10.3 does not allow (R307). -/
def badCommand (rd : Bool) (kind res : Nat) (addr : Byte) : Bool :=
  res != 0 || (kind = 2 && !rd) || (kind = 3 && !(if rd then addr = 0 else addr = 1))

/-- The transaction's first word needs MAIN; the special WAKE counts as an access to MAIN (R325, R326). -/
def firstNeedsMain (rd : Bool) (kind : Nat) (addr : Byte) : Bool := match kind with
  | 0 => needsMain (addr.toNat % 128)
  | 3 => !rd
  | _ => true

/-- The address a transaction starts with. -/
def firstAddr (kind : Nat) (addr : Byte) : Nat := match kind with
  | 0 => addr.toNat % 128
  | 1 => addr.toNat % 16
  | _ => 0

/-- An accepted SPI header (R309, R325). -/
def State.spiGo (s : State) (rd : Bool) (kind : Nat) (addr : Byte) (crcOn : Bool) (ws : List WireWord) (n : Nat) :
    State :=
  let m := firstNeedsMain rd kind addr
  let s := if m then s.touchMain else s
  if rd then
    if m && !s.mainUp then s.spiDead (s.hostErr HostErr.NR) true crcOn 2 n else s.txnSelect.spiServe crcOn n
  else (s.txnSelect.spiWrite ws).drives (List.replicate ((if crcOn then 3 else 2) + n * (if crcOn then 3 else 2)) 0)

/-- An SPI transaction begins with its header: the header CRC is checked first, then the command (R307, R318, R320).
`n` words are clocked; `ws` are the host's data. -/
def State.spiStart (s : State) (rd : Bool) (kind : Nat) (h : SpiHeader) (ws : List WireWord) (n : Nat) : State :=
  let s := s.txnEnd
  let cmd := s.heard (BitVec.ofNat 8 (bitAt 7 rd + kind * 32 + bitAt 4 h.crc.isSome + h.res.toNat))
  let addr := s.heard h.addr
  let rd := cmd.getLsbD 7
  let kind := cmd.toNat / 32 % 4
  let crcOn := cmd.getLsbD 4
  let s := s.txnOpen rd kind (firstAddr kind addr) crcOn false
  if crcOn && s.heard (h.crc.getD 0) != crc8 [cmd, addr] then s.spiDead s.crcErr rd crcOn 1 n
  else if badCommand rd kind (cmd.toNat % 16) addr || (s.port.ctl.getLsbD 14 && !crcOn && !(kind = 3 && rd)) then
    s.spiDead (s.hostErr HostErr.BAD_CMD) rd crcOn 3 n
  else s.spiGo rd kind addr crcOn ws n

/-- The port is an SPI target and no reset holds it (R43, R45). -/
def State.inSpi (s : State) (f : State → State) : State := if s.aonUp && !s.aon.hsel then f s.quiet else s

/-- The same for an I2C target. -/
def State.inI2c (s : State) (f : State → State) : State := if s.aonUp && s.aon.hsel then f s.quiet else s

/-- A command with a header starts a transaction, one without goes on with the transaction in progress. -/
def State.spiRow (s : State) (rd : Bool) (kind : Nat) (h : Option SpiHeader) (ws : List WireWord) (n : Nat) : State :=
  s.inSpi (fun t => match h with
    | some h => t.clocked.spiStart rd kind h ws n
    | none => t.spiMore ws n)

/-! ### I2C (R311 to R314, R319, R325) -/

/-- A word needs MAIN while MAIN is not ready: SCL is stretched and a wake starts; in WAKE_FAIL the rest of the
transaction is lost at once (R325). `st` is what waits. -/
def State.i2cHold (s : State) (st : Stretch) : State :=
  let s := s.touchMain
  if s.pwr.pstate = .wakeFail then (s.hostErr HostErr.NR_TO).txnDies
  else { s with port := { s.port with stretch := some st } }

/-- The stream stalls before this word (R288, R314). -/
def State.stallsNow (s : State) (t : Txn) : Bool :=
  t.kind = 2 && !s.queue.stopped && s.queue.stream != .filler && !s.queueReady && s.fld Reg.RPT_CTL 0 5 != 0

/-- The next word of an I2C read. What the special WAKE pointer delivers to a read the spec does not state (log entry 2).
After a register word the pointer holds the address that follows (R312). -/
def State.i2cCapture (s : State) (t : Txn) : Word × State :=
  if t.dead then (0xFFFF, s)
  else if t.kind = 3 && s.port.ptr = 0xA1 then s.drawWord
  else
    let r := s.capture t
    (r.1, if t.kind = 0 then { r.2 with port := { r.2.port with ptr := BitVec.ofNat 8 t.nextAddr } } else r.2)

/-- The bytes of `n` more words of an I2C read, up to a stretch. -/
def State.i2cRead : Nat → State → List Byte × State
  | 0, s => ([], s)
  | n + 1, s =>
    match s.port.txn with
    | none => ([], s)
    | some t =>
      if !t.dead && t.needsMain && !s.mainUp then
        let u := s.i2cHold (.read (n + 1))
        if u.port.stretch.isSome then ([], u)
        else
          let h := u.wordOut t 0xFFFF
          let rest := State.i2cRead n h.2
          (h.1 ++ rest.1, rest.2)
      else if !t.dead && s.stallsNow t then ([], { s with queue := { s.queue with stream := .stalled } })
      else
        let r := s.i2cCapture t
        let h := r.2.wordOut t r.1
        let rest := State.i2cRead n h.2
        (h.1 ++ rest.1, rest.2)

/-- A data byte reaches a pointer that takes none: a read-only one sets BAD_CMD (R312). -/
def State.i2cReadOnly (s : State) : State := if s.port.ptr = 0xA1 then s else s.hostErr HostErr.BAD_CMD

/-- The words of an I2C write, up to a stretch; a read-only pointer takes none of them (R312). -/
def State.i2cWrite (s : State) : List WireWord → State
  | [] => s
  | w :: ws =>
    match s.port.txn with
    | none => s
    | some t =>
      if t.dead || t.rd then s
      else if 2 ≤ t.kind then s.i2cReadOnly
      else if t.needsMain && !s.mainUp then s.i2cHold (.write (w :: ws))
      else (s.takeWire t w State.commitWord).i2cWrite ws

/-- The kind of a pointer (Table 10.5). -/
def ptrKind (p : Byte) : Nat := if p < 0x80 then 0 else if p < 0x90 then 1 else if p = 0x90 then 2 else 3

/-- A pointer byte that is not reserved. -/
def ptrValid (p : Byte) : Bool := p ≤ 0x90 || p = 0xA0 || p = 0xA1

/-- The address a transaction of a pointer starts with. -/
def ptrAddr (p : Byte) : Nat := firstAddr (ptrKind p) p

/-- The address byte with its W bit (R45). -/
def State.i2cAddrByte (s : State) : Byte := if s.aon.hsdo then 0x5A else 0x58

/-- `HOST_CTL.I2C_CRC` (R316). -/
def State.i2cCrc (s : State) : Bool := s.port.ctl.getLsbD 13

/-- A START and its address byte: the block takes part when the byte holds its address and the direction; any other
byte, a Hs code, a 10-bit header and a general call among them, is not acknowledged (R305, R313). `f` is what follows.
-/
def State.i2cStart (s : State) (rd : Bool) (a : Byte) (f : State → State) : State :=
  let s := s.txnOver.clocked
  if s.heard a = s.i2cAddrByte + BitVec.ofNat 8 rd.toNat then f s else s.nacks

/-- An I2C write names a pointer (R311, R312, R319). -/
def State.i2cPointer (s : State) (ptr : Byte) (crc : Option Byte) : State :=
  let p := s.heard ptr
  let on := s.i2cCrc
  let t := s.txnOpen false (ptrKind p) (ptrAddr p) on false
  if !ptrValid p then (t.hostErr HostErr.BAD_CMD).nacks.txnVoid
  else if on && crc.isNone then t.txnVoid
  else if on && s.heard (crc.getD 0) != crc8 [s.i2cAddrByte, p] then t.crcErr.nacks.txnVoid
  else
    let t := { t with port := { t.port with ptr := p } }
    if p = 0xA1 then t.touchMain else t.txnSelect

/-- More words of the I2C read in progress (R312). -/
def State.i2cMore (s : State) (n : Nat) : State :=
  match s.port.txn with
  | some t =>
    if t.rd then
      let r := State.i2cRead n s
      r.2.drives r.1
    else s
  | none => s

/-- An I2C read begins, from the current pointer (R312). -/
def State.i2cReads (s : State) (n : Nat) : State :=
  let u := s.txnOpen true (ptrKind s.port.ptr) (ptrAddr s.port.ptr) s.i2cCrc false
  (if u.port.ptr = 0xA1 then u.hostErr HostErr.BAD_CMD else u.txnSelect).i2cMore n

/-! ### Meanings -/

/-- SPI_REGISTER_READ. -/
def execSpiRegisterRead (h : Option SpiHeader) (n : Nat) (s : State) : Host.Outcome State Fault Refusal :=
  .next (s.spiRow true 0 h [] n)

/-- SPI_REGISTER_WRITE. -/
def execSpiRegisterWrite (h : Option SpiHeader) (ws : List WireWord) (s : State) : Host.Outcome State Fault Refusal :=
  .next (s.spiRow false 0 h ws ws.length)

/-- SPI_WINDOW_READ. -/
def execSpiWindowRead (h : Option SpiHeader) (n : Nat) (s : State) : Host.Outcome State Fault Refusal :=
  .next (s.spiRow true 1 h [] n)

/-- SPI_WINDOW_WRITE. -/
def execSpiWindowWrite (h : Option SpiHeader) (ws : List WireWord) (s : State) : Host.Outcome State Fault Refusal :=
  .next (s.spiRow false 1 h ws ws.length)

/-- SPI_STATUS: a special read; the header's address byte is the special code (Table 10.3). -/
def execSpiStatus (h : SpiHeader) (n : Nat) (s : State) : Host.Outcome State Fault Refusal :=
  .next (s.spiRow true 3 (some h) [] n)

/-- SPI_WAKE: a special write. -/
def execSpiWake (h : SpiHeader) (s : State) : Host.Outcome State Fault Refusal := .next (s.spiRow false 3 (some h) [] 0)

/-- HCS_N_RISE: the transaction ends; an incomplete header, or an incomplete word of a write whose header stood, sets
ABORTED (R310). -/
def execHcsNRise (cut : Cut) (s : State) : Host.Outcome State Fault Refusal :=
  .next (s.inSpi (fun t =>
    let lost : Bool := match cut, t.port.txn with
      | .clean, _ => false
      | .inHeader, _ => true
      | .inWord, some x => !x.rd && !x.void && x.kind != 3
      | .inWord, none => false
    (if lost then t.hostErr HostErr.ABORTED else t).txnEnd))

/-- STREAM_READ: an SPI stream transaction, a read at the I2C stream pointer, or more words of the burst (R288). -/
def execStreamRead (p : StreamPort) (n : Nat) (s : State) : Host.Outcome State Fault Refusal :=
  .next (match p with
    | .spi rd h => s.spiRow rd 2 (some h) [] n
    | .i2c a => s.inI2c (fun t =>
        if t.port.stretch.isSome || t.port.ptr != 0x90 then t else t.i2cStart true a (fun u => u.i2cReads n))
    | .more => if s.aon.hsel then s.inI2c (fun t => if t.port.stretch.isSome then t else t.i2cMore n) else s.inSpi (fun t => t.spiMore [] n))

/-- The next `n` words of the stream burst in progress. -/
def State.streamOn (s : State) (n : Nat) : State :=
  let r := if s.aon.hsel then State.i2cRead n s else State.spiRead n s
  r.2.drives r.1

/-- STREAM_RESUME: an item has become visible, or the queue has stopped and reads as empty at once (R288, R343). -/
def execStreamResume (n : Nat) (s : State) : Host.Outcome State Fault Refusal :=
  .next (
    if s.mainUp && s.queue.stream = .stalled && (s.queue.stopped || s.queueSync.queueReady) then s.clocked.streamOn n
    else s)

/-- STREAM_STALL_TIMEOUT: the stall has lasted STALL_LIMIT, and no handshake has stopped the queue (R288, R343). -/
def execStreamStallTimeout (n : Nat) (s : State) : Host.Outcome State Fault Refusal :=
  .next (
    if s.mainUp && s.queue.stream = .stalled && !s.queue.stopped && !s.queueReady then
      s.quiet.streamStallOver.streamOn n
    else s)

/-- I2C_POINTER_WRITE: START, the address byte, the pointer byte. -/
def execI2cPointerWrite (h : I2cHead) (crc : Option Byte) (s : State) : Host.Outcome State Fault Refusal :=
  .next (s.inI2c (fun t =>
    if t.port.stretch.isSome then t else t.i2cStart false h.addr (fun u => u.i2cPointer h.ptr crc)))

/-- I2C_DATA_WRITE: data words of the write in progress. -/
def execI2cDataWrite (ws : List WireWord) (s : State) : Host.Outcome State Fault Refusal :=
  .next (s.inI2c (fun t => if t.port.stretch.isSome then t else t.i2cWrite ws))

/-- I2C_DATA_READ: with an address byte a START begins the read, without one it goes on. -/
def execI2cDataRead (r : I2cFetch) (s : State) : Host.Outcome State Fault Refusal :=
  .next (s.inI2c (fun t =>
    if t.port.stretch.isSome then t
    else match r.start with
      | some a => t.i2cStart true a (fun u => u.i2cReads r.n)
      | none => t.i2cMore r.n))

/-- An odd data byte ends a write whose header stood: it is discarded, ABORTED is set, and a read-only pointer sets
BAD_CMD (R312, R313). -/
def State.i2cOdd (s : State) : State :=
  match s.port.txn with
  | some x =>
    if x.rd || x.void then s
    else
      let s := if 2 ≤ x.kind then s.i2cReadOnly else s
      s.hostErr HostErr.ABORTED
  | none => s

/-- STOP, or a repeated START, ends the transaction, after the odd data byte that came before it (R313, R329). -/
def State.i2cEnds (s : State) (e : I2cEnd) : State :=
  let t := if e.odd then s.i2cOdd else s
  if e.stop then t.txnEnd else t.txnOver

/-- The first bit of an odd data byte is that of a word that needs MAIN, which is not ready; a read-only pointer discards
the byte, so it waits for nothing (R312, R314, R325). -/
def State.oddWaits (s : State) : Bool := s.port.stretch.isNone && (match s.port.txn with
  | some x => !x.rd && !x.dead && x.kind < 2 && x.needsMain && !s.mainUp
  | none => false)

/-- I2C_STOP: the end of the transaction; an odd byte of a word that needs MAIN is stretched first. -/
def execI2cStop (e : I2cEnd) (s : State) : Host.Outcome State Fault Refusal :=
  .next (s.inI2c (fun t =>
    if e.odd && t.oddWaits then
      let u := t.i2cHold (.ends e)
      if u.port.stretch.isSome then u else u.i2cEnds e
    else t.i2cEnds e))

/-- What a stretch held goes on; the window that the transaction names is selected first, an odd byte's too (Table 10.3,
Table 10.5). -/
def State.stretchOver (s : State) (st : Stretch) : State :=
  let s := ({ s with port := { s.port with stretch := none } } : State).txnSelect
  match st with
  | .read n =>
    let r := State.i2cRead n s
    r.2.drives r.1
  | .write ws => s.i2cWrite ws
  | .ends e => s.i2cEnds e

/-- I2C_STRETCH_RELEASE: MAIN is ready (R325). -/
def execI2cStretchRelease (s : State) : Host.Outcome State Fault Refusal :=
  .next (s.inI2c (fun t => match t.port.stretch with
    | some st => if t.mainUp then t.stretchOver st else t
    | none => t))

/-- I2C_STRETCH_TIMEOUT: SCL is released without MAIN; the rest of a read is 0xFFFF, of a write discarded (R325). -/
def execI2cStretchTimeout (s : State) : Host.Outcome State Fault Refusal :=
  .next (s.inI2c (fun t => match t.port.stretch with
    | some st => if t.mainUp then t else ((t.hostErr HostErr.NR_TO).txnDies).stretchOver st
    | none => t))

/-- PORT_VOTE_RELEASE: PHOLD ms after the end of the latest transaction that addressed MAIN (R326). -/
def execPortVoteRelease (s : State) : Host.Outcome State Fault Refusal :=
  .next (
    let busy := match s.port.txn with
      | some t => t.needs
      | none => false
    if s.aonUp && !busy then s.settle { s with port := { s.port with vote := false } } else s)

/-! ### DBG_ACCESS (R405, R406) -/

/-- A read by the TAP is no part of a host transaction: it takes no part in RACE. -/
def State.apart (s : State) (f : State → Word × State) : Word × State :=
  let r := f { s with port := { s.port with txn := none } }
  (r.1, { r.2 with port := { r.2.port with txn := s.port.txn } })

/-- What DBG_ACCESS reaches while attached-locked (R406). -/
def dbgLocked (rd win : Bool) (a : Nat) : Bool :=
  !win && ((rd && decide (a < 0x10)) || (decide (0x42 ≤ a) && decide (a < 0x46)))

/-- What Capture-DR loads: NOT_READY, REFUSED, OK, the read data of the last access. -/
def dbgCapture (code : Nat) (d : Word) : BitVec 40 := BitVec.ofNat 40 (code * 65536 + d.toNat)

/-- An access that reads nothing: the spec states no read data for it (log entry 2). -/
def State.dbgNoData (s : State) (code : Nat) : State :=
  let r := s.drawWord
  { r.2 with sec := { r.2.sec with dbgDr := dbgCapture code r.1 } }

/-- One access of the TAP. -/
def State.dbgAccess (s : State) (dr : BitVec 40) : State :=
  let rd := dr.getLsbD 39
  let win := dr.getLsbD 38
  let a := dr.toNat / 2 ^ 31 % 128
  let v : Word := dr.setWidth 16
  if s.dstate != 2 && !dbgLocked rd win a then s.dbgNoData 2
  else if (win || needsMain a) && !s.mainUp then s.dbgNoData 4
  else if rd then
    let r := s.apart (fun t => if win then t.winRead else t.readReg a)
    { r.2 with sec := { r.2.sec with dbgDr := dbgCapture 1 r.1 } }
  else (if win then s.winWrite v else s.commitReg a v).dbgNoData 1

/-- DBG_ACCESS: Update-DR, with the TAP out of Test-Logic-Reset. -/
def execDbgAccess (dr : BitVec 40) (s : State) : Host.Outcome State Fault Refusal :=
  .next (if s.aonUp && s.sec.tapOut then (s.tapIr 0x08).dbgAccess dr else s)

end Sys2Proof.Machine
end

