-- ==== Sys2Proof/Machine/LibImage.lean ====
section
/-! DEFINITION. The default schedule library's image of a frame: parameters, grid, decode and validity, strengths,
baselines, captures, anti-touch recovery, the power-up check and the judgement of electrodes (R212 to R227, R423, R462). -/

namespace Sys2Proof.Machine

/-! ### Arithmetic (R462) -/

/-- A quotient of integers rounded half up; the divisor is positive. -/
def roundDiv (a b : Int) : Int := (2 * a + b) / (2 * b)

/-- Insert into an ascending list. -/
def insertAsc (x : Int) : List Int → List Int
  | [] => [x]
  | y :: t => if x ≤ y then x :: y :: t else y :: insertAsc x t

/-- An ascending list of the same values. -/
def sortAsc (l : List Int) : List Int := l.foldl (fun t x => insertAsc x t) []

/-- The median; of an even number of values the mean of the two middle ones, rounded half up. -/
def median (l : List Int) : Int :=
  let t := sortAsc l
  let n := l.length
  if n % 2 = 1 then nth t (n / 2) 0 else roundDiv (nth t (n / 2 - 1) 0 + nth t (n / 2) 0) 2

/-- The mean, rounded half up; 0 of no values. -/
def meanI (l : List Int) : Int := if l.isEmpty then 0 else roundDiv (l.foldl (· + ·) 0) l.length

/-- The largest value of a list, 0 at least. -/
def maxI (l : List Int) : Int := l.foldl max 0

/-! ### Parameters (R216, R259, Tables 7.1 and 8.2) -/

/-- The ranges of words 0x000 to 0x032. -/
def lpBounds : List (Nat × Nat) :=
  [(1, 32767), (1, 32767), (1, 65535), (1, 65535), (0, 7), (1, 255), (1, 255), (1, 255), (1, 255), (1, 255)] ++
  [(1, 255), (1, 255), (4, 6144), (1, 15), (1, 600), (1, 255), (1, 63), (1, 4095), (1, 1023), (16, 63)] ++
  [(4, 16), (0, 255), (2, 16), (2, 64), (1, 255), (1, 16), (1, 255), (64, 2047), (0, 255), (16, 1023)] ++
  [(1, 7), (1, 7), (0, 15), (1, 255), (1, 3600), (17, 255), (1, 63), (1, 4095), (1, 65535), (0, 65535)] ++
  [(40, 1000), (0, 1023), (40, 1000), (0, 4095), (200, 5000), (64, 8191), (50, 2000), (16, 255), (10, 500), (17, 64)] ++
  [(100, 5000)]



abbrev LP.F_REF : Nat := 0x00
abbrev LP.S_REF : Nat := 0x01
abbrev LP.X_MAX : Nat := 0x02
abbrev LP.Y_MAX : Nat := 0x03
abbrev LP.ORIENT : Nat := 0x04
abbrev LP.T_TOUCH : Nat := 0x05
abbrev LP.T_RELEASE : Nat := 0x06
abbrev LP.T_QUIET : Nat := 0x07
abbrev LP.T_AGREE : Nat := 0x08
abbrev LP.T_GLOVE_M : Nat := 0x09
abbrev LP.T_GLOVE_S : Nat := 0x0A
abbrev LP.T_HOVER : Nat := 0x0B
abbrev LP.PALM_AREA : Nat := 0x0C
abbrev LP.GLOVE_ON : Nat := 0x0D
abbrev LP.GLOVE_OFF : Nat := 0x0E
abbrev LP.WET_AREA : Nat := 0x0F
abbrev LP.WET_ON : Nat := 0x10
abbrev LP.WET_OFF : Nat := 0x11
abbrev LP.SUBMERGE : Nat := 0x12
abbrev LP.WET_RAISE : Nat := 0x13
abbrev LP.GLOVE_KEY : Nat := 0x14
abbrev LP.BASE_STEP : Nat := 0x15
abbrev LP.BASE_CAP : Nat := 0x16
abbrev LP.DRIFT_MIN : Nat := 0x17
abbrev LP.ANTI_THR : Nat := 0x18
abbrev LP.ANTI_NODES : Nat := 0x19
abbrev LP.PU_TOUCH_THR : Nat := 0x1A
abbrev LP.TRACK_GATE : Nat := 0x1B
abbrev LP.JITTER : Nat := 0x1C
abbrev LP.STILL_MOVE : Nat := 0x1D
abbrev LP.DOWN_FR : Nat := 0x1E
abbrev LP.LIFT_FR : Nat := 0x1F
abbrev LP.ID_HOLD : Nat := 0x20
abbrev LP.HOLD_RPT : Nat := 0x21
abbrev LP.IDLE_TIMEOUT : Nat := 0x22
abbrev LP.HOP_RATIO : Nat := 0x23
abbrev LP.HOP_FR : Nat := 0x24
abbrev LP.HOP_DWELL : Nat := 0x25
abbrev LP.K_GZ : Nat := 0x26
abbrev LP.HOP_MAP : Nat := 0x27
abbrev LP.TAP_MAX : Nat := 0x28
abbrev LP.TAP_MOVE : Nat := 0x29
abbrev LP.DTAP_GAP : Nat := 0x2A
abbrev LP.DTAP_DIST : Nat := 0x2B
abbrev LP.LONG_MS : Nat := 0x2C
abbrev LP.SWIPE_DIST : Nat := 0x2D
abbrev LP.SWIPE_MS : Nat := 0x2E
abbrev LP.SWIPE_RATIO : Nat := 0x2F
abbrev LP.TAP2_SKEW : Nat := 0x30
abbrev LP.PINCH_RATIO : Nat := 0x31
abbrev LP.COVER_MS : Nat := 0x32



/-- A library parameter: a word of L6, taken into its range. -/
def State.lp (s : State) (w : Nat) : Nat :=
  let b := lpBounds.getD w (0, 65535)
  max b.1 (min b.2 ((s.ldmem 6 w).toNat % 65536))

/-- The snapshot that the open frame reads. -/
def State.fsn (s : State) : Snap := s.cald.snap

/-- 16 − SENS (R217, Table 7.7). -/
def State.sens (s : State) : Nat :=
  let v := s.fsn.fld Reg.TOUCH_CTL 4 4
  if v < 8 then 16 - v else 32 - v

/-- A fraction of a reference in counts (R215). -/
def counts (t ref : Nat) : Int := (t * ref / 256 : Nat)

/-- A mutual threshold with the factor of SENS (R215, R217). -/
def State.thrM (s : State) (w : Nat) : Int := counts (s.lp w * s.sens / 16) (s.lp LP.F_REF)

/-- A self threshold with the factor of SENS (R215, R217). -/
def State.thrS (s : State) (w : Nat) : Int := counts (s.lp w * s.sens / 16) (s.lp LP.S_REF)

/-! ### The grid (R213) -/

/-- The node grid: its size, and the pin of each line of each axis. -/
structure Grid where
  nx   : Nat
  ny   : Nat
  xpin : List Nat
  ypin : List Nat
  colX : Bool

/-- A pin of the grid: ROW or COLUMN. -/
def Snap.gridPin (sn : Snap) (n : Nat) : Bool := sn.panelRole n = 1 || sn.panelRole n = 2

/-- The pins of an axis by INDEX, from 0 on. Of two ROW pins that share an INDEX the lower-numbered one gives the line's
self lane: the spec does not say which (DESIGN CHOICE, log entry 57). -/
def Snap.axisPins (sn : Snap) (axis : Nat) : List Nat :=
  let l := (List.range 160).filter (fun n => sn.gridPin n && sn.axis n = axis)
  let n := l.foldl (fun m p => max m (sn.index p + 1)) 0
  (List.range n).map (fun i => (l.find? (fun p => sn.index p = i)).getD 255)

/-- The grid of a frame. -/
def Snap.grid (sn : Snap) : Grid :=
  let xs := sn.axisPins 0
  let ys := sn.axisPins 1
  ⟨xs.length, ys.length, xs, ys, xs.any (fun n => sn.panelRole n = 2)⟩

/-- The number of nodes. -/
def Grid.count (g : Grid) : Nat := g.nx * g.ny

/-- The X index and the Y index of a node. -/
def Grid.x (g : Grid) (n : Nat) : Nat := n % g.nx
def Grid.y (g : Grid) (n : Nat) : Nat := n / g.nx

/-- The sense column's pin and the drive row's pin of a node. -/
def Grid.colPin (g : Grid) (n : Nat) : Nat := if g.colX then nth g.xpin (g.x n) 255 else nth g.ypin (g.y n) 255
def Grid.rowPin (g : Grid) (n : Nat) : Nat := if g.colX then nth g.ypin (g.y n) 255 else nth g.xpin (g.x n) 255

/-- Two numbers differ by at most `d`. -/
def nearBy (a b d : Nat) : Bool := decide (a ≤ b + d) && decide (b ≤ a + d)

/-- Two nodes whose indices differ by at most `d` on both axes. -/
def Grid.near (g : Grid) (m n d : Nat) : Bool := nearBy (g.x m) (g.x n) d && nearBy (g.y m) (g.y n) d

/-- Two nodes joined along a grid line. -/
def Grid.adj (g : Grid) (m n : Nat) : Bool :=
  (g.x m == g.x n && nearBy (g.y m) (g.y n) 1 || g.y m == g.y n && nearBy (g.x m) (g.x n) 1) && m != n

/-- Nodes with the one-node ring around them. -/
def Grid.ring (g : Grid) (ns : List Nat) : List Nat :=
  if ns.isEmpty then [] else (List.range g.count).filter (fun n => ns.any (fun m => g.near m n 1))

/-- The nodes of the crossing of two clusters. -/
def Grid.crossing (g : Grid) (cx cy : List Nat) : List Nat := cy.flatMap (fun v => cx.map (fun u => v * g.nx + u))

/-- The pins of the grid's self lanes, X first. -/
def Grid.pins (g : Grid) : List Nat := g.xpin ++ g.ypin

/-! ### Decode and validity (R214, R218) -/

/-- What the entries of a segment share (R146). -/
def Entry.sameSetting (a b : Entry) : Bool :=
  a.mode == b.mode && a.mask == b.mask && a.gain == b.gain && a.order == b.order && a.decim == b.decim &&
    a.align == b.align && a.signed == b.signed && a.profile == b.profile && a.freq == b.freq && a.outs == b.outs &&
    a.shift == b.shift

/-- Consecutive entries form a segment: MODE 1 entries of one setting with every CODE below their number once, whose ROW
pins have an INDEX below it (R146). -/
def Snap.isSegment (sn : Snap) (es : List Nat) : Bool :=
  let first := sn.entry (es.headD 0)
  es.all (fun e => (sn.entry e).act = 1 && (sn.entry e).sameSetting first) &&
    (List.range es.length).all (fun c => es.any (fun e => (sn.entry e).code = c)) &&
    (List.range 160).all (fun p => sn.panelRole p != 1 || !sn.masked first.mask p || decide (sn.index p < es.length))

/-- The frame's segment: the longest run of entries that is one; none, when the table holds none. The table as it stands
says which entries it was built for (DESIGN CHOICE, log entry 42). -/
def Snap.segment (sn : Snap) : List Nat :=
  let es := sn.frameEntries
  (([128, 64, 32, 16, 8] : List Nat).findSome? (fun l =>
    ((List.range (es.length + 1 - l)).map (fun a => (es.drop a).take l)).find? sn.isSegment)).getD []

/-- A slot holds an overrange code (R87). -/
def slotOver (e : Entry) (w : Word) : Bool := if e.signed then w = 0x7FFF || w = 0x8000 else w = 0xFFFF

/-- The group whose slots keep previous values while it is calibrated in block mode (R218, Table 12.3). -/
def State.blockGroup (s : State) : Option Nat :=
  let sn := s.fsn
  (sn.frameEntries.find? (fun e => (sn.entry e).bg)).bind (fun e =>
    let w := s.rowWord e 1
    if w.getLsbD 15 && w.getLsbD 14 then some (bits w 8 5) else none)

/-- The slot of a pin in a row carries a previous value. -/
def State.slotStale (s : State) (e pin : Nat) : Bool :=
  (s.rowWord e 0).getLsbD 13 && (match s.blockGroup with
    | some g => pin / 8 == g
    | none => true)

/-- Frames from the first one with a fault substitution of a pin to the open one, modulo 2^16 (R421). -/
def State.substAge (s : State) (pin : Nat) : Option Nat :=
  (alook s.fmon.rebase pin).map (fun f => (s.cald.fc.toNat + 65536 - f) % 65536)

/-- The lane that wrote a pin's slots in the open frame: the one that serves it, but for a substitution that began after
the frame (R92, R421). -/
def State.wroteSlot (s : State) (pin : Nat) : Nat := match s.substAge pin with
  | some n => if n < 32768 then s.slotLane pin else pin
  | none => s.slotLane pin

/-- The lane that serves a pin wrote a row's slot as failed (R218, R422). -/
def State.slotFailed (s : State) (e pin : Nat) : Bool :=
  (s.rowWord e 0).getLsbD 10 && s.fmon.failed.contains (s.wroteSlot pin)

/-- The shielded-self entry that converts a pin; for a self key any self entry (R214, R241). -/
def Snap.selfEntry (sn : Snap) (pin : Nat) : Option Nat :=
  match sn.frameEntries.find? (fun e => (sn.entry e).act = 3 && sn.role (sn.entry e) pin = .self) with
  | some e => some e
  | none =>
    if sn.panelRole pin = 3 then sn.frameEntries.find? (fun e => (sn.entry e).act = 2 && sn.role (sn.entry e) pin = .self)
    else none

/-- The raw self value of a pin, and whether it is valid. -/
def State.selfRaw (s : State) (pin : Nat) : Int × Bool :=
  match s.fsn.selfEntry pin with
  | some e =>
    let en := s.fsn.entry e
    let w := s.rowWord e (1 + pin)
    (slotVal en w, !(slotOver en w || s.slotFailed e pin || s.slotStale e pin || s.fmon.pinsBad.contains pin))
  | none => (0, false)

/-- The raw mutual value of a node: the transform of its column's slots over the segment, over its length (R214). -/
def State.mutualRaw (s : State) (g : Grid) (seg : List Nat) (n : Nat) : Int :=
  let i := s.fsn.index (g.rowPin n) % 128
  let sum := seg.foldl (fun (t : Int) e =>
    let en := s.fsn.entry e
    t + hadamard i en.code * slotVal en (s.rowWord e (1 + g.colPin n))) 0
  asr sum (Nat.log2 seg.length)

/-- A column of the segment is valid; a node also needs its row's drive lane (R218, R422). -/
def State.nodeValid (s : State) (g : Grid) (seg : List Nat) (n : Nat) : Bool :=
  let c := g.colPin n
  let r := g.rowPin n
  !s.fmon.pinsBad.contains c && !s.fmon.pinsBad.contains r &&
    seg.all (fun e => !(slotOver (s.fsn.entry e) (s.rowWord e (1 + c)) || s.slotFailed e c || s.slotFailed e r ||
      s.slotStale e c))

/-- The noise of the current preset: the mean square of the column slots of the listening rows, scaled by K_GZ / 256
(R251). -/
def State.listenNoise (s : State) : Option Int :=
  let sn := s.fsn
  let vs := (sn.frameEntries.filter (fun e => (sn.entry e).act = 4)).flatMap (fun e =>
    let en := sn.entry e
    ((List.range 160).filter (fun p => sn.panelRole p = 2 && sn.role en p = .sense)).map (fun p =>
      slotVal en (s.rowWord e (1 + p)) ^ 2))
  if vs.isEmpty then none else some (meanI vs * s.lp LP.K_GZ / 256)

/-- As many free values. -/
def State.drawInts (s : State) : Nat → List Int × State
  | 0 => ([], s)
  | k + 1 =>
    let d := s.drawInt
    let r := d.2.drawInts k
    (d.1 :: r.1, r.2)

/-- The raw mutual image of the frame; without a segment the spec does not specify it, and it is free (R214, log entry
42). -/
def State.mutualImage (s : State) (g : Grid) (seg : List Nat) : List Int × State :=
  if seg.isEmpty then s.drawInts g.count else ((List.range g.count).map (s.mutualRaw g seg), s)

/-- All that the library takes from the frame's rows, into its data: the raw image, its validity, the noise and what the
status words say. -/
def State.libDecode (s : State) (g : Grid) : State :=
  let seg := s.fsn.segment
  let self := (List.range 160).map s.selfRaw
  let rows := s.fsn.frameEntries.map (fun e => s.rowWord e 0)
  let img := s.mutualImage g seg
  { img.2 with lib := { s.lib with
      raw := img.1, noise := s.listenNoise,
      valid := (List.range g.count).map (s.nodeValid g seg),
      rawS := self.map Prod.fst, validS := self.map Prod.snd,
      stale := rows.any (fun w => w.getLsbD 13), settle := rows.any (fun w => w.getLsbD 14) } }

/-- The strength of a node or lane by its place: its own, or the mean of its valid neighbours (R214, R218). -/
def filled (own : Nat → Int) (ok : Nat → Bool) (nbs : Nat → List Nat) (n : Nat) : Int :=
  if ok n then own n else meanI (((nbs n).filter ok).map own)

/-- The X neighbours of a node. -/
def Grid.xNbs (g : Grid) (n : Nat) : List Nat :=
  (if 0 < g.x n then [n - 1] else []) ++ (if g.x n + 1 < g.nx then [n + 1] else [])

/-- The pins of the lanes next to a grid lane on its axis. -/
def Grid.laneNbs (g : Grid) (pin : Nat) : List Nat :=
  let nbs (l : List Nat) : List Nat :=
    (List.range l.length).flatMap (fun i =>
      if nth l i 255 = pin then (if 0 < i then [nth l (i - 1) 255] else []) ++
        (if i + 1 < l.length then [nth l (i + 1) 255] else [])
      else [])
  nbs g.xpin ++ nbs g.ypin

/-- The strengths of the frame (R214, R218). -/
def State.libStrengths (s : State) (g : Grid) : State :=
  let l := s.lib
  let m (n : Nat) : Int := nth l.base n 0 - nth l.raw n 0
  let d (p : Nat) : Int := nth l.rawS p 0 - nth l.baseS p 0
  { s with lib := { l with
      str := (List.range g.count).map (filled m (fun n => nth l.valid n false) g.xNbs),
      strS := (List.range 160).map (filled d (fun p => nth l.validS p false) g.laneNbs) } }

/-! ### Baselines (R219 to R221) -/

/-- The pins whose lane is frozen: those of the lines of frozen nodes (R219). -/
def Grid.frozenPins (g : Grid) (frozen : List Nat) : List Nat :=
  (frozen.flatMap (fun n => [nth g.xpin (g.x n) 255, nth g.ypin (g.y n) 255])).eraseDups

/-- The quiet list after one more value: the last 16. -/
def quietPush (q : List Int) (v : Int) : List Int := (q ++ [v]).drop (q.length + 1 - 16)

/-- One move of a quiet baseline toward the median of its list (R220). -/
def quietMove (b step : Int) (q : List Int) : Int := b + clampI (median q - b) (-step) step

/-- The step of a baseline: BASE_STEP or its automatic value, 16 times while a substitution is taken in (R220, R421). -/
def State.baseStep (s : State) (ref : Nat) (pins : List Nat) : Int :=
  let w := s.lp LP.BASE_STEP
  let n := if w = 0 then max 1 (s.lp ref >>> 9) else w
  let fast (p : Nat) : Bool := match s.substAge p with
    | some k => decide (k < 16)
    | none => false
  ((if pins.any fast then 16 * n else n : Nat) : Int)

/-- The changes of quiet baselines, none for one that is not quiet or that the recovery has just set (R219, R220, R225).
-/
def State.nodeMoves (s : State) (g : Grid) : List (Option (Int × List Int)) :=
  let l := s.lib
  let tq := counts (s.lp LP.T_QUIET) (s.lp LP.F_REF)
  (List.range g.count).map (fun n =>
    if nth l.valid n false && !l.frozen.contains n && !l.healed.contains n && decide (((nth l.str n 0).natAbs : Int) ≤ tq) then
      let q := quietPush (nth l.quiet n []) (nth l.raw n 0)
      let b := nth l.base n 0
      some (quietMove b (s.baseStep LP.F_REF [g.colPin n, g.rowPin n]) q - b, q)
    else none)

/-- The changes of quiet self baselines by pin. -/
def State.laneMoves (s : State) (frozen : List Nat) : List (Option (Int × List Int)) :=
  let l := s.lib
  let tq := counts (s.lp LP.T_QUIET) (s.lp LP.S_REF)
  (List.range 160).map (fun p =>
    if nth l.validS p false && !frozen.contains p && decide (((nth l.strS p 0).natAbs : Int) ≤ tq) then
      let q := quietPush (nth l.quietS p []) (nth l.rawS p 0)
      let b := nth l.baseS p 0
      some (quietMove b (s.baseStep LP.S_REF [p]) q - b, q)
    else none)

/-- The drift of a set of moves: their median, 0 of none (R221). -/
def driftOf (l : List (Option (Int × List Int))) : Int :=
  let c := l.filterMap (fun m => m.map Prod.fst)
  if c.isEmpty then 0 else median c

/-- Baselines of the frame's quiet nodes and lanes follow; frozen ones drift (R220, R221, R224). -/
def State.libTrack (s : State) (g : Grid) : State :=
  let l := s.lib
  let fp := g.frozenPins l.frozen
  let mv := s.nodeMoves g
  let lv := s.laneMoves fp
  let hold := s.fsn.flag Reg.BASE_CTL 14
  let column (n : Nat) : List (Option (Int × List Int)) :=
    ((List.range g.count).filter (fun m => g.colPin m == g.colPin n)).map (fun m => nth mv m none)
  let whole := driftOf mv
  let drift (n : Nat) : Int :=
    let c := column n
    if s.lp LP.DRIFT_MIN ≤ (c.filter Option.isSome).length then driftOf c else whole
  let axisDrift (p : Nat) : Int :=
    driftOf ((if g.xpin.contains p then g.xpin else g.ypin).map (fun q => nth lv q none))
  let base (n : Nat) : Int :=
    let b := nth l.base n 0
    match nth mv n none with
    | some m => b + m.1
    | none => if l.frozen.contains n && nth l.valid n false && !l.healed.contains n then b + drift n else b
  let baseS (p : Nat) : Int :=
    let b := nth l.baseS p 0
    match nth lv p none with
    | some m => b + m.1
    | none => if fp.contains p && nth l.validS p false then b + axisDrift p else b
  let quiet (old : List Int) (m : Option (Int × List Int)) : List Int := match m with
    | some m => m.2
    | none => old
  { s with lib := { l with
      base := if hold then l.base else (List.range g.count).map base,
      baseS := if hold then l.baseS else (List.range 160).map baseS,
      quiet := (List.range g.count).map (fun n => quiet (nth l.quiet n []) (nth mv n none)),
      quietS := (List.range 160).map (fun p => quiet (nth l.quietS p []) (nth lv p none)) } }

/-! ### Captures (R222 to R224) -/

/-- A capture begins: its sums are empty. -/
def Lib.startCapture (l : Lib) (full : Bool) (frames : Nat) : Lib :=
  { l with capFull := full, capAsk := false, capLeft := frames, capSum := [], capN := [], capSumS := [], capNS := [], capFroz := [] }

/-- Add the valid values of a frame to sums and counts. -/
def addValid (n : Nat) (raw : List Int) (ok : List Bool) (sum : List Int) (cnt : List Nat) : List Int × List Nat :=
  ((List.range n).map (fun i => if nth ok i false then nth sum i 0 + nth raw i 0 else nth sum i 0),
   (List.range n).map (fun i => if nth ok i false then nth cnt i 0 + 1 else nth cnt i 0))

/-- A frame of a capture. -/
def Lib.captureFrame (l : Lib) (g : Grid) : Lib :=
  let a := addValid g.count l.raw l.valid l.capSum l.capN
  let b := addValid 160 l.rawS l.validS l.capSumS l.capNS
  { l with capSum := a.1, capN := a.2, capSumS := b.1, capNS := b.2, capLeft := l.capLeft - 1,
           capFroz := (l.capFroz ++ l.frozen).eraseDups }

/-- The signature value of a pin in DMEM of L5, and whether the signature is valid (R390). -/
def State.libSig (s : State) (pin : Nat) : Nat := (s.ldmem 5 (0xF00 + pin)).toNat % 65536
def State.libSigOk (s : State) : Bool := s.ldmem 5 0xFA0 == 1

/-- The pins of the flagged lanes of a power-up touch. -/
def State.puPins (s : State) (g : Grid) : List Nat :=
  if s.lib.puNew then
    s.lib.flagX.flatten.map (fun i => nth g.xpin i 255) ++ s.lib.flagY.flatten.map (fun i => nth g.ypin i 255)
  else []

/-- The nodes of the crossings of a power-up touch's clusters, with their rings (R227). -/
def State.puNodes (s : State) (g : Grid) : List Nat :=
  ((s.lib.flagX.zip s.lib.flagY).flatMap (fun p => g.ring (g.crossing p.1 p.2))).eraseDups

/-- A capture ends: baselines are the means of the valid values, the flagged lanes of a power-up touch take the
signature and its nodes are frozen from the next frame on, each quiet list restarts; a partial capture leaves what was
frozen in it (R222, R223, R227). A node or lane
without a valid value in the whole capture keeps its baseline: the spec states none for it (DESIGN CHOICE, log entry
58). -/
def State.captureEnd (s : State) (g : Grid) : State :=
  let l := s.lib
  let fp := if l.capFull then [] else g.frozenPins l.capFroz
  let fn := if l.capFull then [] else l.capFroz
  let pu := if l.capFull then s.puPins g else []
  let takes (cnt : List Nat) (froz : List Nat) (n : Nat) : Bool := decide (0 < nth cnt n 0) && !froz.contains n
  let base (n : Nat) : Int :=
    if takes l.capN fn n then roundDiv (nth l.capSum n 0) (nth l.capN n 0) else nth l.base n 0
  let baseS (p : Nat) : Int :=
    if pu.contains p then (s.libSig p : Int) + l.puM
    else if takes l.capNS fp p then roundDiv (nth l.capSumS p 0) (nth l.capNS p 0) else nth l.baseS p 0
  let bS := (List.range 160).map baseS
  { s with lib := { l with
      base := (List.range g.count).map base, baseS := bS,
      quiet := (List.range g.count).map (fun n => if fn.contains n then nth l.quiet n [] else []),
      quietS := (List.range 160).map (fun p => if fp.contains p then nth l.quietS p [] else []),
      refBase := if l.capFull then bS else l.refBase, capEnd := l.capAsk, capAsk := false,
      susNodes := if l.capFull && l.puNew then s.puNodes g else l.susNodes } }

/-- A partial capture that RECAP or a changed CAL_COUNT asks for begins in this frame, or after a full capture that runs
(R223, R224); RECAP asks for none as a snapshot from before the close that cleared it shows it, nor while its own capture
runs. -/
def State.capRequest (s : State) : State :=
  let l := s.lib
  let now := s.fsn.reg Reg.CAL_COUNT
  let cal : Bool := l.calDue || (match l.lastCal with
    | some c => c != now
    | none => false)
  let old := match l.capDone with
    | some f => decide ((f - s.cald.fc).toNat < 32768)
    | none => false
  let ask := s.fsn.flag Reg.BASE_CTL 15 && !old
  let recap := ask && (l.capLeft = 0 || !l.capAsk)
  let l := { l with lastCal := some now, capDone := if old then l.capDone else none, capEnd := false, calDue := false }
  if l.capFull && 0 < l.capLeft then { s with lib := { l with calDue := cal } }
  else if cal || recap then { s with lib := { l.startCapture false (s.lp LP.BASE_CAP) with capAsk := ask } }
  else { s with lib := l }

/-! ### Power-up check (R226, R227) -/

/-- Runs of consecutive numbers of an ascending list. -/
def runsOf : List Nat → List (List Nat)
  | [] => []
  | n :: t => match runsOf t with
    | (m :: r) :: rest => if m = n + 1 then (n :: m :: r) :: rest else [n] :: (m :: r) :: rest
    | _ => [[n]]

/-- The deviation of a grid lane from the signature, before the median is taken off. -/
def State.puDev (s : State) (p : Nat) : Int := nth s.lib.rawS p 0 - (s.libSig p : Int)

/-- A grid lane counts in the check: it is valid and the signature has a value for it. -/
def State.puValid (s : State) (p : Nat) : Bool := nth s.lib.validS p false && s.libSig p != 0xFFFF

/-- Insert by falling key, behind equal keys. -/
def insertDesc {α : Type} (key : α → Int) (x : α) : List α → List α
  | [] => [x]
  | y :: t => if key y < key x then x :: y :: t else y :: insertDesc key x t

/-- The same elements by falling key, equal ones in their order. -/
def sortDesc {α : Type} (key : α → Int) (l : List α) : List α := l.foldl (fun t x => insertDesc key x t) []

/-- The clusters of flagged lanes of an axis, by falling peak deviation. -/
def State.puFlags (s : State) (m : Int) (pins : List Nat) : List (List Nat) :=
  let thr := counts (s.lp LP.PU_TOUCH_THR) (s.lp LP.S_REF)
  let dev (i : Nat) : Int := s.puDev (nth pins i 255) - m
  sortDesc (fun (c : List Nat) => maxI (c.map dev))
    (runsOf ((List.range pins.length).filter (fun i => s.puValid (nth pins i 255) && decide (thr ≤ dev i))))

/-- The power-up check on the first frame of a full capture. -/
def State.puCheck (s : State) (g : Grid) : State :=
  if !s.fsn.flag Reg.TOUCH_CTL 10 then s
  else if !s.libSigOk then { s with lib := { s.lib with noSig := true } }
  else
    let m := median ((g.pins.filter s.puValid).map s.puDev)
    let fx := s.puFlags m g.xpin
    let fy := s.puFlags m g.ypin
    let yes := !fx.isEmpty && !fy.isEmpty
    { s with lib := { s.lib with noSig := false, puM := m, puNew := yes, puSay := yes, flagX := if yes then fx else [],
                                 flagY := if yes then fy else [] } }

/-! ### Anti-touch (R225, R229) -/

/-- Grow a set of nodes along grid lines within `all`, at most `fuel` times. -/
def Grid.grow (g : Grid) (all : List Nat) : Nat → List Nat → List Nat
  | 0, c => c
  | k + 1, c =>
    let d := all.filter (fun n => c.contains n || c.any (g.adj n))
    if d.length = c.length then c else g.grow all k d

/-- The 4-connected sets of a list of nodes. -/
def Grid.parts (g : Grid) (all : List Nat) : List (List Nat) :=
  all.foldl (fun ps n => if ps.any (fun p => p.contains n) then ps else ps ++ [g.grow all all.length [n]]) []

/-- The anti-touch regions of the frame. -/
def State.antiRegions (s : State) (g : Grid) : List (List Nat) :=
  let thr := counts (s.lp LP.ANTI_THR) (s.lp LP.F_REF)
  let all := (List.range g.count).filter (fun n =>
    nth s.lib.valid n false && decide (nth s.lib.str n 0 ≤ -thr))
  (g.parts all).filter (fun p => s.lp LP.ANTI_NODES ≤ p.length)

/-- The recovery: marked regions that are seen again take the frame's raw values; the frame's other anti-touch regions
are marked with their rings. A marked region counts as seen again where an anti-touch region shares a node with it or its
ring, and the frames without an anti-touch of R229 count in a row (DEDUCED, log entry 44). -/
def State.libAnti (s : State) (g : Grid) : State :=
  let l := s.lib
  let cur := s.antiRegions g
  let again := l.marks.filter (fun m => cur.any (fun r => r.any m.contains))
  let healed := again.flatten.eraseDups
  let fresh := cur.filter (fun r => !r.any healed.contains)
  let heals (n : Nat) : Bool := healed.contains n && nth l.valid n false
  { s with lib := { l with
      base := (List.range g.count).map (fun n => if heals n then nth l.raw n 0 else nth l.base n 0),
      quiet := (List.range g.count).map (fun n => if heals n then [nth l.raw n 0] else nth l.quiet n []),
      marks := fresh.map g.ring, healed := healed, antiOk := l.antiOk || !healed.isEmpty,
      antiGone := if cur.isEmpty then l.antiGone + 1 else 0 } }

/-! ### Electrodes (R423) -/

/-- The reference of a lane: the signature, or the self baseline of the last full capture. -/
def State.elecRef (s : State) (p : Nat) : Option Int :=
  if s.fsn.flag Reg.NVM_STAT 4 && s.libSigOk then
    (if s.libSig p = 0xFFFF then none else some (s.libSig p))
  else s.lib.refBase[p]?

/-- A pin is held faulty: its nodes and lane are invalid from the next frame (R423, Table 14.4). -/
def State.elecFault (s : State) (p other code : Nat) : State :=
  if s.fmon.pinsBad.contains p then s
  else
    let s := { s with fmon := { s.fmon with pinsBad := s.fmon.pinsBad ++ [p] } }
    (s.setFlag Reg.FAULT_STAT 5 true).mainFault 14 FaultClass.ELEC 1 p (word (other * 256 + code)) 0xFFFF

/-- A condition of a pin is judged: its run of judged frames, kept under `slot`, grows or ends; the fourth in a row
holds the pin faulty. -/
def State.elecJudge (s : State) (p other slot code : Nat) (bad : Bool) : State :=
  let k := 4 * p + slot
  let n := if bad then (alook s.lib.elecCnt k).getD 0 + 1 else 0
  let s := { s with lib := { s.lib with elecCnt := aset s.lib.elecCnt k n } }
  if n = 4 then s.elecFault p other code else s

/-- No region has a node whose index on the axis lies within 1 of either of two lanes; a hover is no region (R230, R232,
R423). -/
def State.elecClear (s : State) (line : Nat → Nat) (i : Nat) : Bool :=
  !s.lib.regions.any (fun r => !r.hover && r.nodes.any (fun n => nearBy (line n) i 1 || nearBy (line n) (i + 1) 1))

/-- The lane that wrote a pin's slots passes the INTERNAL check: that of the frame's own INTERNAL entry, or the last
one held, where the frame has none (R98, R423). -/
def State.laneSound (s : State) (p : Nat) : Bool :=
  !((alook s.fmon.tests s.cald.fc.toNat).getD s.fmon.failed).contains (s.wroteSlot p)

/-- The lanes of one axis that the frame converts are judged: every frame for the open and the short to a supply or
ground, a clear one for the adjacent short. -/
def State.elecAxis (s : State) (pins : List Nat) (line : Nat → Nat) : State :=
  let raw (p : Nat) : Int := nth s.lib.rawS p 0
  let ref (p : Nat) : Option Int := if (s.fsn.selfEntry p).isSome then s.elecRef p else none
  let satd (p : Nat) : Bool := match s.fsn.selfEntry p with
    | some e => slotOver (s.fsn.entry e) (s.rowWord e (1 + p))
    | none => false
  let s' := pins.foldl (fun t p => match ref p with
    | some r =>
      (t.elecJudge p 0xFF 1 1 (decide (5 * raw p < r))).elecJudge p 0xFF 2 2 (satd p && s.laneSound p)
    | none => t) s
  (List.range (pins.length - 1)).foldl (fun t i =>
    let p := nth pins i 255
    let q := nth pins (i + 1) 255
    match ref p, ref q with
    | some r, some u =>
      if s.lib.wet || !s.elecClear line i then t
      else
        let bad := decide (16 * r < 10 * raw p) && decide (16 * u < 10 * raw q)
        (t.elecJudge p q 3 3 bad).elecJudge q p 0 3 bad
    | _, _ => t) s'

/-- Every grid lane is judged while `FAULT_EN.ELEC` = 1 (R423). The results of OPEN and SHORT tests enter no judgement: R100
has the library compare them with the signature as chapters 07 and 14 set out, and these set out only this judgement of
the shielded-self slot (DEDUCED, log entry 66). -/
def State.libElec (s : State) (g : Grid) : State :=
  if s.fsn.flag Reg.FAULT_EN 13 then (s.elecAxis g.xpin g.x).elecAxis g.ypin g.y else s

end Sys2Proof.Machine
end

