-- ==== Sys2Proof/Machine/LibRegions.lean ====
section
/-! DEFINITION. The default library's regions of a frame: their division at saddles, classes, positions, the hover, and
the library's pass over the image of a frame (R230 to R238). -/

namespace Sys2Proof.Machine

/-! ### Regions (R230) -/

/-- A part of the nodes met so far, from the strongest down: its nodes, its greatest maximum, the regions kept apart in
it as maxima with their nodes. -/
structure Basin where
  nodes : List Nat
  top   : Nat
  kept  : List (Nat × List Nat)

/-- Node `a` is the greater maximum: stronger, or equal with the lower Y and then X index. -/
def greater (str : List Int) (a b : Nat) : Bool :=
  decide (nth str b 0 < nth str a 0) || (nth str a 0 == nth str b 0 && decide (a < b))

/-- Give nodes to the region of a maximum. -/
def giveTo (kept : List (Nat × List Nat)) (m : Nat) (ns : List Nat) : List (Nat × List Nat) :=
  kept.map (fun k => if k.1 = m then (k.1, k.2 ++ ns) else k)

/-- Basin `lo` meets `hi`, whose maximum is the greater, at strength `v`: their regions stay apart when that lies below
half of the lower maximum; otherwise the lower maximum's region joins the greater one's. -/
def Basin.join (str : List Int) (v : Int) (hi lo : Basin) : Basin :=
  let kept :=
    if 2 * v < nth str lo.top 0 then hi.kept ++ lo.kept
    else
      let mine := ((lo.kept.filter (fun k => k.1 = lo.top)).map Prod.snd).flatten
      giveTo hi.kept hi.top mine ++ lo.kept.filter (fun k => k.1 != lo.top)
  ⟨hi.nodes ++ lo.nodes, hi.top, kept⟩

/-- What meets at one strength: basins, joined by the nodes of that strength. -/
structure Meet where
  basins : List Basin
  level  : List Nat

/-- A node lies next to one of a meet. -/
def Meet.touches (g : Grid) (n : Nat) (m : Meet) : Bool :=
  m.level.any (g.adj n) || m.basins.any (fun b => b.nodes.any (g.adj n))

/-- A node of the strength is met: it joins all that it touches. -/
def meetAdd (g : Grid) (ms : List Meet) (n : Nat) : List Meet :=
  let t := ms.filter (Meet.touches g n)
  ⟨t.flatMap Meet.basins, t.flatMap Meet.level ++ [n]⟩ :: ms.filter (fun m => !m.touches g n)

/-- Basins, the one of the greatest maximum first. -/
def strongestFirst (str : List Int) (bs : List Basin) : List Basin :=
  bs.foldl (fun t b => t.filter (fun c => greater str c.top b.top) ++ b :: t.filter (fun c => !greater str c.top b.top)) []

/-- What meets at strength `v` is one basin. All paths between its maxima tie at `v`: each lower maximum that is not kept
apart, and the nodes of that strength, go to the greatest one. -/
def Meet.settle (str : List Int) (v : Int) (m : Meet) : Basin :=
  match strongestFirst str m.basins with
  | [] =>
    let top := m.level.foldl min (m.level.headD 0)
    ⟨m.level, top, [(top, m.level)]⟩
  | b :: t =>
    let j := t.foldl (Basin.join str v) b
    { j with nodes := m.level ++ j.nodes, kept := giveTo j.kept j.top m.level }

/-- The regions of a set of nodes, each with its maximum. -/
def Grid.divide (g : Grid) (str : List Int) (all : List Nat) : List (Nat × List Nat) :=
  let levels := (sortAsc ((all.map (fun n => nth str n 0)).eraseDups)).reverse
  let bs := levels.foldl (fun bs v =>
    ((all.filter (fun n => nth str n 0 = v)).foldl (meetAdd g) (bs.map (fun b => ⟨[b], []⟩))).map (Meet.settle str v)) []
  bs.flatMap Basin.kept

/-- Key k's words in the frame's snapshot (Table 7.5). -/
def Snap.key (sn : Snap) (k i : Nat) : Word := sn.tab Win.KEYS (4 * k + i)

/-- Key k is an enabled node key; its rectangle, on the grid or partly beyond it, is kept out of regions (R230, R241). -/
def Snap.nodeKey (sn : Snap) (k : Nat) : Bool := (sn.key k 0).getLsbD 15 && !(sn.key k 0).getLsbD 14

/-- An enabled node key whose rectangle lies on the grid (R241). -/
def Snap.keyRect (sn : Snap) (g : Grid) (k : Nat) : Bool :=
  let w1 := sn.key k 1
  let w2 := sn.key k 2
  sn.nodeKey k && bits w1 8 8 ≤ bits w1 0 8 && bits w2 8 8 ≤ bits w2 0 8 && bits w1 0 8 < g.nx && bits w2 0 8 < g.ny

/-- A node lies in the rectangle of key k. -/
def Snap.inKey (sn : Snap) (g : Grid) (k n : Nat) : Bool :=
  bits (sn.key k 1) 8 8 ≤ g.x n && g.x n ≤ bits (sn.key k 1) 0 8 && bits (sn.key k 2) 8 8 ≤ g.y n &&
    g.y n ≤ bits (sn.key k 2) 0 8

/-! ### Positions (R238) -/

/-- A strength as positions use it: negative ones and those beyond the grid count as 0. -/
def State.posStr (s : State) (g : Grid) (x y : Int) : Int :=
  if 0 ≤ x ∧ x < g.nx ∧ 0 ≤ y ∧ y < g.ny then max 0 (nth s.lib.str (y.toNat * g.nx + x.toNat) 0) else 0

/-- A position from three lines about index `i` of `n`; with nothing on the lines the spec states no fraction, and it is
free (log entry 2). -/
def State.centroid (s : State) (i n : Nat) (lo mid hi : Int) : Int × State :=
  let f := if lo + mid + hi = 0 then s.drawInt else (roundDiv (64 * (hi - lo)) (lo + mid + hi), s)
  (clampI (64 * i + f.1) 0 (64 * ((n - 1 : Nat) : Int)), f.2)

/-- The raw position of a region by its peak. -/
def State.regionPos (s : State) (g : Grid) (peak : Nat) : Int × Int × State :=
  let x : Int := g.x peak
  let y : Int := g.y peak
  let col (c : Int) : Int := s.posStr g c (y - 1) + s.posStr g c y + s.posStr g c (y + 1)
  let row (r : Int) : Int := s.posStr g (x - 1) r + s.posStr g x r + s.posStr g (x + 1) r
  let px := s.centroid (g.x peak) g.nx (col (x - 1)) (col x) (col (x + 1))
  let py := px.2.centroid (g.y peak) g.ny (row (y - 1)) (row y) (row (y + 1))
  (px.1, py.1, py.2)

/-- The self strength of line `i` of an axis, as positions use it. -/
def State.selfAt (s : State) (pins : List Nat) (i : Int) : Int :=
  if 0 ≤ i ∧ i < pins.length then max 0 (nth s.lib.strS (nth pins i.toNat 255) 0) else 0

/-- A position from the self profile of an axis. -/
def State.selfPos (s : State) (pins : List Nat) (i : Nat) : Int × State :=
  s.centroid i pins.length (s.selfAt pins ((i : Int) - 1)) (s.selfAt pins i) (s.selfAt pins ((i : Int) + 1))

/-! ### The regions of a frame -/

/-- The agreement of a region: the smaller of the largest self strengths over the lanes that cross it. -/
def State.agreement (s : State) (g : Grid) (ns : List Nat) : Int :=
  let top (pins : List Nat) (line : Nat → Nat) : Int :=
    match (ns.map line).eraseDups.map (fun i => nth s.lib.strS (nth pins i 255) 0) with
    | [] => 0
    | v :: t => t.foldl max v
  min (top g.xpin g.x) (top g.ypin g.y)

/-- A node among some, or a node next to one of them, is invalid: a contact there keeps its position (R246). -/
def State.nearInvalid (s : State) (g : Grid) (ns : List Nat) : Bool :=
  (g.ring ns).any (fun n => !nth s.lib.valid n false)

/-- One region. -/
def State.makeRegion (s : State) (g : Grid) (peak : Nat) (ns : List Nat) : Region × State :=
  let p := s.regionPos g peak
  ({ nodes := ns, peak := peak, sp := nth s.lib.str peak 0, agree := s.agreement g ns, px := p.1, py := p.2.1,
     hover := false, bad := s.nearInvalid g ns }, p.2.2)

/-- The self clusters of an axis as runs of indices (R232). -/
def State.selfClusters (s : State) (pins : List Nat) : List (List Nat) :=
  let thr := s.thrS LP.T_HOVER
  runsOf ((List.range pins.length).filter (fun i =>
    nth s.lib.validS (nth pins i 255) false && decide (thr ≤ 2 * nth s.lib.strS (nth pins i 255) 0)))

/-- The index of the strongest valid lane among some; the first of equal ones (R218). -/
def State.topLane (s : State) (pins : List Nat) (is : List Nat) : Option Nat :=
  (is.filter (fun i => nth s.lib.validS (nth pins i 255) false)).foldl (fun b i => match b with
    | some j => if nth s.lib.strS (nth pins j 255) 0 < nth s.lib.strS (nth pins i 255) 0 then some i else b
    | none => some i) none

/-- The hover of the frame, when there is one (R232). -/
def State.findHover (s : State) (g : Grid) (rs : List Region) : Option Region × State :=
  match s.topLane g.xpin (s.selfClusters g.xpin).flatten, s.topLane g.ypin (s.selfClusters g.ypin).flatten with
  | some x, some y =>
    let n := y * g.nx + x
    let px := nth s.lib.strS (nth g.xpin x 255) 0
    let py := nth s.lib.strS (nth g.ypin y 255) 0
    let thr := s.thrS LP.T_HOVER
    if px < thr ∨ py < thr ∨ rs.any (fun r => r.nodes.any (fun m => g.near m n 2)) then (none, s)
    else
      let a := s.selfPos g.xpin x
      let b := a.2.selfPos g.ypin y
      (some { nodes := [n], peak := n, sp := min px py * s.lp LP.F_REF / s.lp LP.S_REF, agree := min px py, px := a.1,
              py := b.1, hover := true, bad := s.nearInvalid g [n] }, b.2)
  | _, _ => (none, s)

/-- The regions of the frame and its hover (R230, R232). -/
def State.libRegions (s : State) (g : Grid) : State :=
  let thr := s.thrM LP.T_GLOVE_M
  let keys := (List.range 16).filter s.fsn.nodeKey
  let all := (List.range g.count).filter (fun n =>
    nth s.lib.valid n false && decide (thr ≤ nth s.lib.str n 0) && !keys.any (fun k => s.fsn.inKey g k n))
  let r := (g.divide s.lib.str all).foldl (fun (acc : List Region × State) k =>
    let m := acc.2.makeRegion g k.1 k.2
    (acc.1 ++ [m.1], m.2)) ([], s)
  let h := r.2.findHover g r.1
  { h.2 with lib := { h.2.lib with regions := r.1 ++ h.1.toList } }

/-! ### Classes (Table 7.3) -/

/-- The class of a region under the conditions for a new contact. -/
def State.classNew (s : State) (r : Region) : Class :=
  if r.hover then .none
  else if s.lp LP.PALM_AREA ≤ r.nodes.length then .palm
  else if r.agree < s.thrS LP.T_AGREE then .water
  else if s.thrM LP.T_TOUCH ≤ r.sp then .finger
  else if s.thrM LP.T_GLOVE_M ≤ r.sp ∧ s.thrS LP.T_GLOVE_S ≤ r.agree then .glove
  else .none

/-- The class of a region that a contact of the previous frame matches (R231). -/
def State.classCont (s : State) (r : Region) : Class :=
  if r.hover then .none
  else if s.lp LP.PALM_AREA ≤ 2 * r.nodes.length then .palm
  else if 2 * r.agree < s.thrS LP.T_AGREE then .water
  else if s.thrM LP.T_RELEASE ≤ r.sp then .finger
  else if s.thrM LP.T_GLOVE_M ≤ r.sp ∧ s.thrS LP.T_GLOVE_S ≤ 2 * r.agree then .glove
  else s.classNew r

/-! ### The library's pass over the image -/

/-- The library's data at a schedule start: everything begins again, with a full capture; a wake still pending,
POWERUP_TOUCH and a reset of TRACK not yet carried out stay so (R222, R229, R250, R272). -/
def State.libRestart (s : State) : State :=
  let l := { Lib.reset with on := true, trackOn := s.lib.trackOn, trackRst := s.lib.trackRst, trackNow := s.lib.trackNow,
                            puTouch := s.lib.puTouch, tVote := s.fsn.time, wakeCnt := s.lib.wakeCnt,
                            wakeWait := s.lib.wakeWait }
  { s with lib := l.startCapture true (s.lp LP.BASE_CAP) }

/-- The frame period of the open frame, by its snapshot (R157, R426). -/
def State.libPeriod (s : State) : Nat :=
  max (framePeriodOf (s.fsn.reg Reg.FRAME_PERIOD)) s.sched.pmin * (if s.fsn.flag Reg.CLK_STAT 11 then 2 else 1)

/-- The time since the library's last frame, and whether a wake lies between (R248). -/
def State.libTime (s : State) : State :=
  let now := s.fsn.time
  let per := s.libPeriod
  let d := match s.lib.tFrame with
    | some t => (now - t).toNat
    | none => 0
  { s with lib := { s.lib with tFrame := some now, dT := d, wokeNow := decide (4 * per * 32768 < d * 1000000) } }

/-- Substitutions whose 16 frames of faster baselines have gone by are forgotten (R421). -/
def State.rebaseFrame (s : State) : State :=
  let old (p : Nat) : Bool := match s.substAge p with
    | some k => decide (15 ≤ k) && decide (k < 32768)
    | none => true
  { s with fmon := { s.fmon with rebase := s.fmon.rebase.filter (fun p => !old p.1) } }

/-- LD, library form: the frame's image, captures, baselines, anti-touch recovery, electrodes and regions. The captures
of a schedule start begin with the first of its frames that the library loads: one abandoned before is none of theirs
(DEDUCED, log entry 58). -/
def State.libLoad (s : State) : State :=
  let s := if s.lib.again then s.libRestart
           else if s.lib.capNext then { s with lib := { s.lib.startCapture true (s.lp LP.BASE_CAP) with capNext := false } }
           else s
  let g := s.fsn.grid
  let first := s.lib.capFull && s.lib.capLeft = s.lp LP.BASE_CAP
  let s := (s.libTime.libDecode g).capRequest
  let s := { s with lib := { s.lib with stage := 1, healed := [], capNow := s.lib.capFull && 0 < s.lib.capLeft } }
  if s.lib.capNow then
    let s := if first then s.puCheck g else s
    let s := { s with lib := { s.lib.captureFrame g with regions := [], str := [], strS := [], marks := [] } }
    let s := if s.lib.capLeft = 0 then s.captureEnd g else s
    (s.libElec g).rebaseFrame
  else
    let part := 0 < s.lib.capLeft
    let s := ((s.libStrengths g).libAnti g).libRegions g
    let s := (s.libElec g).libTrack g
    let s := { s with lib := { s.lib with stale := s.lib.stale || part } }
    let s := if part then { s with lib := s.lib.captureFrame g } else s
    let s := if part && s.lib.capLeft = 0 then s.captureEnd g else s
    s.rebaseFrame

end Sys2Proof.Machine
end

