-- ==== Sys2Proof/Machine/LibContacts.lean ====
section
/-! DEFINITION. The default library's contacts: pairing, new contacts and IDs, water, glove mode, power-up contacts and
absorption (R227 to R247). -/

namespace Sys2Proof.Machine

/-- Change the library's data. -/
def State.setLib (s : State) (f : Lib → Lib) : State := { s with lib := f s.lib }

/-- The squared distance of two positions. -/
def dist2 (ax ay bx by' : Int) : Nat := ((ax - bx) ^ 2 + (ay - by') ^ 2).toNat

/-- A length in 1/64 node as a squared distance. -/
def sq (n : Nat) : Nat := n * n

/-! ### Reported positions (R239) -/

/-- A position in 1/(64 u) node scaled, rounded once half up, and oriented. -/
def State.scaledBy (s : State) (g : Grid) (u : Nat) (px py : Int) : Nat × Nat :=
  let o := s.lp LP.ORIENT
  let ax (p : Int) (n m : Nat) : Nat := if n ≤ 1 then 0 else (roundDiv (p * m) (64 * u * ((n - 1 : Nat) : Int))).toNat
  let x := ax px g.nx (s.lp LP.X_MAX)
  let y := ax py g.ny (s.lp LP.Y_MAX)
  let x := if o.testBit 0 then s.lp LP.X_MAX - x else x
  let y := if o.testBit 1 then s.lp LP.Y_MAX - y else y
  if o.testBit 2 then (y, x) else (x, y)

/-- A position scaled and oriented. -/
def State.scaled (s : State) (g : Grid) (px py : Int) : Nat × Nat := s.scaledBy g 1 px py

/-- The reported position follows the raw one once they differ by JITTER on some axis; the state is MOVE when X or Y
changes, else STAY (R237, R239). -/
def State.follow (s : State) (g : Grid) (c : Contact) : Contact :=
  let j := s.lp LP.JITTER
  if j ≤ (c.px - c.rx).natAbs ∨ j ≤ (c.py - c.ry).natAbs then
    { c with rx := c.px, ry := c.py, state := if s.scaled g c.px c.py = s.scaled g c.rx c.ry then 3 else 2 }
  else { c with state := 3 }

/-! ### One contact -/

/-- A contact whose strength is its lower self peak and whose area reads 0: a hover or a SUSPECT contact (Table 7.4). -/
def selfMeasured (k : Kind) (sus : Bool) : Bool := k = .hover || sus

/-- The strength of a contact's region as reported (Table 7.4). -/
def State.strengthOf (s : State) (k : Kind) (sus : Bool) (r : Region) : Nat :=
  let v := if selfMeasured k sus then r.agree * 256 / s.lp LP.S_REF else r.sp * 256 / s.lp LP.F_REF
  min 65535 v.toNat

/-- The area of a contact's region as reported (Table 7.4). -/
def areaOf (k : Kind) (sus : Bool) (r : Region) : Nat := if selfMeasured k sus then 0 else r.nodes.length

/-- Contacts of a type are reported: hovers only while `TOUCH_CTL.HOVER` = 1 (R232). -/
def State.shows (s : State) (k : Kind) : Bool := k != .hover || s.fsn.flag Reg.TOUCH_CTL 12

/-- A new contact of a region; a hover that is not reported waits for its DOWN. -/
def State.newContact (s : State) (id : Nat) (k : Kind) (sus : Bool) (r : Region) : Contact :=
  let now := s.fsn.time
  { id := id, kind := k, suspect := sus, px := r.px, py := r.py, rx := r.px, ry := r.py, vx := 0, vy := 0,
    str := s.strengthOf k sus r, area := areaOf k sus r, age := 0, state := if s.shows k then 1 else 7, missing := 0,
    quiet := 0, nodes := r.nodes, kept := r.bad, dx := r.px, dy := r.py, dT := now, alone := true, far := 0,
    long' := false, sx := r.px, sy := r.py, sT := now, still := 0, gloves := 0, clX := [], clY := [], home := [],
    tKind := k, tStr := s.strengthOf k sus r, tArea := areaOf k sus r }

/-- The time that a contact has been still goes on up to the frame (R247). -/
def State.countStill (s : State) (c : Contact) : Contact :=
  { c with still := c.still + (s.fsn.time - c.sT).toNat, sT := s.fsn.time }

/-- Distances and stillness after a contact's position is known (R247, R254). -/
def State.settleContact (s : State) (g : Grid) (c : Contact) : Contact :=
  let c := { s.countStill c with far := max c.far (dist2 c.px c.py c.dx c.dy), missing := 0 }
  let c := if sq (s.lp LP.STILL_MOVE) < dist2 c.px c.py c.sx c.sy then { c with sx := c.px, sy := c.py, still := 0 }
    else c
  s.follow g c

/-- A contact takes its paired region; one that touches an invalid node keeps its position (R235, R246). -/
def State.takeRegion (s : State) (g : Grid) (c : Contact) (k : Kind) (r : Region) : Contact :=
  let c := { c with kind := k, str := s.strengthOf k c.suspect r, area := areaOf k c.suspect r, nodes := r.nodes,
                    kept := r.bad }
  let c := if r.bad then { c with vx := 0, vy := 0 }
           else { c with vx := r.px - c.px, vy := r.py - c.py, px := r.px, py := r.py }
  s.settleContact g c

/-- The end of a contact that has been reported: the last power-up contact's end starts the wait of R229. -/
def State.noteEnd (s : State) (c : Contact) (code : Nat) (plain stale : Bool) : State :=
  s.setLib (fun l => { l with
    ended := if c.state = 7 then l.ended else l.ended ++ [⟨c, code, plain, stale⟩],
    antiOk := if c.suspect then false else l.antiOk, antiGone := if c.suspect then 0 else l.antiGone })

/-- A contact ends: its ID is free from now on. -/
def State.endContact (s : State) (c : Contact) (code : Nat) (plain stale : Bool) : State :=
  (s.noteEnd c code plain stale).setLib (fun l => { l with
    contacts := l.contacts.filter (fun d => d.id != c.id), idFree := l.idFree.set c.id 0 })

/-- Replace a contact by its ID. -/
def State.putContact (s : State) (c : Contact) : State :=
  s.setLib (fun l => { l with contacts := l.contacts.map (fun d : Contact => if d.id = c.id then c else d) })

/-- Every contact ends (R244, R250). -/
def State.endAll (s : State) (stale : Bool) : State :=
  s.lib.contacts.foldl (fun t c => t.endContact { c with kept := false } 4 false stale) s

/-! ### Pairing (R235) -/

/-- Pairs by rising distance, each number in at most one pair. -/
def nearestPairs (all : List (Nat × Nat × Nat)) : List (Nat × Nat) :=
  (sortDesc (fun (p : Nat × Nat × Nat) => -(((p.1 * 8192 + p.2.1) * 8192 + p.2.2 : Nat) : Int)) all).foldl
    (fun l p => if l.any (fun q => q.1 == p.2.1 || q.2 == p.2.2) then l else l ++ [(p.2.1, p.2.2)]) []

/-- The pairs of contact and region, nearest first, each in at most one pair. -/
def State.pairing (s : State) : List (Nat × Nat) :=
  let gate := sq (s.lp LP.TRACK_GATE)
  let cs := s.lib.contacts.filter (fun c => c.clX.isEmpty)
  nearestPairs (cs.flatMap (fun c => (List.range s.lib.regions.length).filterMap (fun i =>
    match s.lib.regions[i]? with
    | some r =>
      let d := dist2 (c.px + c.vx) (c.py + c.vy) r.px r.py
      if d ≤ gate then some (d, c.id, i) else none
    | none => none)))

/-- The region paired with a contact. -/
def State.regionOf (s : State) (ps : List (Nat × Nat)) (id : Nat) : Option Region :=
  (ps.find? (fun p => p.1 = id)).bind (fun p => s.lib.regions[p.2]?)

/-- The classes of the frame's regions, in their order (R231). -/
def State.classes (s : State) (ps : List (Nat × Nat)) : List Class :=
  (List.range s.lib.regions.length).map (fun i => match s.lib.regions[i]? with
    | some r => if ps.any (fun p => p.2 = i) then s.classCont r else s.classNew r
    | none => .none)

/-! ### Modes (R245, Table 7.7) -/

/-- `TOUCH_CTL.GLOVE`; 0b11 acts as 0b00. -/
def State.gloveMode (s : State) : Nat := s.fsn.fld Reg.TOUCH_CTL 14 2 % 3

/-- Glove mode holds. -/
def State.gloveHolds (s : State) : Bool := s.gloveMode = 2 || (s.gloveMode = 0 && s.lib.glove)

/-- The type of contact that a region of a class makes, if it makes one. -/
def State.kindOf (s : State) (r : Region) (c : Class) : Option Kind :=
  if r.hover then some .hover
  else match c with
    | .palm => if s.fsn.flag Reg.TOUCH_CTL 11 then some .palm else none
    | .finger => some .finger
    | .glove => if s.gloveMode = 1 then none else some .glove
    | _ => none

/-! ### Tracked contacts -/

/-- A contact without a region in the frame: UP once it has been missing for LIFT_FR frames (R235). -/
def State.missContact (s : State) (c : Contact) : State :=
  if s.lp LP.LIFT_FR ≤ c.missing + 1 then s.endContact { c with kept := false } 4 true false
  else s.putContact { s.countStill c with missing := c.missing + 1, gloves := 0, state := if c.state = 7 then 7 else 0 }

/-- The baselines of the valid nodes of a contact's region and ring take the frame's raw values, and what was frozen for a
power-up touch there is frozen no more, but for another power-up contact's nodes (R218, R247). -/
def State.absorbNodes (s : State) (g : Grid) (c : Contact) : State :=
  let ns := g.ring c.nodes
  let others := g.ring ((s.lib.contacts.filter (fun d => d.suspect && d.id != c.id)).flatMap Contact.home)
  s.setLib (fun l => { l with
    base := (List.range g.count).map (fun n =>
      if ns.contains n && nth l.valid n false then nth l.raw n 0 else nth l.base n 0),
    susNodes := l.susNodes.filter (fun n => !ns.contains n || others.contains n) })

/-- A STATUS record of the library, without its flags (Table 9.5). -/
def statusRec (sub : Nat) (w3 w4 w5 : Nat) : Rec := recOf (header 4 sub) 0 0 (word w3) (word w4) (word w5) 0 0

/-- Add a STATUS record of the frame. -/
def State.addStatus (s : State) (r : Rec) : State := s.setLib (fun l => { l with status := l.status ++ [r] })

/-- A contact that has been still for STILL_LIMIT minutes is absorbed, with its last reported values; otherwise it takes
those of the frame (R247, Table 9.2). -/
def State.orAbsorb (s : State) (g : Grid) (old c : Contact) : State :=
  let lim := s.fsn.fld Reg.BASE_CTL 0 12
  if lim ≠ 0 ∧ lim * 60 * 32768 ≤ c.still then
    ((s.absorbNodes g c).addStatus (statusRec 6 c.id lim 0)).endContact
      { old with nodes := c.nodes, kept := c.kept } 5 false false
  else s.putContact c

/-- A glove region of a tracked contact of another type that outside glove mode has not yet persisted for GLOVE_ON frames:
the contact keeps its type (R245; log entry 21). -/
def State.gloveWaits (s : State) (c : Contact) (k : Kind) : Bool :=
  k = .glove && c.kind != .glove && s.gloveMode = 0 && !s.lib.glove && decide (c.gloves + 1 < s.lp LP.GLOVE_ON)

/-- A glove contact begins or goes on: automatic glove mode holds (R245). -/
def State.gloveSeen (s : State) (k : Kind) : State :=
  if k = .glove && s.gloveMode = 0 then s.setLib (fun l => { l with glove := true }) else s

/-- A contact takes a region of type `k`: a hover that touches is reported DOWN again, and a touching contact that lifts
to a hover is reported UP (R236). -/
def State.turnContact (s : State) (g : Grid) (c : Contact) (k : Kind) (r : Region) : State :=
  if c.kind = .hover ∧ k ≠ .hover then s.putContact (s.newContact c.id k false r)
  else if c.kind ≠ .hover ∧ k = .hover then
    (s.noteEnd { c with kept := r.bad } 4 true false).putContact { s.newContact c.id .hover false r with state := 7 }
  else if c.state = 7 ∧ s.shows k then s.putContact (s.newContact c.id k false r)
  else
    let d := s.takeRegion g c k r
    s.orAbsorb g c { d with state := if c.state = 7 then 7 else d.state }

/-- A contact with its region: the region's class decides (R231, R233, R236, R245). A region of class None counts as
none, and the contact is missing: the spec does not say what such a pair does (DESIGN CHOICE, log entry 61). -/
def State.trackContact (s : State) (g : Grid) (c : Contact) (r : Region) (cls : Class) : State :=
  match s.kindOf r cls with
  | some k =>
    let c' := { c with gloves := if k = .glove then c.gloves + 1 else 0 }
    if s.gloveWaits c k then s.turnContact g c' c.kind r else (s.gloveSeen k).turnContact g c' k r
  | none =>
    if cls = .none then s.missContact c else s.endContact { c with kept := r.bad } 4 (cls = .glove) false

/-- The peak self strength of a cluster over its valid lanes; 0 of none (R218). -/
def State.clusterPeak (s : State) (pins is : List Nat) : Int := match s.topLane pins is with
  | some i => max 0 (nth s.lib.strS (nth pins i 255) 0)
  | none => 0

/-- The lower peak self strength of two clusters. -/
def State.puPeak (s : State) (g : Grid) (cx cy : List Nat) : Int := min (s.clusterPeak g.xpin cx) (s.clusterPeak g.ypin cy)

/-- Both cluster peaks reach half of PU_TOUCH_THR (R227). -/
def State.puHolds (s : State) (g : Grid) (cx cy : List Nat) : Bool :=
  decide (counts (s.lp LP.PU_TOUCH_THR) (s.lp LP.S_REF) ≤ 2 * s.puPeak g cx cy)

/-- A power-up contact: it continues while both its cluster peaks hold; where its crossing touches an invalid node it
keeps its position (R227, R246). -/
def State.trackSuspect (s : State) (g : Grid) (c : Contact) : State :=
  let bad := s.nearInvalid g (g.crossing c.clX c.clY)
  if s.puHolds g c.clX c.clY then
    let pk := s.puPeak g c.clX c.clY
    let a := s.selfPos g.xpin ((s.topLane g.xpin c.clX).getD 0)
    let b := a.2.selfPos g.ypin ((s.topLane g.ypin c.clY).getD 0)
    let d := { c with str := min 65535 (pk * 256 / s.lp LP.S_REF).toNat, kept := bad }
    let d := if bad then { d with vx := 0, vy := 0 }
             else { d with vx := a.1 - c.px, vy := b.1 - c.py, px := a.1, py := b.1 }
    b.2.orAbsorb g c (s.settleContact g d)
  else s.endContact { c with kept := bad } 4 false false

/-- Every tracked contact in turn. -/
def State.trackAll (s : State) (g : Grid) (ps : List (Nat × Nat)) (cl : List Class) : State :=
  s.lib.contacts.foldl (fun t c =>
    if !c.clX.isEmpty then t.trackSuspect g c
    else match ps.find? (fun p => p.1 = c.id) with
      | some p => match s.lib.regions[p.2]? with
        | some r => t.trackContact g c r (nth cl p.2 .none)
        | none => t.missContact c
      | none => t.missContact c) s

/-! ### New contacts (R228, R234, R236) -/

/-- The lowest ID that has been free for ID_HOLD frames. -/
def State.freeId (s : State) : Option Nat :=
  (List.range 10).find? (fun i => !s.lib.contacts.any (fun c => c.id == i) && decide (s.lp LP.ID_HOLD ≤ nth s.lib.idFree i 0))

/-- The power-up contact that a new mutual region takes over: the nearest within TRACK_GATE (R228). -/
def State.suspectNear (s : State) (r : Region) : Option Contact :=
  let d (c : Contact) : Nat := dist2 c.px c.py r.px r.py
  (s.lib.contacts.filter (fun c => !c.clX.isEmpty && decide (d c ≤ sq (s.lp LP.TRACK_GATE)))).foldl (fun b c => match b with
    | some e => if d c < d e then some c else b
    | none => some c) none

/-- The pairs of a waiting region of the frame before and an unpaired region of the same class within TRACK_GATE, nearest
first, each in at most one pair (R236, R245). -/
def State.waitPairs (s : State) (ps : List (Nat × Nat)) (cl : List Class) : List (Nat × Nat) :=
  let gate := sq (s.lp LP.TRACK_GATE)
  nearestPairs ((List.range s.lib.waiting.length).flatMap (fun j => (List.range s.lib.regions.length).filterMap (fun i =>
    match s.lib.waiting[j]?, s.lib.regions[i]? with
    | some w, some r =>
      let d := dist2 w.px w.py r.px r.py
      if w.cls = nth cl i .none && w.hover == r.hover && !ps.any (fun p => p.2 = i) && decide (d ≤ gate) then some (d, j, i)
      else none
    | _, _ => none)))

/-- How many frames a region has persisted, this one included. -/
def State.persisted (s : State) (ws : List (Nat × Nat)) (i : Nat) : Nat :=
  match (ws.find? (fun p => p.2 = i)).bind (fun p => s.lib.waiting[p.1]?) with
  | some w => w.frames + 1
  | none => 1

/-- The frames a region of a kind must persist (R236, R245). -/
def State.needFrames (s : State) (k : Kind) : Nat := match k with
  | .palm => 1
  | .glove => if s.gloveHolds then s.lp LP.DOWN_FR else s.lp LP.GLOVE_ON
  | _ => s.lp LP.DOWN_FR

/-- A candidate for a contact: its region, class, kind and the frames it has persisted. -/
structure Cand where
  r      : Region
  cls    : Class
  kind   : Kind
  frames : Nat

/-- The unpaired regions that could be reported. -/
def State.candidates (s : State) (ps : List (Nat × Nat)) (cl : List Class) : List Cand :=
  let ws := s.waitPairs ps cl
  (List.range s.lib.regions.length).filterMap (fun i =>
    if ps.any (fun p => p.2 = i) then none
    else (s.lib.regions[i]?).bind (fun r =>
      (s.kindOf r (nth cl i .none)).map (fun k => ⟨r, nth cl i .none, k, s.persisted ws i⟩)))

/-- A candidate that has persisted long enough becomes a contact, or takes over a power-up contact (R228); without a
free ID it is left over. -/
def State.beginContact (s : State) (g : Grid) (c : Cand) : State :=
  let s := s.gloveSeen c.kind
  match (if c.kind = .hover then none else s.suspectNear c.r) with
  | some p => s.putContact { s.takeRegion g p c.kind c.r with vx := 0, vy := 0, clX := [], clY := [] }
  | none => match s.freeId with
    | some i => s.setLib (fun l => { l with contacts := l.contacts ++ [s.newContact i c.kind false c.r] })
    | none => s.setLib (fun l => { l with
        more := true, waiting := l.waiting ++ [⟨c.r.px, c.r.py, c.cls, c.r.hover, c.frames⟩] })

/-- The new contacts of the frame, in order of falling strength; the others wait. -/
def State.beginAll (s : State) (g : Grid) (ps : List (Nat × Nat)) (cl : List Class) : State :=
  let cs := s.candidates ps cl
  let ready (c : Cand) : Bool := decide (s.needFrames c.kind ≤ c.frames)
  let wait := (cs.filter (fun c => !ready c)).map (fun c => (⟨c.r.px, c.r.py, c.cls, c.r.hover, c.frames⟩ : Waiting))
  (sortDesc (fun (c : Cand) => c.r.sp) (cs.filter ready)).foldl (fun t c => t.beginContact g c)
    (s.setLib (fun l => { l with waiting := wait }))

/-! ### Power-up contacts (R227) -/

/-- A power-up touch exists: with the first frame after the capture POWERUP_TOUCH is set (R227). -/
def State.puAnnounce (s : State) : State :=
  if s.lib.puSay then s.setLib (fun l => { l with puTouch := true, puSay := false }) else s

/-- The STATUS record of a power-up touch, first of the frame's: the contacts that the frame has formed, and the flagged
lanes on the axes as `l` holds them, the library's data before (R227, Table 9.5). -/
def State.puTell (s : State) (l : Lib) : State :=
  if l.puSay then
    let formed := (s.lib.contacts.filter (fun c => c.suspect)).length
    s.setLib (fun m => { m with
      status := statusRec 1 formed l.flagX.flatten.length l.flagY.flatten.length :: m.status })
  else s

/-- Two clusters that no contact has been formed of yet. -/
def State.puLeft (s : State) (cx cy : List Nat) (more : Bool) : State :=
  s.setLib (fun l => { l with more := l.more || more, flagX := l.flagX ++ [cx], flagY := l.flagY ++ [cy] })

/-- One power-up contact of two clusters; without a free ID it is left over (R227, R234), and without a valid lane for a
peak it waits (R218). -/
def State.puContact (s : State) (g : Grid) (cx cy : List Nat) : State :=
  match s.topLane g.xpin cx, s.topLane g.ypin cy, s.freeId with
  | some x, some y, some i =>
    let a := s.selfPos g.xpin x
    let b := a.2.selfPos g.ypin y
    let ns := g.crossing cx cy
    let r : Region := { nodes := ns, peak := y * g.nx + x, sp := 0, agree := s.puPeak g cx cy, px := a.1, py := b.1,
                        hover := true, bad := s.nearInvalid g ns }
    let c := { b.2.newContact i .finger true r with clX := cx, clY := cy, home := ns }
    b.2.setLib (fun l => { l with contacts := l.contacts ++ [c] })
  | some _, some _, none => s.puLeft cx cy true
  | _, _, _ => s.puLeft cx cy false

/-- The contacts of a power-up touch: all of them in the frame that announces it, and later those left over whose clusters
still hold (R227, R234). -/
def State.puForm (s : State) (g : Grid) (all : Bool) : State :=
  if s.lib.puNew then
    let dark (p : List Nat × List Nat) : Bool := (s.topLane g.xpin p.1).isNone || (s.topLane g.ypin p.2).isNone
    let ps := (s.lib.flagX.zip s.lib.flagY).filter (fun p => all || dark p || s.puHolds g p.1 p.2)
    let t := ps.foldl (fun t p => t.puContact g p.1 p.2) (s.setLib (fun l => { l with flagX := [], flagY := [] }))
    t.setLib (fun l => { l with puNew := !l.flagX.isEmpty })
  else s

/-! ### Water (R243, R244) -/

/-- The total area of water regions. -/
def State.waterArea (s : State) (cl : List Class) : Nat :=
  (List.range cl.length).foldl (fun n i => if nth cl i .none = .water then
      n + (match s.lib.regions[i]? with
        | some r => if r.hover then 0 else r.nodes.length
        | none => 0)
    else n) 0

/-- The median self strength over all valid grid lanes. -/
def State.selfMedian (s : State) (g : Grid) : Int :=
  let l := (g.pins.filter (fun p => nth s.lib.validS p false)).map (fun p => nth s.lib.strS p 0)
  if l.isEmpty then 0 else median l

/-- The water area reaches WET_AREA. -/
def State.wetArea (s : State) (g : Grid) (cl : List Class) : Bool :=
  decide (s.lp LP.WET_AREA * g.count ≤ 256 * s.waterArea cl)

/-- The median self strength reaches SUBMERGE. -/
def State.submerged (s : State) (g : Grid) : Bool := decide (counts (s.lp LP.SUBMERGE) (s.lp LP.S_REF) ≤ s.selfMedian g)

/-- The WET state and its STATUS records. -/
def State.libWet (s : State) (g : Grid) (cl : List Class) : State :=
  let a := s.wetArea g cl
  let b := s.submerged g
  let on := if a then s.lib.wetOn + 1 else 0
  let sub := if b then s.lib.submOn + 1 else 0
  let off := if a || b then 0 else s.lib.wetOff + 1
  let s := s.setLib (fun l => { l with wetOn := on, submOn := sub, wetOff := off })
  if s.lib.wet then
    if s.lp LP.WET_OFF ≤ off then (s.setLib (fun l => { l with wet := false })).addStatus (statusRec 3 0 0 0) else s
  else
    let byArea : Bool := s.lp LP.WET_ON ≤ on
    let bySub : Bool := 2 ≤ sub
    if byArea || bySub then
      (s.setLib (fun l => { l with wet := true })).addStatus
        (statusRec 2 (byArea.toNat + 2 * bySub.toNat) (s.waterArea cl) 0)
    else s

/-- WET_LOCK follows WET and WETLOCK; as it begins every contact ends, in a stale frame with the first frame that is not
(R244, R246; log entry 21). -/
def State.libLock (s : State) : State :=
  let on := s.lib.wet && s.fsn.flag Reg.TOUCH_CTL 13
  let s := if on && !s.lib.stale then (s.endAll false).setLib (fun l => { l with waiting := [], puNew := false }) else s
  s.setLib (fun l => { l with wetLock := on })

/-! ### Glove mode (R245) -/

/-- Glove mode at the end of a frame, `was` whether it held before: its end after GLOVE_OFF seconds without a glove
contact, and its STATUS records. -/
def State.libGlove (s : State) (was : Bool) : State :=
  let now := s.fsn.time
  let has := s.lib.contacts.any (fun c => c.kind = .glove)
  let s := s.setLib (fun l => { l with gloveT := if has || !was then now else l.gloveT })
  let over' := decide (s.lp LP.GLOVE_OFF * 32768 ≤ (now - s.lib.gloveT).toNat)
  let s := if s.gloveMode = 0 && s.lib.glove && !has && over' then s.setLib (fun l => { l with glove := false })
           else if s.gloveMode = 0 then s else s.setLib (fun l => { l with glove := s.gloveMode = 2 })
  if s.lib.glove && !was then s.addStatus (statusRec 4 0 0 0)
  else if !s.lib.glove && was then s.addStatus (statusRec 5 0 0 0)
  else s

/-! ### The frame's contacts -/

/-- The frame's pairs and classes feed tracking, new contacts and the power-up contacts; a stale frame keeps everything
(R246), WET_LOCK and a disabled TRACK form nothing (R244, R250). The contacts of a power-up touch take their IDs before
other new ones, and a tracked power-up contact whose peaks fall is reported UP before a region near it can take it over,
which then begins a contact of its own: the spec ranks neither (DESIGN CHOICE, log entries 59 and 60). -/
def State.libContacts (s : State) (g : Grid) : State :=
  let ps := s.pairing
  let cl := s.classes ps
  let was := s.lib.glove
  let old := s.lib
  let s := (s.puAnnounce.libWet g cl).libLock
  let s :=
    if s.lib.stale then
      let keep (c : Contact) : Contact :=
        { c with sT := s.fsn.time, state := if c.state = 7 then 7 else 3, kept := false }
      s.setLib (fun l => { l with contacts := l.contacts.map keep, puNew := l.puNew && l.trackOn })
    else if s.lib.trackOn && !s.lib.wetLock then ((s.trackAll g ps cl).puForm g old.puSay).beginAll g ps cl
    else s.setLib (fun l => { l with puNew := false })
  (s.libGlove was).puTell old

/-- The nodes frozen in the next frame (R219, R227). -/
def State.libFreeze (s : State) (g : Grid) (palms : List Nat) : State :=
  s.setLib (fun l => { l with
    frozen := (g.ring ((l.contacts.flatMap Contact.nodes) ++ palms) ++ l.susNodes).eraseDups })

/-- SUSPECT clears on a contact, for the frames after this one, where the nodes frozen for it recovered (R228). -/
def Lib.clears (l : Lib) (c : Contact) : Contact :=
  if c.suspect && c.home.any l.healed.contains then { c with suspect := false } else c

/-- POWERUP_TOUCH clears, with which the nodes still frozen for it are released; a contact whose SUSPECT clears at this
frame's close still carries it (R229). -/
def State.libPowerup (s : State) : State :=
  let l := s.lib
  if l.puTouch && !l.puNew && !l.contacts.any (fun c => c.suspect) && l.marks.isEmpty && (l.antiOk || 2 ≤ l.antiGone) then
    s.setLib (fun l => { l with puTouch := false, susNodes := [] })
  else s

end Sys2Proof.Machine
end

