-- ==== Sys2Proof/Machine/LibReport.lean ====
section
/-! DEFINITION. The default library's keys, gestures, wake confirmation, hop choice, records, publications and vote
(R240 to R258, R272, R297). -/

namespace Sys2Proof.Machine

/-! ### Keys (R240 to R242) -/

/-- What R240 compares of a key: EN, SRC, and the rectangle or the pin. -/
def Snap.keyCfg (sn : Snap) (k : Nat) : List Word :=
  let src := (sn.key k 0).getLsbD 14
  [sn.key k 0 &&& 0xC000, if src then sn.key k 1 &&& 0x00FF else sn.key k 1, if src then 0 else sn.key k 2]

/-- A key can press: enabled, with a rectangle on the grid or a pin of role SELF that the self entries convert (R241). -/
def State.keyActs (s : State) (g : Grid) (k : Nat) : Bool :=
  let sn := s.fsn
  let p := bits (sn.key k 1) 0 8
  sn.keyRect g k || ((sn.key k 0).getLsbD 15 && (sn.key k 0).getLsbD 14 && decide (p < 160) && sn.panelRole p = 3 &&
    (sn.selfEntry p).isSome)

/-- The signal of a key, and whether it comes from a valid node or lane (R218, R241). -/
def State.keySignal (s : State) (g : Grid) (k : Nat) : Int × Bool :=
  if (s.fsn.key k 0).getLsbD 14 then
    let p := bits (s.fsn.key k 1) 0 8
    (nth s.lib.strS p 0, nth s.lib.validS p false)
  else
    let ns := (List.range g.count).filter (s.fsn.inKey g k)
    let top (l : List Nat) : Option Int := (l.map (fun n => nth s.lib.str n 0)).foldl (fun b v => match b with
      | some w => some (max w v)
      | none => some v) none
    match top (ns.filter (fun n => nth s.lib.valid n false)), top ns with
    | some v, some w => (v, v == w)
    | _, some w => (w, false)
    | _, none => (0, false)

/-- The reference of a key. -/
def State.keyRef (s : State) (k : Nat) : Nat := if (s.fsn.key k 0).getLsbD 14 then s.lp LP.S_REF else s.lp LP.F_REF

/-- A key threshold in counts: SENS, then WET_RAISE and GLOVE_KEY. R217 says that the product with SENS is rounded down;
the products with WET_RAISE and GLOVE_KEY are rounded down in turn (DEDUCED, log entry 43). -/
def State.keyThr (s : State) (k t : Nat) : Int :=
  let t := t * s.sens / 16
  let t := if s.lib.wetLock then t * s.lp LP.WET_RAISE / 16 else t
  let t := if s.gloveHolds then t * s.lp LP.GLOVE_KEY / 16 else t
  counts t (s.keyRef k)

/-- The signal that a KEY record of the frame reports; in a stale frame a key keeps its last reported value (R246, Table
9.3). -/
def State.keyTold (s : State) (g : Grid) (k : Nat) : Word :=
  if s.lib.stale then nth s.lib.keySig k 0
  else word (min 65535 (max 0 ((s.keySignal g k).1 * 256 / s.keyRef k)).toNat)

/-- A KEY record leaves: event, cause (Table 9.3). -/
def State.keyRec (s : State) (g : Grid) (k ev cause : Nat) : State :=
  let v := s.keyTold g k
  s.setLib (fun l => { l with keySig := l.keySig.set k v,
                              keyRecs := l.keyRecs ++ [recOf (header 2 (ev * 16 + k)) 0 0 l.pressed v (word cause) 0 0] })

/-- A key changes, with its record. -/
def State.keyEvent (s : State) (g : Grid) (k : Nat) (on : Bool) (cause : Nat) : State :=
  (s.setLib (fun l => { l with pressed := putBits l.pressed k 1 on.toNat, keyCnt := l.keyCnt.set k 0 })).keyRec g k
    (if on then 1 else 2) cause

/-- Every pressed key is released (R250). -/
def State.releaseKeys (s : State) (g : Grid) (cause : Nat) : State :=
  (List.range 16).foldl (fun t k => if t.lib.pressed.getLsbD k then t.keyEvent g k false cause else t) s

/-- The debounce of a key (R242). -/
def State.debounce (s : State) (g : Grid) (k : Nat) : State :=
  let sig := s.keySignal g k
  let w0 := s.fsn.key k 0
  let w3 := s.fsn.key k 3
  let on := bits w3 8 8
  let rel := if on ≤ bits w3 0 8 then on - 1 else bits w3 0 8
  let n := nth s.lib.keyCnt k 0 + 1
  let cnt (v : Nat) : State := s.setLib (fun l => { l with keyCnt := l.keyCnt.set k v })
  if !sig.2 then s
  else if s.lib.pressed.getLsbD k then
    if sig.1 < s.keyThr k rel then
      (if max 1 (bits w0 4 4) ≤ n then s.keyEvent g k false 0 else cnt n)
    else cnt 0
  else if s.keyActs g k && decide (s.keyThr k on ≤ sig.1) then
    (if max 1 (bits w0 8 4) ≤ n then s.keyEvent g k true 0 else cnt n)
  else cnt 0

/-- One key in a frame: a host write to its place, a stale frame, WET_LOCK, or its debounce (R240, R242, R244, R246). -/
def State.keyFrame (s : State) (g : Grid) (old : List Word) (k : Nat) : State :=
  let on := s.lib.pressed.getLsbD k
  let changed := (old.drop (3 * k)).take 3 != s.fsn.keyCfg k && !old.isEmpty
  if on && changed then s.keyEvent g k false 2
  else if s.lib.stale then
    (if on then s.keyRec g k 3 0 else s)
  else if s.lib.wetLock && !(s.fsn.key k 0).getLsbD 13 then
    (if on then s.keyEvent g k false 1 else s.setLib (fun l => { l with keyCnt := l.keyCnt.set k 0 }))
  else s.debounce g k

/-- No key counts frames toward a press or a release. -/
def Lib.noCounts (l : Lib) : Lib := { l with keyCnt := List.replicate 16 0 }

/-- The keys of a frame. -/
def State.libKeys (s : State) (g : Grid) : State :=
  let old := s.lib.keyCfg
  let s := s.setLib (fun l => { l with keyCfg := (List.range 16).flatMap s.fsn.keyCfg })
  (List.range 16).foldl (fun t k => t.keyFrame g old k) s

/-! ### Gestures (R254 to R258) -/

/-- A time in AON periods reaches, or stays within, a number of milliseconds. -/
def reachesMs (t ms : Nat) : Bool := decide (ms * 32768 ≤ t * 1000)
def withinMs (t ms : Nat) : Bool := decide (t * 1000 ≤ ms * 32768)

/-- Time since an AON time. -/
def State.since (s : State) (t : BitVec 32) : Nat := (s.fsn.time - t).toNat

/-- A GESTURE record with the scaled position `p`, added while its bit of GEST_EN is set (R254, Table 9.4). -/
def State.gestureAt (s : State) (bit sub : Nat) (p : Nat × Nat) (a b dur extra : Nat) : State :=
  if s.fsn.flag Reg.GEST_EN bit then
    let r := recOf (header 3 sub) 0 0 (word p.1) (word p.2) (word (a * 256 + b))
      (word (min 65535 (dur * 1000 / 32768))) (word (min 65535 extra))
    s.setLib (fun l => { l with gests := l.gests ++ [r] })
  else s

/-- A GESTURE record with its origin in 1/64 node. -/
def State.gesture (s : State) (g : Grid) (bit sub : Nat) (x y : Int) (a b dur extra : Nat) : State :=
  s.gestureAt bit sub (s.scaled g x y) a b dur extra

/-- A GESTURE record of a pair of contacts, whose origin is their midpoint (Table 9.4). -/
def State.gestureDuo (s : State) (g : Grid) (bit sub : Nat) (d : Duo) (extra : Nat) : State :=
  s.gestureAt bit sub (s.scaledBy g 2 d.mx d.my) d.a d.b (s.fsn.time - d.dT).toNat extra

/-- A contact takes part in gestures (R256). -/
def Contact.plays (c : Contact) : Bool := (c.kind = .finger || c.kind = .glove) && !c.suspect

/-- A distance rounded half up (R255). -/
def distRound (d2 : Nat) : Nat :=
  let r := Nat.sqrt d2
  if r * r + r < d2 then r + 1 else r

/-- A SWIPE, if the contact's travel is one; named in reported directions. -/
def State.swipe (s : State) (g : Grid) (c : Contact) : State :=
  let ux := c.px - c.dx
  let uy := c.py - c.dy
  let onX : Bool := uy.natAbs ≤ ux.natAbs
  let dom := if onX then ux else uy
  let oth := if onX then uy else ux
  let o := s.lp LP.ORIENT
  let dom' := if o.testBit (if onX then 0 else 1) then -dom else dom
  let axisX := onX != o.testBit 2
  let sub := (if axisX then 4 else 6) + (if 0 < dom' then 1 else 0)
  let dur := s.since c.dT
  if withinMs dur (s.lp LP.SWIPE_MS) ∧ s.lp LP.SWIPE_DIST ≤ dom.natAbs ∧
      s.lp LP.SWIPE_RATIO * oth.natAbs ≤ 16 * dom.natAbs then
    s.gesture g 12 sub c.dx c.dy c.id 0xFF dur dom.natAbs
  else s

/-- A TAP has been made: the second of a double tap, held back, or emitted (R257). -/
def State.tapMade (s : State) (g : Grid) (c : Contact) : State :=
  let now := s.fsn.time
  match s.lib.tapSec with
  | some (id, t) =>
    if id = c.id then s.gesture g 14 2 t.dx t.dy t.id 0xFF (s.since t.dT) 0
    else s
  | none =>
    if s.fsn.flag Reg.GEST_EN 14 then
      s.setLib (fun l => { l with taps := l.taps ++ [⟨c.dx, c.dy, c.dT, now, c.id⟩] })
    else s.gesture g 15 1 c.dx c.dy c.id 0xFF (s.since c.dT) 0

/-- A contact is the second of a double tap (R257). -/
def State.isSecond (s : State) (c : Contact) : Bool := match s.lib.tapSec with
  | some (id, _) => id == c.id
  | none => false

/-- The end of a contact as one pair of contacts sees it: the pair's TAP2 ends with its second UP, or is over. -/
def State.duoUp (s : State) (g : Grid) (u : Ended) (d : Duo) : State :=
  let c := u.c
  let mine : Bool := (c.id == d.a && d.up != 1) || (c.id == d.b && d.up != 2)
  let keep (d : Duo) : State := s.setLib (fun l => { l with tap2 := l.tap2 ++ [d] })
  if !mine then keep d
  else if u.plain ∧ c.plays ∧ c.far ≤ sq (s.lp LP.TAP_MOVE) ∧ withinMs (s.since d.dT) (s.lp LP.TAP_MAX) then
    if d.up = 0 then keep { d with up := if c.id = d.a then 1 else 2 }
    else s.gestureDuo g 11 8 d 0
  else s

/-- A contact that lifts as a tap does stays known for a TAP2 with one that goes DOWN later (Table 8.1). -/
def State.keepGone (s : State) (u : Ended) : State :=
  let c := u.c
  if u.plain ∧ c.plays ∧ c.far ≤ sq (s.lp LP.TAP_MOVE) ∧ withinMs (s.since c.dT) (s.lp LP.TAP_MAX) then
    s.setLib (fun l => { l with gone := l.gone ++ [c] })
  else s

/-- The end of a contact as gestures see it; the second contact of a double tap gives DTAP or nothing (R257). -/
def State.upGesture (s : State) (g : Grid) (u : Ended) : State :=
  let c := u.c
  let s := s.keepGone u
  let s := s.lib.tap2.foldl (fun t d => t.duoUp g u d) (s.setLib (fun l => { l with tap2 := [] }))
  let s := match s.lib.pinch with
    | some d => if c.id = d.a ∨ c.id = d.b then s.setLib (fun l => { l with pinch := none }) else s
    | none => s
  let taps := decide (withinMs (s.since c.dT) (s.lp LP.TAP_MAX) ∧ c.far ≤ sq (s.lp LP.TAP_MOVE))
  let t :=
    if u.plain ∧ c.plays ∧ c.alone ∧ !c.long' then
      if taps then s.tapMade g c else if s.isSecond c then s else s.swipe g c
    else s
  if s.isSecond c then t.setLib (fun l => { l with tapSec := none }) else t

/-- The beginning of a contact as gestures see it: it may be the second of a double tap (R257). -/
def State.downGesture (s : State) (c : Contact) : State :=
  let now := s.fsn.time
  let tap (t : Tap) : Bool := withinMs (now - t.up).toNat (s.lp LP.DTAP_GAP) &&
    decide (dist2 c.dx c.dy t.dx t.dy ≤ sq (s.lp LP.DTAP_DIST))
  match s.lib.taps.find? tap with
  | some t =>
    if c.plays && c.alone then
      s.setLib (fun l => { l with taps := l.taps.filter (fun u => u != t), tapSec := some (c.id, t) })
    else s
  | none => s

/-- Contact `a` began before contact `c`, which began in this frame; of two that began in it, the lower ID. -/
def Contact.before (a c : Contact) : Bool := c.state = 1 && a.id != c.id && (a.state != 1 || decide (a.id < c.id))

/-- Two contacts as a pair, the first DOWN first; the midpoint in 1/128 node. -/
def duoOf (a c : Contact) : Duo :=
  ⟨a.id, c.id, a.px + c.px, a.py + c.py, a.dT, distRound (dist2 a.px a.py c.px c.py), 0⟩

/-- The pairs that the contacts which begin in a frame make: for TAP2 each pair within TAP2_SKEW, with a contact already
lifted too, whose last position counts (log entry 21); for a pinch the only two contacts; a further DOWN ends a pinch
(Table 8.1, R255). -/
def State.libDuos (s : State) : State :=
  let l := s.lib.contacts
  let near (t : BitVec 32) : Bool := withinMs (s.since t) (s.lp LP.TAP2_SKEW)
  let gone := s.lib.gone.filter (fun a => near a.dT)
  let late := gone.flatMap (fun a => (l.filter (fun c => c.state = 1 && c.plays)).map (fun c => { duoOf a c with up := 1 }))
  let pairs := l.flatMap (fun a => (l.filter (fun c => a.before c && a.plays && c.plays)).map (duoOf a))
  let pinch := if l.any (fun c => c.state = 1) then (if l.length = 2 then pairs.head? else none) else s.lib.pinch
  s.setLib (fun l => { l with
    tap2 := l.tap2 ++ pairs.filter (fun d => near d.dT) ++ late, gone := gone, pinch := pinch })

/-- A contact that stays: LONG; not the second of a double tap (R257). -/
def State.longGesture (s : State) (g : Grid) (c : Contact) : State :=
  let dur := s.since c.dT
  if c.plays ∧ c.alone ∧ !c.long' ∧ !s.isSecond c ∧ c.far ≤ sq (s.lp LP.TAP_MOVE) ∧ reachesMs dur (s.lp LP.LONG_MS) then
    (s.gesture g 13 3 c.dx c.dy c.id 0xFF dur 0).putContact { c with long' := true }
  else s

/-- A pinch in progress, while its two contacts are the only ones and take part in gestures; a PINCH record restarts its
separation (R255, R256). -/
def State.pinchGesture (s : State) (g : Grid) : State :=
  match s.lib.pinch with
  | some d =>
    match s.lib.contacts.find? (fun c => c.id = d.a), s.lib.contacts.find? (fun c => c.id = d.b) with
    | some a, some b =>
      let e := distRound (dist2 a.px a.py b.px b.py)
      let k := s.lp LP.PINCH_RATIO
      let go (sub : Nat) : State :=
        if s.fsn.flag Reg.GEST_EN 10 then
          (s.gestureDuo g 10 sub d e).setLib (fun l => { l with pinch := some { d with d0 := e } })
        else s
      if s.lib.contacts.length ≠ 2 ∨ !a.plays ∨ !b.plays then s
      else if e < d.d0 ∧ e * k ≤ d.d0 * 16 then go 9
      else if d.d0 < e ∧ d.d0 * k ≤ e * 16 then go 10
      else s
    | _, _ => s
  | none => s

/-- The palm region of the frame before that a palm region continues: the nearest within TRACK_GATE (log entry 21). -/
def State.palmNear (s : State) (old : List Palm) (r : Region) : Option Palm :=
  let d (p : Palm) : Nat := dist2 p.px p.py r.px r.py
  (old.filter (fun p => decide (d p ≤ sq (s.lp LP.TRACK_GATE)))).foldl (fun b p => match b with
    | some q => if d p < d q then some p else b
    | none => some p) none

/-- One palm region: PALM_COVER in the frame in which it has persisted for COVER_MS (Table 8.1). -/
def State.palmRegion (s : State) (g : Grid) (old : List Palm) (r : Region) : List Palm × State :=
  match s.palmNear old r with
  | none => (old, s.setLib (fun l => { l with palms := l.palms ++ [⟨r.px, r.py, s.fsn.time, false⟩] }))
  | some p =>
    let go := !p.done && reachesMs (s.since p.t0) (s.lp LP.COVER_MS)
    let id := match s.lib.contacts.find? (fun c => c.kind = .palm && c.nodes == r.nodes) with
      | some c => c.id
      | none => 0xFF
    let t := if go then s.gesture g 9 0x0B (64 * g.x r.peak) (64 * g.y r.peak) id 0xFF (s.since p.t0) 0 else s
    (old.filter (· != p), t.setLib (fun l => { l with palms := l.palms ++ [⟨r.px, r.py, p.t0, p.done || go⟩] }))

/-- The palm regions of a frame. -/
def State.palmGesture (s : State) (g : Grid) (cl : List Class) : State :=
  let rs := (List.range cl.length).filterMap (fun i => if nth cl i .none = .palm then s.lib.regions[i]? else none)
  (rs.foldl (fun (t : List Palm × State) r => t.2.palmRegion g t.1 r)
    (s.lib.palms, s.setLib (fun l => { l with palms := [] }))).2

/-- TAPs whose gap has passed (R257). -/
def State.tapExpiry (s : State) (g : Grid) : State :=
  let late (t : Tap) : Bool := !withinMs (s.since t.up) (s.lp LP.DTAP_GAP)
  let s' := (s.lib.taps.filter late).foldl (fun u t =>
    u.gesture g 15 1 t.dx t.dy t.id 0xFF (t.up - t.dT).toNat 0) s
  s'.setLib (fun l => { l with taps := l.taps.filter (fun t => !late t) })

/-- No other contact exists beside a contact: each is marked; the hover that a contact lifts to is the same contact
(R236, R256). -/
def State.markAlone (s : State) : State :=
  let l := s.lib
  let next (u : Ended) (c : Contact) : Bool := c.id == u.c.id && c.state = 7
  let here (c : Contact) : Bool := l.contacts.length = 1 && l.ended.all (fun u => next u c)
  let gone (u : Ended) : Bool := l.ended.length = 1 && l.contacts.all (next u)
  s.setLib (fun l => { l with
    contacts := l.contacts.map (fun c : Contact => { c with alone := c.alone && here c }),
    ended := l.ended.map (fun u : Ended => { u with c := { u.c with alone := u.c.alone && gone u } }) })

/-- Nothing of a gesture in progress is kept (R258). -/
def State.dropGestures (s : State) : State :=
  s.setLib (fun l => { l with taps := [], tapSec := none, tap2 := [], gone := [], pinch := none, palms := [] })

/-- The gestures of a frame; a stale frame completes none (R258). -/
def State.libGestures (s : State) (g : Grid) (cl : List Class) : State :=
  if s.lib.wetLock || !s.lib.trackOn then s.dropGestures
  else if s.lib.stale then s
  else
    let s := s.markAlone
    let s := s.lib.ended.foldl (fun t u => t.upGesture g u) s
    let s := ((s.lib.contacts.filter (fun c => c.state = 1)).foldl State.downGesture s).libDuos
    let s := s.lib.contacts.foldl (fun t c => t.longGesture g c) s
    ((s.pinchGesture g).palmGesture g cl).tapExpiry g

/-! ### Wake confirmation (R272) -/

/-- The frame can judge: it gives a mutual and a self image, and is neither stale nor a capture frame. -/
def State.canJudge (s : State) (g : Grid) : Bool :=
  !s.lib.capNow && !s.lib.stale && !s.fsn.segment.isEmpty && g.pins.any (fun p => (s.fsn.selfEntry p).isSome)

/-- What the frame's commit does with the pending wake. -/
def State.wakeResult (s : State) (r : WakeRes) : State := s.setLib (fun l => { l with wakeRes := some r })

/-- The judgement of a Geyser wake; WET_LOCK and a disabled TRACK give no gesture (R250, R258). -/
def State.judgeWake (s : State) (g : Grid) (cl : List Class) : State :=
  let kind := s.fsn.fld Reg.GEYSER_THR 2 2
  let touch := s.lib.regions.any (fun r => s.classNew r = .finger || s.classNew r = .glove)
  if !s.wetArea g cl && !s.submerged g && !cl.any (· = .palm) && (kind != 3 || touch) then
    let r := recOf (header 3 (0x1F + kind)) 0 0 0 0 0xFFFF 0 (word s.lib.rejects)
    let s := if s.fsn.flag Reg.GEST_EN 8 && s.lib.trackOn && !s.lib.wetLock then
               s.setLib (fun l => { l with gests := l.gests ++ [r] })
             else s
    (s.setLib (fun l => { l with gwake := true })).wakeResult .confirm
  else s.wakeResult .reject

/-- A Geyser wake waits for a committed frame that can judge it, for at most 16 committed frames; a later wake, before
which MAIN was in SLEEP, ends the wait (R270). -/
def State.libWake (s : State) (g : Grid) (cl : List Class) : State :=
  let n := s.fsn.fld Reg.WAKE_SRC 0 8
  let woke := n != s.lib.wakeCnt
  let fresh := woke && s.fsn.flag Reg.WAKE_SRC 15 && s.fsn.fld Reg.GEYSER_THR 2 2 != 0
  let s := s.setLib (fun l =>
    let wait := if fresh then some 16 else if woke then none else l.wakeWait
    { l with wakeCnt := n, gwake := false, wakePend := wait.isSome, wakeWait := wait })
  match s.lib.wakeWait with
  | some k =>
    if s.canJudge g then s.judgeWake g cl else s.wakeResult (if k ≤ 1 then .reject else .wait)
  | none => s

/-! ### Noise and the hop pair (R251) -/

/-- The noise of detector k by the frame's snapshot (R33): the magnitude of a block that completed without a dirty
sample in the frame that ended with the snapshot; words that all read 0 are those of a detector that has completed none
(log entry 49). -/
def State.detNoise (s : State) (k : Nat) : Option Int :=
  let w (i : Nat) : Nat := (s.fsn.tab Win.GOERTZEL (8 * k + i)).toNat
  let ran := word (w 6) = s.cald.fc - 1 && (w 4 + w 5 + w 6 + w 7 != 0)
  if ran && !s.fsn.flag Reg.GOERTZEL_STAT (4 + k) then some ((w 4 * 65536 + w 5 : Nat) : Int) else none

/-- The pair that detector k stands for. -/
def State.hopOf (s : State) (k : Nat) : Nat := (s.lp LP.HOP_MAP >>> (4 * k)) % 16

/-- The choice of a hop pair. -/
def State.libHop (s : State) : State :=
  let cur := s.fsn.fld Reg.SEQ_STAT 11 2 * 4 + s.fsn.fld Reg.SEQ_STAT 9 2
  let good (k : Nat) : Bool := match s.detNoise k, s.lib.noise with
    | some n, some c => s.hopOf k != 15 && s.hopOf k != cur && decide (n * s.lp LP.HOP_RATIO < 16 * c)
    | _, _ => false
  let run := (List.range 4).map (fun k => if good k then nth s.lib.hopRun k 0 + 1 else 0)
  let dwell := if cur = s.lib.hopLast then s.lib.hopDwell + 1 else 1
  let ok := (List.range 4).filter (fun k => decide (s.lp LP.HOP_FR ≤ nth run k 0))
  let better (a b : Nat) : Bool := match s.detNoise a, s.detNoise b with
    | some m, some n => decide (m < n) || (m == n && decide (s.hopOf a < s.hopOf b))
    | _, _ => false
  let best := ok.foldl (fun b k => match b with
    | some j => if better k j then some k else b
    | none => some k) none
  let pub := if s.lp LP.HOP_DWELL ≤ dwell ∧ !s.fsn.flag Reg.SYNC_STAT 15 then best.map s.hopOf else none
  s.setLib (fun l => { l with hopRun := run, hopDwell := dwell, hopLast := cur, hopPub := pub })

/-! ### Records (R249, Tables 9.1 to 9.8) -/

/-- A contact as its record shows it: at its end, and in a stale frame, with the values of its last record (Table 9.2,
R246). -/
def State.asTold (s : State) (c : Contact) (code : Nat) : Contact :=
  if s.lib.stale || decide (4 ≤ code) then { c with kind := c.tKind, str := c.tStr, area := c.tArea } else c

/-- A contact's record; its flags STALE of its own and SUSPECT (Table 9.2). -/
def State.contactRec (s : State) (g : Grid) (c : Contact) (code : Nat) (stale : Bool) : Rec :=
  let c := s.asTold c code
  let p := s.scaled g c.rx c.ry
  let k := match c.kind with
    | .finger => 0
    | .glove => 1
    | .palm => 2
    | .hover => 3
  let h := header 1 (code * 16 + c.id + bitAt 9 c.suspect + bitAt 11 (stale || c.kept))
  recOf h 0 0 (word p.1) (word p.2) (word c.str) (word (k * 16384 + c.area)) (word (if code = 1 then 0 else c.age))

/-- A contact is reported in the frame (R232, R237, R246). -/
def State.reports (s : State) (c : Contact) : Bool :=
  s.shows c.kind && c.state != 0 && c.state != 7 &&
    (s.lib.stale || !s.fsn.flag Reg.TOUCH_CTL 9 || c.state != 3 || decide (s.lp LP.HOLD_RPT ≤ c.quiet + 1))

/-- The ends of the frame that are reported, for an ID. -/
def State.endsOf (s : State) (i : Nat) : List Ended := s.lib.ended.filter (fun u => u.c.id = i && s.shows u.c.kind)

/-- The CONTACT records of the frame in ascending ID, an end before a begin of the same ID. -/
def State.contactRecs (s : State) (g : Grid) : List Rec :=
  (List.range 10).flatMap (fun i =>
    (s.endsOf i).map (fun u => s.contactRec g u.c u.code u.stale) ++
    (s.lib.contacts.filter (fun c => c.id = i && s.reports c)).map (fun c => s.contactRec g c c.state false))

/-- The frame's flags in a record's header. -/
def State.frameFlags (s : State) : Word :=
  word (bitAt 11 s.lib.stale + bitAt 10 s.lib.wet + bitAt 8 s.lib.settle)

/-- TOUCH_STAT as the frame publishes it (Table 7.8). -/
def State.touchStat (s : State) : Word :=
  let l := s.lib
  word (bitAt 15 l.puTouch + bitAt 14 l.wet + bitAt 13 l.wetLock + bitAt 12 (s.gloveHolds) + bitAt 11 l.stale +
    bitAt 10 (l.capNow || decide (0 < l.capLeft)) + bitAt 9 l.more + bitAt 8 l.noSig +
    bitAt 7 (!l.marks.isEmpty) + min 10 l.nCont)

/-- Gesture records in ascending SUB. -/
def sortSub (l : List Rec) : List Rec := sortDesc (fun (r : Rec) => -(((r.get 0).toNat % 256 : Nat) : Int)) l

/-- The frame's records in the order of R249. -/
def State.libRecords (s : State) (g : Grid) : List Rec :=
  let cs := s.contactRecs g
  let gs := sortSub s.lib.gests
  let flag (r : Rec) : Rec := r.set 0 (r.get 0 ||| s.frameFlags)
  let n := cs.length + s.lib.keyRecs.length + gs.length
  let t := s.fsn.time.toNat
  let frame := recOf (header 7 0) 0 0 s.touchStat s.lib.pressed
    (word (min 255 n * 256 + min 255 s.lib.status.length)) (word (t / 65536)) (word t)
  let all := s.lib.status ++ cs ++ s.lib.keyRecs ++ gs ++
    (if s.fsn.flag Reg.TOUCH_CTL 8 && 0 < n then [frame] else [])
  all.map flag

/-- Contacts and keys end as TRACK is reset or disabled; a reset also ends WET and automatic glove mode, with their STATUS
records, and begins a full capture with the next frame (R243, R245, R250). -/
def State.libTrackEnd (s : State) (g : Grid) (reset : Bool) : State :=
  let s := ((s.endAll true).releaseKeys g 3).setLib (fun l => { l with
    waiting := [], puNew := l.puNew && l.capNow && !reset, puSay := l.puSay && l.capNow && !reset,
    susNodes := if l.puSay && !(l.capNow && !reset) then [] else l.susNodes })
  if reset then
    let s := if s.lib.wet then s.addStatus (statusRec 3 0 0 0) else s
    let s := if s.lib.glove && s.gloveMode != 2 then s.addStatus (statusRec 5 0 0 0) else s
    s.setLib (fun l => { l with wet := false, wetLock := false, wetOn := 0, wetOff := 0, submOn := 0,
                                glove := s.gloveMode = 2, puTouch := false, susNodes := [], trackNow := false,
                                capNext := true })
  else s

/-- EMIT, library form, before its records leave: contacts, keys, gestures, the wake, the hop pair. -/
def State.libFrame (s : State) (g : Grid) : State :=
  let s := s.setLib (fun l => { l with
    stage := 2, ended := [], status := [], keyRecs := [], gests := [], more := false,
    idFree := l.idFree.map (fun n => min 15 (n + 1)) })
  let en := s.fsn.flag Reg.FUNC_EN 4
  let reset := s.lib.trackNow
  let s := if reset || (s.lib.trackOn && !en) then s.libTrackEnd g reset else s
  let s := s.setLib (fun l => { l with trackOn := en })
  let cl := s.classes s.pairing
  let s :=
    if s.lib.capNow then (s.setLib (fun l => { l.noCounts with pressed := 0 })).dropGestures
    else if reset then s
    else
      let t := s.libContacts g
      let t := if en then t.libKeys g else t.setLib Lib.noCounts
      t.libGestures g cl
  let gone := (s.lib.ended.filter (fun u => u.code = 5)).flatMap (fun u => u.c.nodes)
  let palms := (List.range cl.length).flatMap (fun i => if nth cl i .none = .palm then (match s.lib.regions[i]? with
    | some r => r.nodes.filter (fun n => !gone.contains n)
    | none => []) else [])
  let s := (s.libPowerup.libFreeze g palms).libWake g cl
  let s := s.libHop
  s.setLib (fun l => { l with nCont := (s.contactRecs g).length })

/-- A contact after the frame's records have left: what it has told, and how long it has told nothing (R237). -/
def State.afterRecord (s : State) (c : Contact) : Contact :=
  if !s.reports c then { c with quiet := c.quiet + 1 }
  else if s.lib.stale then { c with quiet := 0 }
  else { c with quiet := 0, tKind := c.kind, tStr := c.str, tArea := c.area }

/-- What the contacts are after the frame's records have left (R228, R237). -/
def State.libCounted (s : State) : State :=
  s.setLib (fun l => { l with contacts := l.contacts.map (fun c => l.clears (s.afterRecord c)) })

/-- The ring entry of a contact (Table 9.15, R297). -/
def State.ringEntry (s : State) (g : Grid) (c : Contact) (code : Nat) : Vector Word 4 :=
  let p := s.scaled g c.rx c.ry
  #v[0, word (c.id * 4096 + code * 512 + min 511 (c.str / 16)), word p.1, word p.2]

/-- The ring entries of a frame that is not stale: one for each reported contact that exists, in ascending ID; a contact
missing in the frame keeps its last values and state STAY (R235, R297). -/
def State.ringEntries (s : State) (g : Grid) : List (Vector Word 4) :=
  if s.lib.stale then []
  else (List.range 10).flatMap (fun i =>
    (s.endsOf i).map (fun u => s.ringEntry g u.c u.code) ++
    (s.lib.contacts.filter (fun c => c.id = i && s.shows c.kind && c.state != 7)).map
      (fun c => s.ringEntry g c (if c.state = 0 then 3 else c.state)))

/-- The library's publications of the frame: target and value (R253, R251, R252, R272). -/
def State.libPubs (s : State) : List (Nat × Word) :=
  [(0x31, s.touchStat), (0x32, s.lib.pressed)] ++ (if s.lib.capEnd then [(0x2F, (0 : Word))] else []) ++
    (if s.lib.gwake then [(0x03, (0x4000 : Word))] else []) ++ (match s.lib.hopPub with
    | some p => [(0x80, word p)]
    | none => [])

/-- The library's vote of the frame, if it issues one; a rejected wake's clear comes in the frame after the rejection
(R248, R272). -/
def State.libVote (s : State) : Option Bool × State :=
  let l := s.lib
  let now := s.fsn.time
  let busy := (!l.stale && l.contacts.any (fun c => s.shows c.kind)) || l.pressed != 0
  if busy || l.wokeNow || l.wakePend then
    (some true, s.setLib (fun l => { l with tVote := now, voted := true, dropVote := false }))
  else if l.dropVote then
    (some false, s.setLib (fun l => { l with voted := false, dropVote := false }))
  else if l.voted && decide (s.lp LP.IDLE_TIMEOUT * 32768 ≤ (now - l.tVote).toNat) then
    (some false, s.setLib (fun l => { l with voted := false }))
  else (none, s)

end Sys2Proof.Machine
end

