-- ==== Sys2Proof/Machine/Transfer.lean ====
section
/-! DEFINITION. Meanings of the instructions that give values out of a cell or take data in from DMEM: LD, ST, PUB, VOTE,
EMIT and ERING, in their own form and in the default library's (Table 6.4, R181, R183, R212; log entry 9). -/

namespace Sys2Proof.Machine

/-- The library's code of the frame stands where a command may run it: a library image, an open frame, the stage. -/
def State.libAt (s : State) (c : CellId) (stage : Nat) : Bool := s.issues c && s.lib.on && s.lib.stage == stage

/-- The library's loads of the frame in cell c: they check the status and the words of every row they read, and release
the rows with the loads that are the last (R26, R28). -/
def State.libRead (s : State) : State :=
  let rows := s.libRows
  let s := if rows.all s.rowPasses then s else s.setDiscard
  let errs := s.fmon.memErrs.filter (fun e => e.mem == .result && rows.contains (e.addr / 161))
  let s := (errs.foldl (fun t e => (t.cellRead .result e.addr).2) s).libLoad
  { s with rowHeld := s.rowHeld.filter (fun r => !rows.contains r) }

/-- LD; the library's loads wait until the rows that they read are complete (R18). -/
def execLd (c : CellId) (f : LdForm) (s : State) : Host.Outcome State Fault Refusal :=
  .next (match f with
    | .code p d b idx addr =>
      if s.runs c (.ld c f) then
        let t := s.fetchErr c
        let x := t.cell c
        if x.holds p then
          let r := t.loadData c (effAddr x b idx addr)
          r.2.setCell c (((r.2.cell c).put d r.1).advance)
        else t.cellAdvance c
      else s
    | .library =>
      if s.libAt c 0 then (if s.libRows.all s.rowComplete then s.libRead else s.cellBlock c .library) else s)

/-- WAIT_ENTRY_COMPLETE: what cell c waits for is complete; its WAIT_ENTRY, INTAKE or library loads complete (R18,
R182). -/
def execWaitEntryComplete (c : CellId) (s : State) : Host.Outcome State Fault Refusal :=
  .next (
    if s.mainUp && s.cald.isOpen then
      match (s.cell c).st with
      | .waitRow r => if s.rowComplete r then s.cellAdvance c else s
      | .intake r w d rel signed => if s.rowComplete r then s.intakeDone c r w d rel signed else s
      | .library => if s.libRows.all s.rowComplete then s.libRead.cellBlock c .run else s
      | _ => s
    else s)

/-- ST: the address and the data leave the cell (R197). -/
def execSt (c : CellId) (p : Pred) (a b : XReg) (idx : Bool) (addr : BitVec 12) (s : State) :
    Host.Outcome State Fault Refusal :=
  .next (s.cellAct c (.st c p a b idx addr) p (fun s =>
    let x := s.cell c
    let r := s.token c [(0xFFF, BitVec.ofNat 24 (effAddr x b idx addr)), (0xFFFFFF, x.get a)]
    let e := (nth r.1 0 0).toNat
    (r.2.rewrite (.dmem (s.cald.map.get c)) e).dmemWrite (s.phys c) e (nth r.1 1 0)))

/-- Stage a publication: the last one of a cell to a target counts (R183). -/
def State.stagePub (s : State) (c : CellId) (target : Nat) (v : Word) : State :=
  let r := s.token c [(0xFFFF, v.setWidth 24)]
  let l := r.2.cald.pubs.filter (fun p => p.1 != c.val || p.2.1 != target)
  { r.2 with cald := { r.2.cald with pubs := l ++ [(c.val, target, (nth r.1 0 0).setWidth 16)] } }

/-- PUB. -/
def execPub (c : CellId) (f : PubForm) (s : State) : Host.Outcome State Fault Refusal :=
  .next (match f with
    | .code p a imm => s.cellAct c (.pub c f) p (fun s => s.stagePub c (imm.toNat % 256) (((s.cell c).get a).setWidth 16))
    | .library =>
      if s.issues c && s.lib.on && decide (2 ≤ s.lib.stage) then
        s.libPubs.foldl (fun t p => t.stagePub c p.1 p.2) s
      else s)

/-- Stage a VOTE setting: the last one of a cell counts (R183). -/
def State.stageVote (s : State) (c : CellId) (v : Bool) : State :=
  let r := s.token c [(1, BitVec.ofNat 24 v.toNat)]
  { r.2 with cald := { r.2.cald with
      votes := r.2.cald.votes.filter (fun p => p.1 != c.val) ++ [(c.val, (nth r.1 0 0).getLsbD 0)] } }

/-- VOTE. -/
def execVote (c : CellId) (f : VoteForm) (s : State) : Host.Outcome State Fault Refusal :=
  .next (match f with
    | .code p imm => s.cellAct c (.vote c f) p (fun s => s.stageVote c (imm.getLsbD 0))
    | .library =>
      if s.issues c && s.lib.on && s.lib.stage == 3 then
        let v := s.libVote
        match v.1 with
        | some b => v.2.stageVote c b
        | none => v.2
      else s)

/-- The words of a record or ring entry leave a cell as one token. -/
def State.emitWords (s : State) (c : CellId) (ws : List Word) : List Word × State :=
  let r := s.token c (ws.map (fun w => (0xFFFF, w.setWidth 24)))
  (r.1.map (BitVec.setWidth 16), r.2)

/-- The emit port writes a record as uncommitted: word 1 is the frame counter, word 2 the AON time (R181). -/
def State.emitRec (s : State) (c : CellId) (ws : List Word) : State :=
  let r := s.emitWords c ws
  let w (i : Nat) : Word := nth r.1 i 0
  r.2.pushRec (recOf (w 0) s.cald.fc s.time16 (w 3) (w 4) (w 5) (w 6) (w 7))

/-- EMIT: a false condition gives a null token (R181). -/
def execEmit (c : CellId) (f : EmitForm) (s : State) : Host.Outcome State Fault Refusal :=
  .next (match f with
    | .code p addr => s.cellEmit c (.emit c f) p (fun s =>
        let r := s.loadWords c addr.toNat 8
        r.2.emitRec c r.1)
    | .library =>
      if s.libAt c 1 then
        let g := s.fsn.grid
        let t := s.libFrame g
        ((t.libRecords g).foldl (fun u r => u.emitRec c r.toList) t).libCounted
      else s)

/-- Entries are taken: RING_CTL.EN of the frame, and the RING function, whose disable lets a frame that is open go on
(R297, R361). -/
def State.ringTakes (s : State) : Bool := s.fsn.flag Reg.RING_CTL 15 && (s.flag Reg.FUNC_EN 6 || s.cald.ringOn)

/-- The emit port stages a ring entry: word 0 is the frame counter (R181). -/
def State.emitRing (s : State) (c : CellId) (ws : List Word) : State :=
  let r := s.emitWords c ws
  let w (i : Nat) : Word := nth r.1 i 0
  if s.ringTakes then
    { r.2 with cald := { r.2.cald with ring := r.2.cald.ring ++ [#v[s.cald.fc, w 1, w 2, w 3]] } }
  else r.2

/-- ERING: a false condition gives a null token (R181). -/
def execEring (c : CellId) (f : EmitForm) (s : State) : Host.Outcome State Fault Refusal :=
  .next (match f with
    | .code p addr => s.cellEmit c (.ering c f) p (fun s =>
        let r := s.loadWords c addr.toNat 4
        r.2.emitRing c r.1)
    | .library =>
      if s.libAt c 2 then
        let g := s.fsn.grid
        let t := s.setLib (fun l => { l with stage := 3 })
        (s.ringEntries g).foldl (fun u e => u.emitRing c e.toList) t
      else s)

end Sys2Proof.Machine
end

