-- ==== Sys2Proof/Machine/Dispatch.lean ====
section
/-! DEFINITION. The dispatch: one arm per command, each a call of that command's meaning. -/

namespace Sys2Proof.Machine

/-- The effect of a command on everything but the queue of commands. -/
def exec (i : Instr) (s : State) : Host.Outcome State Fault Refusal :=
  match i with
  | .powerOnReset e st => Sys2Proof.Machine.execPowerOnReset e st s
  | .vioLow => Sys2Proof.Machine.execVioLow s
  | .vioRestored => Sys2Proof.Machine.execVioRestored s
  | .rstNReset lowNs st => Sys2Proof.Machine.execRstNReset lowNs st s
  | .xtalSwitch => Sys2Proof.Machine.execXtalSwitch s
  | .frameTimerExpiry => Sys2Proof.Machine.execFrameTimerExpiry s
  | .slipFrameStart => Sys2Proof.Machine.execSlipFrameStart s
  | .entryBoundary => Sys2Proof.Machine.execEntryBoundary s
  | .entryStart => Sys2Proof.Machine.execEntryStart s
  | .dsyncEdge e => Sys2Proof.Machine.execDsyncEdge e s
  | .syncTimeoutExpiry => Sys2Proof.Machine.execSyncTimeoutExpiry s
  | .spillCheck => Sys2Proof.Machine.execSpillCheck s
  | .driveChip u => Sys2Proof.Machine.execDriveChip u s
  | .cadencePeriod h edge q => Sys2Proof.Machine.execCadencePeriod h edge q s
  | .cicOutput => Sys2Proof.Machine.execCicOutput s
  | .resamplerOutput n => Sys2Proof.Machine.execResamplerOutput n s
  | .fadeComplete => Sys2Proof.Machine.execFadeComplete s
  | .goertzelBlockDone k => Sys2Proof.Machine.execGoertzelBlockDone k s
  | .rowWrite racing => Sys2Proof.Machine.execRowWrite racing s
  | .hkConversionDone ch v => Sys2Proof.Machine.execHkConversionDone ch v s
  | .pumpReady => Sys2Proof.Machine.execPumpReady s
  | .pumpLow => Sys2Proof.Machine.execPumpLow s
  | .dpllLock refHz => Sys2Proof.Machine.execDpllLock refHz s
  | .dpllUnlock c => Sys2Proof.Machine.execDpllUnlock c s
  | .calderaFrameOpen => Sys2Proof.Machine.execCalderaFrameOpen s
  | .paceSample v => Sys2Proof.Machine.execPaceSample v s
  | .vcoreStepDone => Sys2Proof.Machine.execVcoreStepDone s
  | .nop c p => Sys2Proof.Machine.execNop c p s
  | .add c p d a b => Sys2Proof.Machine.execAdd c p d a b s
  | .sub c p d a b => Sys2Proof.Machine.execSub c p d a b s
  | .addi c p d a imm => Sys2Proof.Machine.execAddi c p d a imm s
  | .adds c p d a b => Sys2Proof.Machine.execAdds c p d a b s
  | .subs c p d a b => Sys2Proof.Machine.execSubs c p d a b s
  | .min c p d a b => Sys2Proof.Machine.execMin c p d a b s
  | .max c p d a b => Sys2Proof.Machine.execMax c p d a b s
  | .abs c p d a => Sys2Proof.Machine.execAbs c p d a s
  | .and c p d a b => Sys2Proof.Machine.execAnd c p d a b s
  | .or c p d a b => Sys2Proof.Machine.execOr c p d a b s
  | .xor c p d a b => Sys2Proof.Machine.execXor c p d a b s
  | .shl c p d a b => Sys2Proof.Machine.execShl c p d a b s
  | .shr c p d a b => Sys2Proof.Machine.execShr c p d a b s
  | .sar c p d a b => Sys2Proof.Machine.execSar c p d a b s
  | .shli c p d a imm => Sys2Proof.Machine.execShli c p d a imm s
  | .sari c p d a imm => Sys2Proof.Machine.execSari c p d a imm s
  | .mov c p d a => Sys2Proof.Machine.execMov c p d a s
  | .movi c p d imm => Sys2Proof.Machine.execMovi c p d imm s
  | .plt c p d a b => Sys2Proof.Machine.execPlt c p d a b s
  | .ple c p d a b => Sys2Proof.Machine.execPle c p d a b s
  | .peq c p d a b => Sys2Proof.Machine.execPeq c p d a b s
  | .pne c p d a b => Sys2Proof.Machine.execPne c p d a b s
  | .pand c p d a b => Sys2Proof.Machine.execPand c p d a b s
  | .pnot c p d a => Sys2Proof.Machine.execPnot c p d a s
  | .clra c p d => Sys2Proof.Machine.execClra c p d s
  | .mul c p d a b => Sys2Proof.Machine.execMul c p d a b s
  | .mac c p d a b => Sys2Proof.Machine.execMac c p d a b s
  | .msu c p d a b => Sys2Proof.Machine.execMsu c p d a b s
  | .racc c p d a imm => Sys2Proof.Machine.execRacc c p d a imm s
  | .ld c f => Sys2Proof.Machine.execLd c f s
  | .st c p a b idx addr => Sys2Proof.Machine.execSt c p a b idx addr s
  | .getr c p d imm => Sys2Proof.Machine.execGetr c p d imm s
  | .getw c p d b code idx addr => Sys2Proof.Machine.execGetw c p d b code idx addr s
  | .pub c f => Sys2Proof.Machine.execPub c f s
  | .intake c d b rel idx row word => Sys2Proof.Machine.execIntake c d b rel idx row word s
  | .intakes c d b rel idx row word => Sys2Proof.Machine.execIntakes c d b rel idx row word s
  | .send c a dir => Sys2Proof.Machine.execSend c a dir s
  | .recv c d dir => Sys2Proof.Machine.execRecv c d dir s
  | .channelPairComplete c dir => Sys2Proof.Machine.execChannelPairComplete c dir s
  | .emit c f => Sys2Proof.Machine.execEmit c f s
  | .ering c f => Sys2Proof.Machine.execEring c f s
  | .wht c p d a b => Sys2Proof.Machine.execWht c p d a b s
  | .sort c p a b => Sys2Proof.Machine.execSort c p a b s
  | .med3 c p d a b => Sys2Proof.Machine.execMed3 c p d a b s
  | .loop c count last => Sys2Proof.Machine.execLoop c count last s
  | .vote c f => Sys2Proof.Machine.execVote c f s
  | .waitEntry c entry => Sys2Proof.Machine.execWaitEntry c entry s
  | .waitEntryComplete c => Sys2Proof.Machine.execWaitEntryComplete c s
  | .frameEnd c => Sys2Proof.Machine.execFrameEnd c s
  | .frameDeadline => Sys2Proof.Machine.execFrameDeadline s
  | .stallTimeout c => Sys2Proof.Machine.execStallTimeout c s
  | .takeoverCopyDone => Sys2Proof.Machine.execTakeoverCopyDone s
  | .cellSelfTestDone => Sys2Proof.Machine.execCellSelfTestDone s
  | .insertPush => Sys2Proof.Machine.execInsertPush s
  | .rptDataRead => Sys2Proof.Machine.execRptDataRead s
  | .streamRead p n => Sys2Proof.Machine.execStreamRead p n s
  | .streamResume n => Sys2Proof.Machine.execStreamResume n s
  | .streamStallTimeout n => Sys2Proof.Machine.execStreamStallTimeout n s
  | .rptFlush => Sys2Proof.Machine.execRptFlush s
  | .rptClrgap => Sys2Proof.Machine.execRptClrgap s
  | .ringMark => Sys2Proof.Machine.execRingMark s
  | .ringRewind => Sys2Proof.Machine.execRingRewind s
  | .ringClear => Sys2Proof.Machine.execRingClear s
  | .ringRdWrite v => Sys2Proof.Machine.execRingRdWrite v s
  | .spiRegisterRead h n => Sys2Proof.Machine.execSpiRegisterRead h n s
  | .spiRegisterWrite h ws => Sys2Proof.Machine.execSpiRegisterWrite h ws s
  | .spiWindowRead h n => Sys2Proof.Machine.execSpiWindowRead h n s
  | .spiWindowWrite h ws => Sys2Proof.Machine.execSpiWindowWrite h ws s
  | .spiStatus h n => Sys2Proof.Machine.execSpiStatus h n s
  | .spiWake h => Sys2Proof.Machine.execSpiWake h s
  | .hcsNRise cut => Sys2Proof.Machine.execHcsNRise cut s
  | .i2cPointerWrite h crc => Sys2Proof.Machine.execI2cPointerWrite h crc s
  | .i2cDataWrite ws => Sys2Proof.Machine.execI2cDataWrite ws s
  | .i2cDataRead r => Sys2Proof.Machine.execI2cDataRead r s
  | .i2cStop e => Sys2Proof.Machine.execI2cStop e s
  | .i2cStretchRelease => Sys2Proof.Machine.execI2cStretchRelease s
  | .i2cStretchTimeout => Sys2Proof.Machine.execI2cStretchTimeout s
  | .winDataAccess rd v => Sys2Proof.Machine.execWinDataAccess rd v s
  | .portVoteRelease => Sys2Proof.Machine.execPortVoteRelease s
  | .registerWrite a v => Sys2Proof.Machine.execRegisterWrite a v s
  | .clkCtlWrite v => Sys2Proof.Machine.execClkCtlWrite v s
  | .wakeTimerWrite v => Sys2Proof.Machine.execWakeTimerWrite v s
  | .sysReset v st => Sys2Proof.Machine.execSysReset v st s
  | .schedLoad => Sys2Proof.Machine.execSchedLoad s
  | .loadModeEnter => Sys2Proof.Machine.execLoadModeEnter s
  | .schedCommit => Sys2Proof.Machine.execSchedCommit s
  | .schedAbort => Sys2Proof.Machine.execSchedAbort s
  | .funcResetLanes => Sys2Proof.Machine.execFuncResetLanes s
  | .funcResetFilters => Sys2Proof.Machine.execFuncResetFilters s
  | .funcResetSeq => Sys2Proof.Machine.execFuncResetSeq s
  | .funcResetCaldera => Sys2Proof.Machine.execFuncResetCaldera s
  | .funcResetTrack => Sys2Proof.Machine.execFuncResetTrack s
  | .funcResetQueue => Sys2Proof.Machine.execFuncResetQueue s
  | .funcResetRing => Sys2Proof.Machine.execFuncResetRing s
  | .funcResetNvmctl => Sys2Proof.Machine.execFuncResetNvmctl s
  | .funcResetHostport => Sys2Proof.Machine.execFuncResetHostport s
  | .funcResetGeyser => Sys2Proof.Machine.execFuncResetGeyser s
  | .funcResetGoertzel => Sys2Proof.Machine.execFuncResetGoertzel s
  | .funcEnLanes on => Sys2Proof.Machine.execFuncEnLanes on s
  | .funcEnFilters on => Sys2Proof.Machine.execFuncEnFilters on s
  | .funcEnSeq on => Sys2Proof.Machine.execFuncEnSeq on s
  | .funcEnCaldera on => Sys2Proof.Machine.execFuncEnCaldera on s
  | .funcEnTrack on => Sys2Proof.Machine.execFuncEnTrack on s
  | .funcEnQueue on => Sys2Proof.Machine.execFuncEnQueue on s
  | .funcEnRing on => Sys2Proof.Machine.execFuncEnRing on s
  | .funcEnNvmctl on => Sys2Proof.Machine.execFuncEnNvmctl on s
  | .funcEnGeyser on => Sys2Proof.Machine.execFuncEnGeyser on s
  | .funcEnGoertzel on => Sys2Proof.Machine.execFuncEnGoertzel on s
  | .sleepReq => Sys2Proof.Machine.execSleepReq s
  | .sleepAsk => Sys2Proof.Machine.execSleepAsk s
  | .handshakeBlockAnswer => Sys2Proof.Machine.execHandshakeBlockAnswer s
  | .handshakeDelayExpiry => Sys2Proof.Machine.execHandshakeDelayExpiry s
  | .sleepEntry => Sys2Proof.Machine.execSleepEntry s
  | .geyserScan bs => Sys2Proof.Machine.execGeyserScan bs s
  | .geyserCandidateTimeout => Sys2Proof.Machine.execGeyserCandidateTimeout s
  | .geyserRejectClear => Sys2Proof.Machine.execGeyserRejectClear s
  | .backoffExpiry => Sys2Proof.Machine.execBackoffExpiry s
  | .wakeTimerExpiry => Sys2Proof.Machine.execWakeTimerExpiry s
  | .dsyncWake falling => Sys2Proof.Machine.execDsyncWake falling s
  | .tckWake => Sys2Proof.Machine.execTckWake s
  | .wakeEvent => Sys2Proof.Machine.execWakeEvent s
  | .wakeSupplyReady => Sys2Proof.Machine.execWakeSupplyReady s
  | .fioReady => Sys2Proof.Machine.execFioReady s
  | .retentionRestored => Sys2Proof.Machine.execRetentionRestored s
  | .wakeStepTimeout w fio2Ready => Sys2Proof.Machine.execWakeStepTimeout w fio2Ready s
  | .wakeRetry => Sys2Proof.Machine.execWakeRetry s
  | .aonSelfCheck parityOk ringOk => Sys2Proof.Machine.execAonSelfCheck parityOk ringOk s
  | .calSelf => Sys2Proof.Machine.execCalSelf s
  | .selfCalStart => Sys2Proof.Machine.execSelfCalStart s
  | .selfCalGainPhase m => Sys2Proof.Machine.execSelfCalGainPhase m s
  | .selfCalEnd m => Sys2Proof.Machine.execSelfCalEnd m s
  | .calRecal => Sys2Proof.Machine.execCalRecal s
  | .laneCalDone off gain => Sys2Proof.Machine.execLaneCalDone off gain s
  | .nvmProgramA key => Sys2Proof.Machine.execNvmProgramA key s
  | .nvmProgramB key => Sys2Proof.Machine.execNvmProgramB key s
  | .nvmSaveCal key => Sys2Proof.Machine.execNvmSaveCal key s
  | .nvmCaptureSig key => Sys2Proof.Machine.execNvmCaptureSig key s
  | .nvmEraseA key => Sys2Proof.Machine.execNvmEraseA key s
  | .nvmEraseB key => Sys2Proof.Machine.execNvmEraseB key s
  | .nvmReservedOp op => Sys2Proof.Machine.execNvmReservedOp op s
  | .nvmPageDone => Sys2Proof.Machine.execNvmPageDone s
  | .nvmOpComplete => Sys2Proof.Machine.execNvmOpComplete s
  | .debugNonce purpose rslot => Sys2Proof.Machine.execDebugNonce purpose rslot s
  | .nonceReady nonce healthy => Sys2Proof.Machine.execNonceReady nonce healthy s
  | .authChalRead => Sys2Proof.Machine.execAuthChalRead s
  | .authChalWrite w => Sys2Proof.Machine.execAuthChalWrite w s
  | .authCompareDone => Sys2Proof.Machine.execAuthCompareDone s
  | .nonceExpiry => Sys2Proof.Machine.execNonceExpiry s
  | .holdoffEnd => Sys2Proof.Machine.execHoldoffEnd s
  | .advDevelop key => Sys2Proof.Machine.execAdvDevelop key s
  | .advSecured key => Sys2Proof.Machine.execAdvSecured key s
  | .relock => Sys2Proof.Machine.execRelock s
  | .fuseProgramDone st => Sys2Proof.Machine.execFuseProgramDone st s
  | .returnEraseDone st => Sys2Proof.Machine.execReturnEraseDone st s
  | .tapAttach => Sys2Proof.Machine.execTapAttach s
  | .tapDetach => Sys2Proof.Machine.execTapDetach s
  | .dbgAccess dr => Sys2Proof.Machine.execDbgAccess dr s
  | .otpProgProgram high data => Sys2Proof.Machine.execOtpProgProgram high data s
  | .otpProgRead dr => Sys2Proof.Machine.execOtpProgRead dr s
  | .otpProgramDone => Sys2Proof.Machine.execOtpProgramDone s
  | .idcode => Sys2Proof.Machine.execIdcode s
  | .bypass => Sys2Proof.Machine.execBypass s
  | .oscMonitorWindow fio fio2 => Sys2Proof.Machine.execOscMonitorWindow fio fio2 s
  | .fioStopDetect => Sys2Proof.Machine.execFioStopDetect s
  | .xtalFail => Sys2Proof.Machine.execXtalFail s
  | .slowOscFail => Sys2Proof.Machine.execSlowOscFail s
  | .supplyFault sup => Sys2Proof.Machine.execSupplyFault sup s
  | .irqReadback level => Sys2Proof.Machine.execIrqReadback level s
  | .scrubWord m addr => Sys2Proof.Machine.execScrubWord m addr s
  | .imageInstallDone => Sys2Proof.Machine.execImageInstallDone s
  | .singleFault f transient => Sys2Proof.Machine.execSingleFault f transient s

end Sys2Proof.Machine
end

