-- ==== Sys2Proof/Machine/Time.lean ====
section
/-! DEFINITION. The passing of time: one slow-clock period (R20, R365; log entry 4). -/

namespace Sys2Proof.Machine

/-- One slow-clock period passes: the AON time counts, and the wake timer counts down; its last period ends with
WAKE_TIMER_EXPIRY. While a reset holds the block nothing counts. -/
def slowTick (s : State) : State :=
  if s.aon.por || s.aon.vioLow then s
  else
    let t := s.pwr.timerLeft
    { s with aon := { s.aon with time := s.aon.time + 1 },
             pwr := { s.pwr with timerLeft := if 1 < t then t - 1 else t } }

end Sys2Proof.Machine
end

