-- ==== Sys2Proof/Machine/Pins.lean ====
section
/-! DEFINITION. What the balls carry: the levels of the electrode pins and of the shield buses with their balls (R64, R67,
R76, R85, R86, R100), and the state of the digital pins in operation, in reset, in SLEEP and without VIO (R41 to R43). They
are readings of the state. -/

namespace Sys2Proof.Machine

/-! ### Electrode pins and shield buses -/

/-- What an electrode pin or a shield ball is held at: a level in mV, nothing, or what a sentinel bus carries (R96). -/
inductive Level where
  | mv (n : Nat) | floats | sentinel
  deriving DecidableEq, Repr

/-- The level of the self waveform: 1.8 V in the first half of a chip, 0.9 V else (R86). -/
def State.selfLevel (s : State) : Nat := if s.drive.half = some .first then 1800 else 900

/-- The drive amplitude V_d in mV (R77); a SHORT test drives at 1.8 V from VANA whatever DRIVE_CTL holds (R100). Before a
SHORT entry's first chip, while its pins already stand in their new positions, and in the hold chips after its last one,
the spec gives no level: the rest level there is half of the amplitude that DRIVE_CTL gives (DESIGN CHOICE, log entry
38). -/
def State.driveAmp (s : State) : Nat :=
  match s.running with
  | some r => if r.e.act = 6 || s.snap.lowdrv then 1800 else 5000 + 500 * s.snap.amp
  | none => if s.snap.lowdrv then 1800 else 5000 + 500 * s.snap.amp

/-- The code value that the DRIVE lane of pin `n` has in a chip: h(INDEX, CODE) in the counted chips of MODE 1, +1 in
every chip of a SHORT test, none where no entry drives and in the prefill of MODE 1, which rests (R76, R100; log entry
38). -/
def State.driveCode (s : State) (n : Nat) : Option Int :=
  match s.running with
  | some r =>
    if r.e.act = 1 then (if s.inCounted r then some (hadamard (s.snap.index n % 128) r.e.code) else none)
    else if r.e.act = 6 then some 1
    else none
  | none => none

/-- The level of a DRIVE pin: V_d or 0 V from the start edge to the mid edge of a chip, V_d / 2 at rest (Table 3.5,
R85). -/
def State.driveLevel (s : State) (n : Nat) : Nat :=
  match s.drive.half, s.driveCode n with
  | some .first, some h => if h = 1 then s.driveAmp else 0
  | _, _ => s.driveAmp / 2

/-- The entry's shield selection activates a bus: `b` false for A, true for B (R67). -/
def Entry.shields (e : Entry) (b : Bool) : Bool :=
  (e.act = 2 || e.act = 3) && (e.shield == 3 || e.shield == (if b then 2 else 1))

/-- A shield bus, with its ball, carries the self waveform in an entry that activates it; in every other case, in SLEEP,
in a handshake and in a calibration among them, it is at GND (R67, Table 11.4, Table 11.7, Table 12.2). -/
def State.shieldLevel (s : State) (b : Bool) : Nat :=
  match s.running with
  | some r => if s.mainUp && !r.idle && r.e.shields b then s.selfLevel else 0
  | none => 0

/-- The role of pin `n`'s lane: that of the entry whose positions the pins are in (R58, R64); after a frame it stays
that of the last entry (log entry 38). -/
def State.pinRole (s : State) (n : Nat) : Role :=
  let lane := s.slotLane n
  match s.seq.phase, s.seq.cur, s.seq.prev with
  | .running, some r, _ => nth r.roles lane .ground
  | .ready, _, some p => if s.seq.placed then s.snap.role (s.entryRead s.seq.entry) n else nth p.roles lane .ground
  | .waiting, _, _ => s.snap.role (s.entryRead s.seq.entry) n
  | _, _, some p => nth p.roles lane .ground
  | _, _, none => .ground

/-- What a lane holds its pin at in a role (Table 3.3). -/
def State.laneLevel (s : State) (n : Nat) : Role → Level
  | .drive => .mv (s.driveLevel n)
  | .sense => .mv 900
  | .self => .mv (if s.running.isSome then s.selfLevel else 900)
  | .shieldA => .mv (s.shieldLevel false)
  | .shieldB => .mv (s.shieldLevel true)
  | .ground => .mv 0
  | .float => .floats
  | .sentinel => .sentinel

/-- What an electrode pin is held at, by its crosspoint position (Table 3.1). -/
def State.pinLevel (s : State) (n : PinId) : Level :=
  match s.seq.pins.get n with
  | .own | .reserve => s.laneLevel n.val (s.pinRole n.val)
  | .shieldA => .mv (s.shieldLevel false)
  | .shieldB => .mv (s.shieldLevel true)
  | .ground => .mv 0
  | .float => .floats
  | .sentinel => .sentinel

/-! ### Digital pins (Table 2.3) -/

/-- The digital balls of Table 2.3. -/
inductive Ball where
  | dsync | lclk | hsel | hcsN | hsck | hsdi | hsdo | irqN | rstN | tck | tms | tdi | tdo | xin32 | xout32
  deriving DecidableEq, Repr

/-- What a ball's output does: high impedance, a level, or the bits of the transfer in progress. -/
inductive Output where
  | off | low | high | bits
  deriving DecidableEq, Repr

/-- A pull resistor. -/
inductive Pull where
  | none | up | down
  deriving DecidableEq, Repr

/-- A digital ball: its output, whether its input buffer is on, its pull. -/
structure BallState where
  out   : Output
  input : Bool
  pull  : Pull
  deriving DecidableEq, Repr

/-- IRQ_N: low while asserted; released it is high impedance, or driven high with IRQ_PP, of which AON keeps the copy that
acts (R327, R330, R437). -/
def State.irqOut (s : State) : Output :=
  if s.irqAsserted then .low else if s.port.ctl.getLsbD 15 && s.aonUp then .high else .off

/-- HSDO is driven in SPI while HCS_N is low, that is in a transaction; in I2C it is the address strap (R308). -/
def State.hsdoOut (s : State) : Output := if s.aonUp && !s.aon.hsel && s.port.txn.isSome then .bits else .off

/-- SDA carries the acknowledges and the data of an I2C transaction. -/
def State.hsdiOut (s : State) : Output := if s.aonUp && s.aon.hsel && s.port.txn.isSome then .bits else .off

/-- SCL is held low while an access waits for MAIN, and while a stream read waits for an item (R314). -/
def State.hsckOut (s : State) : Output :=
  if s.aonUp && s.aon.hsel && (s.port.stretch.isSome || (s.port.txn.isSome && s.queue.stream = .stalled)) then .low
  else .off

/-- A digital ball while VIO is present: LCLK's buffer and TDO's output are clamped off while MAIN is off; in reset and in
BOOT LCLK's buffer is on and its input ignored (Table 2.3, Table 11.7). -/
def State.ballOn (s : State) : Ball → BallState
  | .dsync | .hsel | .xin32 => ⟨.off, true, .none⟩
  | .lclk => ⟨.off, s.mainUp || s.pwr.pstate = .boot, .none⟩
  | .hcsN | .rstN | .tms | .tdi => ⟨.off, true, .up⟩
  | .hsck => ⟨s.hsckOut, true, .none⟩
  | .hsdi => ⟨s.hsdiOut, true, .none⟩
  | .hsdo => ⟨s.hsdoOut, s.aon.hsel, .none⟩
  | .irqN => ⟨s.irqOut, true, .none⟩
  | .tck => ⟨.off, true, .down⟩
  | .tdo => ⟨if s.mainUp && s.sec.tapOut then .bits else .off, false, .none⟩
  | .xout32 => ⟨.bits, false, .none⟩

/-- A digital ball: without VIO every one but XIN32 and XOUT32 is high impedance, its pull disconnected (R42). -/
def State.ball (s : State) (b : Ball) : BallState :=
  if s.aon.vioLow && b != .xin32 && b != .xout32 then ⟨.off, false, .none⟩ else s.ballOn b

end Sys2Proof.Machine
end

