-- ==== Sys2Proof/Safety.lean ====
section
/-! DEFINITION. What counts as a sound state, in the terms the statements use: memories in canonical form, identification
registers as the silicon fixes them, and how one-time-programmable memory may change. -/

namespace Sys2Proof.Machine

/-- Every memory of the block is in canonical form: the window tables and their two snapshots, the flash, the
instruction and data memories. -/
structure State.MemWf (s : State) : Prop where
  tables : Memory.wf tabDefault s.tables = true
  snap   : Memory.wf tabDefault s.snap.tables = true
  csnap  : Memory.wf tabDefault s.cald.snap.tables = true
  owed   : ∀ o ∈ s.cald.owed, Memory.wf tabDefault o.snap.tables = true
  flash  : Memory.wf flashDefault s.flash = true
  imem   : Memory.wf imemDefault s.cald.imem = true
  dmem   : Memory.wf dmemDefault s.cald.dmem = true

/-- CHIP_ID and CHIP_REV hold what the silicon fixes (R439). -/
structure State.IdsFixed (s : State) : Prop where
  id  : s.reg Reg.CHIP_ID = 0x6144
  rev : s.reg Reg.CHIP_REV = 0x0101

/-- Every OTP bit that is programmed before is programmed after (R399). -/
def otpRises (a b : State) : Prop :=
  ∀ (w i : Nat), (a.otpWord w).getLsbD i = true → (b.otpWord w).getLsbD i = true

end Sys2Proof.Machine
end

