-- ==== Sys2Proof/WellFormed.lean ====
section
/-! DEFINITION. Which commands are well formed: operands inside the ranges the spec gives them. The meanings are total
without these checks, but for the operands the spec forbids (R180, R184). -/

namespace Sys2Proof

/-- A list of `n` measurements, each of at least one output. -/
def measured (n : Nat) (l : List Meas) : Bool := l.length == n && l.all (fun m => m.n != 0)

/-- Every data word carries a CRC byte where the header does, and none where it does not (R317). -/
def crcsAgree (h : Option SpiHeader) (ws : List WireWord) : Bool := match h with
  | some h => ws.all (fun w => w.crc.isSome == h.crc.isSome)
  | none => true

/-- The number of words of a memory; window tables and coefficient banks are numbered by window (log entry 1). -/
def MemId.words : MemId → Nat
  | .imem _ => 2048
  | .dmem _ => 4096
  | .result => 61824
  | .seq => 1536
  | .coef => 5 * 131072
  | .tables => 15 * 131072
  | .fumarole => 512
  | .ring => 16384

/-- A fault alters something. -/
def FaultSpec.wf : FaultSpec → Bool
  | .lane _ _ => true
  | .decimator _ _ => true
  | .resampler _ _ => true
  | .accumulator _ _ => true
  | .electrode _ _ => true
  | .cell _ k => k != 0
  | .intake _ k => k != 0
  | .halt _ => true
  | .memory m a b _ => decide (a < m.words) && b != 0
  | .pin _ k => k != 0

/-- A well-formed command. -/
def Instr.wf : Instr → Bool
  | .powerOnReset _ _ => true
  | .vioLow => true
  | .vioRestored => true
  | .rstNReset _ _ => true
  | .xtalSwitch => true
  | .frameTimerExpiry => true
  | .slipFrameStart => true
  | .entryBoundary => true
  | .entryStart => true
  | .dsyncEdge _ => true
  | .syncTimeoutExpiry => true
  | .spillCheck => true
  | .driveChip _ => true
  | .cadencePeriod _ _ q => q.length == 164
  | .cicOutput => true
  | .resamplerOutput _ => true
  | .fadeComplete => true
  | .goertzelBlockDone _ => true
  | .rowWrite _ => true
  | .hkConversionDone _ _ => true
  | .pumpReady => true
  | .pumpLow => true
  | .dpllLock _ => true
  | .dpllUnlock _ => true
  | .calderaFrameOpen => true
  | .paceSample v => decide (v < 256)
  | .vcoreStepDone => true
  | .nop _ _ => true
  | .add _ _ _ _ _ => true
  | .sub _ _ _ _ _ => true
  | .addi _ _ _ _ _ => true
  | .adds _ _ _ _ _ => true
  | .subs _ _ _ _ _ => true
  | .min _ _ _ _ _ => true
  | .max _ _ _ _ _ => true
  | .abs _ _ _ _ => true
  | .and _ _ _ _ _ => true
  | .or _ _ _ _ _ => true
  | .xor _ _ _ _ _ => true
  | .shl _ _ _ _ _ => true
  | .shr _ _ _ _ _ => true
  | .sar _ _ _ _ _ => true
  | .shli _ _ _ _ _ => true
  | .sari _ _ _ _ _ => true
  | .mov _ _ _ _ => true
  | .movi _ _ _ _ => true
  | .plt _ _ _ _ _ => true
  | .ple _ _ _ _ _ => true
  | .peq _ _ _ _ _ => true
  | .pne _ _ _ _ _ => true
  | .pand _ _ _ _ _ => true
  | .pnot _ _ _ _ => true
  | .clra _ _ _ => true
  | .mul _ _ _ _ _ => true
  | .mac _ _ _ _ _ => true
  | .msu _ _ _ _ _ => true
  | .racc _ _ _ _ _ => true
  | .ld _ _ => true
  | .st _ _ _ _ _ _ => true
  | .getr _ _ _ _ => true
  | .getw _ _ _ _ _ _ _ => true
  | .pub _ _ => true
  | .intake _ _ _ _ _ row _ => decide (row < 384)
  | .intakes _ _ _ _ _ row _ => decide (row < 384)
  | .send _ _ _ => true
  | .recv _ _ _ => true
  | .channelPairComplete _ _ => true
  | .emit _ _ => true
  | .ering _ _ => true
  | .wht _ _ d _ _ => d.val != 31
  | .sort _ _ _ _ => true
  | .med3 _ _ _ _ _ => true
  | .loop _ _ _ => true
  | .vote _ _ => true
  | .waitEntry _ entry => decide (entry < 384)
  | .waitEntryComplete _ => true
  | .frameEnd _ => true
  | .frameDeadline => true
  | .stallTimeout _ => true
  | .takeoverCopyDone => true
  | .cellSelfTestDone => true
  | .insertPush => true
  | .rptDataRead => true
  | .streamRead _ _ => true
  | .streamResume _ => true
  | .streamStallTimeout _ => true
  | .rptFlush => true
  | .rptClrgap => true
  | .ringMark => true
  | .ringRewind => true
  | .ringClear => true
  | .ringRdWrite _ => true
  | .spiRegisterRead _ _ => true
  | .spiRegisterWrite h ws => crcsAgree h ws
  | .spiWindowRead _ _ => true
  | .spiWindowWrite h ws => crcsAgree h ws
  | .spiStatus _ _ => true
  | .spiWake _ => true
  | .hcsNRise _ => true
  | .i2cPointerWrite _ _ => true
  | .i2cDataWrite _ => true
  | .i2cDataRead _ => true
  | .i2cStop _ => true
  | .i2cStretchRelease => true
  | .i2cStretchTimeout => true
  | .winDataAccess _ _ => true
  | .portVoteRelease => true
  | .registerWrite _ _ => true
  | .clkCtlWrite _ => true
  | .wakeTimerWrite _ => true
  | .sysReset _ _ => true
  | .schedLoad => true
  | .loadModeEnter => true
  | .schedCommit => true
  | .schedAbort => true
  | .funcResetLanes => true
  | .funcResetFilters => true
  | .funcResetSeq => true
  | .funcResetCaldera => true
  | .funcResetTrack => true
  | .funcResetQueue => true
  | .funcResetRing => true
  | .funcResetNvmctl => true
  | .funcResetHostport => true
  | .funcResetGeyser => true
  | .funcResetGoertzel => true
  | .funcEnLanes _ => true
  | .funcEnFilters _ => true
  | .funcEnSeq _ => true
  | .funcEnCaldera _ => true
  | .funcEnTrack _ => true
  | .funcEnQueue _ => true
  | .funcEnRing _ => true
  | .funcEnNvmctl _ => true
  | .funcEnGeyser _ => true
  | .funcEnGoertzel _ => true
  | .sleepReq => true
  | .sleepAsk => true
  | .handshakeBlockAnswer => true
  | .handshakeDelayExpiry => true
  | .sleepEntry => true
  | .geyserScan bs => decide (bs.length ≤ 4) && bs.all (fun e => e.length == 64)
  | .geyserCandidateTimeout => true
  | .geyserRejectClear => true
  | .backoffExpiry => true
  | .wakeTimerExpiry => true
  | .dsyncWake _ => true
  | .tckWake => true
  | .wakeEvent => true
  | .wakeSupplyReady => true
  | .fioReady => true
  | .retentionRestored => true
  | .wakeStepTimeout _ _ => true
  | .wakeRetry => true
  | .aonSelfCheck _ _ => true
  | .calSelf => true
  | .selfCalStart => true
  | .selfCalGainPhase m => measured 164 m
  | .selfCalEnd m => measured 164 m
  | .calRecal => true
  | .laneCalDone off gain => measured off.length off && measured off.length gain
  | .nvmProgramA _ => true
  | .nvmProgramB _ => true
  | .nvmSaveCal _ => true
  | .nvmCaptureSig _ => true
  | .nvmEraseA _ => true
  | .nvmEraseB _ => true
  | .nvmReservedOp op => decide (op = 0) || decide (6 < op.toNat)
  | .nvmPageDone => true
  | .nvmOpComplete => true
  | .debugNonce _ _ => true
  | .nonceReady _ _ => true
  | .authChalRead => true
  | .authChalWrite _ => true
  | .authCompareDone => true
  | .nonceExpiry => true
  | .holdoffEnd => true
  | .advDevelop _ => true
  | .advSecured _ => true
  | .relock => true
  | .fuseProgramDone _ => true
  | .returnEraseDone _ => true
  | .tapAttach => true
  | .tapDetach => true
  | .dbgAccess _ => true
  | .otpProgProgram high _ => high.extractLsb' 6 2 == 1
  | .otpProgRead dr => dr.extractLsb' 38 2 != 1
  | .otpProgramDone => true
  | .idcode => true
  | .bypass => true
  | .oscMonitorWindow _ _ => true
  | .fioStopDetect => true
  | .xtalFail => true
  | .slowOscFail => true
  | .supplyFault _ => true
  | .irqReadback _ => true
  | .scrubWord m addr => decide (addr < m.words)
  | .imageInstallDone => true
  | .singleFault f _ => f.wf

end Sys2Proof
end

