-- ==== Sys2Proof/Certificates/Slice0/Obligations.lean ====
section
/-! DEFINITION. The statements about the model, for the provers; each names the rules of spec/ it rests on. -/

namespace Sys2Proof.Machine

/-! ### The words of the statements -/

/-- Command `i` answers a next state that has `P`. -/
def completes (i : Instr) (s : State) (P : State → Prop) : Prop := ∃ t, exec i s = .next t ∧ P t

/-- Where cell `c` issues an instruction and the word that it fetches spells `i`, command `i` lets it go from its cell `x`
to a cell `y` with `eff x y`, its address moved on and nothing else changed but for what the fetch does. -/
def cellStep (i : Instr) (s : State) (c : CellId) (eff : Cell → Cell → Prop) : Prop :=
  s.runs c i = true → ∃ y, exec i s = .next ((s.fetchErr c).setCell c y) ∧ y.st = .run ∧
    (y.pc, y.loops) = flow (s.cell c).pc (s.cell c).loops ∧ eff (s.cell c) y

/-- From cell `x` to cell `y` the accumulators and the predicates stay. -/
def Cell.accPredSame (x y : Cell) : Prop := y.a0 = x.a0 ∧ y.a1 = x.a1 ∧ y.p1 = x.p1 ∧ y.p2 = x.p2 ∧ y.p3 = x.p3

/-- From cell `x` to cell `y` register `d` takes `v`, x0 nothing, and every other register, accumulator and predicate
stays. -/
def Cell.onlyReg (d : XReg) (v : Data) (x y : Cell) : Prop :=
  (∀ r, y.get r = if r = d ∧ d ≠ 0 then v else x.get r) ∧ x.accPredSame y

/-- Command `i` writes register `d` of cell `c` with a value that `P` allows. -/
def regStep (i : Instr) (s : State) (c : CellId) (d : XReg) (P : Cell → Data → Prop) : Prop :=
  cellStep i s c (fun x y => ∃ v, P x v ∧ x.onlyReg d v y)

/-- From cell `x` to cell `y` predicate d[1:0] takes `v` (index 0 names none), and everything else stays. -/
def Cell.onlyPred (d : XReg) (v : Bool) (x y : Cell) : Prop :=
  (∀ r, y.get r = x.get r) ∧ y.a0 = x.a0 ∧ y.a1 = x.a1 ∧
    y.p1 = (if d.val % 4 = 1 then v else x.p1) ∧ y.p2 = (if d.val % 4 = 2 then v else x.p2) ∧
    y.p3 = (if d.val % 4 = 3 then v else x.p3)

/-- Command `i` writes predicate d[1:0] of cell `c` with the truth of `P`. -/
def predStep (i : Instr) (s : State) (c : CellId) (d : XReg) (P : Cell → Prop) : Prop :=
  cellStep i s c (fun x y => ∃ v : Bool, (v = true ↔ P x) ∧ x.onlyPred d v y)

/-- From cell `x` to cell `y` accumulator d[0] takes `v`, and everything else stays. -/
def Cell.onlyAcc (d : XReg) (v : Acc) (x y : Cell) : Prop :=
  (∀ r, y.get r = x.get r) ∧ y.a0 = (if d.val % 2 = 0 then v else x.a0) ∧ y.a1 = (if d.val % 2 = 0 then x.a1 else v) ∧
    y.p1 = x.p1 ∧ y.p2 = x.p2 ∧ y.p3 = x.p3

/-- Command `i` writes accumulator d[0] of cell `c` with the value `f` gives. -/
def accStep (i : Instr) (s : State) (c : CellId) (d : XReg) (f : Cell → Acc) : Prop :=
  cellStep i s c (fun x y => x.onlyAcc d (f x) y)

/-- What "sat" of R180 makes of a number. -/
def sat (x : Int) : Int := max (-0x800000) (min 0x7FFFFF x)

/-- No fault alters or stops a cell, and the spare is neither behind the cell that it shadows nor apart from it. -/
def State.cellsSound (s : State) : Prop :=
  (∀ f ∈ s.fmon.faults, ∀ c k, f.1 ≠ .cell c k ∧ f.1 ≠ .halt c) ∧ s.cald.lag = [] ∧ s.cald.astray = false

/-- `v` is what the cell with the highest logical index has staged for publication target `g`. -/
def State.lastPub (s : State) (g : Nat) (v : Word) : Prop :=
  ∃ k, (k, g, v) ∈ s.cald.pubs ∧ ∀ k' v', (k', g, v') ∈ s.cald.pubs → k' < k ∨ k' = k ∧ v' = v

/-- `b` is the VOTE setting that the cell with the highest logical index has staged. -/
def State.lastVote (s : State) (b : Bool) : Prop :=
  ∃ k, (k, b) ∈ s.cald.votes ∧ ∀ k' b', (k', b') ∈ s.cald.votes → k' < k ∨ k' = k ∧ b' = b

/-- What the library's loads leave: they release the rows they read, set the discard flag when one of them fails the check
of R28, and put the frame's image into the library's data; a node's raw value is the transform of its column over the
segment (R214), and in a frame of no capture its strength is its baseline less its raw value (R215). -/
def libLoaded (s t : State) : Prop :=
  let g := s.cald.snap.grid
  let seg := s.cald.snap.segment
  t.lib.stage = 1 ∧ (∀ r, r ∈ t.rowHeld ↔ r ∈ s.rowHeld ∧ r ∉ s.libRows) ∧
    t.cald.discard = (s.cald.discard || !s.libRows.all s.rowPasses) ∧
    (seg ≠ [] → ∀ n < g.count, nth t.lib.raw n 0 = (seg.map (fun e =>
      hadamard (s.cald.snap.index (g.rowPin n) % 128) (s.cald.snap.entry e).code *
        slotVal (s.cald.snap.entry e) (s.rowWord e (1 + g.colPin n)))).sum / 2 ^ Nat.log2 seg.length) ∧
    (t.lib.capNow = false → ∀ n < g.count, nth t.lib.valid n false = true →
      nth t.lib.str n 0 = nth s.lib.base n 0 - nth t.lib.raw n 0) ∧
    t = { s with lib := t.lib, regs := t.regs, rowHeld := t.rowHeld, queue := t.queue, fmon := t.fmon,
                 freeCtr := t.freeCtr, cald := { s.cald with discard := t.cald.discard, cells := t.cald.cells } }

end Sys2Proof.Machine

open Sys2Proof Sys2Proof.Machine

/-! ### The machine as a whole -/

/-- A step takes the command at the front of the queue and runs it on the state with the queue's rest; with no command
waiting one slow-clock period passes (the model's choice, log entry 4): the AON time counts (R20, R365), and so does the
wake timer. -/
def Obligations.StepRunsFront : Prop :=
  ∀ (s : State),
    (∀ (i : Instr) (rest : List Instr), s.pending = i :: rest → step s = exec i { s with pending := rest }) ∧
    (s.pending = [] → ∃ t, step s = .next t ∧ t = { s with aon := t.aon, pwr := t.pwr } ∧
      t.aon.time = (if s.aonUp then s.aon.time + 1 else s.aon.time) ∧
      (s.aonUp = true → 1 < s.pwr.timerLeft → t.pwr.timerLeft + 1 = s.pwr.timerLeft))

/-- Every well-formed command answers a next state in every state, and no command changes the queue of commands: the
model's choice (log entry 5 for events that the state does not call for, 6 for the operands it refuses, 8 for the one
queue). -/
def Obligations.ExecLeavesPending : Prop :=
  ∀ (i : Instr) (s : State), (i.wf = true → ∃ t, exec i s = .next t ∧ t.pending = s.pending) ∧
    ∀ t, exec i s = .next t → t.pending = s.pending

/-! ### Reset and invariants -/

/-- What the Reset column of Table 15.2 gives as a whole register. -/
def Sys2Proof.Machine.resetColumn : List (Nat × Word) :=
  [(0x00, 0x6144), (0x01, 0x0101), (0x02, 0x0060), (0x03, 0), (0x04, 0), (0x06, 0x0003), (0x07, 0), (0x0A, 0), (0x0B, 0),
    (0x0C, 0), (0x0D, 0), (0x0E, 0), (0x0F, 0), (0x10, 0), (0x11, 0x07FF), (0x12, 0), (0x13, 0), (0x14, 0x800C),
    (0x16, 0x0070), (0x17, 0), (0x18, 0), (0x1C, 0), (0x20, 0x00FF), (0x21, 0), (0x22, 0)] ++
  [(0x25, 0), (0x27, 0), (0x2A, 0), (0x2B, 0), (0x2C, 0), (0x2E, 0x8000), (0x31, 0), (0x32, 0), (0x34, 0x0185),
    (0x35, 0x8000), (0x36, 0xFFFF), (0x37, 0), (0x38, 0x8000), (0x39, 0), (0x3A, 0), (0x3B, 0), (0x3C, 0), (0x3D, 0),
    (0x3E, 0), (0x3F, 0), (0x40, 0), (0x43, 0), (0x44, 0), (0x45, 0), (0x46, 0), (0x47, 0xFFC0), (0x48, 0), (0x49, 0),
    (0x4A, 0x000A)]

/-- After the power-on reset every register that Table 15.2 gives a whole reset value reads it, no memory holds anything
but its reset content, and the block is in BOOT with no command waiting (R357, R435). What flash, OTP and the memories
hold at power-on is the model's choice (log entry 3), and so is the form in which a memory is kept (log entry 28). -/
def Obligations.ResetState : Prop :=
  (∀ p ∈ resetColumn, (State.reset.readReg p.1).1 = p.2) ∧ State.reset.MemWf ∧ State.reset.IdsFixed ∧
    State.reset.pwr.pstate = .boot ∧ State.reset.mainUp = false ∧ State.reset.pending = [] ∧
    (∀ a, State.reset.flashByte a = 0xFF) ∧ (∀ w, State.reset.otpWord w = 0) ∧
    (∀ a < 16384, State.reset.tab Win.RING a = 0) ∧ State.reset.queue.items = []

/-- Every step keeps every memory in canonical form: the window tables and their snapshots, the flash, the cells' IMEM and
DMEM. The form is the model's own choice, no rule of the spec (log entry 28). -/
def Obligations.StepKeepsMemories : Prop := ∀ (s t : State), s.MemWf → step s = .next t → t.MemWf

/-- A programmed OTP bit stays programmed in every step, the resets among them (R399). -/
def Obligations.StepKeepsOtpBits : Prop := ∀ (s t : State), step s = .next t → otpRises s t

/-- CHIP_ID and CHIP_REV hold what the silicon fixes after every step, and read so (R439, Tables 15.3 and 15.4). -/
def Obligations.StepKeepsIds : Prop :=
  ∀ (s t : State), s.IdsFixed → step s = .next t →
    t.IdsFixed ∧ t.readReg 0x00 = (0x6144, t) ∧ t.readReg 0x01 = (0x0101, t)

/-- What the sizes of the Fumarole and the Sinter ring allow: 64 items committed or uncommitted, 4 inserted records, a
word index below 8, at most 4096 unread entries, at most 4096 valid ones (R278, R284, R286, R298, R303). -/
def Sys2Proof.Machine.State.Sized (s : State) : Prop :=
  s.queue.occupancy ≤ 64 ∧ s.queue.ins.length ≤ 4 ∧ s.queue.word < 8 ∧ s.ring.u ≤ 4096 ∧
    s.ring.count ≤ 4096

/-- Every step keeps the queue and the ring within their sizes, and the reset state is within them. -/
def Obligations.StepKeepsSizes : Prop :=
  State.reset.Sized ∧ ∀ (s t : State), s.Sized → step s = .next t → t.Sized

/-! ### Caldera instructions (06, Table 6.4) -/

/-- ADD, SUB, ADDI wrap; ADDS, SUBS and ABS saturate; MIN and MAX compare signed. -/
def Obligations.CellArithmetic : Prop :=
  ∀ (s : State) (c : CellId) (p : Pred) (d a b : XReg) (imm : Data),
    (s.cell c).holds p = true →
    regStep (.add c p d a b) s c d (fun x v => v = x.get a + x.get b) ∧
    regStep (.sub c p d a b) s c d (fun x v => v = x.get a - x.get b) ∧
    regStep (.addi c p d a imm) s c d (fun x v => v = x.get a + imm) ∧
    regStep (.adds c p d a b) s c d (fun x v => v.toInt = sat ((x.get a).toInt + (x.get b).toInt)) ∧
    regStep (.subs c p d a b) s c d (fun x v => v.toInt = sat ((x.get a).toInt - (x.get b).toInt)) ∧
    regStep (.min c p d a b) s c d (fun x v => v.toInt = Min.min (x.get a).toInt (x.get b).toInt) ∧
    regStep (.max c p d a b) s c d (fun x v => v.toInt = Max.max (x.get a).toInt (x.get b).toInt) ∧
    regStep (.abs c p d a) s c d (fun x v => v.toInt = Min.min 0x7FFFFF (x.get a).toInt.natAbs)

/-- AND, OR, XOR bit by bit; SHL and SHLI bring zeros in and drop what leaves 24 bits; SHR is logical, SAR and SARI are
arithmetic; MOV and MOVI copy; the compare instructions and PAND and PNOT write predicate d[1:0], of which index 0 reads
as 1 (Table 6.4); that a write of index 0 changes nothing is the model's reading (log entry 26). -/
def Obligations.CellLogicAndPredicates : Prop :=
  (∀ (s : State) (c : CellId) (p : Pred) (d a b : XReg) (imm : Data),
     (s.cell c).holds p = true →
     regStep (.and c p d a b) s c d (fun x v => ∀ i, v.getLsbD i = ((x.get a).getLsbD i && (x.get b).getLsbD i)) ∧
     regStep (.or c p d a b) s c d (fun x v => ∀ i, v.getLsbD i = ((x.get a).getLsbD i || (x.get b).getLsbD i)) ∧
     regStep (.xor c p d a b) s c d (fun x v => ∀ i, v.getLsbD i = ((x.get a).getLsbD i ^^ (x.get b).getLsbD i)) ∧
     regStep (.shl c p d a b) s c d
       (fun x v => v.toNat = (x.get a).toNat * 2 ^ ((x.get b).toNat % 32) % 2 ^ 24) ∧
     regStep (.shr c p d a b) s c d (fun x v => v.toNat = (x.get a).toNat / 2 ^ ((x.get b).toNat % 32)) ∧
     regStep (.sar c p d a b) s c d (fun x v => v.toInt = (x.get a).toInt / 2 ^ ((x.get b).toNat % 32)) ∧
     regStep (.shli c p d a imm) s c d (fun x v => v.toNat = (x.get a).toNat * 2 ^ (imm.toNat % 32) % 2 ^ 24) ∧
     regStep (.sari c p d a imm) s c d (fun x v => v.toInt = (x.get a).toInt / 2 ^ (imm.toNat % 32)) ∧
     regStep (.mov c p d a) s c d (fun x v => v = x.get a) ∧
     regStep (.movi c p d imm) s c d (fun _ v => v = imm)) ∧
  (∀ (s : State) (c : CellId) (p : Pred) (d a b : XReg),
     (s.cell c).holds p = true →
     predStep (.plt c p d a b) s c d (fun x => (x.get a).toInt < (x.get b).toInt) ∧
     predStep (.ple c p d a b) s c d (fun x => (x.get a).toInt ≤ (x.get b).toInt) ∧
     predStep (.peq c p d a b) s c d (fun x => x.get a = x.get b) ∧
     predStep (.pne c p d a b) s c d (fun x => x.get a ≠ x.get b) ∧
     predStep (.pand c p d a b) s c d (fun x => x.predBit a = true ∧ x.predBit b = true) ∧
     predStep (.pnot c p d a) s c d (fun x => x.predBit a = false))

/-- CLRA, MUL, MAC and MSU write accumulator d[0] modulo 2^56, RACC rounds, shifts and saturates accumulator a[0]; WHT
writes the saturated sum to d and the saturated difference to d + 1, SORT orders a pair of registers, MED3 leaves the
median of three; every other register stays (Table 6.4). That WHT and SORT read both operands before they write either
result, also where a result register is an operand, is the model's choice (log entry 55). -/
def Obligations.CellAccumulatorsAndPairs : Prop :=
  (∀ (s : State) (c : CellId) (p : Pred) (d a b : XReg) (imm : Data),
     (s.cell c).holds p = true →
     accStep (.clra c p d) s c d (fun _ => 0) ∧
     accStep (.mul c p d a b) s c d (fun x => BitVec.ofInt 56 ((x.get a).toInt * (x.get b).toInt)) ∧
     accStep (.mac c p d a b) s c d
       (fun x => BitVec.ofInt 56 ((x.acc d).toInt + (x.get a).toInt * (x.get b).toInt)) ∧
     accStep (.msu c p d a b) s c d
       (fun x => BitVec.ofInt 56 ((x.acc d).toInt - (x.get a).toInt * (x.get b).toInt)) ∧
     regStep (.racc c p d a imm) s c d (fun x v =>
       let k := imm.toNat % 64
       v.toInt = sat (if k = 0 then (x.acc a).toInt else ((x.acc a).toInt + 2 ^ (k - 1)) / 2 ^ k))) ∧
  (∀ (s : State) (c : CellId) (p : Pred) (d a b : XReg),
     (s.cell c).holds p = true →
     (d.val ≠ 31 → cellStep (.wht c p d a b) s c (fun x y => x.accPredSame y ∧
       (d ≠ 0 → (y.get d).toInt = sat ((x.get a).toInt + (x.get b).toInt)) ∧
       (y.get (d + 1)).toInt = sat ((x.get a).toInt - (x.get b).toInt) ∧
       ∀ r, r ≠ d → r ≠ d + 1 → y.get r = x.get r)) ∧
     cellStep (.sort c p a b) s c (fun x y => x.accPredSame y ∧
       (a ≠ 0 → (y.get a).toInt = Min.min (x.get a).toInt (x.get b).toInt) ∧
       (b ≠ 0 → (y.get b).toInt = Max.max (x.get a).toInt (x.get b).toInt) ∧
       ∀ r, r ≠ a → r ≠ b → y.get r = x.get r) ∧
     regStep (.med3 c p d a b) s c d (fun x v =>
       v.toInt = Max.max (Min.min (x.get a).toInt (x.get b).toInt)
         (Min.min (Max.max (x.get a).toInt (x.get b).toInt) (x.get d).toInt)))

/-- Commands whose instruction carries PRED, and the cell that runs them (R178). -/
def Sys2Proof.Instr.predicated : Instr → Option (CellId × Pred)
  | .nop c p | .add c p _ _ _ | .sub c p _ _ _ | .addi c p _ _ _ | .adds c p _ _ _ | .subs c p _ _ _
  | .min c p _ _ _ | .max c p _ _ _ | .abs c p _ _ | .and c p _ _ _ | .or c p _ _ _ | .xor c p _ _ _
  | .shl c p _ _ _ | .shr c p _ _ _ | .sar c p _ _ _ | .shli c p _ _ _ | .sari c p _ _ _ | .mov c p _ _
  | .movi c p _ _ | .plt c p _ _ _ | .ple c p _ _ _ | .peq c p _ _ _ | .pne c p _ _ _ | .pand c p _ _ _
  | .pnot c p _ _ | .clra c p _ | .mul c p _ _ _ | .mac c p _ _ _ | .msu c p _ _ _ | .racc c p _ _ _
  | .ld c (.code p _ _ _ _) | .st c p _ _ _ _ | .getr c p _ _ | .getw c p _ _ _ _ _ | .pub c (.code p _ _)
  | .emit c (.code p _) | .ering c (.code p _) | .wht c p _ _ _ | .sort c p _ _ | .med3 c p _ _ _
  | .vote c (.code p _) => some (c, p)
  | _ => none

/-- Commands whose instruction gives a token to the emit port also where its condition is false (R181). -/
def Sys2Proof.Instr.givesNull : Instr → Bool
  | .emit _ (.code _ _) | .ering _ (.code _ _) => true
  | _ => false

/-- An instruction whose condition is false changes nothing but the cell's address; EMIT and ERING then give a null
token, neither a record nor a gap, which a spare that has stopped falls behind by and a sound one gives too (R178, R181,
R198; what a token is the model reads as log entry 65 says). Where the cell issues no instruction, or its word spells
another, the command does nothing: the model's reading of a command (log entries 5, 27 and 46). -/
def Obligations.FalsePredicateChangesNothing : Prop :=
  ∀ (i : Instr) (s : State) (c : CellId) (p : Pred), i.wf = true → i.predicated = some (c, p) →
    ((s.cell c).holds p = false → (i.givesNull = true → s.cellsSound) →
      cellStep i s c (fun x y => y.x = x.x ∧ x.accPredSame y)) ∧
    (∀ q, (s.cell c).holds p = false → i.givesNull = true → s.runs c i = true → s.fmon.memErrs = [] →
      s.cald.shadow = some c → s.cald.spare = some q → s.mute q = true → s.cald.lag.length < 64 →
      completes i s (fun t => t.cald.lag = s.cald.lag ++ [[]] ∧ t.cell c = (s.cell c).advance ∧
        (∀ k, k ≠ c → t.cell k = s.cell k) ∧
        t = { s with cald := { s.cald with lag := t.cald.lag, cells := t.cald.cells }, fmon := t.fmon })) ∧
    (s.runs c i = false → exec i s = .next s)

/-- NOP changes nothing but the address; LOOP enters its body with COUNT passes to run, 0 meaning 2048; a loop body of the
addresses `first` to `last` then runs that many times, also where its last instruction ends outer loops: after the last
pass the address is what the outer loops make of the address after the body (Table 6.4). -/
def Obligations.CellFlow : Prop :=
  (∀ (s : State) (c : CellId) (p : Pred) (count last : BitVec 11),
     cellStep (.nop c p) s c (fun x y => y.x = x.x ∧ x.accPredSame y) ∧
     (s.runs c (.loop c count last) = true → ∃ y, exec (.loop c count last) s = .next ((s.fetchErr c).setCell c y) ∧
       y.x = (s.cell c).x ∧ (s.cell c).accPredSame y ∧ y.st = .run ∧ y.pc = (s.cell c).pc + 1 ∧
       y.loops = ⟨(s.cell c).pc + 1, last.toNat, if count = 0 then 2048 else count.toNat⟩ :: (s.cell c).loops)) ∧
  (∀ (first last n : Nat) (outer : List LoopFrame), first ≤ last → 1 ≤ n →
     (fun f : Nat × List LoopFrame => flow f.1 f.2)^[n * (last + 1 - first)] (first, ⟨first, last, n⟩ :: outer) =
       flow last outer)

/-- GETR and GETW read the frame's snapshot, zero-extended; an address outside it, and a window GETW does not read,
give 0. -/
def Obligations.CellSnapshotReads : Prop :=
  ∀ (s : State) (c : CellId) (p : Pred) (d b : XReg) (imm : Data) (code : BitVec 4) (idx : Bool) (addr : Word),
    (s.cell c).holds p = true →
    regStep (.getr c p d imm) s c d (fun _ v =>
      (∀ r : RegId, imm.toNat % 256 = r.val → v.toNat = (s.cald.snap.reg r).toNat) ∧
      (80 ≤ imm.toNat % 256 → v = 0)) ∧
    regStep (.getw c p d b code idx addr) s c d (fun x v =>
      let a := (addr.toNat + if idx then (x.get b).toNat else 0) % 2 ^ 24
      v.toNat = if code.toNat ∈ [1, 3, 4, 5, 6, 7, 8, 12, 13, 14] ∧ a < winSize code.toNat then
        (s.cald.snap.tab code.toNat a).toNat else 0)

/-- The operands Table 6.4 and Table 6.2 do not allow are refused: WHT with d = 31, a row above 383. Every other cell
instruction is what the word of its opcode and fields spells, a word with the reserved PRED 0b100 spells none (R177,
R178). That a forbidden operand is refused is the model's choice (log entry 6), and so is what a word with a reserved PRED
does (log entry 46). -/
def Obligations.ForbiddenOperandsRefused : Prop :=
  ∀ (s : State) (c : CellId) (p : Pred) (a b d : XReg) (rel idx : Bool) (row : Nat) (w : Byte), 383 < row →
    exec (.wht c p 31 a b) s = .refused .forbiddenOperand ∧
    exec (.intake c d b rel idx row w) s = .refused .forbiddenOperand ∧
    exec (.intakes c d b rel idx row w) s = .refused .forbiddenOperand ∧
    exec (.waitEntry c row) s = .refused .forbiddenOperand ∧
    (∀ (i : Instr) (k : CellId) (w' : Code), i.wf = true → i.coded = some (k, w') → decodeCell k w' = some i) ∧
    (∀ w' : Code, codeBits w' 24 3 = 4 → codeBits w' 42 6 < 0x28 → decodeCell c w' = none)

/-- LD takes a word of the cell's DMEM; ST writes one and leaves every other word of every cell's DMEM; an indexed
address wraps modulo 4096. The library's LD waits until every row that it reads is complete and takes the frame's image
from them (R18, R26, R28, R212, R214, R215); that the library is one form of each command, which does nothing without a
library image, is the model's reading (log entry 9), and so is what the frame's image is where the host has rewritten a table
(R214 leaves it open; log entry 42). -/
def Obligations.CellLoadStore : Prop :=
  ∀ (s : State) (c : CellId) (p : Pred) (d a b : XReg) (idx : Bool) (addr : BitVec 12),
    (s.cell c).holds p = true → s.MemWf →
    let e := (addr.toNat + if idx then ((s.cell c).get b).toNat else 0) % 4096
    ((s.fetchErr c).memErr (.dmem (s.cald.map.get c)) e = none →
      regStep (.ld c (.code p d b idx addr)) s c d (fun _ v => v = s.dmemRead (s.phys c) e)) ∧
    (s.runs c (.st c p a b idx addr) = true → s.cellsSound →
      completes (.st c p a b idx addr) s (fun t =>
        (∀ k < 8, ∀ a' < 4096, t.dmemRead k a' =
          if k = s.phys c ∧ a' = e then (s.cell c).get a else s.dmemRead k a') ∧
        t.cell c = (s.cell c).advance ∧ (∀ k, k ≠ c → t.cell k = s.cell k) ∧
        ∃ f, t = { s.fetchErr c with
          cald := { (s.fetchErr c).cald with dmem := t.cald.dmem, cells := t.cald.cells }, fmon := f })) ∧
    (s.lib.on = false → exec (.ld c .library) s = .next s) ∧
    (s.libAt c 0 = true → s.fmon.memErrs = [] →
      (s.libRows.all s.rowComplete = false →
        exec (.ld c .library) s = .next (s.setCell c { s.cell c with st := .library })) ∧
      (s.libRows.all s.rowComplete = true →
        completes (.ld c .library) s (fun t => libLoaded s t ∧ t.cald.cells = s.cald.cells))) ∧
    (s.mainUp = true → s.cald.isOpen = true → (s.cell c).st = .library → s.fmon.memErrs = [] →
      s.libRows.all s.rowComplete = true → completes (.waitEntryComplete c) s (fun t => libLoaded s t ∧
        t.cell c = { s.cell c with st := .run } ∧ ∀ k, k ≠ c → t.cell k = s.cell k))

/-- PUB and VOTE stage a value for the close, the last one of a cell to a target counting, and nothing is published yet;
EMIT gives the record in DMEM, with the frame counter in word 1 and the AON time in word 2, to the queue; ERING stages
the ring entry in DMEM, with the frame counter in word 0, while the ring takes entries (R181, R183, R297, R361). The
library's EMIT gives the frame's records in the order of R249, and in a stale frame no contact changes (R246); a contact's
record is as Tables 9.1 and 9.2 have it; its ERING stages an entry for each reported contact, none in a stale frame
(R297); its PUB publishes what R253 lists; its VOTE holds the CALDERA vote while a contact is reported or a key pressed,
and clears it IDLE_TIMEOUT after the last such frame (R248). How the library's work divides into these commands, and that
they do nothing without a library image, is the model's reading (log entry 9). -/
def Obligations.CellPublishVoteEmit : Prop :=
  (∀ (s : State) (c : CellId) (p : Pred) (a : XReg) (imm : Data),
     (s.cell c).holds p = true → s.cellsSound →
     (s.runs c (.pub c (.code p a imm)) = true → completes (.pub c (.code p a imm)) s (fun t =>
       (∀ v, (c.val, imm.toNat % 256, v) ∈ t.cald.pubs ↔ v = ((s.cell c).get a).setWidth 16) ∧
       (∀ k g v, k ≠ c.val ∨ g ≠ imm.toNat % 256 → ((k, g, v) ∈ t.cald.pubs ↔ (k, g, v) ∈ s.cald.pubs)) ∧
       t.cell c = (s.cell c).advance ∧ (∀ k, k ≠ c → t.cell k = s.cell k) ∧
       ∃ f, t = { s.fetchErr c with
         cald := { (s.fetchErr c).cald with pubs := t.cald.pubs, cells := t.cald.cells }, fmon := f })) ∧
     (s.runs c (.vote c (.code p imm)) = true → completes (.vote c (.code p imm)) s (fun t =>
       (∀ v, (c.val, v) ∈ t.cald.votes ↔ v = imm.getLsbD 0) ∧
       (∀ k v, k ≠ c.val → ((k, v) ∈ t.cald.votes ↔ (k, v) ∈ s.cald.votes)) ∧
       t.cell c = (s.cell c).advance ∧ (∀ k, k ≠ c → t.cell k = s.cell k) ∧
       ∃ f, t = { s.fetchErr c with
         cald := { (s.fetchErr c).cald with votes := t.cald.votes, cells := t.cald.cells }, fmon := f }))) ∧
  (∀ (s : State) (c : CellId) (p : Pred) (addr : BitVec 12),
     (s.cell c).holds p = true → s.cellsSound → s.fmon.memErrs = [] →
     let w (i : Nat) : Word := (s.dmemRead (s.phys c) (addr.toNat + i)).setWidth 16
     (s.runs c (.emit c (.code p addr)) = true → completes (.emit c (.code p addr)) s (fun t =>
       t.queue = (s.pushRec #v[w 0, s.cald.fc, s.aon.time.setWidth 16, w 3, w 4, w 5, w 6, w 7]).queue ∧
       t.cell c = (s.cell c).advance ∧ (∀ k, k ≠ c → t.cell k = s.cell k) ∧ (∀ q, q ≠ Reg.RPT_STAT → t.reg q = s.reg q) ∧
       t = { s with queue := t.queue, regs := t.regs, cald := { s.cald with cells := t.cald.cells } })) ∧
     (s.runs c (.ering c (.code p addr)) = true → completes (.ering c (.code p addr)) s (fun t =>
       t.cald.ring = (if s.cald.snap.flag Reg.RING_CTL 15 = true ∧ (s.flag Reg.FUNC_EN 6 = true ∨ s.cald.ringOn = true) then
         s.cald.ring ++ [#v[s.cald.fc, w 1, w 2, w 3]] else s.cald.ring) ∧
       t.cell c = (s.cell c).advance ∧ (∀ k, k ≠ c → t.cell k = s.cell k) ∧
       t = { s with cald := { s.cald with ring := t.cald.ring, cells := t.cald.cells } })) ∧
     (s.lib.on = false → exec (.emit c .library) s = .next s ∧ exec (.ering c .library) s = .next s)) ∧
  (∀ (s : State) (c : CellId), s.cellsSound →
     let g := s.cald.snap.grid
     (s.libAt c 1 = true → completes (.emit c .library) s (fun t =>
       t.lib.stage = 2 ∧
       t.queue = (((s.libFrame g).libRecords g).foldl (fun u r =>
         u.pushRec ((r.set 1 s.cald.fc).set 2 (s.aon.time.setWidth 16))) (s.libFrame g)).queue ∧
       (s.lib.stale = true → s.lib.capNow = false → s.lib.trackNow = false → s.cald.snap.flag Reg.FUNC_EN 4 = true →
         t.lib.contacts.map (fun k => (k.id, k.kind, k.px, k.py, k.rx, k.ry)) =
           s.lib.contacts.map (fun k => (k.id, k.kind, k.px, k.py, k.rx, k.ry))) ∧
       (∀ q, q ≠ Reg.RPT_STAT → t.reg q = s.reg q) ∧
       t = { s with lib := t.lib, queue := t.queue, regs := t.regs, fmon := t.fmon, freeCtr := t.freeCtr })) ∧
     (s.libAt c 2 = true → completes (.ering c .library) s (fun t =>
       t.cald.ring = (if s.ringTakes then s.cald.ring ++ (s.ringEntries g).map (fun e => e.set 0 s.cald.fc)
         else s.cald.ring) ∧
       (s.lib.stale = true → t.cald.ring = s.cald.ring) ∧
       t = { s with lib := { s.lib with stage := 3 }, cald := { s.cald with ring := t.cald.ring } })) ∧
     (s.issues c = true → s.lib.on = true → 2 ≤ s.lib.stage → completes (.pub c .library) s (fun t =>
       let tells (k : Nat) (o : Option Word) : Prop := ∀ v, (c.val, k, v) ∈ t.cald.pubs ↔ match o with
         | some w => v = w
         | none => (c.val, k, v) ∈ s.cald.pubs
       tells 0x31 (some s.touchStat) ∧ tells 0x32 (some s.lib.pressed) ∧
       tells 0x03 (if s.lib.gwake then some 0x4000 else none) ∧ tells 0x2F (if s.lib.capEnd then some 0 else none) ∧
       tells 0x80 (s.lib.hopPub.map word) ∧ (∀ k, k ∉ [0x03, 0x2F, 0x31, 0x32, 0x80] → tells k none) ∧
       (∀ j k v, j ≠ c.val → ((j, k, v) ∈ t.cald.pubs ↔ (j, k, v) ∈ s.cald.pubs)) ∧
       t = { s with cald := { s.cald with pubs := t.cald.pubs } })) ∧
     (s.libAt c 3 = true → completes (.vote c .library) s (fun t =>
       let busy := (s.lib.stale = false ∧ ∃ k ∈ s.lib.contacts, s.shows k.kind = true) ∨ s.lib.pressed ≠ 0
       let idle := s.lib.wokeNow = false ∧ s.lib.wakePend = false ∧ s.lib.dropVote = false
       let tells (b : Bool) : Prop := ∀ v, (c.val, v) ∈ t.cald.votes ↔ v = b
       (busy → tells true ∧ t.lib.tVote = s.cald.snap.time ∧ t.lib.voted = true) ∧
       (¬ busy → idle → if s.lib.voted = true ∧
           s.lp LP.IDLE_TIMEOUT * 32768 ≤ (s.cald.snap.time - s.lib.tVote).toNat then tells false ∧ t.lib.voted = false
         else t = s) ∧
       (∀ j v, j ≠ c.val → ((j, v) ∈ t.cald.votes ↔ (j, v) ∈ s.cald.votes)) ∧
       t = { s with lib := { s.lib with tVote := t.lib.tVote, voted := t.lib.voted, dropVote := t.lib.dropVote },
                    cald := { s.cald with votes := t.cald.votes } }))) ∧
  (∀ (s : State) (g : Grid) (k : Contact) (code : Nat) (stale : Bool), k.id < 10 → 1 ≤ code → code ≤ 5 →
     let r := s.contactRec g k code stale
     (r.get 0).toNat = 0x1000 + 16 * code + k.id + (if k.suspect then 2 ^ 9 else 0) +
       (if stale ∨ k.kept then 2 ^ 11 else 0) ∧
     (s.lib.stale = false → code ≤ 3 → k.str < 2 ^ 16 → (r.get 5).toNat = k.str) ∧
     (code = 1 → r.get 7 = 0) ∧ (code ≠ 1 → k.age < 2 ^ 16 → (r.get 7).toNat = k.age))

/-- The write side of the queue (R279 to R281, R283): a record is accepted while the queue is enabled and fewer than 63
items are held, behind a GAP record if drops came before it; else it is dropped, and the drop opens or extends the gap
state. -/
def Obligations.QueueAcceptsOrDrops : Prop :=
  ∀ (s : State) (r : Rec),
    let t := s.pushRec r
    (s.flag Reg.FUNC_EN 5 = true → s.queue.occupancy < 63 → s.queue.gap = none →
      t.queue.staged = s.queue.staged ++ [r] ∧ t.queue.gap = none ∧ t.regs = s.regs) ∧
    (∀ g, s.flag Reg.FUNC_EN 5 = true → s.queue.occupancy < 63 → s.queue.gap = some g →
      t.queue.staged = s.queue.staged ++
        [#v[0x5000, r.get 1, r.get 2, word g.dropped, g.first, g.last, g.tFirst, 0], r] ∧
      t.queue.gap = none ∧ t.queue.occupancy ≤ 64) ∧
    (s.flag Reg.FUNC_EN 5 = false ∨ 63 ≤ s.queue.occupancy →
      t.queue.staged = s.queue.staged ∧ t.queue.items = s.queue.items ∧ t.flag Reg.RPT_STAT 14 = true ∧
      t.queue.gap = some (match s.queue.gap with
        | some h => { h with dropped := Min.min 65535 (h.dropped + 1), last := r.get 1 }
        | none => { dropped := 1, first := r.get 1, last := r.get 1, tFirst := s.aon.time.setWidth 16 }))

/-- INTAKE and INTAKES of a complete row deliver its word, release the row if REL says so, and set the discard flag when
the row fails the check of R28; a word above 160 reads 0; on an incomplete row the cell blocks. WAIT_ENTRY goes on at
once on a complete row and blocks on an incomplete one; WAIT_ENTRY_COMPLETE lets the cell go on once the row is
complete, and does nothing before (R18, R26, R28, R182). That the sum of WORD and b[7:0] does not wrap, and that a word
above 160 reads 0, is the model's reading (log entry 26), and so is which values of FRAME make a row complete (log entry
39). -/
def Obligations.CellIntakeAndWait : Prop :=
  (∀ (s : State) (c : CellId) (d b : XReg) (rel idx sgn : Bool) (row : Nat) (word : Byte),
     row ≤ 383 → s.fmon.memErrs = [] → (∀ k, s.intakeMask k = 0) →
     let w := word.toNat + if idx then ((s.cell c).get b).toNat % 256 else 0
     let i : Instr := if sgn then .intakes c d b rel idx row word else .intake c d b rel idx row word
     s.runs c i = true → completes i s (fun t =>
       if s.rowComplete row then
         ((s.cell c).onlyReg d (if 160 < w then 0 else
           if sgn then (s.rowWord row w).signExtend 24 else (s.rowWord row w).setWidth 24) (t.cell c)) ∧
         (t.cell c).st = .run ∧
         (∀ k, k ∈ t.rowHeld ↔ k ∈ s.rowHeld ∧ ¬ (rel = true ∧ k = row)) ∧
         t.cald.discard = (s.cald.discard || !(bits (s.rowWord row 0) 0 6 == s.cald.fc.toNat % 64) ||
           (s.rowWord row 0).getLsbD 11) ∧
         t = { s with rowHeld := t.rowHeld, fmon := t.fmon, cald :=
           { s.cald with cells := t.cald.cells, rows := t.cald.rows, discard := t.cald.discard } }
       else (t.cell c).st = .intake row w d rel sgn ∧ (t.cell c).x = (s.cell c).x ∧
         t = { s with cald := { s.cald with cells := t.cald.cells, rows := t.cald.rows } })) ∧
  (∀ (s : State) (c : CellId) (row : Nat), row ≤ 383 →
     (s.runs c (.waitEntry c row) = true → completes (.waitEntry c row) s (fun t => row ∈ t.cald.rows ∧
       (∀ k, k ≠ c → t.cell k = s.cell k) ∧
       (t.cell c) = if s.rowComplete row then (s.cell c).advance else { s.cell c with st := .waitRow row })) ∧
     (s.mainUp = true → s.cald.isOpen = true → (s.cell c).st = .waitRow row →
       completes (.waitEntryComplete c) s (fun t =>
         if s.rowComplete row then (t.cell c).st = .run ∧ (t.cell c).x = (s.cell c).x else t = s)))

/-- SEND and RECV block on their channel; the pair completes together: the receiver's register takes the word, both go
on, and no other cell changes (R174). -/
def Obligations.CellChannels : Prop :=
  ∀ (s : State) (c : CellId) (a d : XReg) (dir : Dir) (v : Data),
    (s.runs c (.send c a dir) = true →
      exec (.send c a dir) s = .next ((s.fetchErr c).setCell c { s.cell c with st := .send dir ((s.cell c).get a) })) ∧
    (s.runs c (.recv c d dir) = true → exec (.recv c d dir) s = .next ((s.fetchErr c).setCell c { s.cell c with st := .recv dir d })) ∧
    (s.mainUp = true → s.cald.isOpen = true → s.cellsSound →
      (s.cell c).st = .send dir v → (s.cell (peer c dir)).st = .recv (dirFlip dir) d →
      completes (.channelPairComplete c dir) s (fun t =>
        ((s.cell (peer c dir)).onlyReg d v (t.cell (peer c dir))) ∧
        (t.cell (peer c dir)).st = .run ∧ t.cell c = (s.cell c).advance ∧
        (∀ k, k ≠ c → k ≠ peer c dir → t.cell k = s.cell k) ∧
        ∃ f, t = { s with cald := { s.cald with cells := t.cald.cells }, fmon := f }))

/-! ### The Caldera's frame cycle (06) -/

/-- FRAME_END of a cell that is not the last: the cell is done, and nothing else changes but what the fetch does. Of the
last: without the discard flag the frame commits, its staged records become readable, its ring entries are written, its
publications and its VOTE take effect, of several that of the highest cell, and FRAME_CNT takes its counter; with it, the
frame is abandoned and none of these takes effect (R183, R186, R187, R442). At its deadline an open frame is abandoned:
its records and ring entries are withdrawn, and it counts as late, with INT_STAT.SCHED, or, when every cell still at
work waits for a row, as abandoned only (R187, R188; that a late frame with a shadow mismatch counts as late only is the
model's choice, log entry 54). Either way no cell runs any more, and every row that the schedule
reads in the frame is released, no other. -/
def Obligations.FrameEndAndDeadline : Prop :=
  (∀ (s : State) (c : CellId), s.runs c (.frameEnd c) = true →
     ((∃ k, k ≠ c ∧ s.cellDone k = false) →
       exec (.frameEnd c) s = .next ((s.fetchErr c).setCell c { s.cell c with st := .done })) ∧
     ((∀ k, k ≠ c → s.cellDone k = true) → s.fmon.memErrs = [] → completes (.frameEnd c) s (fun t =>
       t.cald.isOpen = false ∧ t.cald.rows = [] ∧ (∀ k, (t.cell k).st = .idle ∧ (t.cell k).x = (s.cell k).x) ∧
       (∀ r, r ∈ t.rowHeld ↔ r ∈ s.rowHeld ∧ r ∉ s.frameRows) ∧
       t.cald.dmem = s.cald.dmem ∧ t.cald.imem = s.cald.imem ∧ t.flash = s.flash ∧ t.seq.pins = s.seq.pins ∧
       if s.cald.discard then
         (∃ l, t.queue.items = s.queue.items ++ l ∧ l.length ≤ 8) ∧ t.reg Reg.FRAME_CNT = s.reg Reg.FRAME_CNT ∧
         t.fld Reg.SCHED_STAT 5 5 = (s.fld Reg.SCHED_STAT 5 5 + 1) % 32 ∧ t.ring = s.ring ∧
         t.reg Reg.KEY_STAT = s.reg Reg.KEY_STAT ∧ t.reg Reg.TOUCH_STAT = s.reg Reg.TOUCH_STAT ∧
         t.flag Reg.BASE_CTL 15 = s.flag Reg.BASE_CTL 15 ∧ t.seq.hopPub = s.seq.hopPub
       else
         (∃ l, t.queue.items = s.queue.items ++ s.queue.staged ++ l) ∧ t.reg Reg.FRAME_CNT = s.cald.fc ∧
         t.ring.wr.toNat = (s.ring.wr.toNat + s.cald.ring.length) % 4096 ∧
         (∀ v, s.lastPub 0x32 v → t.reg Reg.KEY_STAT = v) ∧ (∀ v, s.lastPub 0x31 v → t.reg Reg.TOUCH_STAT = v &&& 0xFF8F) ∧
         (∀ v, s.lastPub 0x03 v → v.getLsbD 14 = true → t.flag Reg.INT_STAT Irq.GWAKE = true) ∧
         (∀ v, s.lastPub 0x2F v → v.getLsbD 15 = false → t.flag Reg.BASE_CTL 15 = false) ∧
         (∀ v, s.lastPub 0x80 v → t.seq.hopPub = v.toNat % 16) ∧
         ((∀ k v, (k, 0x32, v) ∉ s.cald.pubs) → t.reg Reg.KEY_STAT = s.reg Reg.KEY_STAT) ∧
         (∀ b, s.lastVote b → s.stalledTwice = [] → t.flag Reg.PWR_VOTE 1 = b)))) ∧
  (∀ (s : State), s.mainUp = true → s.cald.isOpen = true →
     completes .frameDeadline s (fun t =>
       t.cald.isOpen = false ∧ t.cald.rows = [] ∧ (∀ k, (t.cell k).st = .idle ∧ (t.cell k).x = (s.cell k).x) ∧
       (∀ r, r ∈ t.rowHeld ↔ r ∈ s.rowHeld ∧ r ∉ s.frameRows) ∧
       t.cald.dmem = s.cald.dmem ∧ t.cald.imem = s.cald.imem ∧ t.tables = s.tables ∧ t.flash = s.flash ∧
       t.seq.pins = s.seq.pins ∧ (∃ l, t.queue.items = s.queue.items ++ l ∧ l.length ≤ 8) ∧ t.ring = s.ring ∧
       t.reg Reg.FRAME_CNT = s.reg Reg.FRAME_CNT ∧
       (s.rowLate = false → t.fld Reg.SCHED_STAT 0 5 = (s.fld Reg.SCHED_STAT 0 5 + 1) % 32 ∧
         t.fld Reg.SCHED_STAT 5 5 = s.fld Reg.SCHED_STAT 5 5 ∧ t.flag Reg.INT_STAT Irq.SCHED = true) ∧
       (s.rowLate = true → t.fld Reg.SCHED_STAT 5 5 = (s.fld Reg.SCHED_STAT 5 5 + 1) % 32 ∧
         t.fld Reg.SCHED_STAT 0 5 = s.fld Reg.SCHED_STAT 0 5)))

/-- A frame opens: every cell runs from address 0 with x1 the frame counter, x2 the saturating count of frames since the
schedule started, x3 its own index, everything else of it 0, over the snapshot of its sequencer frame; DMEM and IMEM
keep their content (R33, R176). -/
def Obligations.OpenPresetsCells : Prop :=
  ∀ (s : State) (o : Owed) (rest : List Owed), s.mainUp = true → s.cald.isOpen = false → s.cald.owed = o :: rest →
    s.cald.takeover = none →
    completes .calderaFrameOpen s (fun t =>
      t.cald.isOpen = true ∧ t.cald.fc = o.fc ∧ t.cald.snap = o.snap ∧ t.cald.owed = rest ∧
      t.cald.discard = false ∧ t.cald.dmem = s.cald.dmem ∧ t.cald.imem = s.cald.imem ∧
      t.cald.x2.toNat = (if s.cald.restart then 0 else Min.min 0xFFFFFF (s.cald.x2.toNat + 1)) ∧
      ∀ k : CellId, (t.cell k).st = .run ∧ (t.cell k).pc = 0 ∧ (t.cell k).a0 = 0 ∧ (t.cell k).a1 = 0 ∧
        (t.cell k).p1 = false ∧ (t.cell k).p2 = false ∧ (t.cell k).p3 = false ∧
        ((t.cell k).get 1).toNat = o.fc.toNat ∧ (t.cell k).get 2 = t.cald.x2 ∧ ((t.cell k).get 3).toNat = k.val ∧
        ∀ r : XReg, 3 < r.val → (t.cell k).get r = 0)

/-- The stall timer of a cell that waits for no row sets SCHED_STAT.STALL and INT_STAT.SCHED, and the stall is noted,
with the cell and the port on which it waits passed to the fault monitor; one whose chain of waits ends at an incomplete
row is suspended (R196). The takeover's copy gives the new cell the old cell's DMEM and IMEM; the old cell goes into its
self-test, after which it is the spare, or retired if it is faulty (Table 6.8). -/
def Obligations.StallAndTakeover : Prop :=
  (∀ (s : State) (c : CellId), s.mainUp = true → s.cald.isOpen = true → s.cellDone c = false →
     (s.waitsForRow 7 c = false → completes (.stallTimeout c) s (fun t =>
       t.flag Reg.SCHED_STAT 13 = true ∧ t.flag Reg.INT_STAT Irq.SCHED = true ∧ c ∈ t.cald.stalls ∧
       t.fmon.stall = some ⟨s.cald.map.get c, c, match (s.cell c).st with
         | .send d _ => .send d
         | .recv d _ => .recv d
         | .waitRow _ | .intake .. | .library => .intake
         | _ => .instruction⟩ ∧
       t.cald.cells = s.cald.cells ∧ t.cald.isOpen = true)) ∧
     (s.waitsForRow 7 c = true → exec (.stallTimeout c) s = .next s)) ∧
  (∀ (s : State) (k : Takeover) (p : PhysId) (l : CellId), s.mainUp = true → s.MemWf →
     (s.cald.takeover = some k → k.copied = false → k.old ≠ k.new →
       completes .takeoverCopyDone s (fun t =>
         (∀ a < 4096, t.dmemRead k.new.val a = s.dmemRead k.old.val a) ∧
         (∀ a < 2048, t.imemRead k.new.val a = s.imemRead k.old.val a) ∧
         (∀ q : PhysId, q ≠ k.new → ∀ a, t.dmemRead q.val a = s.dmemRead q.val a) ∧
         t.cald.takeover = some { k with copied := true } ∧ t.cald.testing = some (k.old, k.logical) ∧
         t.cald.map = s.cald.map ∧ t = { s with cald := t.cald, sched := t.sched })) ∧
     (s.cald.testing = some (p, l) → completes .cellSelfTestDone s (fun t =>
       t.cald.testing = none ∧
       if s.cellFaulty p then p ∈ t.cald.retired ∧ t.cald.spare = s.cald.spare
       else t.cald.spare = some p ∧ t.flag Reg.SCHED_STAT 11 = false)))

/-- A sample of the pace counts for PACE.MAX; above PACE_LIM, with a valid image and SERVO, it raises VCORE by one step
unless a sample did so less than 100 µs ago; at code 28 it sets CEIL. Once the buck has stepped, a climb goes on
(R191, R194). That 100 µs are fewer than four slow-clock periods is the model's reading (log entry 18). -/
def Obligations.PaceServo : Prop :=
  ∀ (s : State) (v : Nat), s.mainUp = true →
    completes (.paceSample v) s (fun t => t = { s with pace := t.pace, regs := t.regs } ∧
      (∀ q, q ≠ Reg.PMU_STAT → t.reg q = s.reg q) ∧ t.pace.max = Max.max s.pace.max v ∧
      if s.sched.valid = true ∧ s.servo = true ∧ s.paceLim < v ∧ recentRaise s.aon.time s.pace.raisedP = false then
        (if 28 ≤ s.vset then t.vset = s.vset ∧ t.flag Reg.PMU_STAT 5 = true else t.vset = s.vset + 1)
      else t.vset = s.vset) ∧
    (s.pace.moving = true → completes .vcoreStepDone s (fun t => t = { s with pace := t.pace, regs := t.regs } ∧
      match s.pace.target with
      | none => t.vset = s.vset ∧ t.pace.moving = false
      | some g => if s.vset = g then t.vset = g ∧ t.pace.moving = false
        else t.pace.moving = true ∧ t.vset % 32 = (if s.vset < g then s.vset + 1 else s.vset - 1) % 32))

/-! ### Frames and entries (05) -/

/-- At the frame timer a frame starts when none runs: the counter goes on, entry 0 stands at its boundary, the snapshot
is taken, and the Caldera owes the frame; while one runs the start is deferred, and takes place once the previous frame
has ended, SEQ_STAT.SLIP being set; a requested self-calibration takes the place of the frame (R33, R153, R157, R185,
R370). -/
def Obligations.FramesStart : Prop :=
  (∀ (s : State), s.seqMay = true →
     (s.calBusy = false → s.seq.run = false → s.cal.due = false → s.fmon.memErrs = [] →
       completes .frameTimerExpiry s (fun t =>
         t.seq.fc = s.seq.fc + 1 ∧ t.seq.run = true ∧ t.seq.phase = .boundary ∧ t.seq.entry = 0 ∧ t.seq.due = false ∧
         t.snap.tables = t.tables ∧ t.snap.time = s.aon.time ∧ (∀ r, t.snap.reg r = t.viewReg r) ∧
         t.cald.owed = s.cald.owed ++
           (if s.flag Reg.FUNC_EN 3 = true ∧ s.agreed 2 = false then [⟨s.seq.fc + 1, t.snap⟩] else []))) ∧
     (s.seq.run = true → exec .frameTimerExpiry s = .next { s with seq := { s.seq with due := true } }) ∧
     (s.seq.run = true → exec .slipFrameStart s = .next s)) ∧
  (∀ (s : State), s.seqMay = true → s.seq.due = true → s.seq.run = false → s.calBusy = false →
     completes .slipFrameStart s (fun t => t.flag Reg.SEQ_STAT 13 = true ∧ t.seq.due = false ∧
       if s.cal.due then t.seq.fc = s.seq.fc ∧ t.seq.run = false ∧ t.cal.frame = true
       else t.seq.fc = s.seq.fc + 1 ∧ t.seq.run = true))

/-- At a boundary the next entry becomes ready, with the hold chips of R145 if a pin moves and with none if none moves,
and waits only for DSYNC; the pins move only when no hold chip is left and every contributing output before has been
taken; a ready entry whose pins are in place starts: its run is the newest one that waits for its row, its chips are the
prefill and the counted ones, and SEQ_STAT.ENTRY shows it (R58, R144, R145, R166). -/
def Obligations.EntriesRun : Prop :=
  ∀ (s : State), s.mainUp = true →
    (s.atBoundary = true → completes .entryBoundary s (fun t =>
      t.seq.entry = s.nextEntry ∧ t.seq.left = 0 ∧
      (let u := s.moveTimebase.lanesBoundary
       let e := u.entryRead s.nextEntry
       t.seq.hold = if u.positions e (!u.flag Reg.FUNC_EN 0) = s.seq.pins then 0 else u.holdChips (u.effective e).1) ∧
      (0 < t.seq.hold → t.seq.placed = false ∧ t.seq.pins = s.seq.pins ∧ t.seq.phase = .ready) ∧
      (s.outputsTaken = false → t.seq.pins = s.seq.pins) ∧
      (s.outputsTaken = true → t.seq.hold = 0 → t.seq.placed = true) ∧
      (t.seq.phase = .ready ∨ t.seq.phase = .waiting) ∧ (s.syncEn = false → t.seq.phase = .ready) ∧
      t.seq.fc = s.seq.fc ∧ t.seq.pend = s.seq.pend)) ∧
    (s.seq.phase = .ready → s.seq.hold = 0 → s.seq.placed = true → s.noMoreEntries = false → s.fmon.memErrs = [] →
      completes .entryStart s (fun t => t.seq.phase = .running ∧ t.seq.fc = s.seq.fc ∧
        t.fld Reg.SEQ_STAT 0 9 = s.seq.entry % 512 ∧
        ∃ r, t.seq.cur = some r ∧ t.seq.pend = s.seq.pend ++ [r] ∧ r.idx = s.seq.entry ∧
          r.e = s.snap.entry s.seq.entry ∧ r.fc = s.seq.fc ∧ r.firstChip = s.filt.chip ∧
          r.counted = r.e.counted ∧ t.seq.left = r.prefill + r.counted ∧
          (r.e.noPrefill = true ∨ r.e.nofill = true → r.prefill = 0)))

/-- An entry that waits starts at the active DSYNC edge, the one that SYNC_CTL.POL chooses, or, when the wait times out,
at once, with LOST and INT_STAT.SYNC set and LOCKED clear; the first edge measures no interval; while locked, an
interval within 3 % becomes the expected period; the other edge does nothing (R166, R168, R170, R172). -/
def Obligations.SyncWaits : Prop :=
  ∀ (s : State) (fall : Bool) (i : Nat), s.mainUp = true →
    (s.pwr.boot = .done → s.snap.flag Reg.SYNC_CTL 14 = fall →
      (s.seq.phase = .waiting → s.noMoreEntries = false →
        completes (.dsyncEdge ⟨fall, i⟩) s (fun t => t.seq.phase = .running ∧ t.sync.seen = true ∧ t.sync.burst = true)) ∧
      (s.seq.phase ≠ .waiting → completes (.dsyncEdge ⟨fall, i⟩) s (fun t =>
        (s.sync.seen = false → t = { s with sync := { s.sync with seen := true } }) ∧
        (s.sync.seen = true → s.syncEn = true → s.flag Reg.SYNC_STAT 14 = true →
          t = { s with sync := { s.sync with
            pexp := if 100 * ((i : Int) - s.sync.pexp).natAbs ≤ 3 * s.sync.pexp then i else s.sync.pexp } })))) ∧
    (s.pwr.boot ≠ .done ∨ s.snap.flag Reg.SYNC_CTL 14 ≠ fall → exec (.dsyncEdge ⟨fall, i⟩) s = .next s) ∧
    (s.seq.phase = .waiting → s.noMoreEntries = false →
      completes .syncTimeoutExpiry s (fun t => t.seq.phase = .running ∧ t.flag Reg.SYNC_STAT 15 = true ∧
        t.flag Reg.SYNC_STAT 14 = false ∧ t.flag Reg.INT_STAT Irq.SYNC = true)) ∧
    (s.burstRuns = true → s.snap.reg Reg.QUIET_LEN ≠ 0 → s.flag Reg.SYNC_STAT 15 = false →
      completes .spillCheck s (fun t => t.flag Reg.SYNC_STAT 12 = true ∧
        (∀ q, q ≠ Reg.SYNC_STAT → t.reg q = s.reg q) ∧ t = { s with regs := t.regs }))

/-! ### Lanes, filters, detectors (03, 04) -/

/-- A chip of a running entry takes a number and a place on the CIC timeline, counts from the first chip after the
prefill on, shortens the entry by one and begins the waveforms' first half; its place is the measured one at the start
of a burst, and one increment after the last in FIXED mode. A hold chip gives no number and no output, and the pins stay
until the last one is over. In the first half of a counted chip the drive pins of a MODE 1 entry stand at the amplitude
or at 0 V by their code value, in the prefill at rest; the self waveform stands at 1.8 V, which an active shield bus
carries, the other one being at GND. A lane's charge, a row and every other register stay (R58, R67, R76, R86, R110,
R113, R145). Without a running or a ready entry the command does nothing (log entry 5); the prefill's rest is the model's
reading of R76 and R84 (log entry 38). -/
def Obligations.ChipsDriven : Prop :=
  ∀ (s : State) (u : BitVec 32) (r : EntryRun), s.mainUp = true →
    (s.seq.phase = .running → s.seq.cur = some r → 0 < s.seq.left → completes (.driveChip u) s (fun t =>
      t.seq = { s.seq with left := s.seq.left - 1, invalid := s.seq.invalid - 1 } ∧
      t.filt.chip = s.filt.chip + 1 ∧ t.filt.first = false ∧ t.drive = { s.drive with half := some .first } ∧
      (s.filt.first = true → t.filt.trkC = u) ∧
      (s.filt.first = false → profTrack (s.snap.profile r.profile) = false →
        t.filt.trkC = s.filt.trkC + BitVec.ofNat 32 (profInc (s.snap.profile r.profile))) ∧
      (if r.off then t.filt.chips = s.filt.chips else
        ∃ c, t.filt.chips = s.filt.chips ++ [c] ∧ c.no = s.filt.chip ∧ c.pos = t.filt.trkC ∧ c.run = r.firstChip ∧
          c.counted = decide (r.firstChip + r.prefill ≤ s.filt.chip)) ∧
      (∀ n, r.e.act = 1 → t.driveLevel n = if r.firstChip + r.prefill ≤ s.filt.chip then
        (if hadamard (s.snap.index n % 128) r.e.code = 1 then s.driveAmp else 0) else s.driveAmp / 2) ∧
      t.selfLevel = 1800 ∧ (∀ b, t.shieldLevel b = if r.idle = false ∧ r.e.shields b = true then 1800 else 0) ∧
      (∀ q, q ≠ Reg.FILT_CTL → t.reg q = s.reg q) ∧
      t = { s with seq := t.seq, filt := t.filt, drive := t.drive, regs := t.regs })) ∧
    (s.seq.phase = .ready → 0 < s.seq.hold → completes (.driveChip u) s (fun t =>
      t.seq.hold + 1 = s.seq.hold ∧ t.filt.chip = s.filt.chip ∧ t.filt.chips = s.filt.chips ∧ t.filt.first = false ∧
      (s.filt.first = true → t.filt.trkC = u) ∧ (1 < s.seq.hold → t.seq.pins = s.seq.pins ∧ t.seq.phase = .ready) ∧
      (s.outputsTaken = true → t.seq.hold = 0 → t.seq.placed = true) ∧
      (∀ q, q ≠ Reg.FILT_CTL → t.reg q = s.reg q) ∧ t = { s with seq := t.seq, filt := t.filt, regs := t.regs })) ∧
    (s.seq.phase ≠ .running → s.seq.phase ≠ .ready → exec (.driveChip u) s = .next s)

/-- One cadence period of a converting lane, step by step as R68 gives it, with the compensation charge of R71 at a
drive edge of a MODE 1 entry, and in an INTERNAL test, and in the hold chips after it, the charge of the test capacitor in
place of the pin's (R98); a hold chip has no edge (R145);
charges are in units of 1/3200 pC (log entry 1), and the test capacitor's is 5760 of them (log entry 32). A lane that does
not convert keeps its charge; which role a lane has outside an entry's chips is the model's choice (log entry 31). The
waveforms go on to the half that the edge begins. -/
def Obligations.CadencePeriodConverts : Prop :=
  ∀ (s : State) (h : Half) (edge : Option Half) (q : List Int) (n : LaneId), s.mainUp = true → s.agreed 4 = false →
    s.fmon.faults = [] →
    completes (.cadencePeriod h edge q) s (fun t =>
      let role := nth s.rolesNow n.val .ground
      let l := s.lanes.get n
      let sgn : Int := if h = .first then 1 else -1
      let ed := if s.running.isSome then edge else none
      let se : Int := match ed with
        | some .first => 1
        | some .second => -1
        | none => 0
      let qin : Int := if s.internalNow = true then 5760 * se else nth q n.val 0
      let qc : Int := match s.edgeSum ed, s.lanePin n.val with
        | some w, some p => if role = .sense then se * s.snap.compCharge p * w else 0
        | _, _ => 0
      let qu : Int := 160 * 2 ^ s.gainNow
      let x1 := l.x + qin - qc + qu / 2
      let x2 := if 0 ≤ x1 then x1 - qu else x1
      let d : Int := if 0 ≤ x1 then sgn else -sgn
      t.filt.cad = s.filt.cad + 1 ∧
      t.drive = { s.drive with half := if ed.isSome then ed else s.drive.half } ∧
      t = { s with lanes := t.lanes, filt := t.filt, dets := t.dets, drive := t.drive } ∧
      if role = .sense ∨ role = .self then
        (t.lanes.get n).x = Max.max (-16 * qu) (Min.min (16 * qu) x2) ∧ (t.lanes.get n).d = d ∧
        (∀ i k, l.int = i :: k → 1 ≤ s.filt.order →
          (t.lanes.get n).int.head? = some (i + BitVec.ofInt 41 d)) ∧
        (16 * qu < x2.natAbs → ∃ e ∈ t.filt.sats, e.lane = n.val ∧ e.chip = s.chipNow ∧ e.high = decide (0 < x2))
      else (t.lanes.get n).x = l.x)

/-- A CIC output of every lane: the combs' result scaled to 24 bits, rounded half up, saturated at the top, corrected by
the lane's factors, and put in front of the last eight outputs; the pattern of 2^40 stands for +2^40 when the last bit
taken was +1 (R103 to R105, R112, R368; log entry 30). -/
def Obligations.CicOutputScales : Prop :=
  ∀ (s : State) (n : LaneId), s.mainUp = true → s.agreed 4 = false → s.fmon.faults = [] →
    (s.filt.cic + 1) * s.filt.decim ≤ s.filt.cad →
    completes .cicOutput s (fun t =>
      let l := s.lanes.get n
      let b := (combs s.filt.order (nth l.int (s.filt.order - 1) 0) l.comb).1
      let c : Int := if b.toNat = 2 ^ 40 ∧ 0 < l.d then 2 ^ 40 else b.toInt
      let k := s.filt.order * Nat.log2 s.filt.decim
      let y := Min.min 0x7FFFFF (if k ≤ 23 then c * 2 ^ (23 - k) else (c + 2 ^ (k - 24)) / 2 ^ (k - 23))
      let off := s.snap.tab Win.CALF (2 * n.val)
      let gain := s.snap.tab Win.CALF (2 * n.val + 1)
      t.filt.cic = s.filt.cic + 1 ∧ t = { s with lanes := t.lanes, filt := t.filt, dets := t.dets } ∧
      (nth (t.lanes.get n).hist 0 0).toInt = sat (((y - 256 * off.toInt) * gain.toNat + 2 ^ 14) / 2 ^ 15) ∧
      (t.lanes.get n).hist = (nth (t.lanes.get n).hist 0 0 :: l.hist).take 8)

/-- The bank in use for the first output of chip `no` and, in a fade, the old and the new bank, the output's number in the
fade and the fade's length: a fade runs from chip `first` on for `len` outputs, the length taken with its first one; at its
end the target is current, and a pending bank that differs begins the next fade (R126, R127). -/
def Sys2Proof.Machine.State.blendFor (s : State) (no : Nat) : Bool × Option (Bool × Bool × Nat × Nat) :=
  let len := 8 * 2 ^ s.fld Reg.BANK_CTL 8 2
  match s.filt.fade with
  | none => (s.filt.cur, none)
  | some f =>
    if no < f.first then (s.filt.cur, none)
    else if no < f.first + f.len then (s.filt.cur, some (s.filt.cur, f.target, no - f.first, if no = f.first then len else f.len))
    else if s.filt.pend = some (!f.target) then (f.target, some (f.target, !f.target, 0, len))
    else (f.target, none)

/-- A lane's output for a chip is the 8-tap sum of R112 with a bank and the phase that the position's fraction gives, over
the outputs from floor(a) back; an output that is no longer held is a free value (log entry 33). The chip's first output
fixes its bank, the current one, or, in a fade, its number k in it, of which R126 gives the blend of both banks; the other
lanes take the same. In a counted chip the output is added to the entry's sum. After the last output of a fade its target
is current; a pending bank that differs begins a fade there, one that does not is discarded (R112, R126, R127). -/
def Obligations.ResamplerAndFade : Prop :=
  (∀ (s : State) (n : LaneId) (c : Chip), s.mainUp = true → s.agreed 4 = false → s.fmon.faults = [] →
     s.nextChip (s.lanes.get n) = some c → s.outputDue c n.val = true →
     completes (.resamplerOutput n) s (fun t =>
       let p := (s.outPos c n.val).toNat / 2 ^ 19 % 32
       let lag := s.outputLag c n.val
       let x (i : Nat) : Int := (((s.lanes.get n).hist[lag + i]?).getD
         (BitVec.ofInt 24 (Config.freeInt (s.freeCtr + i)))).toInt
       let one (bank : Bool) : Int := sat ((((List.range 8).map (fun i => s.coef bank (8 * p + i) * x i)).sum + 2 ^ 15) / 2 ^ 16)
       let y : Int := match (if c.no < s.filt.edge then (c.bank, c.fade) else s.blendFor c.no) with
         | (bank, none) => one bank
         | (_, some (o, m, k, len)) =>
           (one o * (len - 1 - k : Nat) + one m * (k + 1) + (len / 2 : Nat)) / 2 ^ Nat.log2 len
       let old := (alook (s.lanes.get n).acc c.run).getD 0
       (s.filt.edge ≤ c.no → t.filt.edge = c.no + 1 ∧
         ∀ d ∈ t.filt.chips, d.no = c.no → (d.bank, d.fade) = s.blendFor c.no) ∧
       alook (t.lanes.get n).acc c.run = (if c.counted then some (old + y) else alook (s.lanes.get n).acc c.run) ∧
       (t.lanes.get n).next = c.no + 1 ∧ (∀ m, m ≠ n → t.lanes.get m = s.lanes.get m) ∧
       t = { s with lanes := t.lanes, filt := t.filt, seq := t.seq, freeCtr := t.freeCtr } ∧
       (s.seq.phase ≠ .ready → t.seq = s.seq))) ∧
  (∀ (s : State) (f : Fade), s.mainUp = true → s.filt.fade = some f → f.first + f.len ≤ s.filt.edge →
     completes .fadeComplete s (fun t => t.filt.cur = f.target ∧ t.filt.pend = none ∧ t = { s with filt := t.filt } ∧
       t.filt.fade = if s.filt.pend = some (!f.target) then
         some ⟨!f.target, 8 * 2 ^ s.fld Reg.BANK_CTL 8 2, f.first + f.len, 0⟩ else none))

/-- A row is written whole (R25, R87, R117, R152): its status carries FRAME, LOST, and OVERRUN when the row before it was
not released; a converting lane's slot holds the shifted, clamped sum, or the overrange code when a dirty chip
contributes; every word of another row stays. -/
def Obligations.RowWritten : Prop :=
  ∀ (s : State) (r : EntryRun) (rest : List EntryRun), s.mainUp = true → s.seq.pend = r :: rest →
    s.rowReady r = true → r.idx ≤ 383 → s.MemWf → s.fmon.faults = [] →
    completes (.rowWrite false) s (fun t =>
      r.idx ∈ t.rowDone ∧ t.seq.pend = rest ∧
      bits (t.rowWord r.idx 0) 0 6 = r.fc.toNat % 64 ∧
      ((t.rowWord r.idx 0).getLsbD 12 = r.lost) ∧
      ((t.rowWord r.idx 0).getLsbD 11 = s.rowHeld.contains r.idx) ∧
      (∀ row w, row ≠ r.idx → w ≤ 160 → t.rowWord row w = s.rowWord row w) ∧
      ∀ n < 160, r.e.act ≠ 5 → r.e.act ≠ 7 → n ∉ r.blocked → r.off = false → r.idle = false →
        let lane := r.slotLane n
        let signs := s.entrySigns r lane
        let signed := r.e.signed && !r.e.internal
        let sum := (alook (s.lanes.toList.getD lane Lane.reset).acc r.firstChip).getD 0
        let v := sum / 2 ^ r.e.shift / (if r.e.align then 2 ^ 8 else 1)
        if (nth r.roles lane .ground).converts = false then t.rowWord r.idx (1 + n) = 0
        else if signs = [] then
          (if signed then (t.rowWord r.idx (1 + n)).toInt = Max.max (-32767) (Min.min 32766 v)
          else ((t.rowWord r.idx (1 + n)).toNat : Int) = Max.max 0 (Min.min 65534 v))
        else t.rowWord r.idx (1 + n) =
          if signed = false then 0xFFFF else if signs.all id then 0x7FFF else 0x8000)

/-- On the last sample of a block the detector's result words, DONE and DIRTY are written and it is idle (R131, R134). A
conversion of a running MODE 5 entry goes to the next slot, VPUMP reading 0 while the pump is stopped; channel 0 also
updates TEMP, as it does in a self-calibration, where the first update without a measured T_LAST sets it, rounded to
degrees (R155, R156, R371, R374). -/
def Obligations.GoertzelAndHousekeeping : Prop :=
  (∀ (s : State) (k : Fin 4), s.mainUp = true → s.agreed 4 = false → (s.dets.get k).busy = true →
     (s.dets.get k).n = (s.dets.get k).blen → s.MemWf →
     completes (.goertzelBlockDone k) s (fun t =>
       let d := s.dets.get k
       let pw := d.s1 * d.s1 + d.s2 * d.s2 - (d.coef * d.s1 * d.s2 + 2 ^ 21) / 2 ^ 22
       let mag := (Max.max 0 (Min.min 0xFFFFFFFF (pw / 2 ^ (2 * Nat.clog 2 d.blen)))).toNat
       t.tab Win.GOERTZEL (8 * k.val + 4) = word (mag / 65536) ∧ t.tab Win.GOERTZEL (8 * k.val + 5) = word mag ∧
       t.tab Win.GOERTZEL (8 * k.val + 6) = s.seq.fc ∧
       t.tab Win.GOERTZEL (8 * k.val + 7) = s.tab Win.GOERTZEL (8 * k.val + 7) + 1 ∧
       t.flag Reg.GOERTZEL_STAT (12 + k.val) = true ∧ t.flag Reg.GOERTZEL_STAT (4 + k.val) = d.dirty ∧
       (t.dets.get k).busy = false ∧ (∀ j, j ≠ k → t.dets.get j = s.dets.get j) ∧
       (∀ q, q ≠ Reg.GOERTZEL_STAT → t.reg q = s.reg q) ∧ t = { s with dets := t.dets, tables := t.tables, regs := t.regs })) ∧
  (∀ (s : State) (ch : Fin 7) (v : Word) (r : EntryRun), s.mainUp = true →
     (s.calBusy = false → s.running = some r → r.e.act = 5 → ch.val = r.hk.length → s.chipsOver = false →
       completes (.hkConversionDone ch v) s (fun t =>
         (∃ r', t.seq.cur = some r' ∧ r'.idx = r.idx ∧
           r'.hk = r.hk ++ [if ch.val = 6 ∧ s.drive.pump = false then 0 else v]) ∧
         t.reg Reg.TEMP = if ch = 0 then v else s.reg Reg.TEMP)) ∧
     (s.calBusy = true → completes (.hkConversionDone 0 v) s (fun t => t.reg Reg.TEMP = v ∧
       (s.cal.measured = false → (t.fld Reg.CAL_TEMP_DELTA 8 8 : Int) = (v.toInt + 8) / 16 % 256 ∧
         t.fld Reg.CAL_TEMP_DELTA 0 8 = s.fld Reg.CAL_TEMP_DELTA 0 8) ∧
       (s.cal.measured = true → t.reg Reg.CAL_TEMP_DELTA = s.reg Reg.CAL_TEMP_DELTA) ∧
       (∀ q, q ≠ Reg.TEMP → q ≠ Reg.CAL_TEMP_DELTA → t.reg q = s.reg q) ∧
       t = { s with regs := t.regs, cal := { s.cal with measured := true } })) ∧
     (s.calBusy = true → ch ≠ 0 → exec (.hkConversionDone ch v) s = .next s))

/-! ### Charge pump, DPLL (03, 05, 11) -/

/-- VPUMP in its window sets PUMP_RDY and clears PUMP_LOW; VPUMP low for 1 ms sets PUMP_LOW; neither is judged while the
pump is stopped (R81, R83). The DPLL locks when its output lies within 24 to 96 MHz, and else shows that it does not, and it
is off in BOOT (Table 11.12; that the boot's end is that moment is the model's choice, log entry 67); a
DPLL that loses lock while it drives leaves the timebase to FIO; a CLK_CTL write with TB 0b00 turns it off (R160 to
R164). -/
def Obligations.PumpAndDpll : Prop :=
  (∀ (s : State), s.mainUp = true →
     (s.drive.pump = true →
       completes .pumpReady s (fun t => t.flag Reg.LANE_STAT 15 = true ∧ t.flag Reg.LANE_STAT 14 = false ∧
         (∀ q, q ≠ Reg.LANE_STAT → t.reg q = s.reg q) ∧ t = { s with regs := t.regs }) ∧
       completes .pumpLow s (fun t => t.flag Reg.LANE_STAT 14 = true ∧ t.flag Reg.LANE_STAT 15 = false ∧
         (∀ q, q ≠ Reg.LANE_STAT → t.reg q = s.reg q) ∧ t = { s with regs := t.regs })) ∧
     (s.drive.pump = false → exec .pumpReady s = .next s ∧ exec .pumpLow s = .next s)) ∧
  (∀ (s : State) (refHz : Nat) (c : UnlockCause) (v : Word), s.mainUp = true →
     (s.pwr.boot ≠ .done → exec (.dpllLock refHz) s = .next s) ∧
     (s.pwr.boot = .done → s.tb ≠ 0 → s.flag Reg.CLK_STAT 14 = false → completes (.dpllLock refHz) s (fun t =>
       let f := refHz * Max.max 1 (s.fld Reg.CLK_CTL 0 12)
       t = { s with regs := t.regs, drive := t.drive } ∧ (∀ q, q ≠ Reg.CLK_STAT → t.reg q = s.reg q) ∧
       if 24000000 ≤ f ∧ f ≤ 96000000 then t.flag Reg.CLK_STAT 14 = true ∧ t.drive.dpllHz = f
       else t.flag Reg.CLK_STAT 14 = false ∧ t.flag Reg.CLK_STAT 10 = true ∧ t.drive = s.drive)) ∧
     (s.flag Reg.CLK_STAT 14 = true → completes (.dpllUnlock c) s (fun t =>
       t.flag Reg.CLK_STAT 14 = false ∧ t = { s with regs := t.regs, drive := t.drive } ∧
       (∀ q, q ≠ Reg.CLK_STAT → t.reg q = s.reg q) ∧
       (s.flag Reg.CLK_STAT 15 = true → t.flag Reg.CLK_STAT 13 = true ∧ t.drive.toFio = true) ∧
       (s.flag Reg.CLK_STAT 15 = false → t.flag Reg.CLK_STAT 13 = s.flag Reg.CLK_STAT 13 ∧ t.drive = s.drive) ∧
       (c = .range → t.flag Reg.CLK_STAT 10 = true))) ∧
     completes (.clkCtlWrite v) s (fun t => t.reg Reg.CLK_CTL = (s.reg Reg.CLK_CTL &&& 0x8000) ||| (v &&& 0x7FFF) ∧
       (bits v 13 2 = 0 → t.flag Reg.CLK_STAT 14 = false) ∧ t = { s with regs := t.regs, drive := t.drive } ∧
       ∀ q, q ≠ Reg.CLK_CTL → q ≠ Reg.CLK_STAT → t.reg q = s.reg q))

/-! ### Fumarole and Sinter ring (09) -/

/-- A flush discards every committed item and closes the gap state, keeps what is staged, and shows CUT when an item was
being read; CLRGAP clears RPT_GAPS and nothing else (R291, R295). The oldest inserted record is pushed and committed at
once while no frame is staging, with the frame counter and the AON time of that moment; while a frame is open it waits
(R284; that its commit sets INT_STAT.RPT is the model's reading of R295, log entry 20). -/
def Obligations.FlushAndInsert : Prop :=
  (∀ (s : State), s.mainUp = true →
     completes .rptFlush s (fun t => t.queue.items = [] ∧ t.queue.gap = none ∧ t.queue.staged = s.queue.staged ∧
       t.queue.word = s.queue.word ∧ t.queue.cut = (s.queue.word != 0) ∧
       (s.queue.word ≠ 0 → t.flag Reg.RPT_STAT 12 = true) ∧ (∀ q, q ≠ Reg.RPT_STAT → t.reg q = s.reg q) ∧
       t = { s with queue := t.queue, regs := t.regs, pwr := t.pwr, seq := t.seq }) ∧
     completes .rptClrgap s (fun t => t.reg Reg.RPT_GAPS = 0 ∧ (∀ q, q ≠ Reg.RPT_GAPS → t.reg q = s.reg q) ∧
       t = { s with regs := t.regs })) ∧
  (∀ (s : State) (r : Rec) (rest : List Rec), s.mainUp = true → s.queue.ins = r :: rest →
     (s.cald.isOpen = true → exec .insertPush s = .next s) ∧
     (s.cald.isOpen = false → s.queue.stopped = false → s.flag Reg.FUNC_EN 5 = true → s.queue.occupancy < 63 →
       s.queue.gap = none → completes .insertPush s (fun t =>
         t.queue.ins = rest ∧ t.queue.staged = [] ∧
         t.queue.items = s.queue.items ++ s.queue.staged ++
           [(r.set 1 s.seq.fc).set 2 (s.aon.time.setWidth 16)] ∧
         (Max.max 1 (s.fld Reg.RPT_CTL 8 6) ≤ t.queue.items.length → t.flag Reg.INT_STAT Irq.RPT = true) ∧
         t = { s with queue := t.queue, regs := t.regs, fmon := t.fmon })))

/-- MARK notes the write position; REWIND goes back to it, or without one to the oldest valid entry with REWIND_ERR;
CLEAR leaves no entry valid; a write of RING_RD takes a position within the entries written since the last clear, the
oldest of them for any other (that those are the valid ones is the model's reading, log entry 47). An entry goes to the
write position, which moves on modulo 4096; writing over an unread entry moves the read position on too and sets
OVERTAKE; every other entry stays (R298 to R303). -/
def Obligations.RingPointersAndWrites : Prop :=
  (∀ (s : State) (v : Word), s.mainUp = true →
     completes .ringMark s (fun t => t.ring.mark = some s.ring.wr ∧ t.ring.markIdx = s.ring.wr ∧
       t.ring.rd = s.ring.rd ∧ t.ring.u = s.ring.u ∧ t = { s with ring := t.ring }) ∧
     completes .ringRewind s (fun t => t = { s with ring := t.ring, regs := t.regs } ∧
       (∀ q, q ≠ Reg.RING_STAT → t.reg q = s.reg q) ∧ t.ring.wr = s.ring.wr ∧
       match s.ring.mark with
       | some m => t.ring.rd = m ∧ t.ring.u = Min.min 4096 s.ring.since ∧ t.ring.mark = some m ∧ t.regs = s.regs
       | none => t.ring.rd = s.ring.wr - BitVec.ofNat 12 s.ring.count ∧ t.ring.u = s.ring.count ∧
         t.flag Reg.RING_STAT 13 = true) ∧
     completes .ringClear s (fun t => t.ring.rd = s.ring.wr ∧ t.ring.wr = s.ring.wr ∧ t.ring.u = 0 ∧
       t.ring.wrapped = false ∧ t.ring.mark = none ∧ t.ring.count = 0 ∧ t = { s with ring := t.ring }) ∧
     completes (.ringRdWrite v) s (fun t => t = { s with ring := t.ring } ∧ t.ring.wr = s.ring.wr ∧
       (if (s.ring.wr - v.setWidth 12).toNat ≤ s.ring.count then t.ring.rd.toNat = v.toNat % 4096
       else t.ring.rd = s.ring.wr - BitVec.ofNat 12 s.ring.count) ∧
       t.ring.u = (s.ring.wr.toNat + 4096 - t.ring.rd.toNat) % 4096)) ∧
  (∀ (s : State) (e : Vector Word 4), s.MemWf →
     let t := s.ringWrite e
     (∀ p < 4096, ∀ i < 4, t.tab Win.RING (4 * p + i) =
       if p = s.ring.wr.toNat then e.toList.getD i 0 else s.tab Win.RING (4 * p + i)) ∧
     t.ring.wr = s.ring.wr + 1 ∧ t.ring.count = Min.min 4096 (s.ring.count + 1) ∧ t.ring.wrapped = (s.ring.wrapped || decide (s.ring.wr = 4095)) ∧
     t.ring.mark = (if s.ring.since = 4096 then none else s.ring.mark) ∧
     (s.ring.u < 4096 → t.ring.u = s.ring.u + 1 ∧ t.ring.rd = s.ring.rd ∧
       t.flag Reg.RING_WR 15 = s.flag Reg.RING_WR 15) ∧
     (s.ring.u = 4096 → t.ring.u = 4096 ∧ t.ring.rd = s.ring.rd + 1 ∧ t.flag Reg.RING_WR 15 = true))

/-! ### Host port (10) -/

/-- The byte after the header of an SPI read (Table 10.4): RESP, MAIN_ON, IRQ, PREV_ERR, MARK. -/
def Sys2Proof.Machine.State.statusByte (s : State) (resp : Nat) : Byte :=
  BitVec.ofNat 8 (32 * resp + 16 * s.mainUp.toNat + 8 * s.irqAsserted.toNat + 4 * s.prevErr.toNat + 1)

/-- The port is an SPI target between transactions, no fault alters its pins, transactions without CRC are allowed, and no
reset of the port waits. -/
def Sys2Proof.Machine.State.spiIdle (s : State) : Prop :=
  s.aonUp = true ∧ s.aon.hsel = false ∧ s.port.txn = none ∧ s.fmon.faults = [] ∧ s.port.ctl.getLsbD 14 = false ∧
    s.port.rstDue = false

/-- The port is an I2C target between transactions, without CRC, and no fault alters its pins. -/
def Sys2Proof.Machine.State.i2cIdle (s : State) : Prop :=
  s.aonUp = true ∧ s.aon.hsel = true ∧ s.port.txn = none ∧ s.port.stretch = none ∧ s.fmon.faults = [] ∧
    s.port.ctl.getLsbD 13 = false

/-- An SPI header without CRC. -/
def Sys2Proof.spiHdr (addr : Nat) : SpiHeader := ⟨0, BitVec.ofNat 8 addr, none⟩

/-- A register whose read has no side effect (R309). -/
def Sys2Proof.plainRead (r : RegId) : Prop := r.val ∉ [0x0A, 0x0B, 0x2B, 0x2C, 0x36, 0x3E, 0x45]

/-- A register whose write does nothing but change its fields. -/
def Sys2Proof.plainWritten (r : RegId) : Prop :=
  r.val ∉ [0x05, 0x06, 0x08, 0x0C, 0x0D, 0x10, 0x11, 0x12, 0x16, 0x22, 0x28, 0x2F, 0x34, 0x38, 0x3B, 0x3C, 0x3E,
    0x40, 0x43, 0x45, 0x4A]

/-- What R9 and R11 make of a register's old word and the word written. -/
def Sys2Proof.Machine.writtenWord (r : RegId) (old v : Word) : Word :=
  ((old &&& ~~~rwMask r.val) ||| (v &&& rwMask r.val)) &&& ~~~(v &&& w1cMask r.val)

/-- `t` is the block at the start of a boot with a cause, straps as given, and of `s` nothing but flash and OTP; what a
flash step, or the erasure of RETURN, leaves when a reset cuts it short is not said here (log entry 62). -/
def Sys2Proof.Machine.bootsFrom (s : State) (cause : Nat) (hsel hsdo : Bool) (t : State) : Prop :=
  t.regs = regsReset ∧ t.tables = [] ∧ t.pwr.pstate = .boot ∧ t.pwr.ready = false ∧ t.pwr.cause = cause ∧
    (s.nvm.todo = [] → s.sec.trans ≠ .returned → t.flash = s.flash) ∧ t.sec.otp = s.sec.otp ∧ t.sec.unlocked = false ∧
    t.sec.nonce = none ∧ t.aon.hsel = hsel ∧ t.aon.hsdo = hsdo ∧ t.aon.time = 0 ∧ t.cald.isOpen = false ∧ t.queue.items = []

/-- The RW fields of r have taken the written value. -/
def Sys2Proof.Machine.takesFields (r : RegId) (v : Word) (t : State) : Prop :=
  ∀ i, (rwMask r.val).getLsbD i = true → (t.reg r).getLsbD i = v.getLsbD i

/-- A committed write of a register updates its RW and W1C fields in one step and leaves every other bit and register;
reserved addresses ignore it; SYS_RESET resets the block when its high byte is 0xA5, with straps that such a write does
not carry (R11, R12, R13, R358, R436; log entry 37). A write of a register with command bits also takes its RW fields and
sets off each command whose bit is 1, as the commands of their own do (R13, R302, R336, R360, R361, R395, R409); PWR_VOTE
with HOST ends a request for sleep (R336, R445), clearing GEYSER_CFG.EN in SLEEP stops the Geyser (R274), a write of
WIN_SEL clears ERRCNT (R322), and HOST_CTL is copied to AON (R330). -/
def Obligations.RegisterWriteFields : Prop :=
  ∀ (s : State) (r : RegId) (a : BitVec 7) (v : Word),
    (plainWritten r → a.toNat = r.val → s.answers r.val = true →
      completes (.registerWrite a v) s (fun t =>
        (∀ i, (t.reg r).getLsbD i =
          if (rwMask r.val).getLsbD i then v.getLsbD i
          else (s.reg r).getLsbD i && !(v.getLsbD i && (w1cMask r.val).getLsbD i)) ∧
        (∀ q, q ≠ r → t.reg q = s.reg q) ∧ t = { s with regs := t.regs })) ∧
    (80 ≤ a.toNat → exec (.registerWrite a v) s = .next s) ∧
    (a = 0x0D → s.aonUp = true → completes (.registerWrite a v) s (fun t =>
      if bits v 8 8 = 0xA5 then bootsFrom s 3 t.aon.hsel t.aon.hsdo t else t = s)) ∧
    (r.val ∈ [0x05, 0x06, 0x08, 0x0C, 0x11, 0x12, 0x16, 0x22, 0x28, 0x2F, 0x34, 0x38, 0x3C, 0x43, 0x4A] →
      a.toNat = r.val → s.answers r.val = true → completes (.registerWrite a v) s (takesFields r v)) ∧
    (s.aonUp = true →
      exec (.registerWrite 0x0C v) s = exec (.wakeTimerWrite v) s ∧
      completes (.registerWrite 0x05 v) s (fun t => v.getLsbD 15 = true → t.flag Reg.PWR_VOTE 0 = false) ∧
      completes (.registerWrite 0x06 v) s (fun t => v.getLsbD 0 = true → t.flag Reg.SLEEP_CTL 15 = false ∧
        (s.pwr.hs = none → s.seq.run = false → s.calderaBusy = false → s.nvm.op = none → t.pwr.goSleep = false)) ∧
      completes (.registerWrite 0x08 v) s (fun t => t = { s with regs := t.regs, geyser := t.geyser } ∧
        if s.pwr.pstate = .sleep ∧ v.getLsbD 15 = false then
          t.geyser.on = false ∧ t.geyser.cand = false ∧ t.geyser.evs = []
        else t.geyser = s.geyser)) ∧
    (s.mainUp = true →
      (∀ p ∈ [(0x0001, Instr.funcResetLanes), (0x0002, .funcResetFilters), (0x0004, .funcResetSeq),
          (0x0008, .funcResetCaldera), (0x0010, .funcResetTrack), (0x0020, .funcResetQueue), (0x0040, .funcResetRing),
          (0x0080, .funcResetNvmctl), (0x0100, .funcResetHostport), (0x0200, .funcResetGeyser),
          (0x0400, .funcResetGoertzel)], exec (.registerWrite 0x10 p.1) s = exec p.2 s) ∧
      exec (.registerWrite 0x12 v) s = exec (.clkCtlWrite v) s ∧
      exec (.registerWrite 0x3B v) s = exec (.ringRdWrite v) s ∧
      exec (.registerWrite 0x3E v) s = exec (.winDataAccess false v) s ∧
      exec (.registerWrite 0x45 v) s = exec (.authChalWrite v) s ∧
      (let u (q : RegId) := s.plainWrite q v
       (v.toNat / 2 ^ 13 = 4 → exec (.registerWrite 0x16 v) s = exec .schedLoad (u Reg.SCHED_CTL)) ∧
       (v.toNat / 2 ^ 13 = 2 → exec (.registerWrite 0x16 v) s = exec .schedCommit (u Reg.SCHED_CTL)) ∧
       (v.toNat / 2 ^ 13 = 1 → exec (.registerWrite 0x16 v) s = exec .schedAbort (u Reg.SCHED_CTL)) ∧
       (v.toNat / 2 ^ 14 = 2 → exec (.registerWrite 0x28 v) s = exec .calSelf (u Reg.CAL_CMD)) ∧
       (v.toNat / 2 ^ 14 = 1 → exec (.registerWrite 0x28 v) s = exec .calRecal (u Reg.CAL_CMD)) ∧
       (v.toNat / 2 ^ 12 % 8 = 4 → exec (.registerWrite 0x38 v) s = exec .ringMark (u Reg.RING_CTL)) ∧
       (v.toNat / 2 ^ 12 % 8 = 2 → exec (.registerWrite 0x38 v) s = exec .ringRewind (u Reg.RING_CTL)) ∧
       (v.toNat / 2 ^ 12 % 8 = 1 → exec (.registerWrite 0x38 v) s = exec .ringClear (u Reg.RING_CTL))) ∧
      (v.getLsbD 15 = true → let k : Byte := v.setWidth 8
        (bits v 8 4 = 1 → exec (.registerWrite 0x40 v) s = exec (.nvmProgramA k) s) ∧
        (bits v 8 4 = 2 → exec (.registerWrite 0x40 v) s = exec (.nvmProgramB k) s) ∧
        (bits v 8 4 = 3 → exec (.registerWrite 0x40 v) s = exec (.nvmSaveCal k) s) ∧
        (bits v 8 4 = 4 → exec (.registerWrite 0x40 v) s = exec (.nvmCaptureSig k) s) ∧
        (bits v 8 4 = 5 → exec (.registerWrite 0x40 v) s = exec (.nvmEraseA k) s) ∧
        (bits v 8 4 = 6 → exec (.registerWrite 0x40 v) s = exec (.nvmEraseB k) s)) ∧
      (v.getLsbD 15 = false → completes (.registerWrite 0x40 v) s (fun t => t.fld Reg.NVM_CTL 8 4 = bits v 8 4 ∧
        t = { s with regs := t.regs })) ∧
      completes (.registerWrite 0x11 v) s (fun t => t.flag Reg.FUNC_EN 8 = s.flag Reg.FUNC_EN 8) ∧
      completes (.registerWrite 0x22 v) s (fun t => t.filt = { s.filt with clr := s.filt.clr || v.getLsbD 1 } ∧
        t = { s with regs := t.regs, filt := t.filt }) ∧
      completes (.registerWrite 0x2F v) s (fun t =>
        t.flag Reg.BASE_CTL 15 = (s.flag Reg.BASE_CTL 15 || v.getLsbD 15) ∧ (∀ q, q ≠ Reg.BASE_CTL → t.reg q = s.reg q) ∧
        t = { s with regs := t.regs }) ∧
      completes (.registerWrite 0x34 v) s (fun t =>
        (if v.getLsbD 15 then t.queue.items = [] ∧ t.queue.gap = none else t.queue = s.queue) ∧
        t.reg Reg.RPT_GAPS = if v.getLsbD 14 then 0 else s.reg Reg.RPT_GAPS) ∧
      completes (.registerWrite 0x3C v) s (fun t => t.fld Reg.WIN_STAT 0 8 = 0 ∧
        (∀ q, q ≠ Reg.WIN_SEL → q ≠ Reg.WIN_STAT → t.reg q = s.reg q) ∧ t = { s with regs := t.regs }) ∧
      completes (.registerWrite 0x43 v) s (fun t =>
        (v.getLsbD 15 = false → t.sec.nonce = none ∧ t.sec.asked = s.sec.asked ∧ t.sec.trans = s.sec.trans ∧
          t.sec.unlocked = s.sec.unlocked ∧ (∀ q, q ≠ Reg.DEBUG_CTL → t.reg q = s.reg q)) ∧
        (v.getLsbD 15 = true → bits v 12 3 = 3 → t.sec.unlocked = false) ∧
        (v.getLsbD 15 = true → 4 ≤ bits v 12 3 → t.flag Reg.DEBUG_STAT 10 = true ∧ t.sec.asked = s.sec.asked ∧
          t.sec.trans = s.sec.trans) ∧
        t = { s with sec := t.sec, regs := t.regs }) ∧
      completes (.registerWrite 0x4A v) s (fun t => t.port = { s.port with ctl := t.reg Reg.HOST_CTL } ∧
        (∀ q, q ≠ Reg.HOST_CTL → t.reg q = s.reg q) ∧ t = { s with regs := t.regs, port := t.port }))

/-- An SPI register read answers with zeros during the header, the status byte READY, and the register as it reads, high
byte first; nothing but the port, and what the queue's read side sees, changes. An SPI register write commits its word,
high byte first. With CRC on, a written word commits only when its CRC byte checks; a wrong one commits nothing, sets
CRC_ERR and INT_STAT.HOST and counts (R5, R306 to R309, R317 to R319). -/
def Obligations.SpiRegisterTransfers : Prop :=
  (∀ (s : State) (r : RegId) (v : Word), s.spiIdle → s.answers r.val = true →
     (plainRead r → completes (.spiRegisterRead (some (spiHdr r.val)) 1) s (fun t =>
       t.port.out = [0, 0, s.statusByte 4] ++ bytesOfWord (s.queueSync.viewReg r) ∧
       t = { s with port := t.port, queue := { s.queue with seen := s.queue.items.length } })) ∧
     (plainWritten r → completes (.spiRegisterWrite (some (spiHdr r.val)) [⟨v, none⟩]) s (fun t =>
       t.reg r = writtenWord r (s.reg r) v ∧ (∀ q, q ≠ r → t.reg q = s.reg q) ∧
       t.port.out = [0, 0, 0, 0] ∧
       t = { s with regs := t.regs, port := t.port, queue := { s.queue with seen := s.queue.items.length } }))) ∧
  (∀ (s : State) (r : RegId) (v : Word) (k : Byte), s.spiIdle → s.answers r.val = true → plainWritten r →
     r ≠ Reg.HOST_STAT → r ≠ Reg.INT_STAT →
     let h : SpiHeader := ⟨0, BitVec.ofNat 8 r.val, some (crc8 [0x10, BitVec.ofNat 8 r.val])⟩
     let good := crc8From 0xFF (bytesOfWord v)
     completes (.spiRegisterWrite (some h) [⟨v, some k⟩]) s (fun t =>
       (∀ q, q ≠ r → q ≠ Reg.HOST_STAT → q ≠ Reg.INT_STAT → t.reg q = s.reg q) ∧
       t = { s with regs := t.regs, port := t.port, queue := { s.queue with seen := s.queue.items.length } } ∧
       if k = good then t.reg r = writtenWord r (s.reg r) v ∧ t.reg Reg.HOST_STAT = s.reg Reg.HOST_STAT ∧
         t.reg Reg.INT_STAT = s.reg Reg.INT_STAT
       else t.reg r = s.reg r ∧ t.flag Reg.HOST_STAT HostErr.CRC_ERR = true ∧ t.flag Reg.INT_STAT Irq.HOST = true ∧
         t.fld Reg.HOST_STAT 0 8 = Min.min 255 (s.fld Reg.HOST_STAT 0 8 + 1)))

/-- While MAIN is not ready, a read of a MAIN register answers NOT_READY and 0xFF, with NR set, a write is lost with
WR_LOST set, and in SLEEP either asks for a wake; STATUS answers in every power state, and WAKE asks for one (R325,
R326). -/
def Obligations.PortWhileMainIsOff : Prop :=
  ∀ (s : State) (r : RegId) (v : Word), s.spiIdle →
    (s.mainUp = false → 16 ≤ r.val →
      completes (.spiRegisterRead (some (spiHdr r.val)) 1) s (fun t =>
        t.port.out.take 2 = [0, 0] ∧ (t.port.out.getD 2 0).toNat / 32 = 2 ∧ t.port.out.drop 3 = [0xFF, 0xFF] ∧
        t.flag Reg.HOST_STAT HostErr.NR = true ∧ t.port.vote = true ∧
        (s.pwr.pstate = .sleep → WakeSource.host ∈ t.pwr.reqs)) ∧
      completes (.spiRegisterWrite (some (spiHdr r.val)) [⟨v, none⟩]) s (fun t =>
        t.flag Reg.HOST_STAT HostErr.WR_LOST = true ∧ (∀ q, q ≠ Reg.HOST_STAT → q ≠ Reg.INT_STAT → t.reg q = s.reg q) ∧
        (s.pwr.pstate = .sleep → WakeSource.host ∈ t.pwr.reqs))) ∧
    completes (.spiStatus (spiHdr 0) 2) s (fun t =>
      t.port.out = [0, 0, s.statusByte 4] ++ bytesOfWord (s.viewReg Reg.INT_STAT) ++
        bytesOfWord (s.viewReg Reg.SYS_STAT) ∧ t.regs = s.regs ∧ t.pwr = s.pwr) ∧
    completes (.spiWake (spiHdr 1)) s (fun t => t.port.vote = true ∧ t.regs = s.regs ∧
      (s.pwr.pstate = .sleep → s.mainUp = false → WakeSource.host ∈ t.pwr.reqs))

/-- A write of WIN_DATA puts the word, without its reserved bits, at the window address of a table the host may write, a
read delivers what is there, and the address moves on; beyond the window a read delivers 0 and a write does nothing, with
RANGE set; an SPI window transaction selects its window and does the same (R307, R309, R321, R322). -/
def Obligations.WindowTransfers : Prop :=
  (∀ (s : State) (v : Word), s.mainUp = true → s.MemWf → s.fmon.memErrs = [] → s.winCode ∈ [5, 6, 7, 8, 14] →
     let a := s.winAddr
     completes (.winDataAccess false v) s (fun t =>
       t.winAddr = (a + 1) % 131072 ∧ t.winCode = s.winCode ∧
       t = { s with tables := t.tables, regs := t.regs, fmon := t.fmon } ∧
       if a < winSize s.winCode then
         (∀ code b, code < 16 → b < 131072 → t.tab code b =
           if code = s.winCode ∧ b = a then v &&& winMask code a else s.tab code b) ∧
         t.reg Reg.WIN_STAT = s.reg Reg.WIN_STAT
       else t.tables = s.tables ∧ t.flag Reg.WIN_STAT WinErr.RANGE = true) ∧
     completes (.winDataAccess true v) s (fun t =>
       t.winAddr = (a + 1) % 131072 ∧ t = { s with regs := t.regs, port := { s.port with out := t.port.out } } ∧
       if a < winSize s.winCode then t.port.out = bytesOfWord (s.tab s.winCode a)
       else t.port.out = [0, 0] ∧ t.flag Reg.WIN_STAT WinErr.RANGE = true)) ∧
  (∀ (s : State) (code : Nat) (v : Word), s.spiIdle → s.mainUp = true → s.MemWf → s.fmon.memErrs = [] →
     code ∈ [5, 6, 7, 8, 14] → s.winAddr < winSize code →
     completes (.spiWindowRead (some (spiHdr code)) 1) s (fun t =>
       t.port.out = [0, 0, s.statusByte 4] ++ bytesOfWord (s.tab code s.winAddr) ∧
       t.winCode = code ∧ t.winAddr = s.winAddr + 1 ∧ t.tables = s.tables) ∧
     completes (.spiWindowWrite (some (spiHdr code)) [⟨v, none⟩]) s (fun t =>
       t.tab code s.winAddr = v &&& winMask code s.winAddr ∧ t.winCode = code ∧ t.winAddr = s.winAddr + 1 ∧
       t.port.out = [0, 0, 0, 0]))

/-- A read of RPT_DATA delivers the next word of the oldest item, and with word 7 the item is popped; on an empty queue
it delivers the last word again and sets UNDERRUN (R286, R287). A stream burst delivers queue words; a stall ends when
an item becomes visible, or at its limit, from where on the burst delivers 0xFFFF with STALL_TO set (R288). -/
def Obligations.ReportReads : Prop :=
  (∀ (s : State) (r : Rec) (rest : List Rec), s.mainUp = true → s.fmon.memErrs = [] → s.queue.cut = false →
     s.queue.word < 8 →
     (s.queue.stopped = false → s.queue.items = r :: rest →
       completes .rptDataRead s (fun t =>
         let w := r.toList.getD s.queue.word 0
         t.port.out = bytesOfWord w ∧ t.queue.last = w ∧ t.queue.word = (s.queue.word + 1) % 8 ∧
         t.queue.items = (if s.queue.word = 7 then rest else r :: rest) ∧ t.queue.staged = s.queue.staged ∧
         t = { s with queue := t.queue, pwr := t.pwr, seq := t.seq, port := { s.port with out := t.port.out } })) ∧
     (s.queue.items = [] → s.queue.word = 0 → completes .rptDataRead s (fun t =>
       t.port.out = bytesOfWord s.queue.last ∧ t.flag Reg.RPT_STAT 13 = true ∧
       (∀ q, q ≠ Reg.RPT_STAT → t.reg q = s.reg q) ∧
       t = { s with regs := t.regs, queue := { s.queue with seen := 0 }, port := { s.port with out := t.port.out } }))) ∧
  (∀ (s : State) (r : Rec) (rest : List Rec), s.mainUp = true → s.fmon.memErrs = [] → s.queue.cut = false →
     s.queue.word < 8 → s.queue.stopped = false →
     (s.spiIdle → s.queue.stream = .off → s.queue.items = r :: rest →
       completes (.streamRead (.spi true (spiHdr 0)) 1) s (fun t =>
         t.port.out = [0, 0, s.statusByte 4] ++ bytesOfWord (r.toList.getD s.queue.word 0) ∧
         t.queue.word = (s.queue.word + 1) % 8 ∧ t.queue.stream = .running)) ∧
     (∀ x : Txn, s.aon.hsel = false → s.fmon.faults = [] → s.port.txn = some x → x.kind = 2 → x.dead = false →
       x.crcOn = false → s.queue.stream = .stalled →
       (s.queue.items = r :: rest → completes (.streamResume 1) s (fun t =>
         t.port.out = bytesOfWord (r.toList.getD s.queue.word 0) ∧ t.queue.stream = .running)) ∧
       (s.queue.seen = 0 → s.queue.word = 0 → completes (.streamStallTimeout 1) s (fun t =>
         t.port.out = [0xFF, 0xFF] ∧ t.flag Reg.RPT_STAT 11 = true ∧ t.queue.items = s.queue.items))))

/-- A START with the block's address names a pointer, which stays in force; a window pointer also selects its window, at
once where no word follows (the model's reading, log entry 11). Another address byte is not acknowledged and changes
nothing but what the queue's read side sees. Data words of the write in progress are written to the register it names,
a read delivers that register, and the pointer then names the next one; a reserved pointer is not acknowledged, sets
BAD_CMD and is not taken (R305, R311, R312). A read that waits for MAIN with SCL held goes on when MAIN is ready; when
the stretch times out it delivers 0xFFFF, with NR_TO set (R314, R325). -/
def Obligations.I2cTransfers : Prop :=
  (∀ (s : State) (r : RegId) (a p : Byte), s.i2cIdle →
     (a ≠ s.i2cAddrByte → exec (.i2cPointerWrite ⟨a, p⟩ none) s = .next { s with
       port := { s.port with out := [], nack := true }, queue := { s.queue with seen := s.queue.items.length } }) ∧
     (a = s.i2cAddrByte → ptrValid p = true → completes (.i2cPointerWrite ⟨a, p⟩ none) s (fun t => t.port.ptr = p ∧
       t.port.nack = false ∧ (ptrKind p ≠ 1 → t.regs = s.regs) ∧ (p ≠ 0xA1 → t.pwr = s.pwr) ∧
       (∀ q, q ≠ Reg.WIN_SEL → q ≠ Reg.WIN_STAT → t.reg q = s.reg q) ∧
       (ptrKind p = 1 → p.toNat % 16 ≠ 0 → s.mainUp = true → t.winCode = p.toNat % 16) ∧
       t = { s with regs := t.regs, port := t.port, pwr := t.pwr,
                    queue := { s.queue with seen := s.queue.items.length } })) ∧
     (a = s.i2cAddrByte → ptrValid p = false → completes (.i2cPointerWrite ⟨a, p⟩ none) s (fun t =>
       t.port.ptr = s.port.ptr ∧ t.port.nack = true ∧ t.flag Reg.HOST_STAT HostErr.BAD_CMD = true ∧
       (∀ q, q ≠ Reg.HOST_STAT → q ≠ Reg.INT_STAT → t.reg q = s.reg q) ∧
       t = { s with regs := t.regs, port := t.port, queue := { s.queue with seen := s.queue.items.length } })) ∧
     (a = s.i2cAddrByte + 1 → s.answers r.val = true → plainRead r → s.port.ptr = BitVec.ofNat 8 r.val →
       completes (.i2cDataRead ⟨some a, 1⟩) s (fun t => t.port.out = bytesOfWord (s.queueSync.viewReg r) ∧
         t.port.ptr = BitVec.ofNat 8 (r.val + 1) ∧
         t = { s with port := t.port, queue := { s.queue with seen := s.queue.items.length } }))) ∧
  (∀ (s : State) (x : Txn) (r : RegId) (v : Word), s.aonUp = true → s.aon.hsel = true → s.fmon.faults = [] →
     s.port.txn = some x → s.port.stretch = none → x.rd = false → x.kind = 0 → x.addr = r.val → x.dead = false →
     x.crcOn = false → s.answers r.val = true → plainWritten r →
     completes (.i2cDataWrite [⟨v, none⟩]) s (fun t =>
       t.reg r = writtenWord r (s.reg r) v ∧ (∀ q, q ≠ r → t.reg q = s.reg q) ∧ t.port.nack = false ∧
       (∃ y, t.port.txn = some y ∧ y.addr = (r.val + 1) % 128 ∧ y.dead = false) ∧
       t = { s with regs := t.regs, port := t.port, queue := t.queue })) ∧
  (∀ (s : State) (x : Txn) (r : RegId), s.aonUp = true → s.aon.hsel = true → s.fmon.faults = [] →
     s.port.txn = some x → s.port.stretch = some (.read 1) → x.kind = 0 → x.addr = r.val → x.dead = false →
     x.crcOn = false → 16 ≤ r.val →
     (s.mainUp = true → plainRead r → completes .i2cStretchRelease s (fun t =>
       t.port.stretch = none ∧ t.port.out = bytesOfWord (s.viewReg r))) ∧
     (s.mainUp = false → completes .i2cStretchTimeout s (fun t => t.port.stretch = none ∧ t.port.out = [0xFF, 0xFF] ∧
       t.flag Reg.HOST_STAT HostErr.NR_TO = true ∧ t.flag Reg.INT_STAT Irq.HOST = true)))

/-- When HCS_N rises the transaction is over; a header that is not complete sets ABORTED, and so does an incomplete word
of a write whose header stood; a STOP or a repeated START ends an I2C transaction, and an odd data byte before it sets
ABORTED (R310, R313); where that byte is of a word that needs MAIN, which is not ready, SCL is held low first and a wake
asked for (R314, R325). The PORT vote is withdrawn PHOLD after the end of the last transaction that addressed MAIN, and
not while one is in progress (R326). -/
def Obligations.TransactionsEnd : Prop :=
  (∀ (s : State) (c : Cut) (odd stop : Bool), s.aonUp = true →
     (s.aon.hsel = false → completes (.hcsNRise c) s (fun t => t.port.txn = none ∧ t.port.out = [] ∧
       t.tables = s.tables ∧ (c = .inHeader → s.port.rstDue = false → t.flag Reg.HOST_STAT HostErr.ABORTED = true) ∧
       (∀ x, c = .inWord → s.port.txn = some x → x.rd = false → x.void = false → x.kind ≠ 3 → s.port.rstDue = false →
         t.flag Reg.HOST_STAT HostErr.ABORTED = true) ∧
       (c = .clean → s.port.txn = none → s.port.rstDue = false → t.regs = s.regs))) ∧
     (s.aon.hsel = true → s.oddWaits = true → s.pwr.pstate ≠ .wakeFail → completes (.i2cStop ⟨true, stop⟩) s (fun t =>
       t.port.stretch = some (.ends ⟨true, stop⟩) ∧ t.port.vote = true ∧ t.hsckOut = .low ∧
       (s.pwr.pstate = .sleep → WakeSource.host ∈ t.pwr.reqs) ∧ t = { s with port := t.port, pwr := t.pwr })) ∧
     (s.aon.hsel = true → (odd = true → s.oddWaits = false) →
       completes (.i2cStop ⟨odd, stop⟩) s (fun t => t.port.txn = none ∧ t.port.out = [] ∧
       t.tables = s.tables ∧ (odd = false → s.port.txn = none → s.port.rstDue = false → t.regs = s.regs) ∧
       ∀ x, odd = true → s.port.txn = some x → x.rd = false → x.void = false → s.port.rstDue = false →
         t.flag Reg.HOST_STAT HostErr.ABORTED = true))) ∧
  (∀ (s : State), s.aonUp = true →
     (s.port.txn = none → completes .portVoteRelease s (fun t => t.port.vote = false ∧ t.vote 6 = false ∧
       t = { s with port := t.port, pwr := t.pwr, seq := t.seq })) ∧
     (∀ x, s.port.txn = some x → x.needs = true → exec .portVoteRelease s = .next s))

/-- IRQ_N is asserted exactly while an enabled flag, or INT_STAT.WAKE_FAIL, is set, or a wake has failed, and no reset
holds the block (R327, R355). -/
def Obligations.IrqLevel : Prop :=
  ∀ (s : State), s.irqAsserted = true ↔
    s.aonUp = true ∧ ((∃ b < 16, s.flag Reg.INT_STAT b = true ∧ s.flag Reg.INT_EN b = true) ∨
      s.flag Reg.INT_STAT Irq.WAKE_FAIL = true ∨ s.pwr.pstate = .wakeFail)

/-! ### Resets and boot (11) -/

/-- RST_N low for 1 µs resets, a pulse below 100 ns has no effect, and one between does either as a whole (R44; that the
pulse is one command is log entry 38); a write of SYS_RESET resets with the high byte 0xA5 and does nothing without it
(R358); power-on and VIO hold the block in reset, IRQ_N released, until their supply is back (R42, R333); what the strap
flags read before the straps are sampled is the model's choice (log entry 3); the crystal takes over the slow clock
(R53). -/
def Obligations.ResetsAct : Prop :=
  ∀ (s : State) (st : Straps) (ns : Nat) (v : Word),
    (s.aonUp = true →
      (1000 ≤ ns → completes (.rstNReset ns st) s (bootsFrom s 1 st.hsel st.hsdo)) ∧
      (ns < 100 → exec (.rstNReset ns st) s = .next s) ∧
      (100 ≤ ns → ns < 1000 → completes (.rstNReset ns st) s (fun t =>
        bootsFrom s 1 st.hsel st.hsdo t ∨ ∃ k, t = { s with freeCtr := k })) ∧
      completes (.sysReset v st) s (fun t =>
        if bits v 8 8 = 0xA5 then bootsFrom s 3 st.hsel st.hsdo t else t = s) ∧
      (s.aon.slow = .internal → completes .xtalSwitch s (fun t => t.aon.slow = .xtal ∧ t = { s with aon := t.aon }))) ∧
    completes (.powerOnReset .falls st) s (fun t => bootsFrom s 0 false false t ∧ t.aon.por = true ∧
      t.irqAsserted = false) ∧
    (s.aon.por = true → completes (.powerOnReset .rises st) s (fun t => t.aon.por = false ∧ t.aon.hsel = st.hsel ∧
      t.aon.hsdo = st.hsdo ∧ t = { s with aon := t.aon })) ∧
    (s.aon.por = false → completes .vioLow s (fun t => bootsFrom s 2 s.aon.hsel s.aon.hsdo t ∧ t.aonUp = false ∧
      t.irqAsserted = false)) ∧
    completes .vioRestored s (fun t => t.aon.vioLow = false ∧ t.aon.por = s.aon.por ∧ t = { s with aon := t.aon })

/-! ### Functions (R360, R361, Table 11.14) -/

/-- What each bit of FUNC_RESET does (Table 11.14). LANES and FILTERS wait: at the next entry boundary LANES empties every
lane's integrator and abandons a calibration round; at the next entry start FILTERS clears every filter chain and begins
a new decimation origin and a new burst (R123, R381). The others act at once, QUEUE and HOSTPORT when no transaction
is in progress that they would disturb; with the queue disabled its own record is a drop (R283). When a reset acts is in part the model's reading (log entries 13 and 35). -/
def Obligations.FunctionsReset : Prop :=
  ∀ (s : State), s.mainUp = true →
    (s.atBoundary = true → s.flag Reg.FUNC_RESET 0 = true → completes .entryBoundary s (fun t =>
      t.flag Reg.FUNC_RESET 0 = false ∧ (∀ n, t.lanes.get n = { s.lanes.get n with x := 0 }) ∧ t.seq.analog = true ∧
      t.cal.round = none ∧ t.cal.dueRnd = false)) ∧
    (s.seq.phase = .ready → s.seq.hold = 0 → s.seq.placed = true → s.noMoreEntries = false → s.fmon.memErrs = [] →
      s.flag Reg.FUNC_RESET 1 = true → completes .entryStart s (fun t =>
        t.flag Reg.FUNC_RESET 1 = false ∧ t.flag Reg.FILT_CTL 15 = false ∧ t.filt.cad = 0 ∧ t.filt.cic = 0 ∧
        t.filt.first = true ∧ t.filt.trkR = 0 ∧ ∀ n, (t.lanes.get n).int = List.replicate 5 0 ∧
          (t.lanes.get n).comb = List.replicate 5 0 ∧ (t.lanes.get n).hist = List.replicate 8 0)) ∧
    completes .funcResetLanes s (fun t => t.flag Reg.FUNC_RESET 0 = true ∧ t = { s with regs := t.regs }) ∧
    completes .funcResetFilters s (fun t => t.flag Reg.FUNC_RESET 1 = true ∧ t = { s with regs := t.regs }) ∧
    completes .funcResetSeq s (fun t => t.seq.due = false ∧ (t.seq.run = false ∨ t.seq.cut = true)) ∧
    completes .funcResetCaldera s (fun t => t.cald.isOpen = false ∧ t.cald.restart = true ∧
      t.fld Reg.SCHED_STAT 0 10 = s.fld Reg.SCHED_STAT 0 10 ∧ t.cald.dmem = s.cald.dmem) ∧
    completes .funcResetTrack s (fun t => t.flag Reg.FUNC_RESET 4 = true ∧ t.lib.trackRst = true ∧
      t = { s with regs := t.regs, lib := t.lib }) ∧
    (s.readsQueue = false → s.flag Reg.FUNC_EN 5 = true → completes .funcResetQueue s (fun t =>
      t.queue.items.length + t.queue.staged.length ≤ 1 ∧ t.queue.gap = none ∧ t.reg Reg.RPT_GAPS = 0)) ∧
    (s.readsQueue = false → s.flag Reg.FUNC_EN 5 = false → completes .funcResetQueue s (fun t =>
      t.queue.items = [] ∧ t.queue.staged = [] ∧
      if s.cald.isOpen = true ∨ s.queue.stopped = true then t.reg Reg.RPT_GAPS = 0 ∧ t.queue.ins.length = 1
      else t.reg Reg.RPT_GAPS = 1 ∧ t.flag Reg.RPT_STAT 14 = true ∧ t.queue.ins = [])) ∧
    (s.readsQueue = true → exec .funcResetQueue s = .next (s.setFlag Reg.FUNC_RESET 5 true)) ∧
    completes .funcResetRing s (fun t => t.ring.wr = 0 ∧ t.ring.rd = 0 ∧ t.ring.u = 0 ∧
      t.ring.mark = none ∧ (∀ a < 16384, t.tab Win.RING a = 0) ∧
      t = { s with ring := t.ring, tables := t.tables, regs := t.regs, fmon := t.fmon }) ∧
    completes .funcResetNvmctl s (fun t => if s.nvm.op.isSome then t.nvm.op = s.nvm.op ∧ t.nvm.err = 7 ∧
      t.nvm.todo.length ≤ 1 ∧ t = { s with nvm := t.nvm, regs := t.regs } else t = s) ∧
    completes .funcResetHostport s (fun t =>
      if s.port.txn.isSome then t.port.rstDue = true ∧ t.flag Reg.FUNC_RESET 8 = true
      else t.port.ptr = 0 ∧ t.port.txn = none ∧ (∀ b < 14, t.flag Reg.HOST_STAT b = false)) ∧
    completes .funcResetGeyser s (fun t => t.geyser.rej = 0 ∧ t.geyser.cand = false ∧ t.fld Reg.GEYSER_THR 1 3 = 0 ∧
      t = { s with geyser := t.geyser, regs := t.regs }) ∧
    completes .funcResetGoertzel s (fun t => (∀ k, (t.dets.get k).busy = false) ∧ t = { s with dets := t.dets })

/-- Each bit of FUNC_EN takes its value and leaves the others; with CALDERA off no further frame opens, with SEQ off no
deferred frame starts, and with LANES or FILTERS on again the next entry counts as a change. -/
def Obligations.FunctionsEnable : Prop :=
  ∀ (s : State) (on : Bool), s.mainUp = true →
    let takes (b : Nat) (t : State) : Prop :=
      ∀ k < 16, t.flag Reg.FUNC_EN k = if k = b then on else s.flag Reg.FUNC_EN k
    completes (.funcEnLanes on) s (fun t => takes 0 t ∧ t = { s with regs := t.regs, seq := t.seq } ∧
      (on = true → s.flag Reg.FUNC_EN 0 = false → t.seq.analog = true)) ∧
    completes (.funcEnFilters on) s (fun t => takes 1 t ∧ t = { s with regs := t.regs, seq := t.seq } ∧
      (on = true → s.flag Reg.FUNC_EN 1 = false → t.seq.syncRst = true)) ∧
    completes (.funcEnSeq on) s (fun t => takes 2 t ∧ (on = false → t.seq.due = false)) ∧
    completes (.funcEnCaldera on) s (fun t => takes 3 t ∧ t.cald.isOpen = s.cald.isOpen ∧
      t.cald.owed = if on then s.cald.owed else []) ∧
    completes (.funcEnTrack on) s (fun t => takes 4 t ∧ t = { s with regs := t.regs }) ∧
    completes (.funcEnQueue on) s (fun t => takes 5 t ∧ t = { s with regs := t.regs }) ∧
    completes (.funcEnRing on) s (fun t => takes 6 t ∧ t = { s with regs := t.regs }) ∧
    completes (.funcEnNvmctl on) s (fun t => takes 7 t ∧ (on = true → t.nvm.paused = false) ∧
      t = { s with regs := t.regs, nvm := { s.nvm with paused := t.nvm.paused } }) ∧
    completes (.funcEnGeyser on) s (fun t => takes 9 t ∧ t = { s with regs := t.regs }) ∧
    completes (.funcEnGoertzel on) s (fun t => takes 10 t ∧ t = { s with regs := t.regs })

/-! ### Load of an image (06) -/

/-- LOAD asks for load mode, which begins when no frame is in progress; COMMIT and ABORT act only in it; a COMMIT ends
with the image running, or with its failing check in REJ and load mode going on (R205 to R207). That an ABORT without a
valid image and a good panel leaves the schedule stopped, with PACE_LIM 0 and VREQ 28, is the model's reading (log entry
24). -/
def Obligations.ImageLoads : Prop :=
  ∀ (s : State), s.mainUp = true →
    completes .schedLoad s (fun t => t.flag Reg.SCHED_CTL 15 = true ∧
      (s.flag Reg.SCHED_CTL 15 = false → t.sched.loadWait = true) ∧
      t = { s with regs := t.regs, sched := t.sched }) ∧
    (s.sched.loadWait = true → s.seq.run = false → s.calderaBusy = false → s.sched.state ≠ .copy →
      completes .loadModeEnter s (fun t => t.sched.state = .load ∧ t.sched.loaded = 0 ∧
        t = { s with sched := t.sched })) ∧
    (s.sched.state = .load → completes .schedCommit s (fun t => t.flag Reg.SCHED_CTL 14 = true ∧
      t.sched.commit = true ∧ t = { s with regs := t.regs, sched := t.sched })) ∧
    (s.sched.state ≠ .load → exec .schedCommit s = .next s ∧ exec .schedAbort s = .next s) ∧
    (s.sched.state = .load → completes .schedAbort s (fun t => t.flag Reg.SCHED_CTL 15 = false ∧
      if s.sched.valid = true ∧ panelOk (s.tab Win.PANEL) = true then
        t.sched.state = s.startState ∧ t.sched.valid = true ∧ t.cald.restart = true
      else t.sched.state = .stopped ∧ t.sched.valid = false ∧ t.fld Reg.PACE 8 8 = 0 ∧ t.fld Reg.PMU_STAT 6 5 = 28)) ∧
    (s.pwr.boot = .done → s.sched.commit = true → s.nvm.op = none → completes .imageInstallDone s (fun t =>
      t.flag Reg.SCHED_CTL 14 = false ∧ t.fld Reg.SCHED_CTL 0 4 = s.checkLoaded % 16 ∧
      if s.checkLoaded = 0 then
        t.sched.valid = true ∧ t.sched.state = s.startState ∧ t.flag Reg.SCHED_CTL 15 = false ∧
        t.fld Reg.SYS_STAT 5 2 = 2 ∧ t.cald.restart = true
      else t.sched.state = s.sched.state ∧ t.tables = s.tables ∧ t.cald = s.cald))

/-! ### Sleep and wake (11) -/

/-- What a refusal of the handshake shows (R344): the block is ACTIVE again, SLEEP_ABORT names block and reason and has
counted, INT_STAT.SLP_ABORT is set, and the queue is visible again if it had stopped. -/
def Sys2Proof.Machine.refusedBy (s : State) (block reason : Nat) (t : State) : Prop :=
  t.pwr.hs = none ∧ t.pwr.pstate = .active ∧ t.flag Reg.SLEEP_CTL 14 = false ∧ t.fld Reg.SLEEP_ABORT 13 3 = block ∧
    t.fld Reg.SLEEP_ABORT 10 3 = reason ∧ t.fld Reg.SLEEP_ABORT 0 8 = (s.fld Reg.SLEEP_ABORT 0 8 + 1) % 256 ∧
    t.flag Reg.INT_STAT Irq.SLP_ABORT = true ∧ t.flash = s.flash ∧ t.tables = s.tables ∧
    ∀ h, s.pwr.hs = some h → 1 ∈ h.agreed → t.queue.stopped = false

/-- REQ withdraws the HOST vote and arms the request; ASK begins a handshake, in which the blocks answer one after
another: a block in its delay condition is asked again and refuses at its fourth delay, DEBUG refuses while the TAP is
out of reset, and its agreement begins the sleep sequence (R336, R340 to R345). -/
def Obligations.SleepRequested : Prop :=
  ∀ (s : State) (h : Handshake), s.mainUp = true →
    (s.pwr.pstate = .active → s.pwr.hs = none → completes .sleepReq s (fun t =>
      t.flag Reg.PWR_VOTE 0 = false ∧ t.flag Reg.SLEEP_CTL 15 = true ∧
      t = { s with regs := t.regs, pwr := t.pwr, seq := t.seq })) ∧
    (s.pwr.pstate = .active → s.pwr.hs = none → s.pwr.goSleep = false → completes .sleepAsk s (fun t =>
      if s.vote 4 then refusedBy s 6 3 t else if s.vote 2 then refusedBy s 7 3 t
      else t.pwr.pstate = .entry ∧ t.flag Reg.SLEEP_CTL 14 = true ∧ t.pwr.hs = some ⟨1, 0, [], none⟩ ∧
        t = { s with regs := t.regs, pwr := t.pwr })) ∧
    (s.pwr.hs = some h → s.pwr.goSleep = false → h.block ≤ 7 → s.delays h.block = false →
      completes .handshakeBlockAnswer s (fun t =>
        if h.block = 7 ∧ s.sec.tapOut = true then refusedBy s 7 4 t
        else (∃ h', t.pwr.hs = some h' ∧ h'.block = h.block + 1 ∧ h'.agreed = h.agreed ++ [h.block]) ∧
          t.pwr.goSleep = decide (h.block = 7) ∧ (h.block = 1 → t.queue.stopped = true))) ∧
    (s.pwr.hs = some h → s.pwr.goSleep = false → s.delays h.block = true → h.block < 8 →
      exec .handshakeBlockAnswer s = .next s ∧
      completes .handshakeDelayExpiry s (fun t =>
        if 3 ≤ h.delays then refusedBy s h.block 2 t
        else t.pwr.hs = some { h with delays := h.delays + 1 } ∧ t.pwr.pstate = s.pwr.pstate))

/-- The sleep sequence leaves MAIN off with everything it holds retained, the levels it would give AON at 0, both shield
buses at GND, every pin grounded or, where the Geyser watches it, on its sentinel bus, and the wake timer counting; the
unlock and the nonce are gone; of the registers only what shows these changes (R67, R346 to R348, R351, R410, R412,
Tables 2.3 and 11.7). That every pin is grounded where the Geyser is off, for which R96 and R261 name no condition, is the
model's choice (log entry 56). -/
def Obligations.SleepEntered : Prop :=
  ∀ (s : State), s.mainUp = true → s.pwr.goSleep = true →
    completes .sleepEntry s (fun t => t.pwr.pstate = .sleep ∧ t.mainUp = false ∧ t.flag Reg.SLEEP_CTL 15 = false ∧
      t.flag Reg.SLEEP_CTL 14 = false ∧ t.vote 2 = false ∧ t.vote 3 = false ∧ t.vote 4 = false ∧ t.vote 5 = false ∧
      t.sec.nonce = none ∧ t.sec.unlocked = false ∧ t.sec.otp = s.sec.otp ∧
      (∀ b, t.shieldLevel b = 0) ∧ t.geyser.on = (s.flag Reg.GEYSER_CFG 15 && s.flag Reg.FUNC_EN 9) ∧
      (∀ n : PinId, t.seq.pins.get n =
        if t.geyser.on = true ∧ nth t.geyser.map n.val none ≠ none then .sentinel else .ground) ∧
      (∀ q, q ∉ [Reg.SLEEP_CTL, Reg.LANE_STAT, Reg.CLK_STAT, Reg.GEYSER_THR] → t.reg q = s.reg q) ∧
      t.tables = s.tables ∧ t.flash = s.flash ∧ t.cald = s.cald ∧ t.queue = s.queue ∧ t.ring = s.ring ∧
      t.filt = s.filt ∧ t.lanes = s.lanes ∧ t.dets = s.dets ∧ t.reserve = s.reserve ∧ t.drive.pump = false ∧
      t.nvm = s.nvm ∧ t.lib = s.lib ∧ t.sched = s.sched ∧ t.pace = s.pace ∧ t.aon = s.aon ∧ t.port = s.port ∧
      t.pwr.timerLeft = s.fld Reg.WAKE_TIMER 0 14 * timerUnit (s.fld Reg.WAKE_TIMER 14 2))

/-- A wake source asks for a wake in SLEEP only; the wake event shows every source that asked in WAKE_SRC and stops timer
and Geyser; a write of WAKE_TIMER in SLEEP restarts the count (R349 to R351, Table 11.9). -/
def Obligations.WakeSources : Prop :=
  ∀ (s : State) (falling : Bool) (v : Word), s.aonUp = true →
    (s.pwr.pstate = .sleep →
      (s.pwr.timerLeft ≠ 0 → completes .wakeTimerExpiry s (fun t => .timer ∈ t.pwr.reqs ∧ t.pwr.timerLeft = 0 ∧
        t = { s with pwr := t.pwr })) ∧
      (s.pwr.dsyncWk = true → s.pwr.pol = falling → completes (.dsyncWake falling) s (fun t =>
        .dsync ∈ t.pwr.reqs ∧ t = { s with pwr := t.pwr })) ∧
      (s.sec.life ≠ .secured → completes .tckWake s (fun t => .tck ∈ t.pwr.reqs ∧
        t = { s with pwr := t.pwr })) ∧
      (s.pwr.reqs ≠ [] → completes .wakeEvent s (fun t => t.pwr.pstate = .waking ∧ t.pwr.reqs = [] ∧
        t.pwr.timerLeft = 0 ∧ t.geyser.on = false ∧ t = { s with regs := t.regs, pwr := t.pwr, geyser := t.geyser } ∧
        (∀ q, q ≠ Reg.WAKE_SRC → t.reg q = s.reg q) ∧
        t.flag Reg.WAKE_SRC 15 = s.pwr.reqs.contains .geyser ∧ t.flag Reg.WAKE_SRC 14 = s.pwr.reqs.contains .host ∧
        t.flag Reg.WAKE_SRC 13 = s.pwr.reqs.contains .timer ∧ t.flag Reg.WAKE_SRC 12 = s.pwr.reqs.contains .dsync ∧
        t.flag Reg.WAKE_SRC 11 = s.pwr.reqs.contains .tck))) ∧
    (s.pwr.pstate ≠ .sleep → exec .wakeEvent s = .next s ∧ exec (.dsyncWake falling) s = .next s ∧
      exec .tckWake s = .next s ∧ exec .wakeTimerExpiry s = .next s) ∧
    (s.sec.life = .secured → exec .tckWake s = .next s) ∧
    completes (.wakeTimerWrite v) s (fun t => t.reg Reg.WAKE_TIMER = v ∧
      (∀ q, q ≠ Reg.WAKE_TIMER → t.reg q = s.reg q) ∧ t = { s with regs := t.regs, pwr := t.pwr } ∧
      t.pwr.timerLeft = if s.pwr.pstate = .sleep then bits v 0 14 * timerUnit (bits v 14 2) else s.pwr.timerLeft)

/-- The power-up of a wake goes through its steps; a step that times out is tried again once and then leads to WAKE_FAIL,
with the step in WF_STEP and IRQ_N asserted; without FIO it goes on with FIO2; at its end MAIN is ready and ACTIVE, and
INT_STAT.WAKE is set (R352, R354, Table 11.10). -/
def Obligations.WakeSteps : Prop :=
  ∀ (s : State) (f : Bool), s.aonUp = true → s.pwr.pstate = .waking →
    (s.pwr.waiting = false →
      (s.pwr.step = 2 → completes .wakeSupplyReady s (fun t => t.pwr.step = 3 ∧ t.pwr.pstate = .waking ∧
          t = { s with pwr := t.pwr }) ∧
        (s.pwr.retried = false → completes (.wakeStepTimeout .vcore f) s (fun t =>
          t.pwr.retried = true ∧ t.pwr.waiting = true ∧ t.pwr.pstate = .waking ∧ t = { s with pwr := t.pwr })) ∧
        (s.pwr.retried = true → completes (.wakeStepTimeout .vana f) s (fun t =>
          t.pwr.pstate = .wakeFail ∧ t.fld Reg.SYS_STAT 7 2 = 2 ∧ t.flag Reg.INT_STAT Irq.WAKE_FAIL = true ∧
          t.irqAsserted = true ∧ t = { s with pwr := t.pwr, regs := t.regs }))) ∧
      (s.pwr.step = 3 → completes .fioReady s (fun t => t.pwr.step = 5 ∧ t = { s with pwr := t.pwr }) ∧
        completes (.wakeStepTimeout .oscillators true) s (fun t => t.pwr.step = 5 ∧ t.fio2 = true)) ∧
      (s.pwr.step = 5 → completes .retentionRestored s (fun t => t.pwr.ready = true ∧ t.pwr.pstate = .active ∧
        t.flag Reg.INT_STAT Irq.WAKE = true ∧ t.fld Reg.WAKE_SRC 0 8 = (s.fld Reg.WAKE_SRC 0 8 + 1) % 256 ∧
        t.fld Reg.CLK_CTL 13 2 = 0 ∧ t.sync.seen = false))) ∧
    (s.pwr.waiting = true → completes .wakeRetry s (fun t => t.pwr.step = 2 ∧ t.pwr.waiting = false ∧
      t = { s with pwr := t.pwr }))

/-! ### Geyser (08) -/

/-- The first scan of the auto-zero sets each bus's compensation, to the nearest step of 0.25 pF where its edges bring a
steady charge (one step removes 320/3200 pC), and the fourth takes the mean of the last three results as baseline
(R263); then a bus is touched from the scan in which its result exceeds its baseline by ON until it falls below OFF, in
IDLE its baseline follows by one count a scan, and at once to a second result below minus ON, and only a pattern that
GEYSER_CFG enables asks for a wake, with its KIND (R264 to R268; the unit of charge is that of log entry 1; how the patterns
are read where the spec leaves a point open is the model's choice of log entry 25, and what the converter holds between
scans that of log entry 48); a CANDIDATE that times out takes what is touched as its
baseline, and leaves every other bus (R266). -/
def Obligations.GeyserScans : Prop :=
  ∀ (s : State) (rs : List BusScan) (i : Nat), s.aonUp = true →
    let b := nth s.geyser.buses i Bus.reset
    let e := nth rs i []
    let r := (busConvert s.geyser.sgain b.comp b.x e).1
    (s.pwr.pstate = .sleep → s.geyser.on = true → i < s.geyser.buses.length →
      completes (.geyserScan rs) s (fun t =>
        let b' := nth t.geyser.buses i Bus.reset
        t.geyser.scan = s.geyser.scan + 1 ∧ t.geyser.buses.length = s.geyser.buses.length ∧
        (s.geyser.scan < 4 → t.pwr.reqs = s.pwr.reqs) ∧
        (s.geyser.scan = 0 → b'.sums = 0 ∧ b'.comp ≤ 1600 ∧ (b'.excl = true ↔ b'.comp = 0 ∨ b'.comp = 1600) ∧
          ∀ q : Int, (∀ j < 64, nth e j 0 = q) → 0 ≤ q → q ≤ 320 * 1600 → (q - 320 * b'.comp).natAbs ≤ 160) ∧
        (1 ≤ s.geyser.scan → s.geyser.scan < 3 → b'.sums = b.sums + r) ∧
        (s.geyser.scan = 3 → b'.base = (2 * (b.sums + r) + 3) / 6) ∧
        (4 ≤ s.geyser.scan → b.excl = false →
          (b'.touched = true ↔ (if b.touched then s.geyOffThr else s.geyOnThr) ≤ r - b.base) ∧
          b'.base = if s.geyser.cand = false ∧ r - b.base ≤ -s.geyOnThr ∧ b.low = true then r
            else if s.geyser.cand = false ∧ ((r - b.base).natAbs : Int) < s.geyOffThr then b.base + (r - b.base).sign
            else b.base) ∧
        (4 ≤ s.geyser.scan → b.excl = true → b' = b) ∧
        (4 ≤ s.geyser.scan → let u := s.watchBuses rs
          match u.1.pattern u.1.geyser u.2 with
          | some k => WakeSource.geyser ∈ t.pwr.reqs ∧ t.fld Reg.GEYSER_THR 2 2 = k ∧ s.flag Reg.GEYSER_CFG (15 - k) = true ∧
            t.geyser.cand = false
          | none => t.pwr.reqs = s.pwr.reqs) ∧
        t = { s with geyser := t.geyser, pwr := t.pwr, regs := t.regs, queue := t.queue, fmon := t.fmon })) ∧
    (s.pwr.pstate = .sleep → s.geyser.cand = true → completes .geyserCandidateTimeout s (fun t =>
      t.geyser.cand = false ∧ t.geyser.evs = [] ∧ t = { s with geyser := t.geyser } ∧
      (i < s.geyser.buses.length → nth t.geyser.buses i Bus.reset =
        if b.touched then { b with touched := false, base := b.sums } else b))) ∧
    completes .geyserRejectClear s (fun t => t.geyser.rej = 0 ∧
      t = { s with geyser := { s.geyser with rej := 0 } }) ∧
    completes .backoffExpiry s (fun t => t.flag Reg.GEYSER_THR 1 = false ∧
      (∀ q, q ≠ Reg.GEYSER_THR → t.reg q = s.reg q) ∧ t = { s with regs := t.regs })

/-! ### Calibration (12) -/

/-- SELF makes a run due; it starts when no frame is in progress, measures offsets, then gains, and at its end each lane
with plausible factors takes them and has its bit in the fail map cleared, any other keeps its factors and has it set;
the count goes on and INT_STAT.CAL is set (R369 to R372). RECAL makes a round due while none is and the image has an
entry for it; when the time of the lanes under measurement ends, each of them is held with its factors or among the
failed, and no factor changes yet (R374, R376, R380). -/
def Obligations.Calibration : Prop :=
  (∀ (s : State) (m : List Meas) (n : LaneId), s.mainUp = true →
     (s.flag Reg.CAL_CMD 15 = false → completes .calSelf s (fun t => t.flag Reg.CAL_CMD 15 = true ∧ t.cal.due = true ∧
       t.cal.waits = s.seq.run ∧ t = { s with regs := t.regs, cal := t.cal })) ∧
     (s.cal.due = true → s.calBusy = false → s.seq.run = false → s.cal.waits = false →
       completes .selfCalStart s (fun t => t.cal.phase = .offset ∧ t.cal.due = false ∧ t.cal.round = none ∧
         t.calBusy = true ∧
         t = { s with cal := t.cal, regs := t.regs, seq := t.seq, reserve := t.reserve })) ∧
     (s.cal.phase = .offset → completes (.selfCalGainPhase m) s (fun t => t.cal.phase = .gain ∧
       t = { s with cal := t.cal } ∧
       let x := nth m n.val ⟨0, 1⟩
       nth t.cal.offs n.val 0 = (2 * x.sum + 256 * x.n) / (512 * x.n))) ∧
     (s.cal.phase = .gain → s.MemWf → s.pwr.boot = .done → s.cal.round = none →
       let x := nth m n.val ⟨0, 1⟩
       let off := nth s.cal.offs n.val 0
       let den := x.sum - 256 * off * x.n
       0 < den →
       let gain : Int := (2 * 2 ^ 15 * (calE (Max.max 48 (Min.min 240 (s.snap.fld Reg.DRIVE_CTL 8 8))) * x.n : Nat) + den) / (2 * den)
       completes (.selfCalEnd m) s (fun t => t.cal.phase = .idle ∧ t.flag Reg.CAL_CMD 15 = false ∧
         t.reg Reg.CAL_COUNT = s.reg Reg.CAL_COUNT + 1 ∧ t.flag Reg.INT_STAT Irq.CAL = true ∧
         if off.natAbs ≤ 0x800 ∧ 0x6800 ≤ gain ∧ gain ≤ 0x9800 then
           t.tab Win.CALF (2 * n.val) = iword off ∧ t.tab Win.CALF (2 * n.val + 1) = iword gain ∧
           t.cal.fail.getLsbD n.val = false
         else t.tab Win.CALF (2 * n.val) = s.tab Win.CALF (2 * n.val) ∧
           t.tab Win.CALF (2 * n.val + 1) = s.tab Win.CALF (2 * n.val + 1) ∧ t.cal.fail.getLsbD n.val = true))) ∧
  (∀ (s : State) (r : Round) (off gain : List Meas), s.mainUp = true →
     (s.calBusy = false → s.flag Reg.CAL_STAT 14 = false → s.hasBg = true → s.cal.dueRnd = false →
       completes .calRecal s (fun t => t.cal.dueRnd = true ∧ t.flag Reg.CAL_STAT 14 = true ∧
         t.flag Reg.CAL_CMD 14 = true ∧ t = { s with regs := t.regs, cal := t.cal })) ∧
     (s.cal.round = some r → r.ready = false → r.lost = false → r.ended = false → r.meas ≠ [] →
       completes (.laneCalDone off gain) s (fun t => t = { s with cal := t.cal, freeCtr := t.freeCtr } ∧
         ∃ r', t.cal.round = some r' ∧ r'.ready = true ∧ r'.group = r.group ∧
           ∀ n ∈ r.meas, n ∈ r'.failed ∨ ∃ f ∈ r'.held, f.1 = n)))

/-! ### NVM (12) -/

/-- An operation of NVM_CTL begins with GO reading 1 and its steps still to do; a wrong KEY is refused with code 4 by each
operation that asks for one, an OP that names none with code 1, any OP while one runs with code 6, with nothing but
registers changed (R387, R389, R392, R393, R395). That a lifecycle transition, in which BUSY reads 1 (R398), refuses an OP
in the same way is the model's reading (log entry 62). -/
def Obligations.NvmOperationsBegin : Prop :=
  ∀ (s : State) (key : Byte) (op : BitVec 4), s.mainUp = true → s.agreed 6 = false →
    (s.nvm.op = none → s.sec.trans = .none →
      (s.imageComplete = true →
        let b := s.loadBuffer
        let img := b.take (field b 8 4)
        completes (.nvmProgramA 0x5A) s (fun t => t.nvm.op = some .programA ∧ t.flag Reg.NVM_CTL 15 = true ∧
          (if s.checkImage img = 0 then t.nvm.todo = s.slotSteps 0 img else t.nvm.todo = [] ∧ t.nvm.err = 2)) ∧
        completes (.nvmProgramB 0x5A) s (fun t => t.nvm.op = some .programB ∧ t.flag Reg.NVM_CTL 15 = true ∧
          (if s.checkImage img = 0 then t.nvm.todo = s.slotSteps 1 img else t.nvm.todo = [] ∧ t.nvm.err = 2))) ∧
      completes (.nvmSaveCal key) s (fun t => t.nvm.op = some .saveCal ∧ t.nvm.todo = s.calSteps ∧
        t.flag Reg.NVM_CTL 15 = true ∧ t.vote 4 = true ∧ t = { s with nvm := t.nvm, regs := t.regs }) ∧
      (s.sched.state = .running → completes (.nvmCaptureSig key) s (fun t => t.nvm.op = some .captureSig ∧
        t.nvm.frames = 16 + s.seq.run.toNat ∧ t.nvm.todo = [] ∧ t = { s with nvm := t.nvm, regs := t.regs })) ∧
      (s.sec.life ≠ .secured →
        completes (.nvmEraseA 0x5A) s (fun t => t.nvm.op = some .eraseA ∧ t.nvm.todo = s.slotSteps 0 [] ∧
          t = { s with nvm := t.nvm, regs := t.regs }) ∧
        completes (.nvmEraseB 0x5A) s (fun t => t.nvm.op = some .eraseB ∧ t.nvm.todo = s.slotSteps 1 [] ∧
          t = { s with nvm := t.nvm, regs := t.regs })) ∧
      (key ≠ 0x5A → ∀ i ∈ [Instr.nvmProgramA key, .nvmProgramB key, .nvmEraseA key, .nvmEraseB key],
        completes i s (fun t => t = { s with regs := t.regs } ∧ t.flag Reg.NVM_STAT 13 = true ∧
          t.fld Reg.NVM_STAT 10 3 = 4 ∧ t.flag Reg.INT_STAT Irq.NVM = true)) ∧
      (op = 0 ∨ 7 ≤ op.toNat → completes (.nvmReservedOp op) s (fun t => t.nvm.op = none ∧
        t.flag Reg.NVM_STAT 13 = true ∧ t.fld Reg.NVM_STAT 10 3 = 1 ∧ t.flag Reg.INT_STAT Irq.NVM = true))) ∧
    (s.nvm.op ≠ none ∨ s.sec.trans ≠ .none →
      let busy (i : Instr) (c : Nat) : Prop := completes i s (fun t => t = { s with regs := t.regs } ∧
        t.fld Reg.NVM_CTL 8 4 = c ∧ t.flag Reg.NVM_STAT 13 = true ∧ t.fld Reg.NVM_STAT 10 3 = 6 ∧
        t.flag Reg.INT_STAT Irq.NVM = true)
      busy (.nvmProgramA key) 1 ∧ busy (.nvmProgramB key) 2 ∧ busy (.nvmSaveCal key) 3 ∧ busy (.nvmCaptureSig key) 4 ∧
        busy (.nvmEraseA key) 5 ∧ busy (.nvmEraseB key) 6 ∧
        (op = 0 ∨ 7 ≤ op.toNat → busy (.nvmReservedOp op) op.toNat))

/-- A page programs its bytes, no bit from 0 to 1, and an erasure makes its bytes 0xFF; every other byte stays; the next
step follows if it reads back right, and else the operation ends with code 3. At its end the operation is over, with GO clear, DONE and INT_STAT.NVM set, and ERR
if it failed (R384, R392, R395). That a page turns no bit from 0 to 1, and that every program step is read back and ends with
code 3, where R392 gives that for two steps of a slot program, is the model's (log entry 76). -/
def Obligations.NvmSteps : Prop :=
  ∀ (s : State) (p : FlashStep) (rest : List FlashStep) (op : NvmOp), s.mainUp = true → s.MemWf →
    s.nvm.op = some op →
    (s.nvm.todo = p :: rest → s.nvm.paused = false → completes .nvmPageDone s (fun t =>
      (∀ a, t.flashByte a = match p with
        | .erase b n => if b ≤ a ∧ a < b + n then 0xFF else s.flashByte a
        | .program b l => if b ≤ a ∧ a < b + l.length then nth l (a - b) 0 &&& s.flashByte a else s.flashByte a) ∧
      (let right : Prop := match p with
         | .erase .. => True
         | .program b l => ∀ i < l.length, t.flashByte (b + i) = nth l i 0
       (right → t.nvm.err = s.nvm.err ∧ t.nvm.todo = rest) ∧ (¬ right → t.nvm.err = 3 ∧ t.nvm.todo = [])) ∧
      t = { s with nvm := t.nvm, flash := t.flash })) ∧
    (s.nvm.todo = [] → s.nvm.frames = 0 → s.nvm.after = false → op ≠ .autoSave → completes .nvmOpComplete s (fun t =>
      t.nvm.op = none ∧ t.flag Reg.NVM_CTL 15 = false ∧ t.flag Reg.NVM_STAT 14 = true ∧
      t.flag Reg.INT_STAT Irq.NVM = true ∧ t.flash = s.flash ∧
      (s.nvm.err ≠ 0 → t.flag Reg.NVM_STAT 13 = true ∧ t.fld Reg.NVM_STAT 10 3 = s.nvm.err % 8)))

/-! ### Lifecycle, authentication, TAP (13) -/

/-- A nonce is asked for, issued, read and answered word by word; the comparison consumes it: the HMAC of nonce, UID and
purpose under K unlocks (purpose UNLOCK in SECURED), begins the transition to RETURN, with every NVM operation stopping at
its next page boundary, or blows the slot's REVOKED fuse; anything else counts in FAILS and begins the hold-off, in which a
request is refused. RETURN is refused in RETURN, REVOKE outside SECURED and for the last live production slot; RELOCK ends
an unlock (R398, R403, R408 to R413). -/
def Obligations.ChallengeResponse : Prop :=
  ∀ (s : State) (purpose slot : BitVec 2) (x : BitVec 128) (w : Word), s.mainUp = true →
    completes (.debugNonce purpose slot) s (fun t => t.sec.nonce = none ∧ t.sec.resp = [] ∧
      t = { s with sec := t.sec, regs := t.regs } ∧
      if s.keyset = true ∧ s.sec.holdoff = false ∧ purpose ≠ 3 ∧
          (purpose = 1 → s.sec.life ≠ .returned ∧ s.pwr.pstate = .active) ∧
          (purpose = 2 → s.sec.life = .secured ∧ s.liveProduction ≠ [slot.toNat]) then
        t.sec.asked = true ∧ t.sec.purpose = purpose.toNat ∧ (purpose = 2 → t.sec.rslot = slot.toNat)
      else t.flag Reg.DEBUG_STAT 10 = true ∧ t.sec.asked = s.sec.asked) ∧
    (s.sec.asked = true → completes (.nonceReady x true) s (fun t => t.sec.nonce = some x ∧ t.sec.resp = [] ∧
      t.sec.asked = false ∧ t = { s with sec := t.sec })) ∧
    (s.sec.nonce = some x → completes .authChalRead s (fun t =>
      t.port.out = bytesOfWord (nth (s.challenge x) s.sec.chal 0) ∧ t.sec.chal = Min.min 12 (s.sec.chal + 1) ∧
      t.sec.nonce = some x ∧ t = { s with sec := t.sec, port := { s.port with out := t.port.out } })) ∧
    (s.sec.nonce = some x → s.sec.resp.length < 16 → completes (.authChalWrite w) s (fun t =>
      t = { s with sec := { s.sec with resp := s.sec.resp ++ [w] } })) ∧
    (s.sec.nonce = some x → s.sec.resp.length = 16 → completes .authCompareDone s (fun t =>
      t.sec.nonce = none ∧ t.flag Reg.INT_STAT Irq.AUTH = true ∧ t.sec.otp = s.sec.otp ∧
      t = { s with sec := t.sec, regs := t.regs, nvm := t.nvm } ∧
      if s.sec.resp.flatMap bytesOfWord = hmacSha256 s.unlockKey (s.authMessage x) then
        t.flag Reg.DEBUG_STAT 12 = true ∧ t.fld Reg.DEBUG_STAT 5 4 = 0 ∧ t.sec.holdoff = s.sec.holdoff ∧
        (s.sec.purpose = 0 → t.sec.unlocked = (s.sec.unlocked || decide (s.sec.life = .secured)) ∧
          t.sec.trans = s.sec.trans ∧ t.sec.otpProg = s.sec.otpProg ∧ t.nvm = s.nvm) ∧
        (s.sec.purpose = 1 → t.sec.trans = .returned ∧ t.sec.unlocked = false ∧ t.sec.otpProg = s.sec.otpProg ∧
          t.nvm.op = s.nvm.op ∧ t.nvm.todo = (if s.nvm.paused then [] else s.nvm.todo.take 1) ∧ t.nvm.after = false ∧
          t.vote 4 = true) ∧
        (s.sec.purpose = 2 → s.sec.rslot < 4 → t.sec.trans = s.sec.trans ∧ t.sec.unlocked = s.sec.unlocked ∧ t.nvm = s.nvm ∧
          ∃ d, t.sec.otpProg = some (42, d) ∧ ∀ i < 32, d.getLsbD i = decide (i / 8 = s.sec.rslot))
      else t.nvm = s.nvm ∧ t.sec.trans = s.sec.trans ∧ t.sec.otpProg = s.sec.otpProg ∧ t.flag Reg.DEBUG_STAT 11 = true ∧ t.sec.holdoff = true ∧ t.sec.unlocked = s.sec.unlocked ∧
        t.fld Reg.DEBUG_STAT 5 4 = Min.min 15 (s.fld Reg.DEBUG_STAT 5 4 + 1))) ∧
    (s.sec.nonce = some x → completes .nonceExpiry s (fun t => t.sec.nonce = none ∧ t.sec.resp = [] ∧
      t = { s with sec := t.sec })) ∧
    completes .holdoffEnd s (fun t => t = { s with sec := { s.sec with holdoff := false } }) ∧
    completes .relock s (fun t => t.sec.unlocked = false ∧ t.sec.otp = s.sec.otp ∧
      t = { s with sec := t.sec, regs := t.regs })

/-- The fuses move the lifecycle on, each with its conditions, and a system reset follows; from GO until then GO and
NVM_STAT.BUSY read 1; RETURN erases the flash up to 0x3CFFF first, once the page in progress has ended, and then blows its
fuse; a power loss in between leaves each sector erased or as it was (R397, R398, R413; that the fuse is a command of its
own, and that the erased parts are whole sectors, is log entry 62). -/
def Obligations.LifecycleAdvances : Prop :=
  ∀ (s : State) (st : Straps), s.mainUp = true →
    (s.pwr.pstate = .active → s.sec.trans = .none →
      (s.sec.life = .opened → (∃ k < 4, s.enrolled k = true ∧ s.revoked k = false) →
        completes (.advDevelop 0xC3) s (fun t => t.sec.trans = .develop ∧ t.sec.unlocked = false ∧
          (t.viewReg Reg.DEBUG_CTL).getLsbD 15 = true ∧ (t.viewReg Reg.NVM_STAT).getLsbD 15 = true ∧
          t = { s with sec := t.sec, regs := t.regs })) ∧
      (s.sec.life = .develop → s.liveProduction ≠ [] → s.keyset = true →
        completes (.advSecured 0xC3) s (fun t => t.sec.trans = .secured ∧ t.sec.unlocked = false ∧
          t = { s with sec := t.sec, regs := t.regs }))) ∧
    (s.sec.life ≠ .opened → completes (.advDevelop 0xC3) s (fun t => t.sec.trans = s.sec.trans ∧
      t.flag Reg.DEBUG_STAT 10 = true)) ∧
    (s.sec.trans = .develop → completes (.fuseProgramDone st) s (fun t =>
      t.otpWord 43 = s.otpWord 43 ||| 0x000000FF ∧ t.sec.life ≠ .opened ∧ t.pwr.cause = 3 ∧
      (s.nvm.todo = [] → t.flash = s.flash))) ∧
    (s.sec.trans = .secured → completes (.fuseProgramDone st) s (fun t =>
      t.otpWord 43 = s.otpWord 43 ||| 0x0000FF00 ∧ (t.sec.life = .secured ∨ t.sec.life = .returned) ∧
      t.pwr.cause = 3)) ∧
    (s.sec.trans = .returned → s.nvm.todo ≠ [] → exec (.returnEraseDone st) s = .next s) ∧
    (s.sec.trans = .returned → s.nvm.todo = [] → s.MemWf →
      completes (.returnEraseDone st) s (fun t =>
        t = { s with flash := t.flash, sec := { s.sec with trans := .returnFuse } } ∧
        ∀ a, t.flashByte a = if a < 0x3D000 then 0xFF else s.flashByte a) ∧
      completes (.powerOnReset .falls st) s (fun t => t.sec.otp = s.sec.otp ∧
        (∀ j < 61, (∀ i < 4096, t.flashByte (4096 * j + i) = 0xFF) ∨
          ∀ i < 4096, t.flashByte (4096 * j + i) = s.flashByte (4096 * j + i)) ∧
        ∀ a, 0x3D000 ≤ a → t.flashByte a = s.flashByte a)) ∧
    (s.sec.trans = .returnFuse → completes (.fuseProgramDone st) s (fun t =>
      t.otpWord 43 = s.otpWord 43 ||| 0x00FF0000 ∧ t.sec.life = .returned ∧ t.pwr.cause = 3 ∧
      (s.nvm.todo = [] → t.flash = s.flash)))

/-- The TAP: attach and detach, IDCODE, BYPASS with a code that Table 13.5 lists for no other register (which one is free,
log entry 2) and a captured 0 (log entry 16), OTP_PROG with its fields OP, address and data, which never shows the unlock
key, programs nothing in SECURED and does nothing with OP 0b00 or 0b11 (which command spells these is log entry 75), and
DBG_ACCESS, which reaches every register while unlocked and in SECURED locked only the AON reads and the security registers (R399, R400, R404 to
R407, R414). -/
def Obligations.TapAccess : Prop :=
  ∀ (s : State) (op : BitVec 2) (addr : BitVec 6) (data : BitVec 32) (dr : BitVec 40) (r : RegId), s.mainUp = true →
    completes .tapAttach s (fun t => t.sec.tapOut = true ∧ t.sec.ir = 0x01 ∧ t = { s with sec := t.sec, pwr := t.pwr, seq := t.seq }) ∧
    completes .tapDetach s (fun t => t.sec.tapOut = false ∧ t.sec.ir = 0x01 ∧ t.sec.unlocked = s.sec.unlocked ∧
      t = { s with sec := t.sec, pwr := t.pwr, seq := t.seq }) ∧
    (s.sec.tapOut = true →
      completes .idcode s (fun t => t.sec.tdo =
        BitVec.ofNat 32 ((s.reg Reg.CHIP_REV).toNat % 16 * 2 ^ 28 + 0x6144 * 2 ^ 12 + 1) ∧
        t = { s with sec := { s.sec with tdo := t.sec.tdo, ir := 0x01 } }) ∧
      completes .bypass s (fun t => t.sec.ir ∉ [(0x01 : BitVec 5), 0x08, 0x0C] ∧ t.sec.tdo.getLsbD 0 = false ∧
        t = { s with sec := { s.sec with tdo := t.sec.tdo, ir := t.sec.ir }, freeCtr := t.freeCtr }) ∧
      completes (.otpProgRead ((0b10 : BitVec 2) ++ addr ++ data)) s (fun t =>
        t.sec.otpDr.setWidth 32 = (if 32 ≤ addr.toNat ∧ addr.toNat ≤ 39 then 0 else s.otpWord addr.toNat) ∧
        t = { s with sec := { s.sec with otpDr := t.sec.otpDr, ir := 0x0C } }) ∧
      (op ≠ 1 → op ≠ 2 → completes (.otpProgRead (op ++ addr ++ data)) s (fun t =>
        t = { s with sec := { s.sec with ir := 0x0C } })) ∧
      completes (.otpProgProgram ((0b01 : BitVec 2) ++ addr) data) s (fun t =>
        t = { s with sec := { s.sec with otpProg := t.sec.otpProg, otpDr := t.sec.otpDr, ir := 0x0C } } ∧
        (s.otpAllowed addr.toNat data = true → t.sec.otpProg = some (addr.toNat, data)) ∧
        (s.sec.life = .secured → t.sec.otpProg = s.sec.otpProg ∧ t.sec.otpDr.getLsbD 32 = true)) ∧
      (dr.getLsbD 39 = true → dr.getLsbD 38 = false → dr.toNat / 2 ^ 31 % 128 = r.val → plainRead r →
        completes (.dbgAccess dr) s (fun t =>
          if s.dstate = 2 ∨ r.val < 16 ∨ 66 ≤ r.val ∧ r.val ≤ 69 then
            t.sec.dbgDr.setWidth 16 = s.viewReg r ∧ t.sec.dbgDr.toNat / 2 ^ 16 = 1
          else t.sec.dbgDr.toNat / 2 ^ 16 = 2 ∧ t.regs = s.regs))) ∧
    (∀ a d, s.sec.otpProg = some (a, d) → completes .otpProgramDone s (fun t => t.sec.otpProg = none ∧
      (∀ w < 64, t.otpWord w = if w = a then s.otpWord w ||| d else s.otpWord w) ∧ t = { s with sec := t.sec }))

/-! ### Fault monitor (14) -/

/-- Two bad windows in a row are an oscillator's fault: FIO2 takes over from FIO, which a missing edge does at once; the
crystal and the slow oscillator hand over; a supply out of its window resets MAIN and is told in AON_FAULT; IRQ_N that
differs twice is a pin fault; the self-check finds an OTP word that differs from its shadow (R426 to R431). -/
def Obligations.FaultMonitor : Prop :=
  ∀ (s : State) (a b : Nat) (p : Supply),
    (s.mainUp = true → s.snap.flag Reg.FAULT_EN 9 = true → s.fio2 = false →
      (s.fmon.fioBad = 1 → 93750 < 50 * ((a : Int) - 93750).natAbs → completes (.oscMonitorWindow a b) s (fun t =>
        t.fio2 = true ∧ t.flag Reg.FAULT_STAT 10 = true ∧ t.flag Reg.INT_STAT Irq.FAULT = true)) ∧
      (50 * ((a : Int) - 93750).natAbs ≤ 93750 → 50 * ((b : Int) - 46875).natAbs ≤ 46875 →
        completes (.oscMonitorWindow a b) s (fun t => t.fmon.fioBad = 0 ∧ t.fmon.fio2Bad = 0 ∧ t.regs = s.regs)) ∧
      completes .fioStopDetect s (fun t => t.fio2 = true ∧ t.flag Reg.FAULT_STAT 10 = true)) ∧
    (s.mainUp = true → s.snap.flag Reg.FAULT_EN 8 = true → s.supplyCounts p = true →
      completes (.supplyFault p) s (fun t => t.pwr.pstate = .boot ∧ t.pwr.cause = 4 ∧ t.mainUp = false ∧
        t.flag Reg.AON_FAULT 15 = true ∧ t.fld Reg.AON_FAULT 8 2 = Supply.code p ∧ t.aon.time = s.aon.time ∧
        (s.nvm.todo = [] → s.sec.trans ≠ .returned → t.flash = s.flash) ∧ t.reg Reg.INT_EN = s.reg Reg.INT_EN)) ∧
    (s.aonUp = true →
      (s.aon.slow = .xtal → completes .xtalFail s (fun t => t.aon.slow = .internal ∧
        t.flag Reg.AON_FAULT 12 = true ∧ t.flag Reg.INT_STAT Irq.FAULT = true)) ∧
      (s.aon.slow ≠ .watchdog → completes .slowOscFail s (fun t => t.aon.slow = .watchdog ∧
        t.flag Reg.AON_FAULT 13 = true)) ∧
      (s.snap.flag Reg.FAULT_EN 7 = true → s.fmon.irqDiff = 1 → completes (.irqReadback s.irqAsserted) s (fun t =>
        t.flag Reg.FAULT_STAT 8 = true)) ∧
      (∀ par ring, completes (.aonSelfCheck par ring) s (fun t =>
        ((∃ i : Fin 4, s.otpWord (40 + i.val) ≠ s.sec.shadow.get i) → t.flag Reg.AON_FAULT 14 = true) ∧
        (par = false → t.flag Reg.AON_FAULT 10 = true) ∧ (ring = false → t.flag Reg.AON_FAULT 13 = true) ∧
        (par = true → ring = true → (∀ i : Fin 4, s.otpWord (40 + i.val) = s.sec.shadow.get i) → t.regs = s.regs))))

/-- Memory errors (R175, R425): a fault inverts bits of a word until the word is written or scrubbed, a stuck one for good
(how long a transient lasts is the model's reading, log entry 17); a fetch of a word without an error has no effect, one
with a single-bit error is corrected and counted in FAULT_CNT.CORR, one with a double-bit error sets the discard flag and
the fault flags; the scrubber corrects and counts, and a word in error again at its next scrub is a stuck bit, which sets
MEMSTUCK. -/
def Obligations.MemoryErrors : Prop :=
  ∀ (s : State) (c : CellId) (e : MemErr) (m : MemId) (addr bits : Nat) (f : FaultSpec),
    let i := MemId.imem (s.cald.map.get c)
    let a := (s.cell c).pc % 2048
    (s.memErr i a = none → s.fetchErr c = s) ∧
    (s.memErr i a = some e → ones e.bits = 1 → (s.fetchErr c).cald = s.cald ∧
      (s.fetchErr c).fld Reg.FAULT_CNT 8 8 = Min.min 255 (s.fld Reg.FAULT_CNT 8 8 + 1)) ∧
    (s.memErr i a = some e → 2 ≤ ones e.bits →
      (s.fetchErr c).cald = { s.cald with discard := true } ∧ (s.fetchErr c).flag Reg.FAULT_STAT 11 = true ∧
      (s.fetchErr c).flag Reg.INT_STAT Irq.FAULT = true) ∧
    (∀ stuck tr, completes (.singleFault (.memory m addr bits stuck) tr) s (fun t =>
      (∃ e', t.memErr m addr = some e' ∧
        e'.bits = (match s.memErr m addr with
          | some o => o.bits ||| bits
          | none => bits) ∧
        (s.memErr m addr = none → e'.stuck = (stuck && !tr))) ∧
      (∀ m' a', (m', a') ≠ (m, addr) → t.memErr m' a' = s.memErr m' a') ∧ t = { s with fmon := t.fmon })) ∧
    ((∀ m' a' b' st, f ≠ .memory m' a' b' st) → ∀ tr, completes (.singleFault f tr) s (fun t =>
      t = { s with fmon := { s.fmon with faults := s.fmon.faults ++ [(f, tr)] } })) ∧
    (s.mainUp = true → s.pwr.pstate = .active → s.snap.flag Reg.FAULT_EN 10 = true → s.memErr m addr = some e →
      ones e.bits = 1 →
      (e.stuck = false → s.scrubOf m addr = none → (∀ x ∈ s.fmon.memErrs, x.mem = m → x.addr = addr → x = e) →
        completes (.scrubWord m addr) s (fun t => t.memErr m addr = none ∧
          t.fld Reg.FAULT_CNT 8 8 = Min.min 255 (s.fld Reg.FAULT_CNT 8 8 + 1) ∧
          (∀ q, q ≠ Reg.FAULT_CNT → t.reg q = s.reg q) ∧ t = { s with fmon := t.fmon, regs := t.regs })) ∧
      (∀ w, s.scrubOf m addr = some w → w.told = false →
        completes (.scrubWord m addr) s (fun t => t.flag Reg.FAULT_STAT 12 = true ∧
          t.flag Reg.INT_STAT Irq.FAULT = true))) ∧
    (s.memErr m addr = some e → (∀ x ∈ s.fmon.memErrs, x.mem = m → x.addr = addr → x.stuck = false) →
      (s.rewrite m addr).memErr m addr = none)
end

