-- ==== Sys2Proof/Laws/Memory.lean ====
section
/-! SUPPORT. Sparse memories: what a read gives after a write, an erasure or a copy, and that every operation keeps the
canonical form. -/

namespace Sys2Proof.Machine

variable {α : Type} [DecidableEq α] {d : Nat → α}

/-! ### Canonical form -/

theorem memWfFrom_mono {lo lo' : Nat} {m : List (Nat × α)} (h : memWfFrom d lo m = true) (hl : lo' ≤ lo) :
    memWfFrom d lo' m = true := by
  cases m with
  | nil => rfl
  | cons c t =>
    obtain ⟨k, v⟩ := c
    simp only [memWfFrom, Bool.and_eq_true, decide_eq_true_eq] at h ⊢
    exact ⟨⟨by omega, h.1.2⟩, h.2⟩

theorem memWrite_wfFrom {lo a : Nat} {v : α} {m : List (Nat × α)} (h : memWfFrom d lo m = true) (ha : lo ≤ a) :
    memWfFrom d lo (memWrite d m a v) = true := by
  induction m generalizing lo with
  | nil =>
    simp only [memWrite]
    split
    · rfl
    · simp [memWfFrom, *]
  | cons c t ih =>
    obtain ⟨k, w⟩ := c
    simp only [memWfFrom, Bool.and_eq_true, decide_eq_true_eq] at h
    simp only [memWrite]
    split
    · split
      · simp [memWfFrom, h]
      · simp only [memWfFrom, Bool.and_eq_true, decide_eq_true_eq]
        exact ⟨⟨ha, ‹_›⟩, ⟨by omega, h.1.2⟩, h.2⟩
    · split
      · split
        · exact memWfFrom_mono h.2 (by omega)
        · simp only [memWfFrom, Bool.and_eq_true, decide_eq_true_eq]
          refine ⟨⟨ha, ‹_›⟩, ?_⟩
          subst a
          exact h.2
      · simp only [memWfFrom, Bool.and_eq_true, decide_eq_true_eq]
        exact ⟨h.1, ih h.2 (by omega)⟩

/-- A write keeps the canonical form. -/
theorem memWrite_wf {a : Nat} {v : α} {m : List (Nat × α)} (h : Memory.wf d m = true) :
    Memory.wf d (memWrite d m a v) = true := memWrite_wfFrom h (Nat.zero_le _)

theorem filter_wfFrom {lo : Nat} {p : Nat × α → Bool} {m : List (Nat × α)} (h : memWfFrom d lo m = true) :
    memWfFrom d lo (m.filter p) = true := by
  induction m generalizing lo with
  | nil => rfl
  | cons c t ih =>
    obtain ⟨k, w⟩ := c
    simp only [memWfFrom, Bool.and_eq_true, decide_eq_true_eq] at h
    simp only [List.filter_cons]
    split
    · simp only [memWfFrom, Bool.and_eq_true, decide_eq_true_eq]
      exact ⟨h.1, ih h.2⟩
    · exact memWfFrom_mono (ih h.2) (by omega)

/-- An erasure keeps the canonical form. -/
theorem memClear_wf {lo hi : Nat} {m : List (Nat × α)} (h : Memory.wf d m = true) :
    Memory.wf d (memClear m lo hi) = true := filter_wfFrom h

/-- A write of several values keeps the canonical form. -/
theorem memWriteAll_wf {l : List α} {a : Nat} {m : List (Nat × α)} (h : Memory.wf d m = true) :
    Memory.wf d (memWriteAll d m a l) = true := by
  induction l generalizing m a with
  | nil => exact h
  | cons v t ih => exact ih (memWrite_wf h)

theorem foldl_memWrite_wf {β : Type} {l : List β} {f : β → Nat} {g : β → α} {m : List (Nat × α)}
    (h : Memory.wf d m = true) : Memory.wf d (l.foldl (fun acc c => memWrite d acc (f c) (g c)) m) = true := by
  induction l generalizing m with
  | nil => exact h
  | cons c t ih => exact ih (memWrite_wf h)

/-- A copy keeps the canonical form. -/
theorem memCopy_wf {src dst len : Nat} {m : List (Nat × α)} (h : Memory.wf d m = true) :
    Memory.wf d (memCopy d m src dst len) = true := foldl_memWrite_wf (memClear_wf h)

/-! ### Reads after writes -/

theorem memRead_below {lo a : Nat} {m : List (Nat × α)} (h : memWfFrom d lo m = true) (ha : a < lo) :
    memRead d m a = d a := by
  cases m with
  | nil => rfl
  | cons c t =>
    obtain ⟨k, w⟩ := c
    simp only [memWfFrom, Bool.and_eq_true, decide_eq_true_eq] at h
    simp only [memRead]
    rw [if_pos (by omega)]

theorem memRead_memWrite_from {lo a b : Nat} {v : α} {m : List (Nat × α)} (h : memWfFrom d lo m = true) :
    memRead d (memWrite d m a v) b = if b = a then v else memRead d m b := by
  induction m generalizing lo with
  | nil =>
    simp only [memWrite, memRead]
    split
    · split
      · subst b; simp [memRead, *]
      · rfl
    · simp only [memRead]
      split
      · rw [if_neg (by omega)]
      · rfl
  | cons c t ih =>
    obtain ⟨k, w⟩ := c
    simp only [memWfFrom, Bool.and_eq_true, decide_eq_true_eq] at h
    have hb {x : Nat} (hx : x ≤ k) : memRead d t x = d x := memRead_below h.2 (by omega)
    simp only [memWrite]
    by_cases hak : a < k
    · rw [if_pos hak]
      by_cases hv : v = d a
      · rw [if_pos hv]
        by_cases hba : b = a
        · subst b; simp [memRead, hak, hv]
        · rw [if_neg hba]
      · rw [if_neg hv]
        simp only [memRead]
        by_cases hba : b = a
        · subst b; simp
        · rw [if_neg hba]
          by_cases hlt : b < a
          · rw [if_pos hlt, if_pos (by omega)]
          · rw [if_neg hlt]
    · rw [if_neg hak]
      by_cases hk : a = k
      · rw [if_pos hk]
        subst hk
        by_cases hv : v = d a
        · rw [if_pos hv]
          by_cases hba : b = a
          · subst b; rw [hb (Nat.le_refl _)]; simp [hv]
          · simp only [memRead, if_neg hba]
            by_cases hlt : b < a
            · rw [if_pos hlt, hb (by omega)]
            · rw [if_neg hlt]
        · rw [if_neg hv]
          simp only [memRead]
          by_cases hba : b = a
          · subst b; simp
          · simp [hba]
      · rw [if_neg hk]
        simp only [memRead]
        by_cases hlt : b < k
        · rw [if_pos hlt, if_pos hlt, if_neg (by omega)]
        · rw [if_neg hlt, if_neg hlt]
          by_cases hbk : b = k
          · rw [if_pos hbk, if_pos hbk, if_neg (by omega)]
          · rw [if_neg hbk, if_neg hbk, ih h.2]

/-- What a read gives after a write: the value at the written address, what was there before at any other. -/
theorem memRead_memWrite {a b : Nat} {v : α} {m : List (Nat × α)} (h : Memory.wf d m = true) :
    memRead d (memWrite d m a v) b = if b = a then v else memRead d m b := memRead_memWrite_from h

end Sys2Proof.Machine
end

