-- ==== Sys2Proof/Laws/State.lean ====
section
/-! SUPPORT. The small lemmas of State: what each named update leaves of every field, and what registers, flags, tables,
flash and data memory read after it. -/

namespace Sys2Proof.Machine

/-! ### setReg -/

@[simp] theorem State.setReg_aon (s : State) (r : RegId) (v : Word) : (s.setReg r v).aon = s.aon := rfl
@[simp] theorem State.setReg_pwr (s : State) (r : RegId) (v : Word) : (s.setReg r v).pwr = s.pwr := rfl
@[simp] theorem State.setReg_tables (s : State) (r : RegId) (v : Word) : (s.setReg r v).tables = s.tables := rfl
@[simp] theorem State.setReg_flash (s : State) (r : RegId) (v : Word) : (s.setReg r v).flash = s.flash := rfl
@[simp] theorem State.setReg_snap (s : State) (r : RegId) (v : Word) : (s.setReg r v).snap = s.snap := rfl
@[simp] theorem State.setReg_effGz (s : State) (r : RegId) (v : Word) : (s.setReg r v).effGz = s.effGz := rfl
@[simp] theorem State.setReg_seq (s : State) (r : RegId) (v : Word) : (s.setReg r v).seq = s.seq := rfl
@[simp] theorem State.setReg_rowDone (s : State) (r : RegId) (v : Word) : (s.setReg r v).rowDone = s.rowDone := rfl
@[simp] theorem State.setReg_rowHeld (s : State) (r : RegId) (v : Word) : (s.setReg r v).rowHeld = s.rowHeld := rfl
@[simp] theorem State.setReg_sync (s : State) (r : RegId) (v : Word) : (s.setReg r v).sync = s.sync := rfl
@[simp] theorem State.setReg_drive (s : State) (r : RegId) (v : Word) : (s.setReg r v).drive = s.drive := rfl
@[simp] theorem State.setReg_filt (s : State) (r : RegId) (v : Word) : (s.setReg r v).filt = s.filt := rfl
@[simp] theorem State.setReg_lanes (s : State) (r : RegId) (v : Word) : (s.setReg r v).lanes = s.lanes := rfl
@[simp] theorem State.setReg_dets (s : State) (r : RegId) (v : Word) : (s.setReg r v).dets = s.dets := rfl
@[simp] theorem State.setReg_reserve (s : State) (r : RegId) (v : Word) : (s.setReg r v).reserve = s.reserve := rfl
@[simp] theorem State.setReg_cal (s : State) (r : RegId) (v : Word) : (s.setReg r v).cal = s.cal := rfl
@[simp] theorem State.setReg_cald (s : State) (r : RegId) (v : Word) : (s.setReg r v).cald = s.cald := rfl
@[simp] theorem State.setReg_pace (s : State) (r : RegId) (v : Word) : (s.setReg r v).pace = s.pace := rfl
@[simp] theorem State.setReg_sched (s : State) (r : RegId) (v : Word) : (s.setReg r v).sched = s.sched := rfl
@[simp] theorem State.setReg_queue (s : State) (r : RegId) (v : Word) : (s.setReg r v).queue = s.queue := rfl
@[simp] theorem State.setReg_ring (s : State) (r : RegId) (v : Word) : (s.setReg r v).ring = s.ring := rfl
@[simp] theorem State.setReg_port (s : State) (r : RegId) (v : Word) : (s.setReg r v).port = s.port := rfl
@[simp] theorem State.setReg_nvm (s : State) (r : RegId) (v : Word) : (s.setReg r v).nvm = s.nvm := rfl
@[simp] theorem State.setReg_sec (s : State) (r : RegId) (v : Word) : (s.setReg r v).sec = s.sec := rfl
@[simp] theorem State.setReg_geyser (s : State) (r : RegId) (v : Word) : (s.setReg r v).geyser = s.geyser := rfl
@[simp] theorem State.setReg_fmon (s : State) (r : RegId) (v : Word) : (s.setReg r v).fmon = s.fmon := rfl
@[simp] theorem State.setReg_lib (s : State) (r : RegId) (v : Word) : (s.setReg r v).lib = s.lib := rfl
@[simp] theorem State.setReg_freeCtr (s : State) (r : RegId) (v : Word) : (s.setReg r v).freeCtr = s.freeCtr := rfl
@[simp] theorem State.setReg_pending (s : State) (r : RegId) (v : Word) : (s.setReg r v).pending = s.pending := rfl

/-! ### setFld -/

@[simp] theorem State.setFld_aon (s : State) (r : RegId) (lo w x : Nat) : (s.setFld r lo w x).aon = s.aon := rfl
@[simp] theorem State.setFld_pwr (s : State) (r : RegId) (lo w x : Nat) : (s.setFld r lo w x).pwr = s.pwr := rfl
@[simp] theorem State.setFld_tables (s : State) (r : RegId) (lo w x : Nat) : (s.setFld r lo w x).tables = s.tables := rfl
@[simp] theorem State.setFld_flash (s : State) (r : RegId) (lo w x : Nat) : (s.setFld r lo w x).flash = s.flash := rfl
@[simp] theorem State.setFld_snap (s : State) (r : RegId) (lo w x : Nat) : (s.setFld r lo w x).snap = s.snap := rfl
@[simp] theorem State.setFld_effGz (s : State) (r : RegId) (lo w x : Nat) : (s.setFld r lo w x).effGz = s.effGz := rfl
@[simp] theorem State.setFld_seq (s : State) (r : RegId) (lo w x : Nat) : (s.setFld r lo w x).seq = s.seq := rfl
@[simp] theorem State.setFld_rowDone (s : State) (r : RegId) (lo w x : Nat) : (s.setFld r lo w x).rowDone = s.rowDone := rfl
@[simp] theorem State.setFld_rowHeld (s : State) (r : RegId) (lo w x : Nat) : (s.setFld r lo w x).rowHeld = s.rowHeld := rfl
@[simp] theorem State.setFld_sync (s : State) (r : RegId) (lo w x : Nat) : (s.setFld r lo w x).sync = s.sync := rfl
@[simp] theorem State.setFld_drive (s : State) (r : RegId) (lo w x : Nat) : (s.setFld r lo w x).drive = s.drive := rfl
@[simp] theorem State.setFld_filt (s : State) (r : RegId) (lo w x : Nat) : (s.setFld r lo w x).filt = s.filt := rfl
@[simp] theorem State.setFld_lanes (s : State) (r : RegId) (lo w x : Nat) : (s.setFld r lo w x).lanes = s.lanes := rfl
@[simp] theorem State.setFld_dets (s : State) (r : RegId) (lo w x : Nat) : (s.setFld r lo w x).dets = s.dets := rfl
@[simp] theorem State.setFld_reserve (s : State) (r : RegId) (lo w x : Nat) : (s.setFld r lo w x).reserve = s.reserve := rfl
@[simp] theorem State.setFld_cal (s : State) (r : RegId) (lo w x : Nat) : (s.setFld r lo w x).cal = s.cal := rfl
@[simp] theorem State.setFld_cald (s : State) (r : RegId) (lo w x : Nat) : (s.setFld r lo w x).cald = s.cald := rfl
@[simp] theorem State.setFld_pace (s : State) (r : RegId) (lo w x : Nat) : (s.setFld r lo w x).pace = s.pace := rfl
@[simp] theorem State.setFld_sched (s : State) (r : RegId) (lo w x : Nat) : (s.setFld r lo w x).sched = s.sched := rfl
@[simp] theorem State.setFld_queue (s : State) (r : RegId) (lo w x : Nat) : (s.setFld r lo w x).queue = s.queue := rfl
@[simp] theorem State.setFld_ring (s : State) (r : RegId) (lo w x : Nat) : (s.setFld r lo w x).ring = s.ring := rfl
@[simp] theorem State.setFld_port (s : State) (r : RegId) (lo w x : Nat) : (s.setFld r lo w x).port = s.port := rfl
@[simp] theorem State.setFld_nvm (s : State) (r : RegId) (lo w x : Nat) : (s.setFld r lo w x).nvm = s.nvm := rfl
@[simp] theorem State.setFld_sec (s : State) (r : RegId) (lo w x : Nat) : (s.setFld r lo w x).sec = s.sec := rfl
@[simp] theorem State.setFld_geyser (s : State) (r : RegId) (lo w x : Nat) : (s.setFld r lo w x).geyser = s.geyser := rfl
@[simp] theorem State.setFld_fmon (s : State) (r : RegId) (lo w x : Nat) : (s.setFld r lo w x).fmon = s.fmon := rfl
@[simp] theorem State.setFld_lib (s : State) (r : RegId) (lo w x : Nat) : (s.setFld r lo w x).lib = s.lib := rfl
@[simp] theorem State.setFld_freeCtr (s : State) (r : RegId) (lo w x : Nat) : (s.setFld r lo w x).freeCtr = s.freeCtr := rfl
@[simp] theorem State.setFld_pending (s : State) (r : RegId) (lo w x : Nat) : (s.setFld r lo w x).pending = s.pending := rfl

/-! ### setFlag -/

@[simp] theorem State.setFlag_aon (s : State) (r : RegId) (b : Nat) (v : Bool) : (s.setFlag r b v).aon = s.aon := rfl
@[simp] theorem State.setFlag_pwr (s : State) (r : RegId) (b : Nat) (v : Bool) : (s.setFlag r b v).pwr = s.pwr := rfl
@[simp] theorem State.setFlag_tables (s : State) (r : RegId) (b : Nat) (v : Bool) : (s.setFlag r b v).tables = s.tables := rfl
@[simp] theorem State.setFlag_flash (s : State) (r : RegId) (b : Nat) (v : Bool) : (s.setFlag r b v).flash = s.flash := rfl
@[simp] theorem State.setFlag_snap (s : State) (r : RegId) (b : Nat) (v : Bool) : (s.setFlag r b v).snap = s.snap := rfl
@[simp] theorem State.setFlag_effGz (s : State) (r : RegId) (b : Nat) (v : Bool) : (s.setFlag r b v).effGz = s.effGz := rfl
@[simp] theorem State.setFlag_seq (s : State) (r : RegId) (b : Nat) (v : Bool) : (s.setFlag r b v).seq = s.seq := rfl
@[simp] theorem State.setFlag_rowDone (s : State) (r : RegId) (b : Nat) (v : Bool) : (s.setFlag r b v).rowDone = s.rowDone := rfl
@[simp] theorem State.setFlag_rowHeld (s : State) (r : RegId) (b : Nat) (v : Bool) : (s.setFlag r b v).rowHeld = s.rowHeld := rfl
@[simp] theorem State.setFlag_sync (s : State) (r : RegId) (b : Nat) (v : Bool) : (s.setFlag r b v).sync = s.sync := rfl
@[simp] theorem State.setFlag_drive (s : State) (r : RegId) (b : Nat) (v : Bool) : (s.setFlag r b v).drive = s.drive := rfl
@[simp] theorem State.setFlag_filt (s : State) (r : RegId) (b : Nat) (v : Bool) : (s.setFlag r b v).filt = s.filt := rfl
@[simp] theorem State.setFlag_lanes (s : State) (r : RegId) (b : Nat) (v : Bool) : (s.setFlag r b v).lanes = s.lanes := rfl
@[simp] theorem State.setFlag_dets (s : State) (r : RegId) (b : Nat) (v : Bool) : (s.setFlag r b v).dets = s.dets := rfl
@[simp] theorem State.setFlag_reserve (s : State) (r : RegId) (b : Nat) (v : Bool) : (s.setFlag r b v).reserve = s.reserve := rfl
@[simp] theorem State.setFlag_cal (s : State) (r : RegId) (b : Nat) (v : Bool) : (s.setFlag r b v).cal = s.cal := rfl
@[simp] theorem State.setFlag_cald (s : State) (r : RegId) (b : Nat) (v : Bool) : (s.setFlag r b v).cald = s.cald := rfl
@[simp] theorem State.setFlag_pace (s : State) (r : RegId) (b : Nat) (v : Bool) : (s.setFlag r b v).pace = s.pace := rfl
@[simp] theorem State.setFlag_sched (s : State) (r : RegId) (b : Nat) (v : Bool) : (s.setFlag r b v).sched = s.sched := rfl
@[simp] theorem State.setFlag_queue (s : State) (r : RegId) (b : Nat) (v : Bool) : (s.setFlag r b v).queue = s.queue := rfl
@[simp] theorem State.setFlag_ring (s : State) (r : RegId) (b : Nat) (v : Bool) : (s.setFlag r b v).ring = s.ring := rfl
@[simp] theorem State.setFlag_port (s : State) (r : RegId) (b : Nat) (v : Bool) : (s.setFlag r b v).port = s.port := rfl
@[simp] theorem State.setFlag_nvm (s : State) (r : RegId) (b : Nat) (v : Bool) : (s.setFlag r b v).nvm = s.nvm := rfl
@[simp] theorem State.setFlag_sec (s : State) (r : RegId) (b : Nat) (v : Bool) : (s.setFlag r b v).sec = s.sec := rfl
@[simp] theorem State.setFlag_geyser (s : State) (r : RegId) (b : Nat) (v : Bool) : (s.setFlag r b v).geyser = s.geyser := rfl
@[simp] theorem State.setFlag_fmon (s : State) (r : RegId) (b : Nat) (v : Bool) : (s.setFlag r b v).fmon = s.fmon := rfl
@[simp] theorem State.setFlag_lib (s : State) (r : RegId) (b : Nat) (v : Bool) : (s.setFlag r b v).lib = s.lib := rfl
@[simp] theorem State.setFlag_freeCtr (s : State) (r : RegId) (b : Nat) (v : Bool) : (s.setFlag r b v).freeCtr = s.freeCtr := rfl
@[simp] theorem State.setFlag_pending (s : State) (r : RegId) (b : Nat) (v : Bool) : (s.setFlag r b v).pending = s.pending := rfl

/-! ### incFld -/

@[simp] theorem State.incFld_aon (s : State) (r : RegId) (lo w : Nat) : (s.incFld r lo w).aon = s.aon := rfl
@[simp] theorem State.incFld_pwr (s : State) (r : RegId) (lo w : Nat) : (s.incFld r lo w).pwr = s.pwr := rfl
@[simp] theorem State.incFld_tables (s : State) (r : RegId) (lo w : Nat) : (s.incFld r lo w).tables = s.tables := rfl
@[simp] theorem State.incFld_flash (s : State) (r : RegId) (lo w : Nat) : (s.incFld r lo w).flash = s.flash := rfl
@[simp] theorem State.incFld_snap (s : State) (r : RegId) (lo w : Nat) : (s.incFld r lo w).snap = s.snap := rfl
@[simp] theorem State.incFld_effGz (s : State) (r : RegId) (lo w : Nat) : (s.incFld r lo w).effGz = s.effGz := rfl
@[simp] theorem State.incFld_seq (s : State) (r : RegId) (lo w : Nat) : (s.incFld r lo w).seq = s.seq := rfl
@[simp] theorem State.incFld_rowDone (s : State) (r : RegId) (lo w : Nat) : (s.incFld r lo w).rowDone = s.rowDone := rfl
@[simp] theorem State.incFld_rowHeld (s : State) (r : RegId) (lo w : Nat) : (s.incFld r lo w).rowHeld = s.rowHeld := rfl
@[simp] theorem State.incFld_sync (s : State) (r : RegId) (lo w : Nat) : (s.incFld r lo w).sync = s.sync := rfl
@[simp] theorem State.incFld_drive (s : State) (r : RegId) (lo w : Nat) : (s.incFld r lo w).drive = s.drive := rfl
@[simp] theorem State.incFld_filt (s : State) (r : RegId) (lo w : Nat) : (s.incFld r lo w).filt = s.filt := rfl
@[simp] theorem State.incFld_lanes (s : State) (r : RegId) (lo w : Nat) : (s.incFld r lo w).lanes = s.lanes := rfl
@[simp] theorem State.incFld_dets (s : State) (r : RegId) (lo w : Nat) : (s.incFld r lo w).dets = s.dets := rfl
@[simp] theorem State.incFld_reserve (s : State) (r : RegId) (lo w : Nat) : (s.incFld r lo w).reserve = s.reserve := rfl
@[simp] theorem State.incFld_cal (s : State) (r : RegId) (lo w : Nat) : (s.incFld r lo w).cal = s.cal := rfl
@[simp] theorem State.incFld_cald (s : State) (r : RegId) (lo w : Nat) : (s.incFld r lo w).cald = s.cald := rfl
@[simp] theorem State.incFld_pace (s : State) (r : RegId) (lo w : Nat) : (s.incFld r lo w).pace = s.pace := rfl
@[simp] theorem State.incFld_sched (s : State) (r : RegId) (lo w : Nat) : (s.incFld r lo w).sched = s.sched := rfl
@[simp] theorem State.incFld_queue (s : State) (r : RegId) (lo w : Nat) : (s.incFld r lo w).queue = s.queue := rfl
@[simp] theorem State.incFld_ring (s : State) (r : RegId) (lo w : Nat) : (s.incFld r lo w).ring = s.ring := rfl
@[simp] theorem State.incFld_port (s : State) (r : RegId) (lo w : Nat) : (s.incFld r lo w).port = s.port := rfl
@[simp] theorem State.incFld_nvm (s : State) (r : RegId) (lo w : Nat) : (s.incFld r lo w).nvm = s.nvm := rfl
@[simp] theorem State.incFld_sec (s : State) (r : RegId) (lo w : Nat) : (s.incFld r lo w).sec = s.sec := rfl
@[simp] theorem State.incFld_geyser (s : State) (r : RegId) (lo w : Nat) : (s.incFld r lo w).geyser = s.geyser := rfl
@[simp] theorem State.incFld_fmon (s : State) (r : RegId) (lo w : Nat) : (s.incFld r lo w).fmon = s.fmon := rfl
@[simp] theorem State.incFld_lib (s : State) (r : RegId) (lo w : Nat) : (s.incFld r lo w).lib = s.lib := rfl
@[simp] theorem State.incFld_freeCtr (s : State) (r : RegId) (lo w : Nat) : (s.incFld r lo w).freeCtr = s.freeCtr := rfl
@[simp] theorem State.incFld_pending (s : State) (r : RegId) (lo w : Nat) : (s.incFld r lo w).pending = s.pending := rfl

/-! ### satFld -/

@[simp] theorem State.satFld_aon (s : State) (r : RegId) (lo w : Nat) : (s.satFld r lo w).aon = s.aon := rfl
@[simp] theorem State.satFld_pwr (s : State) (r : RegId) (lo w : Nat) : (s.satFld r lo w).pwr = s.pwr := rfl
@[simp] theorem State.satFld_tables (s : State) (r : RegId) (lo w : Nat) : (s.satFld r lo w).tables = s.tables := rfl
@[simp] theorem State.satFld_flash (s : State) (r : RegId) (lo w : Nat) : (s.satFld r lo w).flash = s.flash := rfl
@[simp] theorem State.satFld_snap (s : State) (r : RegId) (lo w : Nat) : (s.satFld r lo w).snap = s.snap := rfl
@[simp] theorem State.satFld_effGz (s : State) (r : RegId) (lo w : Nat) : (s.satFld r lo w).effGz = s.effGz := rfl
@[simp] theorem State.satFld_seq (s : State) (r : RegId) (lo w : Nat) : (s.satFld r lo w).seq = s.seq := rfl
@[simp] theorem State.satFld_rowDone (s : State) (r : RegId) (lo w : Nat) : (s.satFld r lo w).rowDone = s.rowDone := rfl
@[simp] theorem State.satFld_rowHeld (s : State) (r : RegId) (lo w : Nat) : (s.satFld r lo w).rowHeld = s.rowHeld := rfl
@[simp] theorem State.satFld_sync (s : State) (r : RegId) (lo w : Nat) : (s.satFld r lo w).sync = s.sync := rfl
@[simp] theorem State.satFld_drive (s : State) (r : RegId) (lo w : Nat) : (s.satFld r lo w).drive = s.drive := rfl
@[simp] theorem State.satFld_filt (s : State) (r : RegId) (lo w : Nat) : (s.satFld r lo w).filt = s.filt := rfl
@[simp] theorem State.satFld_lanes (s : State) (r : RegId) (lo w : Nat) : (s.satFld r lo w).lanes = s.lanes := rfl
@[simp] theorem State.satFld_dets (s : State) (r : RegId) (lo w : Nat) : (s.satFld r lo w).dets = s.dets := rfl
@[simp] theorem State.satFld_reserve (s : State) (r : RegId) (lo w : Nat) : (s.satFld r lo w).reserve = s.reserve := rfl
@[simp] theorem State.satFld_cal (s : State) (r : RegId) (lo w : Nat) : (s.satFld r lo w).cal = s.cal := rfl
@[simp] theorem State.satFld_cald (s : State) (r : RegId) (lo w : Nat) : (s.satFld r lo w).cald = s.cald := rfl
@[simp] theorem State.satFld_pace (s : State) (r : RegId) (lo w : Nat) : (s.satFld r lo w).pace = s.pace := rfl
@[simp] theorem State.satFld_sched (s : State) (r : RegId) (lo w : Nat) : (s.satFld r lo w).sched = s.sched := rfl
@[simp] theorem State.satFld_queue (s : State) (r : RegId) (lo w : Nat) : (s.satFld r lo w).queue = s.queue := rfl
@[simp] theorem State.satFld_ring (s : State) (r : RegId) (lo w : Nat) : (s.satFld r lo w).ring = s.ring := rfl
@[simp] theorem State.satFld_port (s : State) (r : RegId) (lo w : Nat) : (s.satFld r lo w).port = s.port := rfl
@[simp] theorem State.satFld_nvm (s : State) (r : RegId) (lo w : Nat) : (s.satFld r lo w).nvm = s.nvm := rfl
@[simp] theorem State.satFld_sec (s : State) (r : RegId) (lo w : Nat) : (s.satFld r lo w).sec = s.sec := rfl
@[simp] theorem State.satFld_geyser (s : State) (r : RegId) (lo w : Nat) : (s.satFld r lo w).geyser = s.geyser := rfl
@[simp] theorem State.satFld_fmon (s : State) (r : RegId) (lo w : Nat) : (s.satFld r lo w).fmon = s.fmon := rfl
@[simp] theorem State.satFld_lib (s : State) (r : RegId) (lo w : Nat) : (s.satFld r lo w).lib = s.lib := rfl
@[simp] theorem State.satFld_freeCtr (s : State) (r : RegId) (lo w : Nat) : (s.satFld r lo w).freeCtr = s.freeCtr := rfl
@[simp] theorem State.satFld_pending (s : State) (r : RegId) (lo w : Nat) : (s.satFld r lo w).pending = s.pending := rfl

/-! ### raise -/

@[simp] theorem State.raise_aon (s : State) (b : Nat) : (s.raise b).aon = s.aon := rfl
@[simp] theorem State.raise_pwr (s : State) (b : Nat) : (s.raise b).pwr = s.pwr := rfl
@[simp] theorem State.raise_tables (s : State) (b : Nat) : (s.raise b).tables = s.tables := rfl
@[simp] theorem State.raise_flash (s : State) (b : Nat) : (s.raise b).flash = s.flash := rfl
@[simp] theorem State.raise_snap (s : State) (b : Nat) : (s.raise b).snap = s.snap := rfl
@[simp] theorem State.raise_effGz (s : State) (b : Nat) : (s.raise b).effGz = s.effGz := rfl
@[simp] theorem State.raise_seq (s : State) (b : Nat) : (s.raise b).seq = s.seq := rfl
@[simp] theorem State.raise_rowDone (s : State) (b : Nat) : (s.raise b).rowDone = s.rowDone := rfl
@[simp] theorem State.raise_rowHeld (s : State) (b : Nat) : (s.raise b).rowHeld = s.rowHeld := rfl
@[simp] theorem State.raise_sync (s : State) (b : Nat) : (s.raise b).sync = s.sync := rfl
@[simp] theorem State.raise_drive (s : State) (b : Nat) : (s.raise b).drive = s.drive := rfl
@[simp] theorem State.raise_filt (s : State) (b : Nat) : (s.raise b).filt = s.filt := rfl
@[simp] theorem State.raise_lanes (s : State) (b : Nat) : (s.raise b).lanes = s.lanes := rfl
@[simp] theorem State.raise_dets (s : State) (b : Nat) : (s.raise b).dets = s.dets := rfl
@[simp] theorem State.raise_reserve (s : State) (b : Nat) : (s.raise b).reserve = s.reserve := rfl
@[simp] theorem State.raise_cal (s : State) (b : Nat) : (s.raise b).cal = s.cal := rfl
@[simp] theorem State.raise_cald (s : State) (b : Nat) : (s.raise b).cald = s.cald := rfl
@[simp] theorem State.raise_pace (s : State) (b : Nat) : (s.raise b).pace = s.pace := rfl
@[simp] theorem State.raise_sched (s : State) (b : Nat) : (s.raise b).sched = s.sched := rfl
@[simp] theorem State.raise_queue (s : State) (b : Nat) : (s.raise b).queue = s.queue := rfl
@[simp] theorem State.raise_ring (s : State) (b : Nat) : (s.raise b).ring = s.ring := rfl
@[simp] theorem State.raise_port (s : State) (b : Nat) : (s.raise b).port = s.port := rfl
@[simp] theorem State.raise_nvm (s : State) (b : Nat) : (s.raise b).nvm = s.nvm := rfl
@[simp] theorem State.raise_sec (s : State) (b : Nat) : (s.raise b).sec = s.sec := rfl
@[simp] theorem State.raise_geyser (s : State) (b : Nat) : (s.raise b).geyser = s.geyser := rfl
@[simp] theorem State.raise_fmon (s : State) (b : Nat) : (s.raise b).fmon = s.fmon := rfl
@[simp] theorem State.raise_lib (s : State) (b : Nat) : (s.raise b).lib = s.lib := rfl
@[simp] theorem State.raise_freeCtr (s : State) (b : Nat) : (s.raise b).freeCtr = s.freeCtr := rfl
@[simp] theorem State.raise_pending (s : State) (b : Nat) : (s.raise b).pending = s.pending := rfl

/-! ### setTab -/

@[simp] theorem State.setTab_aon (s : State) (c a : Nat) (v : Word) : (s.setTab c a v).aon = s.aon := rfl
@[simp] theorem State.setTab_pwr (s : State) (c a : Nat) (v : Word) : (s.setTab c a v).pwr = s.pwr := rfl
@[simp] theorem State.setTab_regs (s : State) (c a : Nat) (v : Word) : (s.setTab c a v).regs = s.regs := rfl
@[simp] theorem State.setTab_flash (s : State) (c a : Nat) (v : Word) : (s.setTab c a v).flash = s.flash := rfl
@[simp] theorem State.setTab_snap (s : State) (c a : Nat) (v : Word) : (s.setTab c a v).snap = s.snap := rfl
@[simp] theorem State.setTab_effGz (s : State) (c a : Nat) (v : Word) : (s.setTab c a v).effGz = s.effGz := rfl
@[simp] theorem State.setTab_seq (s : State) (c a : Nat) (v : Word) : (s.setTab c a v).seq = s.seq := rfl
@[simp] theorem State.setTab_rowDone (s : State) (c a : Nat) (v : Word) : (s.setTab c a v).rowDone = s.rowDone := rfl
@[simp] theorem State.setTab_rowHeld (s : State) (c a : Nat) (v : Word) : (s.setTab c a v).rowHeld = s.rowHeld := rfl
@[simp] theorem State.setTab_sync (s : State) (c a : Nat) (v : Word) : (s.setTab c a v).sync = s.sync := rfl
@[simp] theorem State.setTab_drive (s : State) (c a : Nat) (v : Word) : (s.setTab c a v).drive = s.drive := rfl
@[simp] theorem State.setTab_filt (s : State) (c a : Nat) (v : Word) : (s.setTab c a v).filt = s.filt := rfl
@[simp] theorem State.setTab_lanes (s : State) (c a : Nat) (v : Word) : (s.setTab c a v).lanes = s.lanes := rfl
@[simp] theorem State.setTab_dets (s : State) (c a : Nat) (v : Word) : (s.setTab c a v).dets = s.dets := rfl
@[simp] theorem State.setTab_reserve (s : State) (c a : Nat) (v : Word) : (s.setTab c a v).reserve = s.reserve := rfl
@[simp] theorem State.setTab_cal (s : State) (c a : Nat) (v : Word) : (s.setTab c a v).cal = s.cal := rfl
@[simp] theorem State.setTab_cald (s : State) (c a : Nat) (v : Word) : (s.setTab c a v).cald = s.cald := rfl
@[simp] theorem State.setTab_pace (s : State) (c a : Nat) (v : Word) : (s.setTab c a v).pace = s.pace := rfl
@[simp] theorem State.setTab_sched (s : State) (c a : Nat) (v : Word) : (s.setTab c a v).sched = s.sched := rfl
@[simp] theorem State.setTab_queue (s : State) (c a : Nat) (v : Word) : (s.setTab c a v).queue = s.queue := rfl
@[simp] theorem State.setTab_ring (s : State) (c a : Nat) (v : Word) : (s.setTab c a v).ring = s.ring := rfl
@[simp] theorem State.setTab_port (s : State) (c a : Nat) (v : Word) : (s.setTab c a v).port = s.port := rfl
@[simp] theorem State.setTab_nvm (s : State) (c a : Nat) (v : Word) : (s.setTab c a v).nvm = s.nvm := rfl
@[simp] theorem State.setTab_sec (s : State) (c a : Nat) (v : Word) : (s.setTab c a v).sec = s.sec := rfl
@[simp] theorem State.setTab_geyser (s : State) (c a : Nat) (v : Word) : (s.setTab c a v).geyser = s.geyser := rfl
@[simp] theorem State.setTab_fmon (s : State) (c a : Nat) (v : Word) : (s.setTab c a v).fmon = s.fmon := rfl
@[simp] theorem State.setTab_lib (s : State) (c a : Nat) (v : Word) : (s.setTab c a v).lib = s.lib := rfl
@[simp] theorem State.setTab_freeCtr (s : State) (c a : Nat) (v : Word) : (s.setTab c a v).freeCtr = s.freeCtr := rfl
@[simp] theorem State.setTab_pending (s : State) (c a : Nat) (v : Word) : (s.setTab c a v).pending = s.pending := rfl

/-! ### setTabs -/

@[simp] theorem State.setTabs_aon (s : State) (c a : Nat) (l : List Word) : (s.setTabs c a l).aon = s.aon := rfl
@[simp] theorem State.setTabs_pwr (s : State) (c a : Nat) (l : List Word) : (s.setTabs c a l).pwr = s.pwr := rfl
@[simp] theorem State.setTabs_regs (s : State) (c a : Nat) (l : List Word) : (s.setTabs c a l).regs = s.regs := rfl
@[simp] theorem State.setTabs_flash (s : State) (c a : Nat) (l : List Word) : (s.setTabs c a l).flash = s.flash := rfl
@[simp] theorem State.setTabs_snap (s : State) (c a : Nat) (l : List Word) : (s.setTabs c a l).snap = s.snap := rfl
@[simp] theorem State.setTabs_effGz (s : State) (c a : Nat) (l : List Word) : (s.setTabs c a l).effGz = s.effGz := rfl
@[simp] theorem State.setTabs_seq (s : State) (c a : Nat) (l : List Word) : (s.setTabs c a l).seq = s.seq := rfl
@[simp] theorem State.setTabs_rowDone (s : State) (c a : Nat) (l : List Word) : (s.setTabs c a l).rowDone = s.rowDone := rfl
@[simp] theorem State.setTabs_rowHeld (s : State) (c a : Nat) (l : List Word) : (s.setTabs c a l).rowHeld = s.rowHeld := rfl
@[simp] theorem State.setTabs_sync (s : State) (c a : Nat) (l : List Word) : (s.setTabs c a l).sync = s.sync := rfl
@[simp] theorem State.setTabs_drive (s : State) (c a : Nat) (l : List Word) : (s.setTabs c a l).drive = s.drive := rfl
@[simp] theorem State.setTabs_filt (s : State) (c a : Nat) (l : List Word) : (s.setTabs c a l).filt = s.filt := rfl
@[simp] theorem State.setTabs_lanes (s : State) (c a : Nat) (l : List Word) : (s.setTabs c a l).lanes = s.lanes := rfl
@[simp] theorem State.setTabs_dets (s : State) (c a : Nat) (l : List Word) : (s.setTabs c a l).dets = s.dets := rfl
@[simp] theorem State.setTabs_reserve (s : State) (c a : Nat) (l : List Word) : (s.setTabs c a l).reserve = s.reserve := rfl
@[simp] theorem State.setTabs_cal (s : State) (c a : Nat) (l : List Word) : (s.setTabs c a l).cal = s.cal := rfl
@[simp] theorem State.setTabs_cald (s : State) (c a : Nat) (l : List Word) : (s.setTabs c a l).cald = s.cald := rfl
@[simp] theorem State.setTabs_pace (s : State) (c a : Nat) (l : List Word) : (s.setTabs c a l).pace = s.pace := rfl
@[simp] theorem State.setTabs_sched (s : State) (c a : Nat) (l : List Word) : (s.setTabs c a l).sched = s.sched := rfl
@[simp] theorem State.setTabs_queue (s : State) (c a : Nat) (l : List Word) : (s.setTabs c a l).queue = s.queue := rfl
@[simp] theorem State.setTabs_ring (s : State) (c a : Nat) (l : List Word) : (s.setTabs c a l).ring = s.ring := rfl
@[simp] theorem State.setTabs_port (s : State) (c a : Nat) (l : List Word) : (s.setTabs c a l).port = s.port := rfl
@[simp] theorem State.setTabs_nvm (s : State) (c a : Nat) (l : List Word) : (s.setTabs c a l).nvm = s.nvm := rfl
@[simp] theorem State.setTabs_sec (s : State) (c a : Nat) (l : List Word) : (s.setTabs c a l).sec = s.sec := rfl
@[simp] theorem State.setTabs_geyser (s : State) (c a : Nat) (l : List Word) : (s.setTabs c a l).geyser = s.geyser := rfl
@[simp] theorem State.setTabs_fmon (s : State) (c a : Nat) (l : List Word) : (s.setTabs c a l).fmon = s.fmon := rfl
@[simp] theorem State.setTabs_lib (s : State) (c a : Nat) (l : List Word) : (s.setTabs c a l).lib = s.lib := rfl
@[simp] theorem State.setTabs_freeCtr (s : State) (c a : Nat) (l : List Word) : (s.setTabs c a l).freeCtr = s.freeCtr := rfl
@[simp] theorem State.setTabs_pending (s : State) (c a : Nat) (l : List Word) : (s.setTabs c a l).pending = s.pending := rfl

/-! ### clearTab -/

@[simp] theorem State.clearTab_aon (s : State) (c : Nat) : (s.clearTab c).aon = s.aon := rfl
@[simp] theorem State.clearTab_pwr (s : State) (c : Nat) : (s.clearTab c).pwr = s.pwr := rfl
@[simp] theorem State.clearTab_regs (s : State) (c : Nat) : (s.clearTab c).regs = s.regs := rfl
@[simp] theorem State.clearTab_flash (s : State) (c : Nat) : (s.clearTab c).flash = s.flash := rfl
@[simp] theorem State.clearTab_snap (s : State) (c : Nat) : (s.clearTab c).snap = s.snap := rfl
@[simp] theorem State.clearTab_effGz (s : State) (c : Nat) : (s.clearTab c).effGz = s.effGz := rfl
@[simp] theorem State.clearTab_seq (s : State) (c : Nat) : (s.clearTab c).seq = s.seq := rfl
@[simp] theorem State.clearTab_rowDone (s : State) (c : Nat) : (s.clearTab c).rowDone = s.rowDone := rfl
@[simp] theorem State.clearTab_rowHeld (s : State) (c : Nat) : (s.clearTab c).rowHeld = s.rowHeld := rfl
@[simp] theorem State.clearTab_sync (s : State) (c : Nat) : (s.clearTab c).sync = s.sync := rfl
@[simp] theorem State.clearTab_drive (s : State) (c : Nat) : (s.clearTab c).drive = s.drive := rfl
@[simp] theorem State.clearTab_filt (s : State) (c : Nat) : (s.clearTab c).filt = s.filt := rfl
@[simp] theorem State.clearTab_lanes (s : State) (c : Nat) : (s.clearTab c).lanes = s.lanes := rfl
@[simp] theorem State.clearTab_dets (s : State) (c : Nat) : (s.clearTab c).dets = s.dets := rfl
@[simp] theorem State.clearTab_reserve (s : State) (c : Nat) : (s.clearTab c).reserve = s.reserve := rfl
@[simp] theorem State.clearTab_cal (s : State) (c : Nat) : (s.clearTab c).cal = s.cal := rfl
@[simp] theorem State.clearTab_cald (s : State) (c : Nat) : (s.clearTab c).cald = s.cald := rfl
@[simp] theorem State.clearTab_pace (s : State) (c : Nat) : (s.clearTab c).pace = s.pace := rfl
@[simp] theorem State.clearTab_sched (s : State) (c : Nat) : (s.clearTab c).sched = s.sched := rfl
@[simp] theorem State.clearTab_queue (s : State) (c : Nat) : (s.clearTab c).queue = s.queue := rfl
@[simp] theorem State.clearTab_ring (s : State) (c : Nat) : (s.clearTab c).ring = s.ring := rfl
@[simp] theorem State.clearTab_port (s : State) (c : Nat) : (s.clearTab c).port = s.port := rfl
@[simp] theorem State.clearTab_nvm (s : State) (c : Nat) : (s.clearTab c).nvm = s.nvm := rfl
@[simp] theorem State.clearTab_sec (s : State) (c : Nat) : (s.clearTab c).sec = s.sec := rfl
@[simp] theorem State.clearTab_geyser (s : State) (c : Nat) : (s.clearTab c).geyser = s.geyser := rfl
@[simp] theorem State.clearTab_fmon (s : State) (c : Nat) : (s.clearTab c).fmon = s.fmon := rfl
@[simp] theorem State.clearTab_lib (s : State) (c : Nat) : (s.clearTab c).lib = s.lib := rfl
@[simp] theorem State.clearTab_freeCtr (s : State) (c : Nat) : (s.clearTab c).freeCtr = s.freeCtr := rfl
@[simp] theorem State.clearTab_pending (s : State) (c : Nat) : (s.clearTab c).pending = s.pending := rfl

/-! ### flashErase -/

@[simp] theorem State.flashErase_aon (s : State) (lo hi : Nat) : (s.flashErase lo hi).aon = s.aon := rfl
@[simp] theorem State.flashErase_pwr (s : State) (lo hi : Nat) : (s.flashErase lo hi).pwr = s.pwr := rfl
@[simp] theorem State.flashErase_regs (s : State) (lo hi : Nat) : (s.flashErase lo hi).regs = s.regs := rfl
@[simp] theorem State.flashErase_tables (s : State) (lo hi : Nat) : (s.flashErase lo hi).tables = s.tables := rfl
@[simp] theorem State.flashErase_snap (s : State) (lo hi : Nat) : (s.flashErase lo hi).snap = s.snap := rfl
@[simp] theorem State.flashErase_effGz (s : State) (lo hi : Nat) : (s.flashErase lo hi).effGz = s.effGz := rfl
@[simp] theorem State.flashErase_seq (s : State) (lo hi : Nat) : (s.flashErase lo hi).seq = s.seq := rfl
@[simp] theorem State.flashErase_rowDone (s : State) (lo hi : Nat) : (s.flashErase lo hi).rowDone = s.rowDone := rfl
@[simp] theorem State.flashErase_rowHeld (s : State) (lo hi : Nat) : (s.flashErase lo hi).rowHeld = s.rowHeld := rfl
@[simp] theorem State.flashErase_sync (s : State) (lo hi : Nat) : (s.flashErase lo hi).sync = s.sync := rfl
@[simp] theorem State.flashErase_drive (s : State) (lo hi : Nat) : (s.flashErase lo hi).drive = s.drive := rfl
@[simp] theorem State.flashErase_filt (s : State) (lo hi : Nat) : (s.flashErase lo hi).filt = s.filt := rfl
@[simp] theorem State.flashErase_lanes (s : State) (lo hi : Nat) : (s.flashErase lo hi).lanes = s.lanes := rfl
@[simp] theorem State.flashErase_dets (s : State) (lo hi : Nat) : (s.flashErase lo hi).dets = s.dets := rfl
@[simp] theorem State.flashErase_reserve (s : State) (lo hi : Nat) : (s.flashErase lo hi).reserve = s.reserve := rfl
@[simp] theorem State.flashErase_cal (s : State) (lo hi : Nat) : (s.flashErase lo hi).cal = s.cal := rfl
@[simp] theorem State.flashErase_cald (s : State) (lo hi : Nat) : (s.flashErase lo hi).cald = s.cald := rfl
@[simp] theorem State.flashErase_pace (s : State) (lo hi : Nat) : (s.flashErase lo hi).pace = s.pace := rfl
@[simp] theorem State.flashErase_sched (s : State) (lo hi : Nat) : (s.flashErase lo hi).sched = s.sched := rfl
@[simp] theorem State.flashErase_queue (s : State) (lo hi : Nat) : (s.flashErase lo hi).queue = s.queue := rfl
@[simp] theorem State.flashErase_ring (s : State) (lo hi : Nat) : (s.flashErase lo hi).ring = s.ring := rfl
@[simp] theorem State.flashErase_port (s : State) (lo hi : Nat) : (s.flashErase lo hi).port = s.port := rfl
@[simp] theorem State.flashErase_nvm (s : State) (lo hi : Nat) : (s.flashErase lo hi).nvm = s.nvm := rfl
@[simp] theorem State.flashErase_sec (s : State) (lo hi : Nat) : (s.flashErase lo hi).sec = s.sec := rfl
@[simp] theorem State.flashErase_geyser (s : State) (lo hi : Nat) : (s.flashErase lo hi).geyser = s.geyser := rfl
@[simp] theorem State.flashErase_fmon (s : State) (lo hi : Nat) : (s.flashErase lo hi).fmon = s.fmon := rfl
@[simp] theorem State.flashErase_lib (s : State) (lo hi : Nat) : (s.flashErase lo hi).lib = s.lib := rfl
@[simp] theorem State.flashErase_freeCtr (s : State) (lo hi : Nat) : (s.flashErase lo hi).freeCtr = s.freeCtr := rfl
@[simp] theorem State.flashErase_pending (s : State) (lo hi : Nat) : (s.flashErase lo hi).pending = s.pending := rfl

/-! ### flashProgram -/

@[simp] theorem State.flashProgram_aon (s : State) (a : Nat) (l : List Byte) : (s.flashProgram a l).aon = s.aon := rfl
@[simp] theorem State.flashProgram_pwr (s : State) (a : Nat) (l : List Byte) : (s.flashProgram a l).pwr = s.pwr := rfl
@[simp] theorem State.flashProgram_regs (s : State) (a : Nat) (l : List Byte) : (s.flashProgram a l).regs = s.regs := rfl
@[simp] theorem State.flashProgram_tables (s : State) (a : Nat) (l : List Byte) : (s.flashProgram a l).tables = s.tables := rfl
@[simp] theorem State.flashProgram_snap (s : State) (a : Nat) (l : List Byte) : (s.flashProgram a l).snap = s.snap := rfl
@[simp] theorem State.flashProgram_effGz (s : State) (a : Nat) (l : List Byte) : (s.flashProgram a l).effGz = s.effGz := rfl
@[simp] theorem State.flashProgram_seq (s : State) (a : Nat) (l : List Byte) : (s.flashProgram a l).seq = s.seq := rfl
@[simp] theorem State.flashProgram_rowDone (s : State) (a : Nat) (l : List Byte) : (s.flashProgram a l).rowDone = s.rowDone := rfl
@[simp] theorem State.flashProgram_rowHeld (s : State) (a : Nat) (l : List Byte) : (s.flashProgram a l).rowHeld = s.rowHeld := rfl
@[simp] theorem State.flashProgram_sync (s : State) (a : Nat) (l : List Byte) : (s.flashProgram a l).sync = s.sync := rfl
@[simp] theorem State.flashProgram_drive (s : State) (a : Nat) (l : List Byte) : (s.flashProgram a l).drive = s.drive := rfl
@[simp] theorem State.flashProgram_filt (s : State) (a : Nat) (l : List Byte) : (s.flashProgram a l).filt = s.filt := rfl
@[simp] theorem State.flashProgram_lanes (s : State) (a : Nat) (l : List Byte) : (s.flashProgram a l).lanes = s.lanes := rfl
@[simp] theorem State.flashProgram_dets (s : State) (a : Nat) (l : List Byte) : (s.flashProgram a l).dets = s.dets := rfl
@[simp] theorem State.flashProgram_reserve (s : State) (a : Nat) (l : List Byte) : (s.flashProgram a l).reserve = s.reserve := rfl
@[simp] theorem State.flashProgram_cal (s : State) (a : Nat) (l : List Byte) : (s.flashProgram a l).cal = s.cal := rfl
@[simp] theorem State.flashProgram_cald (s : State) (a : Nat) (l : List Byte) : (s.flashProgram a l).cald = s.cald := rfl
@[simp] theorem State.flashProgram_pace (s : State) (a : Nat) (l : List Byte) : (s.flashProgram a l).pace = s.pace := rfl
@[simp] theorem State.flashProgram_sched (s : State) (a : Nat) (l : List Byte) : (s.flashProgram a l).sched = s.sched := rfl
@[simp] theorem State.flashProgram_queue (s : State) (a : Nat) (l : List Byte) : (s.flashProgram a l).queue = s.queue := rfl
@[simp] theorem State.flashProgram_ring (s : State) (a : Nat) (l : List Byte) : (s.flashProgram a l).ring = s.ring := rfl
@[simp] theorem State.flashProgram_port (s : State) (a : Nat) (l : List Byte) : (s.flashProgram a l).port = s.port := rfl
@[simp] theorem State.flashProgram_nvm (s : State) (a : Nat) (l : List Byte) : (s.flashProgram a l).nvm = s.nvm := rfl
@[simp] theorem State.flashProgram_sec (s : State) (a : Nat) (l : List Byte) : (s.flashProgram a l).sec = s.sec := rfl
@[simp] theorem State.flashProgram_geyser (s : State) (a : Nat) (l : List Byte) : (s.flashProgram a l).geyser = s.geyser := rfl
@[simp] theorem State.flashProgram_fmon (s : State) (a : Nat) (l : List Byte) : (s.flashProgram a l).fmon = s.fmon := rfl
@[simp] theorem State.flashProgram_lib (s : State) (a : Nat) (l : List Byte) : (s.flashProgram a l).lib = s.lib := rfl
@[simp] theorem State.flashProgram_freeCtr (s : State) (a : Nat) (l : List Byte) : (s.flashProgram a l).freeCtr = s.freeCtr := rfl
@[simp] theorem State.flashProgram_pending (s : State) (a : Nat) (l : List Byte) : (s.flashProgram a l).pending = s.pending := rfl

/-! ### dmemWrite -/

@[simp] theorem State.dmemWrite_aon (s : State) (c a : Nat) (v : Data) : (s.dmemWrite c a v).aon = s.aon := rfl
@[simp] theorem State.dmemWrite_pwr (s : State) (c a : Nat) (v : Data) : (s.dmemWrite c a v).pwr = s.pwr := rfl
@[simp] theorem State.dmemWrite_regs (s : State) (c a : Nat) (v : Data) : (s.dmemWrite c a v).regs = s.regs := rfl
@[simp] theorem State.dmemWrite_tables (s : State) (c a : Nat) (v : Data) : (s.dmemWrite c a v).tables = s.tables := rfl
@[simp] theorem State.dmemWrite_flash (s : State) (c a : Nat) (v : Data) : (s.dmemWrite c a v).flash = s.flash := rfl
@[simp] theorem State.dmemWrite_snap (s : State) (c a : Nat) (v : Data) : (s.dmemWrite c a v).snap = s.snap := rfl
@[simp] theorem State.dmemWrite_effGz (s : State) (c a : Nat) (v : Data) : (s.dmemWrite c a v).effGz = s.effGz := rfl
@[simp] theorem State.dmemWrite_seq (s : State) (c a : Nat) (v : Data) : (s.dmemWrite c a v).seq = s.seq := rfl
@[simp] theorem State.dmemWrite_rowDone (s : State) (c a : Nat) (v : Data) : (s.dmemWrite c a v).rowDone = s.rowDone := rfl
@[simp] theorem State.dmemWrite_rowHeld (s : State) (c a : Nat) (v : Data) : (s.dmemWrite c a v).rowHeld = s.rowHeld := rfl
@[simp] theorem State.dmemWrite_sync (s : State) (c a : Nat) (v : Data) : (s.dmemWrite c a v).sync = s.sync := rfl
@[simp] theorem State.dmemWrite_drive (s : State) (c a : Nat) (v : Data) : (s.dmemWrite c a v).drive = s.drive := rfl
@[simp] theorem State.dmemWrite_filt (s : State) (c a : Nat) (v : Data) : (s.dmemWrite c a v).filt = s.filt := rfl
@[simp] theorem State.dmemWrite_lanes (s : State) (c a : Nat) (v : Data) : (s.dmemWrite c a v).lanes = s.lanes := rfl
@[simp] theorem State.dmemWrite_dets (s : State) (c a : Nat) (v : Data) : (s.dmemWrite c a v).dets = s.dets := rfl
@[simp] theorem State.dmemWrite_reserve (s : State) (c a : Nat) (v : Data) : (s.dmemWrite c a v).reserve = s.reserve := rfl
@[simp] theorem State.dmemWrite_cal (s : State) (c a : Nat) (v : Data) : (s.dmemWrite c a v).cal = s.cal := rfl
@[simp] theorem State.dmemWrite_pace (s : State) (c a : Nat) (v : Data) : (s.dmemWrite c a v).pace = s.pace := rfl
@[simp] theorem State.dmemWrite_sched (s : State) (c a : Nat) (v : Data) : (s.dmemWrite c a v).sched = s.sched := rfl
@[simp] theorem State.dmemWrite_queue (s : State) (c a : Nat) (v : Data) : (s.dmemWrite c a v).queue = s.queue := rfl
@[simp] theorem State.dmemWrite_ring (s : State) (c a : Nat) (v : Data) : (s.dmemWrite c a v).ring = s.ring := rfl
@[simp] theorem State.dmemWrite_port (s : State) (c a : Nat) (v : Data) : (s.dmemWrite c a v).port = s.port := rfl
@[simp] theorem State.dmemWrite_nvm (s : State) (c a : Nat) (v : Data) : (s.dmemWrite c a v).nvm = s.nvm := rfl
@[simp] theorem State.dmemWrite_sec (s : State) (c a : Nat) (v : Data) : (s.dmemWrite c a v).sec = s.sec := rfl
@[simp] theorem State.dmemWrite_geyser (s : State) (c a : Nat) (v : Data) : (s.dmemWrite c a v).geyser = s.geyser := rfl
@[simp] theorem State.dmemWrite_fmon (s : State) (c a : Nat) (v : Data) : (s.dmemWrite c a v).fmon = s.fmon := rfl
@[simp] theorem State.dmemWrite_lib (s : State) (c a : Nat) (v : Data) : (s.dmemWrite c a v).lib = s.lib := rfl
@[simp] theorem State.dmemWrite_freeCtr (s : State) (c a : Nat) (v : Data) : (s.dmemWrite c a v).freeCtr = s.freeCtr := rfl
@[simp] theorem State.dmemWrite_pending (s : State) (c a : Nat) (v : Data) : (s.dmemWrite c a v).pending = s.pending := rfl

/-! ### setCell -/

@[simp] theorem State.setCell_aon (s : State) (c : CellId) (v : Cell) : (s.setCell c v).aon = s.aon := rfl
@[simp] theorem State.setCell_pwr (s : State) (c : CellId) (v : Cell) : (s.setCell c v).pwr = s.pwr := rfl
@[simp] theorem State.setCell_regs (s : State) (c : CellId) (v : Cell) : (s.setCell c v).regs = s.regs := rfl
@[simp] theorem State.setCell_tables (s : State) (c : CellId) (v : Cell) : (s.setCell c v).tables = s.tables := rfl
@[simp] theorem State.setCell_flash (s : State) (c : CellId) (v : Cell) : (s.setCell c v).flash = s.flash := rfl
@[simp] theorem State.setCell_snap (s : State) (c : CellId) (v : Cell) : (s.setCell c v).snap = s.snap := rfl
@[simp] theorem State.setCell_effGz (s : State) (c : CellId) (v : Cell) : (s.setCell c v).effGz = s.effGz := rfl
@[simp] theorem State.setCell_seq (s : State) (c : CellId) (v : Cell) : (s.setCell c v).seq = s.seq := rfl
@[simp] theorem State.setCell_rowDone (s : State) (c : CellId) (v : Cell) : (s.setCell c v).rowDone = s.rowDone := rfl
@[simp] theorem State.setCell_rowHeld (s : State) (c : CellId) (v : Cell) : (s.setCell c v).rowHeld = s.rowHeld := rfl
@[simp] theorem State.setCell_sync (s : State) (c : CellId) (v : Cell) : (s.setCell c v).sync = s.sync := rfl
@[simp] theorem State.setCell_drive (s : State) (c : CellId) (v : Cell) : (s.setCell c v).drive = s.drive := rfl
@[simp] theorem State.setCell_filt (s : State) (c : CellId) (v : Cell) : (s.setCell c v).filt = s.filt := rfl
@[simp] theorem State.setCell_lanes (s : State) (c : CellId) (v : Cell) : (s.setCell c v).lanes = s.lanes := rfl
@[simp] theorem State.setCell_dets (s : State) (c : CellId) (v : Cell) : (s.setCell c v).dets = s.dets := rfl
@[simp] theorem State.setCell_reserve (s : State) (c : CellId) (v : Cell) : (s.setCell c v).reserve = s.reserve := rfl
@[simp] theorem State.setCell_cal (s : State) (c : CellId) (v : Cell) : (s.setCell c v).cal = s.cal := rfl
@[simp] theorem State.setCell_pace (s : State) (c : CellId) (v : Cell) : (s.setCell c v).pace = s.pace := rfl
@[simp] theorem State.setCell_sched (s : State) (c : CellId) (v : Cell) : (s.setCell c v).sched = s.sched := rfl
@[simp] theorem State.setCell_queue (s : State) (c : CellId) (v : Cell) : (s.setCell c v).queue = s.queue := rfl
@[simp] theorem State.setCell_ring (s : State) (c : CellId) (v : Cell) : (s.setCell c v).ring = s.ring := rfl
@[simp] theorem State.setCell_port (s : State) (c : CellId) (v : Cell) : (s.setCell c v).port = s.port := rfl
@[simp] theorem State.setCell_nvm (s : State) (c : CellId) (v : Cell) : (s.setCell c v).nvm = s.nvm := rfl
@[simp] theorem State.setCell_sec (s : State) (c : CellId) (v : Cell) : (s.setCell c v).sec = s.sec := rfl
@[simp] theorem State.setCell_geyser (s : State) (c : CellId) (v : Cell) : (s.setCell c v).geyser = s.geyser := rfl
@[simp] theorem State.setCell_fmon (s : State) (c : CellId) (v : Cell) : (s.setCell c v).fmon = s.fmon := rfl
@[simp] theorem State.setCell_lib (s : State) (c : CellId) (v : Cell) : (s.setCell c v).lib = s.lib := rfl
@[simp] theorem State.setCell_freeCtr (s : State) (c : CellId) (v : Cell) : (s.setCell c v).freeCtr = s.freeCtr := rfl
@[simp] theorem State.setCell_pending (s : State) (c : CellId) (v : Cell) : (s.setCell c v).pending = s.pending := rfl

/-! ### setDiscard -/

@[simp] theorem State.setDiscard_aon (s : State) : (s.setDiscard).aon = s.aon := rfl
@[simp] theorem State.setDiscard_pwr (s : State) : (s.setDiscard).pwr = s.pwr := rfl
@[simp] theorem State.setDiscard_regs (s : State) : (s.setDiscard).regs = s.regs := rfl
@[simp] theorem State.setDiscard_tables (s : State) : (s.setDiscard).tables = s.tables := rfl
@[simp] theorem State.setDiscard_flash (s : State) : (s.setDiscard).flash = s.flash := rfl
@[simp] theorem State.setDiscard_snap (s : State) : (s.setDiscard).snap = s.snap := rfl
@[simp] theorem State.setDiscard_effGz (s : State) : (s.setDiscard).effGz = s.effGz := rfl
@[simp] theorem State.setDiscard_seq (s : State) : (s.setDiscard).seq = s.seq := rfl
@[simp] theorem State.setDiscard_rowDone (s : State) : (s.setDiscard).rowDone = s.rowDone := rfl
@[simp] theorem State.setDiscard_rowHeld (s : State) : (s.setDiscard).rowHeld = s.rowHeld := rfl
@[simp] theorem State.setDiscard_sync (s : State) : (s.setDiscard).sync = s.sync := rfl
@[simp] theorem State.setDiscard_drive (s : State) : (s.setDiscard).drive = s.drive := rfl
@[simp] theorem State.setDiscard_filt (s : State) : (s.setDiscard).filt = s.filt := rfl
@[simp] theorem State.setDiscard_lanes (s : State) : (s.setDiscard).lanes = s.lanes := rfl
@[simp] theorem State.setDiscard_dets (s : State) : (s.setDiscard).dets = s.dets := rfl
@[simp] theorem State.setDiscard_reserve (s : State) : (s.setDiscard).reserve = s.reserve := rfl
@[simp] theorem State.setDiscard_cal (s : State) : (s.setDiscard).cal = s.cal := rfl
@[simp] theorem State.setDiscard_pace (s : State) : (s.setDiscard).pace = s.pace := rfl
@[simp] theorem State.setDiscard_sched (s : State) : (s.setDiscard).sched = s.sched := rfl
@[simp] theorem State.setDiscard_queue (s : State) : (s.setDiscard).queue = s.queue := rfl
@[simp] theorem State.setDiscard_ring (s : State) : (s.setDiscard).ring = s.ring := rfl
@[simp] theorem State.setDiscard_port (s : State) : (s.setDiscard).port = s.port := rfl
@[simp] theorem State.setDiscard_nvm (s : State) : (s.setDiscard).nvm = s.nvm := rfl
@[simp] theorem State.setDiscard_sec (s : State) : (s.setDiscard).sec = s.sec := rfl
@[simp] theorem State.setDiscard_geyser (s : State) : (s.setDiscard).geyser = s.geyser := rfl
@[simp] theorem State.setDiscard_fmon (s : State) : (s.setDiscard).fmon = s.fmon := rfl
@[simp] theorem State.setDiscard_lib (s : State) : (s.setDiscard).lib = s.lib := rfl
@[simp] theorem State.setDiscard_freeCtr (s : State) : (s.setDiscard).freeCtr = s.freeCtr := rfl
@[simp] theorem State.setDiscard_pending (s : State) : (s.setDiscard).pending = s.pending := rfl

/-! ### rewriteRange -/

@[simp] theorem State.rewriteRange_aon (s : State) (m : MemId) (lo hi : Nat) : (s.rewriteRange m lo hi).aon = s.aon := rfl
@[simp] theorem State.rewriteRange_pwr (s : State) (m : MemId) (lo hi : Nat) : (s.rewriteRange m lo hi).pwr = s.pwr := rfl
@[simp] theorem State.rewriteRange_regs (s : State) (m : MemId) (lo hi : Nat) : (s.rewriteRange m lo hi).regs = s.regs := rfl
@[simp] theorem State.rewriteRange_tables (s : State) (m : MemId) (lo hi : Nat) : (s.rewriteRange m lo hi).tables = s.tables := rfl
@[simp] theorem State.rewriteRange_flash (s : State) (m : MemId) (lo hi : Nat) : (s.rewriteRange m lo hi).flash = s.flash := rfl
@[simp] theorem State.rewriteRange_snap (s : State) (m : MemId) (lo hi : Nat) : (s.rewriteRange m lo hi).snap = s.snap := rfl
@[simp] theorem State.rewriteRange_effGz (s : State) (m : MemId) (lo hi : Nat) : (s.rewriteRange m lo hi).effGz = s.effGz := rfl
@[simp] theorem State.rewriteRange_seq (s : State) (m : MemId) (lo hi : Nat) : (s.rewriteRange m lo hi).seq = s.seq := rfl
@[simp] theorem State.rewriteRange_rowDone (s : State) (m : MemId) (lo hi : Nat) : (s.rewriteRange m lo hi).rowDone = s.rowDone := rfl
@[simp] theorem State.rewriteRange_rowHeld (s : State) (m : MemId) (lo hi : Nat) : (s.rewriteRange m lo hi).rowHeld = s.rowHeld := rfl
@[simp] theorem State.rewriteRange_sync (s : State) (m : MemId) (lo hi : Nat) : (s.rewriteRange m lo hi).sync = s.sync := rfl
@[simp] theorem State.rewriteRange_drive (s : State) (m : MemId) (lo hi : Nat) : (s.rewriteRange m lo hi).drive = s.drive := rfl
@[simp] theorem State.rewriteRange_filt (s : State) (m : MemId) (lo hi : Nat) : (s.rewriteRange m lo hi).filt = s.filt := rfl
@[simp] theorem State.rewriteRange_lanes (s : State) (m : MemId) (lo hi : Nat) : (s.rewriteRange m lo hi).lanes = s.lanes := rfl
@[simp] theorem State.rewriteRange_dets (s : State) (m : MemId) (lo hi : Nat) : (s.rewriteRange m lo hi).dets = s.dets := rfl
@[simp] theorem State.rewriteRange_reserve (s : State) (m : MemId) (lo hi : Nat) : (s.rewriteRange m lo hi).reserve = s.reserve := rfl
@[simp] theorem State.rewriteRange_cal (s : State) (m : MemId) (lo hi : Nat) : (s.rewriteRange m lo hi).cal = s.cal := rfl
@[simp] theorem State.rewriteRange_cald (s : State) (m : MemId) (lo hi : Nat) : (s.rewriteRange m lo hi).cald = s.cald := rfl
@[simp] theorem State.rewriteRange_pace (s : State) (m : MemId) (lo hi : Nat) : (s.rewriteRange m lo hi).pace = s.pace := rfl
@[simp] theorem State.rewriteRange_sched (s : State) (m : MemId) (lo hi : Nat) : (s.rewriteRange m lo hi).sched = s.sched := rfl
@[simp] theorem State.rewriteRange_queue (s : State) (m : MemId) (lo hi : Nat) : (s.rewriteRange m lo hi).queue = s.queue := rfl
@[simp] theorem State.rewriteRange_ring (s : State) (m : MemId) (lo hi : Nat) : (s.rewriteRange m lo hi).ring = s.ring := rfl
@[simp] theorem State.rewriteRange_port (s : State) (m : MemId) (lo hi : Nat) : (s.rewriteRange m lo hi).port = s.port := rfl
@[simp] theorem State.rewriteRange_nvm (s : State) (m : MemId) (lo hi : Nat) : (s.rewriteRange m lo hi).nvm = s.nvm := rfl
@[simp] theorem State.rewriteRange_sec (s : State) (m : MemId) (lo hi : Nat) : (s.rewriteRange m lo hi).sec = s.sec := rfl
@[simp] theorem State.rewriteRange_geyser (s : State) (m : MemId) (lo hi : Nat) : (s.rewriteRange m lo hi).geyser = s.geyser := rfl
@[simp] theorem State.rewriteRange_lib (s : State) (m : MemId) (lo hi : Nat) : (s.rewriteRange m lo hi).lib = s.lib := rfl
@[simp] theorem State.rewriteRange_freeCtr (s : State) (m : MemId) (lo hi : Nat) : (s.rewriteRange m lo hi).freeCtr = s.freeCtr := rfl
@[simp] theorem State.rewriteRange_pending (s : State) (m : MemId) (lo hi : Nat) : (s.rewriteRange m lo hi).pending = s.pending := rfl

/-! ### rewrite -/

@[simp] theorem State.rewrite_aon (s : State) (m : MemId) (a : Nat) : (s.rewrite m a).aon = s.aon := rfl
@[simp] theorem State.rewrite_pwr (s : State) (m : MemId) (a : Nat) : (s.rewrite m a).pwr = s.pwr := rfl
@[simp] theorem State.rewrite_regs (s : State) (m : MemId) (a : Nat) : (s.rewrite m a).regs = s.regs := rfl
@[simp] theorem State.rewrite_tables (s : State) (m : MemId) (a : Nat) : (s.rewrite m a).tables = s.tables := rfl
@[simp] theorem State.rewrite_flash (s : State) (m : MemId) (a : Nat) : (s.rewrite m a).flash = s.flash := rfl
@[simp] theorem State.rewrite_snap (s : State) (m : MemId) (a : Nat) : (s.rewrite m a).snap = s.snap := rfl
@[simp] theorem State.rewrite_effGz (s : State) (m : MemId) (a : Nat) : (s.rewrite m a).effGz = s.effGz := rfl
@[simp] theorem State.rewrite_seq (s : State) (m : MemId) (a : Nat) : (s.rewrite m a).seq = s.seq := rfl
@[simp] theorem State.rewrite_rowDone (s : State) (m : MemId) (a : Nat) : (s.rewrite m a).rowDone = s.rowDone := rfl
@[simp] theorem State.rewrite_rowHeld (s : State) (m : MemId) (a : Nat) : (s.rewrite m a).rowHeld = s.rowHeld := rfl
@[simp] theorem State.rewrite_sync (s : State) (m : MemId) (a : Nat) : (s.rewrite m a).sync = s.sync := rfl
@[simp] theorem State.rewrite_drive (s : State) (m : MemId) (a : Nat) : (s.rewrite m a).drive = s.drive := rfl
@[simp] theorem State.rewrite_filt (s : State) (m : MemId) (a : Nat) : (s.rewrite m a).filt = s.filt := rfl
@[simp] theorem State.rewrite_lanes (s : State) (m : MemId) (a : Nat) : (s.rewrite m a).lanes = s.lanes := rfl
@[simp] theorem State.rewrite_dets (s : State) (m : MemId) (a : Nat) : (s.rewrite m a).dets = s.dets := rfl
@[simp] theorem State.rewrite_reserve (s : State) (m : MemId) (a : Nat) : (s.rewrite m a).reserve = s.reserve := rfl
@[simp] theorem State.rewrite_cal (s : State) (m : MemId) (a : Nat) : (s.rewrite m a).cal = s.cal := rfl
@[simp] theorem State.rewrite_cald (s : State) (m : MemId) (a : Nat) : (s.rewrite m a).cald = s.cald := rfl
@[simp] theorem State.rewrite_pace (s : State) (m : MemId) (a : Nat) : (s.rewrite m a).pace = s.pace := rfl
@[simp] theorem State.rewrite_sched (s : State) (m : MemId) (a : Nat) : (s.rewrite m a).sched = s.sched := rfl
@[simp] theorem State.rewrite_queue (s : State) (m : MemId) (a : Nat) : (s.rewrite m a).queue = s.queue := rfl
@[simp] theorem State.rewrite_ring (s : State) (m : MemId) (a : Nat) : (s.rewrite m a).ring = s.ring := rfl
@[simp] theorem State.rewrite_port (s : State) (m : MemId) (a : Nat) : (s.rewrite m a).port = s.port := rfl
@[simp] theorem State.rewrite_nvm (s : State) (m : MemId) (a : Nat) : (s.rewrite m a).nvm = s.nvm := rfl
@[simp] theorem State.rewrite_sec (s : State) (m : MemId) (a : Nat) : (s.rewrite m a).sec = s.sec := rfl
@[simp] theorem State.rewrite_geyser (s : State) (m : MemId) (a : Nat) : (s.rewrite m a).geyser = s.geyser := rfl
@[simp] theorem State.rewrite_lib (s : State) (m : MemId) (a : Nat) : (s.rewrite m a).lib = s.lib := rfl
@[simp] theorem State.rewrite_freeCtr (s : State) (m : MemId) (a : Nat) : (s.rewrite m a).freeCtr = s.freeCtr := rfl
@[simp] theorem State.rewrite_pending (s : State) (m : MemId) (a : Nat) : (s.rewrite m a).pending = s.pending := rfl

/-! ### markFound -/

@[simp] theorem State.markFound_aon (s : State) (m : MemId) (a : Nat) : (s.markFound m a).aon = s.aon := rfl
@[simp] theorem State.markFound_pwr (s : State) (m : MemId) (a : Nat) : (s.markFound m a).pwr = s.pwr := rfl
@[simp] theorem State.markFound_regs (s : State) (m : MemId) (a : Nat) : (s.markFound m a).regs = s.regs := rfl
@[simp] theorem State.markFound_tables (s : State) (m : MemId) (a : Nat) : (s.markFound m a).tables = s.tables := rfl
@[simp] theorem State.markFound_flash (s : State) (m : MemId) (a : Nat) : (s.markFound m a).flash = s.flash := rfl
@[simp] theorem State.markFound_snap (s : State) (m : MemId) (a : Nat) : (s.markFound m a).snap = s.snap := rfl
@[simp] theorem State.markFound_effGz (s : State) (m : MemId) (a : Nat) : (s.markFound m a).effGz = s.effGz := rfl
@[simp] theorem State.markFound_seq (s : State) (m : MemId) (a : Nat) : (s.markFound m a).seq = s.seq := rfl
@[simp] theorem State.markFound_rowDone (s : State) (m : MemId) (a : Nat) : (s.markFound m a).rowDone = s.rowDone := rfl
@[simp] theorem State.markFound_rowHeld (s : State) (m : MemId) (a : Nat) : (s.markFound m a).rowHeld = s.rowHeld := rfl
@[simp] theorem State.markFound_sync (s : State) (m : MemId) (a : Nat) : (s.markFound m a).sync = s.sync := rfl
@[simp] theorem State.markFound_drive (s : State) (m : MemId) (a : Nat) : (s.markFound m a).drive = s.drive := rfl
@[simp] theorem State.markFound_filt (s : State) (m : MemId) (a : Nat) : (s.markFound m a).filt = s.filt := rfl
@[simp] theorem State.markFound_lanes (s : State) (m : MemId) (a : Nat) : (s.markFound m a).lanes = s.lanes := rfl
@[simp] theorem State.markFound_dets (s : State) (m : MemId) (a : Nat) : (s.markFound m a).dets = s.dets := rfl
@[simp] theorem State.markFound_reserve (s : State) (m : MemId) (a : Nat) : (s.markFound m a).reserve = s.reserve := rfl
@[simp] theorem State.markFound_cal (s : State) (m : MemId) (a : Nat) : (s.markFound m a).cal = s.cal := rfl
@[simp] theorem State.markFound_cald (s : State) (m : MemId) (a : Nat) : (s.markFound m a).cald = s.cald := rfl
@[simp] theorem State.markFound_pace (s : State) (m : MemId) (a : Nat) : (s.markFound m a).pace = s.pace := rfl
@[simp] theorem State.markFound_sched (s : State) (m : MemId) (a : Nat) : (s.markFound m a).sched = s.sched := rfl
@[simp] theorem State.markFound_queue (s : State) (m : MemId) (a : Nat) : (s.markFound m a).queue = s.queue := rfl
@[simp] theorem State.markFound_ring (s : State) (m : MemId) (a : Nat) : (s.markFound m a).ring = s.ring := rfl
@[simp] theorem State.markFound_port (s : State) (m : MemId) (a : Nat) : (s.markFound m a).port = s.port := rfl
@[simp] theorem State.markFound_nvm (s : State) (m : MemId) (a : Nat) : (s.markFound m a).nvm = s.nvm := rfl
@[simp] theorem State.markFound_sec (s : State) (m : MemId) (a : Nat) : (s.markFound m a).sec = s.sec := rfl
@[simp] theorem State.markFound_geyser (s : State) (m : MemId) (a : Nat) : (s.markFound m a).geyser = s.geyser := rfl
@[simp] theorem State.markFound_lib (s : State) (m : MemId) (a : Nat) : (s.markFound m a).lib = s.lib := rfl
@[simp] theorem State.markFound_freeCtr (s : State) (m : MemId) (a : Nat) : (s.markFound m a).freeCtr = s.freeCtr := rfl
@[simp] theorem State.markFound_pending (s : State) (m : MemId) (a : Nat) : (s.markFound m a).pending = s.pending := rfl

/-! ### Registers after an update -/

theorem State.reg_setReg (s : State) (r q : RegId) (v : Word) :
    (s.setReg r v).reg q = if q = r then v else s.reg q := by
  simp only [State.reg, State.setReg, Vector.get_eq_getElem, Vector.getElem_set, Fin.ext_iff, eq_comm (a := r.val)]

@[simp] theorem State.reg_setReg_same (s : State) (r : RegId) (v : Word) : (s.setReg r v).reg r = v := by
  simp [State.reg_setReg]

theorem State.reg_setReg_ne (s : State) {r q : RegId} (v : Word) (h : q ≠ r) : (s.setReg r v).reg q = s.reg q := by
  simp [State.reg_setReg, h]

theorem State.reg_setFld_ne (s : State) {r q : RegId} (lo w x : Nat) (h : q ≠ r) :
    (s.setFld r lo w x).reg q = s.reg q := s.reg_setReg_ne _ h

theorem State.reg_setFlag_ne (s : State) {r q : RegId} (b : Nat) (v : Bool) (h : q ≠ r) :
    (s.setFlag r b v).reg q = s.reg q := s.reg_setReg_ne _ h

theorem State.reg_raise_ne (s : State) {q : RegId} (b : Nat) (h : q ≠ Reg.INT_STAT) : (s.raise b).reg q = s.reg q :=
  s.reg_setReg_ne _ h

/-- A field replaced: the bits of the field, and every other bit as before. -/
theorem getLsbD_putBits (v : Word) (lo w x i : Nat) (hi : i < 16) :
    (putBits v lo w x).getLsbD i =
      if lo ≤ i ∧ i < lo + w then x.testBit (i - lo) else v.getLsbD i := by
  simp only [putBits, BitVec.getLsbD_or, BitVec.getLsbD_and, BitVec.getLsbD_not, BitVec.getLsbD_ofNat, hi,
    decide_true, Bool.true_and, Nat.testBit_shiftLeft, Nat.testBit_two_pow_sub_one, Nat.testBit_mod_two_pow]
  by_cases h1 : lo ≤ i
  · by_cases h2 : i < lo + w
    · have : i - lo < w := by omega
      simp [h1, h2, this]
    · have : ¬ i - lo < w := by omega
      simp [h1, h2, this]
  · simp [h1]

theorem State.flag_setFlag_same (s : State) (r : RegId) (b : Nat) (v : Bool) (hb : b < 16) :
    (s.setFlag r b v).flag r b = v := by
  simp only [State.setFlag, State.setFld, State.flag, State.reg_setReg_same, getLsbD_putBits _ _ _ _ _ hb]
  cases v <;> simp

theorem State.flag_setFlag (s : State) (r q : RegId) (b i : Nat) (v : Bool) (hi : i < 16) :
    (s.setFlag r b v).flag q i = if q = r ∧ i = b then v else s.flag q i := by
  by_cases hq : q = r
  · subst hq
    by_cases hb : i = b
    · subst hb; simp [s.flag_setFlag_same q i v hi]
    · have hn : ¬ (b ≤ i ∧ i < b + 1) := by omega
      simp only [State.setFlag, State.setFld, State.flag, State.reg_setReg_same, getLsbD_putBits _ _ _ _ _ hi,
        if_neg hn, hb, and_false, if_false]
  · simp [State.flag, s.reg_setFlag_ne b v hq, hq]

/-! ### Memories after an update -/

/-- A window word after a write of a window word, in a canonical table. -/
theorem State.tab_setTab (s : State) (c a c' a' : Nat) (v : Word) (h : Memory.wf tabDefault s.tables = true) :
    (s.setTab c a v).tab c' a' = if winKey c' a' = winKey c a then v else s.tab c' a' :=
  memRead_memWrite h

/-- A data word after a write of a data word, in a canonical memory. -/
theorem State.dmemRead_dmemWrite (s : State) (c a c' a' : Nat) (v : Data)
    (h : Memory.wf dmemDefault s.cald.dmem = true) :
    (s.dmemWrite c a v).dmemRead c' a' =
      if c' * 4096 + a' % 4096 = c * 4096 + a % 4096 then v else s.dmemRead c' a' := memRead_memWrite h

theorem State.setTab_wf (s : State) (c a : Nat) (v : Word) (h : Memory.wf tabDefault s.tables = true) :
    Memory.wf tabDefault (s.setTab c a v).tables = true := memWrite_wf h

theorem State.setTabs_wf (s : State) (c a : Nat) (l : List Word) (h : Memory.wf tabDefault s.tables = true) :
    Memory.wf tabDefault (s.setTabs c a l).tables = true := memWriteAll_wf h

theorem State.clearTab_wf (s : State) (c : Nat) (h : Memory.wf tabDefault s.tables = true) :
    Memory.wf tabDefault (s.clearTab c).tables = true := memClear_wf h

theorem State.flashErase_wf (s : State) (lo hi : Nat) (h : Memory.wf flashDefault s.flash = true) :
    Memory.wf flashDefault (s.flashErase lo hi).flash = true := memClear_wf h

theorem State.flashProgram_wf (s : State) (a : Nat) (l : List Byte) (h : Memory.wf flashDefault s.flash = true) :
    Memory.wf flashDefault (s.flashProgram a l).flash = true := memWriteAll_wf h

theorem State.dmemWrite_wf (s : State) (c a : Nat) (v : Data) (h : Memory.wf dmemDefault s.cald.dmem = true) :
    Memory.wf dmemDefault (s.dmemWrite c a v).cald.dmem = true := memWrite_wf h

/-! ### Cells -/

theorem State.cell_setCell (s : State) (c k : CellId) (v : Cell) :
    (s.setCell c v).cell k = if k = c then v else s.cell k := by
  simp only [State.cell, State.setCell, Vector.get_eq_getElem, Vector.getElem_set, Fin.ext_iff, eq_comm (a := c.val)]

@[simp] theorem State.cell_setCell_same (s : State) (c : CellId) (v : Cell) : (s.setCell c v).cell c = v := by
  simp [State.cell_setCell]

theorem State.cell_setCell_ne (s : State) {c k : CellId} (v : Cell) (h : k ≠ c) : (s.setCell c v).cell k = s.cell k := by
  simp [State.cell_setCell, h]

end Sys2Proof.Machine
end

