-- ==== Sys2Proof/Laws/Ops.lean ====
section
/-! SUPPORT. The small lemmas of the shared operations: the fields that the error flags, the queue's write side, fault
events, protected reads and a cell's values leave alone; what a cut short flash step leaves. -/

namespace Sys2Proof.Machine

/-! ### hostErr -/

@[simp] theorem State.hostErr_aon (s : State) (b : Nat) : (s.hostErr b).aon = s.aon := by unfold State.hostErr; dsimp only; split <;> rfl
@[simp] theorem State.hostErr_pwr (s : State) (b : Nat) : (s.hostErr b).pwr = s.pwr := by unfold State.hostErr; dsimp only; split <;> rfl
@[simp] theorem State.hostErr_tables (s : State) (b : Nat) : (s.hostErr b).tables = s.tables := by unfold State.hostErr; dsimp only; split <;> rfl
@[simp] theorem State.hostErr_flash (s : State) (b : Nat) : (s.hostErr b).flash = s.flash := by unfold State.hostErr; dsimp only; split <;> rfl
@[simp] theorem State.hostErr_snap (s : State) (b : Nat) : (s.hostErr b).snap = s.snap := by unfold State.hostErr; dsimp only; split <;> rfl
@[simp] theorem State.hostErr_effGz (s : State) (b : Nat) : (s.hostErr b).effGz = s.effGz := by unfold State.hostErr; dsimp only; split <;> rfl
@[simp] theorem State.hostErr_seq (s : State) (b : Nat) : (s.hostErr b).seq = s.seq := by unfold State.hostErr; dsimp only; split <;> rfl
@[simp] theorem State.hostErr_rowDone (s : State) (b : Nat) : (s.hostErr b).rowDone = s.rowDone := by unfold State.hostErr; dsimp only; split <;> rfl
@[simp] theorem State.hostErr_rowHeld (s : State) (b : Nat) : (s.hostErr b).rowHeld = s.rowHeld := by unfold State.hostErr; dsimp only; split <;> rfl
@[simp] theorem State.hostErr_sync (s : State) (b : Nat) : (s.hostErr b).sync = s.sync := by unfold State.hostErr; dsimp only; split <;> rfl
@[simp] theorem State.hostErr_drive (s : State) (b : Nat) : (s.hostErr b).drive = s.drive := by unfold State.hostErr; dsimp only; split <;> rfl
@[simp] theorem State.hostErr_filt (s : State) (b : Nat) : (s.hostErr b).filt = s.filt := by unfold State.hostErr; dsimp only; split <;> rfl
@[simp] theorem State.hostErr_lanes (s : State) (b : Nat) : (s.hostErr b).lanes = s.lanes := by unfold State.hostErr; dsimp only; split <;> rfl
@[simp] theorem State.hostErr_dets (s : State) (b : Nat) : (s.hostErr b).dets = s.dets := by unfold State.hostErr; dsimp only; split <;> rfl
@[simp] theorem State.hostErr_reserve (s : State) (b : Nat) : (s.hostErr b).reserve = s.reserve := by unfold State.hostErr; dsimp only; split <;> rfl
@[simp] theorem State.hostErr_cal (s : State) (b : Nat) : (s.hostErr b).cal = s.cal := by unfold State.hostErr; dsimp only; split <;> rfl
@[simp] theorem State.hostErr_cald (s : State) (b : Nat) : (s.hostErr b).cald = s.cald := by unfold State.hostErr; dsimp only; split <;> rfl
@[simp] theorem State.hostErr_pace (s : State) (b : Nat) : (s.hostErr b).pace = s.pace := by unfold State.hostErr; dsimp only; split <;> rfl
@[simp] theorem State.hostErr_sched (s : State) (b : Nat) : (s.hostErr b).sched = s.sched := by unfold State.hostErr; dsimp only; split <;> rfl
@[simp] theorem State.hostErr_queue (s : State) (b : Nat) : (s.hostErr b).queue = s.queue := by unfold State.hostErr; dsimp only; split <;> rfl
@[simp] theorem State.hostErr_ring (s : State) (b : Nat) : (s.hostErr b).ring = s.ring := by unfold State.hostErr; dsimp only; split <;> rfl
@[simp] theorem State.hostErr_port (s : State) (b : Nat) : (s.hostErr b).port = s.port := by unfold State.hostErr; dsimp only; split <;> rfl
@[simp] theorem State.hostErr_nvm (s : State) (b : Nat) : (s.hostErr b).nvm = s.nvm := by unfold State.hostErr; dsimp only; split <;> rfl
@[simp] theorem State.hostErr_sec (s : State) (b : Nat) : (s.hostErr b).sec = s.sec := by unfold State.hostErr; dsimp only; split <;> rfl
@[simp] theorem State.hostErr_geyser (s : State) (b : Nat) : (s.hostErr b).geyser = s.geyser := by unfold State.hostErr; dsimp only; split <;> rfl
@[simp] theorem State.hostErr_fmon (s : State) (b : Nat) : (s.hostErr b).fmon = s.fmon := by unfold State.hostErr; dsimp only; split <;> rfl
@[simp] theorem State.hostErr_lib (s : State) (b : Nat) : (s.hostErr b).lib = s.lib := by unfold State.hostErr; dsimp only; split <;> rfl
@[simp] theorem State.hostErr_freeCtr (s : State) (b : Nat) : (s.hostErr b).freeCtr = s.freeCtr := by unfold State.hostErr; dsimp only; split <;> rfl
@[simp] theorem State.hostErr_pending (s : State) (b : Nat) : (s.hostErr b).pending = s.pending := by unfold State.hostErr; dsimp only; split <;> rfl

/-! ### crcErr -/

@[simp] theorem State.crcErr_aon (s : State) : (s.crcErr).aon = s.aon := by simp [State.crcErr]
@[simp] theorem State.crcErr_pwr (s : State) : (s.crcErr).pwr = s.pwr := by simp [State.crcErr]
@[simp] theorem State.crcErr_tables (s : State) : (s.crcErr).tables = s.tables := by simp [State.crcErr]
@[simp] theorem State.crcErr_flash (s : State) : (s.crcErr).flash = s.flash := by simp [State.crcErr]
@[simp] theorem State.crcErr_snap (s : State) : (s.crcErr).snap = s.snap := by simp [State.crcErr]
@[simp] theorem State.crcErr_effGz (s : State) : (s.crcErr).effGz = s.effGz := by simp [State.crcErr]
@[simp] theorem State.crcErr_seq (s : State) : (s.crcErr).seq = s.seq := by simp [State.crcErr]
@[simp] theorem State.crcErr_rowDone (s : State) : (s.crcErr).rowDone = s.rowDone := by simp [State.crcErr]
@[simp] theorem State.crcErr_rowHeld (s : State) : (s.crcErr).rowHeld = s.rowHeld := by simp [State.crcErr]
@[simp] theorem State.crcErr_sync (s : State) : (s.crcErr).sync = s.sync := by simp [State.crcErr]
@[simp] theorem State.crcErr_drive (s : State) : (s.crcErr).drive = s.drive := by simp [State.crcErr]
@[simp] theorem State.crcErr_filt (s : State) : (s.crcErr).filt = s.filt := by simp [State.crcErr]
@[simp] theorem State.crcErr_lanes (s : State) : (s.crcErr).lanes = s.lanes := by simp [State.crcErr]
@[simp] theorem State.crcErr_dets (s : State) : (s.crcErr).dets = s.dets := by simp [State.crcErr]
@[simp] theorem State.crcErr_reserve (s : State) : (s.crcErr).reserve = s.reserve := by simp [State.crcErr]
@[simp] theorem State.crcErr_cal (s : State) : (s.crcErr).cal = s.cal := by simp [State.crcErr]
@[simp] theorem State.crcErr_cald (s : State) : (s.crcErr).cald = s.cald := by simp [State.crcErr]
@[simp] theorem State.crcErr_pace (s : State) : (s.crcErr).pace = s.pace := by simp [State.crcErr]
@[simp] theorem State.crcErr_sched (s : State) : (s.crcErr).sched = s.sched := by simp [State.crcErr]
@[simp] theorem State.crcErr_queue (s : State) : (s.crcErr).queue = s.queue := by simp [State.crcErr]
@[simp] theorem State.crcErr_ring (s : State) : (s.crcErr).ring = s.ring := by simp [State.crcErr]
@[simp] theorem State.crcErr_port (s : State) : (s.crcErr).port = s.port := by simp [State.crcErr]
@[simp] theorem State.crcErr_nvm (s : State) : (s.crcErr).nvm = s.nvm := by simp [State.crcErr]
@[simp] theorem State.crcErr_sec (s : State) : (s.crcErr).sec = s.sec := by simp [State.crcErr]
@[simp] theorem State.crcErr_geyser (s : State) : (s.crcErr).geyser = s.geyser := by simp [State.crcErr]
@[simp] theorem State.crcErr_fmon (s : State) : (s.crcErr).fmon = s.fmon := by simp [State.crcErr]
@[simp] theorem State.crcErr_lib (s : State) : (s.crcErr).lib = s.lib := by simp [State.crcErr]
@[simp] theorem State.crcErr_freeCtr (s : State) : (s.crcErr).freeCtr = s.freeCtr := by simp [State.crcErr]
@[simp] theorem State.crcErr_pending (s : State) : (s.crcErr).pending = s.pending := by simp [State.crcErr]

/-! ### winErr -/

@[simp] theorem State.winErr_aon (s : State) (b : Nat) : (s.winErr b).aon = s.aon := by unfold State.winErr; dsimp only; split <;> rfl
@[simp] theorem State.winErr_pwr (s : State) (b : Nat) : (s.winErr b).pwr = s.pwr := by unfold State.winErr; dsimp only; split <;> rfl
@[simp] theorem State.winErr_tables (s : State) (b : Nat) : (s.winErr b).tables = s.tables := by unfold State.winErr; dsimp only; split <;> rfl
@[simp] theorem State.winErr_flash (s : State) (b : Nat) : (s.winErr b).flash = s.flash := by unfold State.winErr; dsimp only; split <;> rfl
@[simp] theorem State.winErr_snap (s : State) (b : Nat) : (s.winErr b).snap = s.snap := by unfold State.winErr; dsimp only; split <;> rfl
@[simp] theorem State.winErr_effGz (s : State) (b : Nat) : (s.winErr b).effGz = s.effGz := by unfold State.winErr; dsimp only; split <;> rfl
@[simp] theorem State.winErr_seq (s : State) (b : Nat) : (s.winErr b).seq = s.seq := by unfold State.winErr; dsimp only; split <;> rfl
@[simp] theorem State.winErr_rowDone (s : State) (b : Nat) : (s.winErr b).rowDone = s.rowDone := by unfold State.winErr; dsimp only; split <;> rfl
@[simp] theorem State.winErr_rowHeld (s : State) (b : Nat) : (s.winErr b).rowHeld = s.rowHeld := by unfold State.winErr; dsimp only; split <;> rfl
@[simp] theorem State.winErr_sync (s : State) (b : Nat) : (s.winErr b).sync = s.sync := by unfold State.winErr; dsimp only; split <;> rfl
@[simp] theorem State.winErr_drive (s : State) (b : Nat) : (s.winErr b).drive = s.drive := by unfold State.winErr; dsimp only; split <;> rfl
@[simp] theorem State.winErr_filt (s : State) (b : Nat) : (s.winErr b).filt = s.filt := by unfold State.winErr; dsimp only; split <;> rfl
@[simp] theorem State.winErr_lanes (s : State) (b : Nat) : (s.winErr b).lanes = s.lanes := by unfold State.winErr; dsimp only; split <;> rfl
@[simp] theorem State.winErr_dets (s : State) (b : Nat) : (s.winErr b).dets = s.dets := by unfold State.winErr; dsimp only; split <;> rfl
@[simp] theorem State.winErr_reserve (s : State) (b : Nat) : (s.winErr b).reserve = s.reserve := by unfold State.winErr; dsimp only; split <;> rfl
@[simp] theorem State.winErr_cal (s : State) (b : Nat) : (s.winErr b).cal = s.cal := by unfold State.winErr; dsimp only; split <;> rfl
@[simp] theorem State.winErr_cald (s : State) (b : Nat) : (s.winErr b).cald = s.cald := by unfold State.winErr; dsimp only; split <;> rfl
@[simp] theorem State.winErr_pace (s : State) (b : Nat) : (s.winErr b).pace = s.pace := by unfold State.winErr; dsimp only; split <;> rfl
@[simp] theorem State.winErr_sched (s : State) (b : Nat) : (s.winErr b).sched = s.sched := by unfold State.winErr; dsimp only; split <;> rfl
@[simp] theorem State.winErr_queue (s : State) (b : Nat) : (s.winErr b).queue = s.queue := by unfold State.winErr; dsimp only; split <;> rfl
@[simp] theorem State.winErr_ring (s : State) (b : Nat) : (s.winErr b).ring = s.ring := by unfold State.winErr; dsimp only; split <;> rfl
@[simp] theorem State.winErr_port (s : State) (b : Nat) : (s.winErr b).port = s.port := by unfold State.winErr; dsimp only; split <;> rfl
@[simp] theorem State.winErr_nvm (s : State) (b : Nat) : (s.winErr b).nvm = s.nvm := by unfold State.winErr; dsimp only; split <;> rfl
@[simp] theorem State.winErr_sec (s : State) (b : Nat) : (s.winErr b).sec = s.sec := by unfold State.winErr; dsimp only; split <;> rfl
@[simp] theorem State.winErr_geyser (s : State) (b : Nat) : (s.winErr b).geyser = s.geyser := by unfold State.winErr; dsimp only; split <;> rfl
@[simp] theorem State.winErr_fmon (s : State) (b : Nat) : (s.winErr b).fmon = s.fmon := by unfold State.winErr; dsimp only; split <;> rfl
@[simp] theorem State.winErr_lib (s : State) (b : Nat) : (s.winErr b).lib = s.lib := by unfold State.winErr; dsimp only; split <;> rfl
@[simp] theorem State.winErr_freeCtr (s : State) (b : Nat) : (s.winErr b).freeCtr = s.freeCtr := by unfold State.winErr; dsimp only; split <;> rfl
@[simp] theorem State.winErr_pending (s : State) (b : Nat) : (s.winErr b).pending = s.pending := by unfold State.winErr; dsimp only; split <;> rfl

/-! ### countDrops -/

@[simp] theorem State.countDrops_aon (s : State) (n : Nat) : (s.countDrops n).aon = s.aon := rfl
@[simp] theorem State.countDrops_pwr (s : State) (n : Nat) : (s.countDrops n).pwr = s.pwr := rfl
@[simp] theorem State.countDrops_tables (s : State) (n : Nat) : (s.countDrops n).tables = s.tables := rfl
@[simp] theorem State.countDrops_flash (s : State) (n : Nat) : (s.countDrops n).flash = s.flash := rfl
@[simp] theorem State.countDrops_snap (s : State) (n : Nat) : (s.countDrops n).snap = s.snap := rfl
@[simp] theorem State.countDrops_effGz (s : State) (n : Nat) : (s.countDrops n).effGz = s.effGz := rfl
@[simp] theorem State.countDrops_seq (s : State) (n : Nat) : (s.countDrops n).seq = s.seq := rfl
@[simp] theorem State.countDrops_rowDone (s : State) (n : Nat) : (s.countDrops n).rowDone = s.rowDone := rfl
@[simp] theorem State.countDrops_rowHeld (s : State) (n : Nat) : (s.countDrops n).rowHeld = s.rowHeld := rfl
@[simp] theorem State.countDrops_sync (s : State) (n : Nat) : (s.countDrops n).sync = s.sync := rfl
@[simp] theorem State.countDrops_drive (s : State) (n : Nat) : (s.countDrops n).drive = s.drive := rfl
@[simp] theorem State.countDrops_filt (s : State) (n : Nat) : (s.countDrops n).filt = s.filt := rfl
@[simp] theorem State.countDrops_lanes (s : State) (n : Nat) : (s.countDrops n).lanes = s.lanes := rfl
@[simp] theorem State.countDrops_dets (s : State) (n : Nat) : (s.countDrops n).dets = s.dets := rfl
@[simp] theorem State.countDrops_reserve (s : State) (n : Nat) : (s.countDrops n).reserve = s.reserve := rfl
@[simp] theorem State.countDrops_cal (s : State) (n : Nat) : (s.countDrops n).cal = s.cal := rfl
@[simp] theorem State.countDrops_cald (s : State) (n : Nat) : (s.countDrops n).cald = s.cald := rfl
@[simp] theorem State.countDrops_pace (s : State) (n : Nat) : (s.countDrops n).pace = s.pace := rfl
@[simp] theorem State.countDrops_sched (s : State) (n : Nat) : (s.countDrops n).sched = s.sched := rfl
@[simp] theorem State.countDrops_queue (s : State) (n : Nat) : (s.countDrops n).queue = s.queue := rfl
@[simp] theorem State.countDrops_ring (s : State) (n : Nat) : (s.countDrops n).ring = s.ring := rfl
@[simp] theorem State.countDrops_port (s : State) (n : Nat) : (s.countDrops n).port = s.port := rfl
@[simp] theorem State.countDrops_nvm (s : State) (n : Nat) : (s.countDrops n).nvm = s.nvm := rfl
@[simp] theorem State.countDrops_sec (s : State) (n : Nat) : (s.countDrops n).sec = s.sec := rfl
@[simp] theorem State.countDrops_geyser (s : State) (n : Nat) : (s.countDrops n).geyser = s.geyser := rfl
@[simp] theorem State.countDrops_fmon (s : State) (n : Nat) : (s.countDrops n).fmon = s.fmon := rfl
@[simp] theorem State.countDrops_lib (s : State) (n : Nat) : (s.countDrops n).lib = s.lib := rfl
@[simp] theorem State.countDrops_freeCtr (s : State) (n : Nat) : (s.countDrops n).freeCtr = s.freeCtr := rfl
@[simp] theorem State.countDrops_pending (s : State) (n : Nat) : (s.countDrops n).pending = s.pending := rfl

/-! ### queueVote -/

@[simp] theorem State.queueVote_aon (s : State) : (s.queueVote).aon = s.aon := by unfold State.queueVote; split <;> rfl
@[simp] theorem State.queueVote_pwr (s : State) : (s.queueVote).pwr = s.pwr := by unfold State.queueVote; split <;> rfl
@[simp] theorem State.queueVote_regs (s : State) : (s.queueVote).regs = s.regs := by unfold State.queueVote; split <;> rfl
@[simp] theorem State.queueVote_tables (s : State) : (s.queueVote).tables = s.tables := by unfold State.queueVote; split <;> rfl
@[simp] theorem State.queueVote_flash (s : State) : (s.queueVote).flash = s.flash := by unfold State.queueVote; split <;> rfl
@[simp] theorem State.queueVote_snap (s : State) : (s.queueVote).snap = s.snap := by unfold State.queueVote; split <;> rfl
@[simp] theorem State.queueVote_effGz (s : State) : (s.queueVote).effGz = s.effGz := by unfold State.queueVote; split <;> rfl
@[simp] theorem State.queueVote_seq (s : State) : (s.queueVote).seq = s.seq := by unfold State.queueVote; split <;> rfl
@[simp] theorem State.queueVote_rowDone (s : State) : (s.queueVote).rowDone = s.rowDone := by unfold State.queueVote; split <;> rfl
@[simp] theorem State.queueVote_rowHeld (s : State) : (s.queueVote).rowHeld = s.rowHeld := by unfold State.queueVote; split <;> rfl
@[simp] theorem State.queueVote_sync (s : State) : (s.queueVote).sync = s.sync := by unfold State.queueVote; split <;> rfl
@[simp] theorem State.queueVote_drive (s : State) : (s.queueVote).drive = s.drive := by unfold State.queueVote; split <;> rfl
@[simp] theorem State.queueVote_filt (s : State) : (s.queueVote).filt = s.filt := by unfold State.queueVote; split <;> rfl
@[simp] theorem State.queueVote_lanes (s : State) : (s.queueVote).lanes = s.lanes := by unfold State.queueVote; split <;> rfl
@[simp] theorem State.queueVote_dets (s : State) : (s.queueVote).dets = s.dets := by unfold State.queueVote; split <;> rfl
@[simp] theorem State.queueVote_reserve (s : State) : (s.queueVote).reserve = s.reserve := by unfold State.queueVote; split <;> rfl
@[simp] theorem State.queueVote_cal (s : State) : (s.queueVote).cal = s.cal := by unfold State.queueVote; split <;> rfl
@[simp] theorem State.queueVote_cald (s : State) : (s.queueVote).cald = s.cald := by unfold State.queueVote; split <;> rfl
@[simp] theorem State.queueVote_pace (s : State) : (s.queueVote).pace = s.pace := by unfold State.queueVote; split <;> rfl
@[simp] theorem State.queueVote_sched (s : State) : (s.queueVote).sched = s.sched := by unfold State.queueVote; split <;> rfl
@[simp] theorem State.queueVote_ring (s : State) : (s.queueVote).ring = s.ring := by unfold State.queueVote; split <;> rfl
@[simp] theorem State.queueVote_port (s : State) : (s.queueVote).port = s.port := by unfold State.queueVote; split <;> rfl
@[simp] theorem State.queueVote_nvm (s : State) : (s.queueVote).nvm = s.nvm := by unfold State.queueVote; split <;> rfl
@[simp] theorem State.queueVote_sec (s : State) : (s.queueVote).sec = s.sec := by unfold State.queueVote; split <;> rfl
@[simp] theorem State.queueVote_geyser (s : State) : (s.queueVote).geyser = s.geyser := by unfold State.queueVote; split <;> rfl
@[simp] theorem State.queueVote_fmon (s : State) : (s.queueVote).fmon = s.fmon := by unfold State.queueVote; split <;> rfl
@[simp] theorem State.queueVote_lib (s : State) : (s.queueVote).lib = s.lib := by unfold State.queueVote; split <;> rfl
@[simp] theorem State.queueVote_freeCtr (s : State) : (s.queueVote).freeCtr = s.freeCtr := by unfold State.queueVote; split <;> rfl
@[simp] theorem State.queueVote_pending (s : State) : (s.queueVote).pending = s.pending := by unfold State.queueVote; split <;> rfl

/-! ### insertRec -/

@[simp] theorem State.insertRec_aon (s : State) (r : Rec) : (s.insertRec r).aon = s.aon := by unfold State.insertRec; split <;> rfl
@[simp] theorem State.insertRec_pwr (s : State) (r : Rec) : (s.insertRec r).pwr = s.pwr := by unfold State.insertRec; split <;> rfl
@[simp] theorem State.insertRec_tables (s : State) (r : Rec) : (s.insertRec r).tables = s.tables := by unfold State.insertRec; split <;> rfl
@[simp] theorem State.insertRec_flash (s : State) (r : Rec) : (s.insertRec r).flash = s.flash := by unfold State.insertRec; split <;> rfl
@[simp] theorem State.insertRec_snap (s : State) (r : Rec) : (s.insertRec r).snap = s.snap := by unfold State.insertRec; split <;> rfl
@[simp] theorem State.insertRec_effGz (s : State) (r : Rec) : (s.insertRec r).effGz = s.effGz := by unfold State.insertRec; split <;> rfl
@[simp] theorem State.insertRec_seq (s : State) (r : Rec) : (s.insertRec r).seq = s.seq := by unfold State.insertRec; split <;> rfl
@[simp] theorem State.insertRec_rowDone (s : State) (r : Rec) : (s.insertRec r).rowDone = s.rowDone := by unfold State.insertRec; split <;> rfl
@[simp] theorem State.insertRec_rowHeld (s : State) (r : Rec) : (s.insertRec r).rowHeld = s.rowHeld := by unfold State.insertRec; split <;> rfl
@[simp] theorem State.insertRec_sync (s : State) (r : Rec) : (s.insertRec r).sync = s.sync := by unfold State.insertRec; split <;> rfl
@[simp] theorem State.insertRec_drive (s : State) (r : Rec) : (s.insertRec r).drive = s.drive := by unfold State.insertRec; split <;> rfl
@[simp] theorem State.insertRec_filt (s : State) (r : Rec) : (s.insertRec r).filt = s.filt := by unfold State.insertRec; split <;> rfl
@[simp] theorem State.insertRec_lanes (s : State) (r : Rec) : (s.insertRec r).lanes = s.lanes := by unfold State.insertRec; split <;> rfl
@[simp] theorem State.insertRec_dets (s : State) (r : Rec) : (s.insertRec r).dets = s.dets := by unfold State.insertRec; split <;> rfl
@[simp] theorem State.insertRec_reserve (s : State) (r : Rec) : (s.insertRec r).reserve = s.reserve := by unfold State.insertRec; split <;> rfl
@[simp] theorem State.insertRec_cal (s : State) (r : Rec) : (s.insertRec r).cal = s.cal := by unfold State.insertRec; split <;> rfl
@[simp] theorem State.insertRec_cald (s : State) (r : Rec) : (s.insertRec r).cald = s.cald := by unfold State.insertRec; split <;> rfl
@[simp] theorem State.insertRec_pace (s : State) (r : Rec) : (s.insertRec r).pace = s.pace := by unfold State.insertRec; split <;> rfl
@[simp] theorem State.insertRec_sched (s : State) (r : Rec) : (s.insertRec r).sched = s.sched := by unfold State.insertRec; split <;> rfl
@[simp] theorem State.insertRec_ring (s : State) (r : Rec) : (s.insertRec r).ring = s.ring := by unfold State.insertRec; split <;> rfl
@[simp] theorem State.insertRec_port (s : State) (r : Rec) : (s.insertRec r).port = s.port := by unfold State.insertRec; split <;> rfl
@[simp] theorem State.insertRec_nvm (s : State) (r : Rec) : (s.insertRec r).nvm = s.nvm := by unfold State.insertRec; split <;> rfl
@[simp] theorem State.insertRec_sec (s : State) (r : Rec) : (s.insertRec r).sec = s.sec := by unfold State.insertRec; split <;> rfl
@[simp] theorem State.insertRec_geyser (s : State) (r : Rec) : (s.insertRec r).geyser = s.geyser := by unfold State.insertRec; split <;> rfl
@[simp] theorem State.insertRec_fmon (s : State) (r : Rec) : (s.insertRec r).fmon = s.fmon := by unfold State.insertRec; split <;> rfl
@[simp] theorem State.insertRec_lib (s : State) (r : Rec) : (s.insertRec r).lib = s.lib := by unfold State.insertRec; split <;> rfl
@[simp] theorem State.insertRec_freeCtr (s : State) (r : Rec) : (s.insertRec r).freeCtr = s.freeCtr := by unfold State.insertRec; split <;> rfl
@[simp] theorem State.insertRec_pending (s : State) (r : Rec) : (s.insertRec r).pending = s.pending := by unfold State.insertRec; split <;> rfl

/-! ### pushRec -/

@[simp] theorem State.pushRec_aon (s : State) (r : Rec) : (s.pushRec r).aon = s.aon := by unfold State.pushRec; dsimp only; split <;> [rfl; (split <;> rfl)]
@[simp] theorem State.pushRec_pwr (s : State) (r : Rec) : (s.pushRec r).pwr = s.pwr := by unfold State.pushRec; dsimp only; split <;> [rfl; (split <;> rfl)]
@[simp] theorem State.pushRec_tables (s : State) (r : Rec) : (s.pushRec r).tables = s.tables := by unfold State.pushRec; dsimp only; split <;> [rfl; (split <;> rfl)]
@[simp] theorem State.pushRec_flash (s : State) (r : Rec) : (s.pushRec r).flash = s.flash := by unfold State.pushRec; dsimp only; split <;> [rfl; (split <;> rfl)]
@[simp] theorem State.pushRec_snap (s : State) (r : Rec) : (s.pushRec r).snap = s.snap := by unfold State.pushRec; dsimp only; split <;> [rfl; (split <;> rfl)]
@[simp] theorem State.pushRec_effGz (s : State) (r : Rec) : (s.pushRec r).effGz = s.effGz := by unfold State.pushRec; dsimp only; split <;> [rfl; (split <;> rfl)]
@[simp] theorem State.pushRec_seq (s : State) (r : Rec) : (s.pushRec r).seq = s.seq := by unfold State.pushRec; dsimp only; split <;> [rfl; (split <;> rfl)]
@[simp] theorem State.pushRec_rowDone (s : State) (r : Rec) : (s.pushRec r).rowDone = s.rowDone := by unfold State.pushRec; dsimp only; split <;> [rfl; (split <;> rfl)]
@[simp] theorem State.pushRec_rowHeld (s : State) (r : Rec) : (s.pushRec r).rowHeld = s.rowHeld := by unfold State.pushRec; dsimp only; split <;> [rfl; (split <;> rfl)]
@[simp] theorem State.pushRec_sync (s : State) (r : Rec) : (s.pushRec r).sync = s.sync := by unfold State.pushRec; dsimp only; split <;> [rfl; (split <;> rfl)]
@[simp] theorem State.pushRec_drive (s : State) (r : Rec) : (s.pushRec r).drive = s.drive := by unfold State.pushRec; dsimp only; split <;> [rfl; (split <;> rfl)]
@[simp] theorem State.pushRec_filt (s : State) (r : Rec) : (s.pushRec r).filt = s.filt := by unfold State.pushRec; dsimp only; split <;> [rfl; (split <;> rfl)]
@[simp] theorem State.pushRec_lanes (s : State) (r : Rec) : (s.pushRec r).lanes = s.lanes := by unfold State.pushRec; dsimp only; split <;> [rfl; (split <;> rfl)]
@[simp] theorem State.pushRec_dets (s : State) (r : Rec) : (s.pushRec r).dets = s.dets := by unfold State.pushRec; dsimp only; split <;> [rfl; (split <;> rfl)]
@[simp] theorem State.pushRec_reserve (s : State) (r : Rec) : (s.pushRec r).reserve = s.reserve := by unfold State.pushRec; dsimp only; split <;> [rfl; (split <;> rfl)]
@[simp] theorem State.pushRec_cal (s : State) (r : Rec) : (s.pushRec r).cal = s.cal := by unfold State.pushRec; dsimp only; split <;> [rfl; (split <;> rfl)]
@[simp] theorem State.pushRec_cald (s : State) (r : Rec) : (s.pushRec r).cald = s.cald := by unfold State.pushRec; dsimp only; split <;> [rfl; (split <;> rfl)]
@[simp] theorem State.pushRec_pace (s : State) (r : Rec) : (s.pushRec r).pace = s.pace := by unfold State.pushRec; dsimp only; split <;> [rfl; (split <;> rfl)]
@[simp] theorem State.pushRec_sched (s : State) (r : Rec) : (s.pushRec r).sched = s.sched := by unfold State.pushRec; dsimp only; split <;> [rfl; (split <;> rfl)]
@[simp] theorem State.pushRec_ring (s : State) (r : Rec) : (s.pushRec r).ring = s.ring := by unfold State.pushRec; dsimp only; split <;> [rfl; (split <;> rfl)]
@[simp] theorem State.pushRec_port (s : State) (r : Rec) : (s.pushRec r).port = s.port := by unfold State.pushRec; dsimp only; split <;> [rfl; (split <;> rfl)]
@[simp] theorem State.pushRec_nvm (s : State) (r : Rec) : (s.pushRec r).nvm = s.nvm := by unfold State.pushRec; dsimp only; split <;> [rfl; (split <;> rfl)]
@[simp] theorem State.pushRec_sec (s : State) (r : Rec) : (s.pushRec r).sec = s.sec := by unfold State.pushRec; dsimp only; split <;> [rfl; (split <;> rfl)]
@[simp] theorem State.pushRec_geyser (s : State) (r : Rec) : (s.pushRec r).geyser = s.geyser := by unfold State.pushRec; dsimp only; split <;> [rfl; (split <;> rfl)]
@[simp] theorem State.pushRec_lib (s : State) (r : Rec) : (s.pushRec r).lib = s.lib := by unfold State.pushRec; dsimp only; split <;> [rfl; (split <;> rfl)]
@[simp] theorem State.pushRec_freeCtr (s : State) (r : Rec) : (s.pushRec r).freeCtr = s.freeCtr := by unfold State.pushRec; dsimp only; split <;> [rfl; (split <;> rfl)]
@[simp] theorem State.pushRec_pending (s : State) (r : Rec) : (s.pushRec r).pending = s.pending := by unfold State.pushRec; dsimp only; split <;> [rfl; (split <;> rfl)]

/-! ### commitQueue -/

@[simp] theorem State.commitQueue_aon (s : State) : (s.commitQueue).aon = s.aon := by unfold State.commitQueue; dsimp only; split <;> rfl
@[simp] theorem State.commitQueue_pwr (s : State) : (s.commitQueue).pwr = s.pwr := by unfold State.commitQueue; dsimp only; split <;> rfl
@[simp] theorem State.commitQueue_tables (s : State) : (s.commitQueue).tables = s.tables := by unfold State.commitQueue; dsimp only; split <;> rfl
@[simp] theorem State.commitQueue_flash (s : State) : (s.commitQueue).flash = s.flash := by unfold State.commitQueue; dsimp only; split <;> rfl
@[simp] theorem State.commitQueue_snap (s : State) : (s.commitQueue).snap = s.snap := by unfold State.commitQueue; dsimp only; split <;> rfl
@[simp] theorem State.commitQueue_effGz (s : State) : (s.commitQueue).effGz = s.effGz := by unfold State.commitQueue; dsimp only; split <;> rfl
@[simp] theorem State.commitQueue_seq (s : State) : (s.commitQueue).seq = s.seq := by unfold State.commitQueue; dsimp only; split <;> rfl
@[simp] theorem State.commitQueue_rowDone (s : State) : (s.commitQueue).rowDone = s.rowDone := by unfold State.commitQueue; dsimp only; split <;> rfl
@[simp] theorem State.commitQueue_rowHeld (s : State) : (s.commitQueue).rowHeld = s.rowHeld := by unfold State.commitQueue; dsimp only; split <;> rfl
@[simp] theorem State.commitQueue_sync (s : State) : (s.commitQueue).sync = s.sync := by unfold State.commitQueue; dsimp only; split <;> rfl
@[simp] theorem State.commitQueue_drive (s : State) : (s.commitQueue).drive = s.drive := by unfold State.commitQueue; dsimp only; split <;> rfl
@[simp] theorem State.commitQueue_filt (s : State) : (s.commitQueue).filt = s.filt := by unfold State.commitQueue; dsimp only; split <;> rfl
@[simp] theorem State.commitQueue_lanes (s : State) : (s.commitQueue).lanes = s.lanes := by unfold State.commitQueue; dsimp only; split <;> rfl
@[simp] theorem State.commitQueue_dets (s : State) : (s.commitQueue).dets = s.dets := by unfold State.commitQueue; dsimp only; split <;> rfl
@[simp] theorem State.commitQueue_reserve (s : State) : (s.commitQueue).reserve = s.reserve := by unfold State.commitQueue; dsimp only; split <;> rfl
@[simp] theorem State.commitQueue_cal (s : State) : (s.commitQueue).cal = s.cal := by unfold State.commitQueue; dsimp only; split <;> rfl
@[simp] theorem State.commitQueue_cald (s : State) : (s.commitQueue).cald = s.cald := by unfold State.commitQueue; dsimp only; split <;> rfl
@[simp] theorem State.commitQueue_pace (s : State) : (s.commitQueue).pace = s.pace := by unfold State.commitQueue; dsimp only; split <;> rfl
@[simp] theorem State.commitQueue_sched (s : State) : (s.commitQueue).sched = s.sched := by unfold State.commitQueue; dsimp only; split <;> rfl
@[simp] theorem State.commitQueue_ring (s : State) : (s.commitQueue).ring = s.ring := by unfold State.commitQueue; dsimp only; split <;> rfl
@[simp] theorem State.commitQueue_port (s : State) : (s.commitQueue).port = s.port := by unfold State.commitQueue; dsimp only; split <;> rfl
@[simp] theorem State.commitQueue_nvm (s : State) : (s.commitQueue).nvm = s.nvm := by unfold State.commitQueue; dsimp only; split <;> rfl
@[simp] theorem State.commitQueue_sec (s : State) : (s.commitQueue).sec = s.sec := by unfold State.commitQueue; dsimp only; split <;> rfl
@[simp] theorem State.commitQueue_geyser (s : State) : (s.commitQueue).geyser = s.geyser := by unfold State.commitQueue; dsimp only; split <;> rfl
@[simp] theorem State.commitQueue_fmon (s : State) : (s.commitQueue).fmon = s.fmon := by unfold State.commitQueue; dsimp only; split <;> rfl
@[simp] theorem State.commitQueue_lib (s : State) : (s.commitQueue).lib = s.lib := by unfold State.commitQueue; dsimp only; split <;> rfl
@[simp] theorem State.commitQueue_freeCtr (s : State) : (s.commitQueue).freeCtr = s.freeCtr := by unfold State.commitQueue; dsimp only; split <;> rfl
@[simp] theorem State.commitQueue_pending (s : State) : (s.commitQueue).pending = s.pending := by unfold State.commitQueue; dsimp only; split <;> rfl

/-! ### abandonQueue -/

@[simp] theorem State.abandonQueue_aon (s : State) : (s.abandonQueue).aon = s.aon := by simp [State.abandonQueue]
@[simp] theorem State.abandonQueue_pwr (s : State) : (s.abandonQueue).pwr = s.pwr := by simp [State.abandonQueue]
@[simp] theorem State.abandonQueue_regs (s : State) : (s.abandonQueue).regs = s.regs := by simp [State.abandonQueue]
@[simp] theorem State.abandonQueue_tables (s : State) : (s.abandonQueue).tables = s.tables := by simp [State.abandonQueue]
@[simp] theorem State.abandonQueue_flash (s : State) : (s.abandonQueue).flash = s.flash := by simp [State.abandonQueue]
@[simp] theorem State.abandonQueue_snap (s : State) : (s.abandonQueue).snap = s.snap := by simp [State.abandonQueue]
@[simp] theorem State.abandonQueue_effGz (s : State) : (s.abandonQueue).effGz = s.effGz := by simp [State.abandonQueue]
@[simp] theorem State.abandonQueue_seq (s : State) : (s.abandonQueue).seq = s.seq := by simp [State.abandonQueue]
@[simp] theorem State.abandonQueue_rowDone (s : State) : (s.abandonQueue).rowDone = s.rowDone := by simp [State.abandonQueue]
@[simp] theorem State.abandonQueue_rowHeld (s : State) : (s.abandonQueue).rowHeld = s.rowHeld := by simp [State.abandonQueue]
@[simp] theorem State.abandonQueue_sync (s : State) : (s.abandonQueue).sync = s.sync := by simp [State.abandonQueue]
@[simp] theorem State.abandonQueue_drive (s : State) : (s.abandonQueue).drive = s.drive := by simp [State.abandonQueue]
@[simp] theorem State.abandonQueue_filt (s : State) : (s.abandonQueue).filt = s.filt := by simp [State.abandonQueue]
@[simp] theorem State.abandonQueue_lanes (s : State) : (s.abandonQueue).lanes = s.lanes := by simp [State.abandonQueue]
@[simp] theorem State.abandonQueue_dets (s : State) : (s.abandonQueue).dets = s.dets := by simp [State.abandonQueue]
@[simp] theorem State.abandonQueue_reserve (s : State) : (s.abandonQueue).reserve = s.reserve := by simp [State.abandonQueue]
@[simp] theorem State.abandonQueue_cal (s : State) : (s.abandonQueue).cal = s.cal := by simp [State.abandonQueue]
@[simp] theorem State.abandonQueue_cald (s : State) : (s.abandonQueue).cald = s.cald := by simp [State.abandonQueue]
@[simp] theorem State.abandonQueue_pace (s : State) : (s.abandonQueue).pace = s.pace := by simp [State.abandonQueue]
@[simp] theorem State.abandonQueue_sched (s : State) : (s.abandonQueue).sched = s.sched := by simp [State.abandonQueue]
@[simp] theorem State.abandonQueue_ring (s : State) : (s.abandonQueue).ring = s.ring := by simp [State.abandonQueue]
@[simp] theorem State.abandonQueue_port (s : State) : (s.abandonQueue).port = s.port := by simp [State.abandonQueue]
@[simp] theorem State.abandonQueue_nvm (s : State) : (s.abandonQueue).nvm = s.nvm := by simp [State.abandonQueue]
@[simp] theorem State.abandonQueue_sec (s : State) : (s.abandonQueue).sec = s.sec := by simp [State.abandonQueue]
@[simp] theorem State.abandonQueue_geyser (s : State) : (s.abandonQueue).geyser = s.geyser := by simp [State.abandonQueue]
@[simp] theorem State.abandonQueue_fmon (s : State) : (s.abandonQueue).fmon = s.fmon := by simp [State.abandonQueue]
@[simp] theorem State.abandonQueue_lib (s : State) : (s.abandonQueue).lib = s.lib := by simp [State.abandonQueue]
@[simp] theorem State.abandonQueue_freeCtr (s : State) : (s.abandonQueue).freeCtr = s.freeCtr := by simp [State.abandonQueue]
@[simp] theorem State.abandonQueue_pending (s : State) : (s.abandonQueue).pending = s.pending := by simp [State.abandonQueue]

/-! ### commitInserted -/

@[simp] theorem State.commitInserted_aon (s : State) : (s.commitInserted).aon = s.aon := by unfold State.commitInserted; split <;> simp
@[simp] theorem State.commitInserted_pwr (s : State) : (s.commitInserted).pwr = s.pwr := by unfold State.commitInserted; split <;> simp
@[simp] theorem State.commitInserted_tables (s : State) : (s.commitInserted).tables = s.tables := by unfold State.commitInserted; split <;> simp
@[simp] theorem State.commitInserted_flash (s : State) : (s.commitInserted).flash = s.flash := by unfold State.commitInserted; split <;> simp
@[simp] theorem State.commitInserted_snap (s : State) : (s.commitInserted).snap = s.snap := by unfold State.commitInserted; split <;> simp
@[simp] theorem State.commitInserted_effGz (s : State) : (s.commitInserted).effGz = s.effGz := by unfold State.commitInserted; split <;> simp
@[simp] theorem State.commitInserted_seq (s : State) : (s.commitInserted).seq = s.seq := by unfold State.commitInserted; split <;> simp
@[simp] theorem State.commitInserted_rowDone (s : State) : (s.commitInserted).rowDone = s.rowDone := by unfold State.commitInserted; split <;> simp
@[simp] theorem State.commitInserted_rowHeld (s : State) : (s.commitInserted).rowHeld = s.rowHeld := by unfold State.commitInserted; split <;> simp
@[simp] theorem State.commitInserted_sync (s : State) : (s.commitInserted).sync = s.sync := by unfold State.commitInserted; split <;> simp
@[simp] theorem State.commitInserted_drive (s : State) : (s.commitInserted).drive = s.drive := by unfold State.commitInserted; split <;> simp
@[simp] theorem State.commitInserted_filt (s : State) : (s.commitInserted).filt = s.filt := by unfold State.commitInserted; split <;> simp
@[simp] theorem State.commitInserted_lanes (s : State) : (s.commitInserted).lanes = s.lanes := by unfold State.commitInserted; split <;> simp
@[simp] theorem State.commitInserted_dets (s : State) : (s.commitInserted).dets = s.dets := by unfold State.commitInserted; split <;> simp
@[simp] theorem State.commitInserted_reserve (s : State) : (s.commitInserted).reserve = s.reserve := by unfold State.commitInserted; split <;> simp
@[simp] theorem State.commitInserted_cal (s : State) : (s.commitInserted).cal = s.cal := by unfold State.commitInserted; split <;> simp
@[simp] theorem State.commitInserted_cald (s : State) : (s.commitInserted).cald = s.cald := by unfold State.commitInserted; split <;> simp
@[simp] theorem State.commitInserted_pace (s : State) : (s.commitInserted).pace = s.pace := by unfold State.commitInserted; split <;> simp
@[simp] theorem State.commitInserted_sched (s : State) : (s.commitInserted).sched = s.sched := by unfold State.commitInserted; split <;> simp
@[simp] theorem State.commitInserted_ring (s : State) : (s.commitInserted).ring = s.ring := by unfold State.commitInserted; split <;> simp
@[simp] theorem State.commitInserted_port (s : State) : (s.commitInserted).port = s.port := by unfold State.commitInserted; split <;> simp
@[simp] theorem State.commitInserted_nvm (s : State) : (s.commitInserted).nvm = s.nvm := by unfold State.commitInserted; split <;> simp
@[simp] theorem State.commitInserted_sec (s : State) : (s.commitInserted).sec = s.sec := by unfold State.commitInserted; split <;> simp
@[simp] theorem State.commitInserted_geyser (s : State) : (s.commitInserted).geyser = s.geyser := by unfold State.commitInserted; split <;> simp
@[simp] theorem State.commitInserted_fmon (s : State) : (s.commitInserted).fmon = s.fmon := by unfold State.commitInserted; split <;> simp
@[simp] theorem State.commitInserted_lib (s : State) : (s.commitInserted).lib = s.lib := by unfold State.commitInserted; split <;> simp
@[simp] theorem State.commitInserted_freeCtr (s : State) : (s.commitInserted).freeCtr = s.freeCtr := by unfold State.commitInserted; split <;> simp
@[simp] theorem State.commitInserted_pending (s : State) : (s.commitInserted).pending = s.pending := by unfold State.commitInserted; split <;> simp

/-! ### pushInserted -/

@[simp] theorem State.pushInserted_aon (s : State) : (s.pushInserted).aon = s.aon := by unfold State.pushInserted; split <;> [rfl; (split <;> simp)]
@[simp] theorem State.pushInserted_pwr (s : State) : (s.pushInserted).pwr = s.pwr := by unfold State.pushInserted; split <;> [rfl; (split <;> simp)]
@[simp] theorem State.pushInserted_tables (s : State) : (s.pushInserted).tables = s.tables := by unfold State.pushInserted; split <;> [rfl; (split <;> simp)]
@[simp] theorem State.pushInserted_flash (s : State) : (s.pushInserted).flash = s.flash := by unfold State.pushInserted; split <;> [rfl; (split <;> simp)]
@[simp] theorem State.pushInserted_snap (s : State) : (s.pushInserted).snap = s.snap := by unfold State.pushInserted; split <;> [rfl; (split <;> simp)]
@[simp] theorem State.pushInserted_effGz (s : State) : (s.pushInserted).effGz = s.effGz := by unfold State.pushInserted; split <;> [rfl; (split <;> simp)]
@[simp] theorem State.pushInserted_seq (s : State) : (s.pushInserted).seq = s.seq := by unfold State.pushInserted; split <;> [rfl; (split <;> simp)]
@[simp] theorem State.pushInserted_rowDone (s : State) : (s.pushInserted).rowDone = s.rowDone := by unfold State.pushInserted; split <;> [rfl; (split <;> simp)]
@[simp] theorem State.pushInserted_rowHeld (s : State) : (s.pushInserted).rowHeld = s.rowHeld := by unfold State.pushInserted; split <;> [rfl; (split <;> simp)]
@[simp] theorem State.pushInserted_sync (s : State) : (s.pushInserted).sync = s.sync := by unfold State.pushInserted; split <;> [rfl; (split <;> simp)]
@[simp] theorem State.pushInserted_drive (s : State) : (s.pushInserted).drive = s.drive := by unfold State.pushInserted; split <;> [rfl; (split <;> simp)]
@[simp] theorem State.pushInserted_filt (s : State) : (s.pushInserted).filt = s.filt := by unfold State.pushInserted; split <;> [rfl; (split <;> simp)]
@[simp] theorem State.pushInserted_lanes (s : State) : (s.pushInserted).lanes = s.lanes := by unfold State.pushInserted; split <;> [rfl; (split <;> simp)]
@[simp] theorem State.pushInserted_dets (s : State) : (s.pushInserted).dets = s.dets := by unfold State.pushInserted; split <;> [rfl; (split <;> simp)]
@[simp] theorem State.pushInserted_reserve (s : State) : (s.pushInserted).reserve = s.reserve := by unfold State.pushInserted; split <;> [rfl; (split <;> simp)]
@[simp] theorem State.pushInserted_cal (s : State) : (s.pushInserted).cal = s.cal := by unfold State.pushInserted; split <;> [rfl; (split <;> simp)]
@[simp] theorem State.pushInserted_cald (s : State) : (s.pushInserted).cald = s.cald := by unfold State.pushInserted; split <;> [rfl; (split <;> simp)]
@[simp] theorem State.pushInserted_pace (s : State) : (s.pushInserted).pace = s.pace := by unfold State.pushInserted; split <;> [rfl; (split <;> simp)]
@[simp] theorem State.pushInserted_sched (s : State) : (s.pushInserted).sched = s.sched := by unfold State.pushInserted; split <;> [rfl; (split <;> simp)]
@[simp] theorem State.pushInserted_ring (s : State) : (s.pushInserted).ring = s.ring := by unfold State.pushInserted; split <;> [rfl; (split <;> simp)]
@[simp] theorem State.pushInserted_port (s : State) : (s.pushInserted).port = s.port := by unfold State.pushInserted; split <;> [rfl; (split <;> simp)]
@[simp] theorem State.pushInserted_nvm (s : State) : (s.pushInserted).nvm = s.nvm := by unfold State.pushInserted; split <;> [rfl; (split <;> simp)]
@[simp] theorem State.pushInserted_sec (s : State) : (s.pushInserted).sec = s.sec := by unfold State.pushInserted; split <;> [rfl; (split <;> simp)]
@[simp] theorem State.pushInserted_geyser (s : State) : (s.pushInserted).geyser = s.geyser := by unfold State.pushInserted; split <;> [rfl; (split <;> simp)]
@[simp] theorem State.pushInserted_lib (s : State) : (s.pushInserted).lib = s.lib := by unfold State.pushInserted; split <;> [rfl; (split <;> simp)]
@[simp] theorem State.pushInserted_freeCtr (s : State) : (s.pushInserted).freeCtr = s.freeCtr := by unfold State.pushInserted; split <;> [rfl; (split <;> simp)]
@[simp] theorem State.pushInserted_pending (s : State) : (s.pushInserted).pending = s.pending := by unfold State.pushInserted; split <;> [rfl; (split <;> simp)]

/-! ### drainInserted -/

@[simp] theorem State.drainInserted_aon (s : State) : (s.drainInserted).aon = s.aon := by simp [State.drainInserted]
@[simp] theorem State.drainInserted_pwr (s : State) : (s.drainInserted).pwr = s.pwr := by simp [State.drainInserted]
@[simp] theorem State.drainInserted_tables (s : State) : (s.drainInserted).tables = s.tables := by simp [State.drainInserted]
@[simp] theorem State.drainInserted_flash (s : State) : (s.drainInserted).flash = s.flash := by simp [State.drainInserted]
@[simp] theorem State.drainInserted_snap (s : State) : (s.drainInserted).snap = s.snap := by simp [State.drainInserted]
@[simp] theorem State.drainInserted_effGz (s : State) : (s.drainInserted).effGz = s.effGz := by simp [State.drainInserted]
@[simp] theorem State.drainInserted_seq (s : State) : (s.drainInserted).seq = s.seq := by simp [State.drainInserted]
@[simp] theorem State.drainInserted_rowDone (s : State) : (s.drainInserted).rowDone = s.rowDone := by simp [State.drainInserted]
@[simp] theorem State.drainInserted_rowHeld (s : State) : (s.drainInserted).rowHeld = s.rowHeld := by simp [State.drainInserted]
@[simp] theorem State.drainInserted_sync (s : State) : (s.drainInserted).sync = s.sync := by simp [State.drainInserted]
@[simp] theorem State.drainInserted_drive (s : State) : (s.drainInserted).drive = s.drive := by simp [State.drainInserted]
@[simp] theorem State.drainInserted_filt (s : State) : (s.drainInserted).filt = s.filt := by simp [State.drainInserted]
@[simp] theorem State.drainInserted_lanes (s : State) : (s.drainInserted).lanes = s.lanes := by simp [State.drainInserted]
@[simp] theorem State.drainInserted_dets (s : State) : (s.drainInserted).dets = s.dets := by simp [State.drainInserted]
@[simp] theorem State.drainInserted_reserve (s : State) : (s.drainInserted).reserve = s.reserve := by simp [State.drainInserted]
@[simp] theorem State.drainInserted_cal (s : State) : (s.drainInserted).cal = s.cal := by simp [State.drainInserted]
@[simp] theorem State.drainInserted_cald (s : State) : (s.drainInserted).cald = s.cald := by simp [State.drainInserted]
@[simp] theorem State.drainInserted_pace (s : State) : (s.drainInserted).pace = s.pace := by simp [State.drainInserted]
@[simp] theorem State.drainInserted_sched (s : State) : (s.drainInserted).sched = s.sched := by simp [State.drainInserted]
@[simp] theorem State.drainInserted_ring (s : State) : (s.drainInserted).ring = s.ring := by simp [State.drainInserted]
@[simp] theorem State.drainInserted_port (s : State) : (s.drainInserted).port = s.port := by simp [State.drainInserted]
@[simp] theorem State.drainInserted_nvm (s : State) : (s.drainInserted).nvm = s.nvm := by simp [State.drainInserted]
@[simp] theorem State.drainInserted_sec (s : State) : (s.drainInserted).sec = s.sec := by simp [State.drainInserted]
@[simp] theorem State.drainInserted_geyser (s : State) : (s.drainInserted).geyser = s.geyser := by simp [State.drainInserted]
@[simp] theorem State.drainInserted_lib (s : State) : (s.drainInserted).lib = s.lib := by simp [State.drainInserted]
@[simp] theorem State.drainInserted_freeCtr (s : State) : (s.drainInserted).freeCtr = s.freeCtr := by simp [State.drainInserted]
@[simp] theorem State.drainInserted_pending (s : State) : (s.drainInserted).pending = s.pending := by simp [State.drainInserted]

/-! ### flushQueue -/

@[simp] theorem State.flushQueue_aon (s : State) : (s.flushQueue).aon = s.aon := by unfold State.flushQueue; dsimp only; split <;> simp
@[simp] theorem State.flushQueue_pwr (s : State) : (s.flushQueue).pwr = s.pwr := by unfold State.flushQueue; dsimp only; split <;> simp
@[simp] theorem State.flushQueue_tables (s : State) : (s.flushQueue).tables = s.tables := by unfold State.flushQueue; dsimp only; split <;> simp
@[simp] theorem State.flushQueue_flash (s : State) : (s.flushQueue).flash = s.flash := by unfold State.flushQueue; dsimp only; split <;> simp
@[simp] theorem State.flushQueue_snap (s : State) : (s.flushQueue).snap = s.snap := by unfold State.flushQueue; dsimp only; split <;> simp
@[simp] theorem State.flushQueue_effGz (s : State) : (s.flushQueue).effGz = s.effGz := by unfold State.flushQueue; dsimp only; split <;> simp
@[simp] theorem State.flushQueue_seq (s : State) : (s.flushQueue).seq = s.seq := by unfold State.flushQueue; dsimp only; split <;> simp
@[simp] theorem State.flushQueue_rowDone (s : State) : (s.flushQueue).rowDone = s.rowDone := by unfold State.flushQueue; dsimp only; split <;> simp
@[simp] theorem State.flushQueue_rowHeld (s : State) : (s.flushQueue).rowHeld = s.rowHeld := by unfold State.flushQueue; dsimp only; split <;> simp
@[simp] theorem State.flushQueue_sync (s : State) : (s.flushQueue).sync = s.sync := by unfold State.flushQueue; dsimp only; split <;> simp
@[simp] theorem State.flushQueue_drive (s : State) : (s.flushQueue).drive = s.drive := by unfold State.flushQueue; dsimp only; split <;> simp
@[simp] theorem State.flushQueue_filt (s : State) : (s.flushQueue).filt = s.filt := by unfold State.flushQueue; dsimp only; split <;> simp
@[simp] theorem State.flushQueue_lanes (s : State) : (s.flushQueue).lanes = s.lanes := by unfold State.flushQueue; dsimp only; split <;> simp
@[simp] theorem State.flushQueue_dets (s : State) : (s.flushQueue).dets = s.dets := by unfold State.flushQueue; dsimp only; split <;> simp
@[simp] theorem State.flushQueue_reserve (s : State) : (s.flushQueue).reserve = s.reserve := by unfold State.flushQueue; dsimp only; split <;> simp
@[simp] theorem State.flushQueue_cal (s : State) : (s.flushQueue).cal = s.cal := by unfold State.flushQueue; dsimp only; split <;> simp
@[simp] theorem State.flushQueue_cald (s : State) : (s.flushQueue).cald = s.cald := by unfold State.flushQueue; dsimp only; split <;> simp
@[simp] theorem State.flushQueue_pace (s : State) : (s.flushQueue).pace = s.pace := by unfold State.flushQueue; dsimp only; split <;> simp
@[simp] theorem State.flushQueue_sched (s : State) : (s.flushQueue).sched = s.sched := by unfold State.flushQueue; dsimp only; split <;> simp
@[simp] theorem State.flushQueue_ring (s : State) : (s.flushQueue).ring = s.ring := by unfold State.flushQueue; dsimp only; split <;> simp
@[simp] theorem State.flushQueue_port (s : State) : (s.flushQueue).port = s.port := by unfold State.flushQueue; dsimp only; split <;> simp
@[simp] theorem State.flushQueue_nvm (s : State) : (s.flushQueue).nvm = s.nvm := by unfold State.flushQueue; dsimp only; split <;> simp
@[simp] theorem State.flushQueue_sec (s : State) : (s.flushQueue).sec = s.sec := by unfold State.flushQueue; dsimp only; split <;> simp
@[simp] theorem State.flushQueue_geyser (s : State) : (s.flushQueue).geyser = s.geyser := by unfold State.flushQueue; dsimp only; split <;> simp
@[simp] theorem State.flushQueue_fmon (s : State) : (s.flushQueue).fmon = s.fmon := by unfold State.flushQueue; dsimp only; split <;> simp
@[simp] theorem State.flushQueue_lib (s : State) : (s.flushQueue).lib = s.lib := by unfold State.flushQueue; dsimp only; split <;> simp
@[simp] theorem State.flushQueue_freeCtr (s : State) : (s.flushQueue).freeCtr = s.freeCtr := by unfold State.flushQueue; dsimp only; split <;> simp
@[simp] theorem State.flushQueue_pending (s : State) : (s.flushQueue).pending = s.pending := by unfold State.flushQueue; dsimp only; split <;> simp

/-! ### resetQueue -/

@[simp] theorem State.resetQueue_aon (s : State) : (s.resetQueue).aon = s.aon := by simp [State.resetQueue]
@[simp] theorem State.resetQueue_pwr (s : State) : (s.resetQueue).pwr = s.pwr := by simp [State.resetQueue]
@[simp] theorem State.resetQueue_tables (s : State) : (s.resetQueue).tables = s.tables := by simp [State.resetQueue]
@[simp] theorem State.resetQueue_flash (s : State) : (s.resetQueue).flash = s.flash := by simp [State.resetQueue]
@[simp] theorem State.resetQueue_snap (s : State) : (s.resetQueue).snap = s.snap := by simp [State.resetQueue]
@[simp] theorem State.resetQueue_effGz (s : State) : (s.resetQueue).effGz = s.effGz := by simp [State.resetQueue]
@[simp] theorem State.resetQueue_seq (s : State) : (s.resetQueue).seq = s.seq := by simp [State.resetQueue]
@[simp] theorem State.resetQueue_rowDone (s : State) : (s.resetQueue).rowDone = s.rowDone := by simp [State.resetQueue]
@[simp] theorem State.resetQueue_rowHeld (s : State) : (s.resetQueue).rowHeld = s.rowHeld := by simp [State.resetQueue]
@[simp] theorem State.resetQueue_sync (s : State) : (s.resetQueue).sync = s.sync := by simp [State.resetQueue]
@[simp] theorem State.resetQueue_drive (s : State) : (s.resetQueue).drive = s.drive := by simp [State.resetQueue]
@[simp] theorem State.resetQueue_filt (s : State) : (s.resetQueue).filt = s.filt := by simp [State.resetQueue]
@[simp] theorem State.resetQueue_lanes (s : State) : (s.resetQueue).lanes = s.lanes := by simp [State.resetQueue]
@[simp] theorem State.resetQueue_dets (s : State) : (s.resetQueue).dets = s.dets := by simp [State.resetQueue]
@[simp] theorem State.resetQueue_reserve (s : State) : (s.resetQueue).reserve = s.reserve := by simp [State.resetQueue]
@[simp] theorem State.resetQueue_cal (s : State) : (s.resetQueue).cal = s.cal := by simp [State.resetQueue]
@[simp] theorem State.resetQueue_cald (s : State) : (s.resetQueue).cald = s.cald := by simp [State.resetQueue]
@[simp] theorem State.resetQueue_pace (s : State) : (s.resetQueue).pace = s.pace := by simp [State.resetQueue]
@[simp] theorem State.resetQueue_sched (s : State) : (s.resetQueue).sched = s.sched := by simp [State.resetQueue]
@[simp] theorem State.resetQueue_ring (s : State) : (s.resetQueue).ring = s.ring := by simp [State.resetQueue]
@[simp] theorem State.resetQueue_port (s : State) : (s.resetQueue).port = s.port := by simp [State.resetQueue]
@[simp] theorem State.resetQueue_nvm (s : State) : (s.resetQueue).nvm = s.nvm := by simp [State.resetQueue]
@[simp] theorem State.resetQueue_sec (s : State) : (s.resetQueue).sec = s.sec := by simp [State.resetQueue]
@[simp] theorem State.resetQueue_geyser (s : State) : (s.resetQueue).geyser = s.geyser := by simp [State.resetQueue]
@[simp] theorem State.resetQueue_fmon (s : State) : (s.resetQueue).fmon = s.fmon := by simp [State.resetQueue]
@[simp] theorem State.resetQueue_lib (s : State) : (s.resetQueue).lib = s.lib := by simp [State.resetQueue]
@[simp] theorem State.resetQueue_freeCtr (s : State) : (s.resetQueue).freeCtr = s.freeCtr := by simp [State.resetQueue]
@[simp] theorem State.resetQueue_pending (s : State) : (s.resetQueue).pending = s.pending := by simp [State.resetQueue]

/-! ### recordFault -/

@[simp] theorem State.recordFault_aon (s : State) (e : FaultEvent) : (s.recordFault e).aon = s.aon := by unfold State.recordFault; dsimp only; (repeat' split) <;> simp
@[simp] theorem State.recordFault_pwr (s : State) (e : FaultEvent) : (s.recordFault e).pwr = s.pwr := by unfold State.recordFault; dsimp only; (repeat' split) <;> simp
@[simp] theorem State.recordFault_tables (s : State) (e : FaultEvent) : (s.recordFault e).tables = s.tables := by unfold State.recordFault; dsimp only; (repeat' split) <;> simp
@[simp] theorem State.recordFault_flash (s : State) (e : FaultEvent) : (s.recordFault e).flash = s.flash := by unfold State.recordFault; dsimp only; (repeat' split) <;> simp
@[simp] theorem State.recordFault_snap (s : State) (e : FaultEvent) : (s.recordFault e).snap = s.snap := by unfold State.recordFault; dsimp only; (repeat' split) <;> simp
@[simp] theorem State.recordFault_effGz (s : State) (e : FaultEvent) : (s.recordFault e).effGz = s.effGz := by unfold State.recordFault; dsimp only; (repeat' split) <;> simp
@[simp] theorem State.recordFault_seq (s : State) (e : FaultEvent) : (s.recordFault e).seq = s.seq := by unfold State.recordFault; dsimp only; (repeat' split) <;> simp
@[simp] theorem State.recordFault_rowDone (s : State) (e : FaultEvent) : (s.recordFault e).rowDone = s.rowDone := by unfold State.recordFault; dsimp only; (repeat' split) <;> simp
@[simp] theorem State.recordFault_rowHeld (s : State) (e : FaultEvent) : (s.recordFault e).rowHeld = s.rowHeld := by unfold State.recordFault; dsimp only; (repeat' split) <;> simp
@[simp] theorem State.recordFault_sync (s : State) (e : FaultEvent) : (s.recordFault e).sync = s.sync := by unfold State.recordFault; dsimp only; (repeat' split) <;> simp
@[simp] theorem State.recordFault_drive (s : State) (e : FaultEvent) : (s.recordFault e).drive = s.drive := by unfold State.recordFault; dsimp only; (repeat' split) <;> simp
@[simp] theorem State.recordFault_filt (s : State) (e : FaultEvent) : (s.recordFault e).filt = s.filt := by unfold State.recordFault; dsimp only; (repeat' split) <;> simp
@[simp] theorem State.recordFault_lanes (s : State) (e : FaultEvent) : (s.recordFault e).lanes = s.lanes := by unfold State.recordFault; dsimp only; (repeat' split) <;> simp
@[simp] theorem State.recordFault_dets (s : State) (e : FaultEvent) : (s.recordFault e).dets = s.dets := by unfold State.recordFault; dsimp only; (repeat' split) <;> simp
@[simp] theorem State.recordFault_reserve (s : State) (e : FaultEvent) : (s.recordFault e).reserve = s.reserve := by unfold State.recordFault; dsimp only; (repeat' split) <;> simp
@[simp] theorem State.recordFault_cal (s : State) (e : FaultEvent) : (s.recordFault e).cal = s.cal := by unfold State.recordFault; dsimp only; (repeat' split) <;> simp
@[simp] theorem State.recordFault_cald (s : State) (e : FaultEvent) : (s.recordFault e).cald = s.cald := by unfold State.recordFault; dsimp only; (repeat' split) <;> simp
@[simp] theorem State.recordFault_pace (s : State) (e : FaultEvent) : (s.recordFault e).pace = s.pace := by unfold State.recordFault; dsimp only; (repeat' split) <;> simp
@[simp] theorem State.recordFault_sched (s : State) (e : FaultEvent) : (s.recordFault e).sched = s.sched := by unfold State.recordFault; dsimp only; (repeat' split) <;> simp
@[simp] theorem State.recordFault_ring (s : State) (e : FaultEvent) : (s.recordFault e).ring = s.ring := by unfold State.recordFault; dsimp only; (repeat' split) <;> simp
@[simp] theorem State.recordFault_port (s : State) (e : FaultEvent) : (s.recordFault e).port = s.port := by unfold State.recordFault; dsimp only; (repeat' split) <;> simp
@[simp] theorem State.recordFault_nvm (s : State) (e : FaultEvent) : (s.recordFault e).nvm = s.nvm := by unfold State.recordFault; dsimp only; (repeat' split) <;> simp
@[simp] theorem State.recordFault_sec (s : State) (e : FaultEvent) : (s.recordFault e).sec = s.sec := by unfold State.recordFault; dsimp only; (repeat' split) <;> simp
@[simp] theorem State.recordFault_geyser (s : State) (e : FaultEvent) : (s.recordFault e).geyser = s.geyser := by unfold State.recordFault; dsimp only; (repeat' split) <;> simp
@[simp] theorem State.recordFault_fmon (s : State) (e : FaultEvent) : (s.recordFault e).fmon = s.fmon := by unfold State.recordFault; dsimp only; (repeat' split) <;> simp
@[simp] theorem State.recordFault_lib (s : State) (e : FaultEvent) : (s.recordFault e).lib = s.lib := by unfold State.recordFault; dsimp only; (repeat' split) <;> simp
@[simp] theorem State.recordFault_freeCtr (s : State) (e : FaultEvent) : (s.recordFault e).freeCtr = s.freeCtr := by unfold State.recordFault; dsimp only; (repeat' split) <;> simp
@[simp] theorem State.recordFault_pending (s : State) (e : FaultEvent) : (s.recordFault e).pending = s.pending := by unfold State.recordFault; dsimp only; (repeat' split) <;> simp

/-! ### faultEvent -/

@[simp] theorem State.faultEvent_aon (s : State) (e : FaultEvent) : (s.faultEvent e).aon = s.aon := by unfold State.faultEvent; dsimp only; split <;> simp
@[simp] theorem State.faultEvent_pwr (s : State) (e : FaultEvent) : (s.faultEvent e).pwr = s.pwr := by unfold State.faultEvent; dsimp only; split <;> simp
@[simp] theorem State.faultEvent_tables (s : State) (e : FaultEvent) : (s.faultEvent e).tables = s.tables := by unfold State.faultEvent; dsimp only; split <;> simp
@[simp] theorem State.faultEvent_flash (s : State) (e : FaultEvent) : (s.faultEvent e).flash = s.flash := by unfold State.faultEvent; dsimp only; split <;> simp
@[simp] theorem State.faultEvent_snap (s : State) (e : FaultEvent) : (s.faultEvent e).snap = s.snap := by unfold State.faultEvent; dsimp only; split <;> simp
@[simp] theorem State.faultEvent_effGz (s : State) (e : FaultEvent) : (s.faultEvent e).effGz = s.effGz := by unfold State.faultEvent; dsimp only; split <;> simp
@[simp] theorem State.faultEvent_seq (s : State) (e : FaultEvent) : (s.faultEvent e).seq = s.seq := by unfold State.faultEvent; dsimp only; split <;> simp
@[simp] theorem State.faultEvent_rowDone (s : State) (e : FaultEvent) : (s.faultEvent e).rowDone = s.rowDone := by unfold State.faultEvent; dsimp only; split <;> simp
@[simp] theorem State.faultEvent_rowHeld (s : State) (e : FaultEvent) : (s.faultEvent e).rowHeld = s.rowHeld := by unfold State.faultEvent; dsimp only; split <;> simp
@[simp] theorem State.faultEvent_sync (s : State) (e : FaultEvent) : (s.faultEvent e).sync = s.sync := by unfold State.faultEvent; dsimp only; split <;> simp
@[simp] theorem State.faultEvent_drive (s : State) (e : FaultEvent) : (s.faultEvent e).drive = s.drive := by unfold State.faultEvent; dsimp only; split <;> simp
@[simp] theorem State.faultEvent_filt (s : State) (e : FaultEvent) : (s.faultEvent e).filt = s.filt := by unfold State.faultEvent; dsimp only; split <;> simp
@[simp] theorem State.faultEvent_lanes (s : State) (e : FaultEvent) : (s.faultEvent e).lanes = s.lanes := by unfold State.faultEvent; dsimp only; split <;> simp
@[simp] theorem State.faultEvent_dets (s : State) (e : FaultEvent) : (s.faultEvent e).dets = s.dets := by unfold State.faultEvent; dsimp only; split <;> simp
@[simp] theorem State.faultEvent_reserve (s : State) (e : FaultEvent) : (s.faultEvent e).reserve = s.reserve := by unfold State.faultEvent; dsimp only; split <;> simp
@[simp] theorem State.faultEvent_cal (s : State) (e : FaultEvent) : (s.faultEvent e).cal = s.cal := by unfold State.faultEvent; dsimp only; split <;> simp
@[simp] theorem State.faultEvent_cald (s : State) (e : FaultEvent) : (s.faultEvent e).cald = s.cald := by unfold State.faultEvent; dsimp only; split <;> simp
@[simp] theorem State.faultEvent_pace (s : State) (e : FaultEvent) : (s.faultEvent e).pace = s.pace := by unfold State.faultEvent; dsimp only; split <;> simp
@[simp] theorem State.faultEvent_sched (s : State) (e : FaultEvent) : (s.faultEvent e).sched = s.sched := by unfold State.faultEvent; dsimp only; split <;> simp
@[simp] theorem State.faultEvent_ring (s : State) (e : FaultEvent) : (s.faultEvent e).ring = s.ring := by unfold State.faultEvent; dsimp only; split <;> simp
@[simp] theorem State.faultEvent_port (s : State) (e : FaultEvent) : (s.faultEvent e).port = s.port := by unfold State.faultEvent; dsimp only; split <;> simp
@[simp] theorem State.faultEvent_nvm (s : State) (e : FaultEvent) : (s.faultEvent e).nvm = s.nvm := by unfold State.faultEvent; dsimp only; split <;> simp
@[simp] theorem State.faultEvent_sec (s : State) (e : FaultEvent) : (s.faultEvent e).sec = s.sec := by unfold State.faultEvent; dsimp only; split <;> simp
@[simp] theorem State.faultEvent_geyser (s : State) (e : FaultEvent) : (s.faultEvent e).geyser = s.geyser := by unfold State.faultEvent; dsimp only; split <;> simp
@[simp] theorem State.faultEvent_lib (s : State) (e : FaultEvent) : (s.faultEvent e).lib = s.lib := by unfold State.faultEvent; dsimp only; split <;> simp
@[simp] theorem State.faultEvent_freeCtr (s : State) (e : FaultEvent) : (s.faultEvent e).freeCtr = s.freeCtr := by unfold State.faultEvent; dsimp only; split <;> simp
@[simp] theorem State.faultEvent_pending (s : State) (e : FaultEvent) : (s.faultEvent e).pending = s.pending := by unfold State.faultEvent; dsimp only; split <;> simp

/-! ### mainFault -/

@[simp] theorem State.mainFault_aon (s : State) (f k o e : Nat) (d u : Word) : (s.mainFault f k o e d u).aon = s.aon := by simp [State.mainFault]
@[simp] theorem State.mainFault_pwr (s : State) (f k o e : Nat) (d u : Word) : (s.mainFault f k o e d u).pwr = s.pwr := by simp [State.mainFault]
@[simp] theorem State.mainFault_tables (s : State) (f k o e : Nat) (d u : Word) : (s.mainFault f k o e d u).tables = s.tables := by simp [State.mainFault]
@[simp] theorem State.mainFault_flash (s : State) (f k o e : Nat) (d u : Word) : (s.mainFault f k o e d u).flash = s.flash := by simp [State.mainFault]
@[simp] theorem State.mainFault_snap (s : State) (f k o e : Nat) (d u : Word) : (s.mainFault f k o e d u).snap = s.snap := by simp [State.mainFault]
@[simp] theorem State.mainFault_effGz (s : State) (f k o e : Nat) (d u : Word) : (s.mainFault f k o e d u).effGz = s.effGz := by simp [State.mainFault]
@[simp] theorem State.mainFault_seq (s : State) (f k o e : Nat) (d u : Word) : (s.mainFault f k o e d u).seq = s.seq := by simp [State.mainFault]
@[simp] theorem State.mainFault_rowDone (s : State) (f k o e : Nat) (d u : Word) : (s.mainFault f k o e d u).rowDone = s.rowDone := by simp [State.mainFault]
@[simp] theorem State.mainFault_rowHeld (s : State) (f k o e : Nat) (d u : Word) : (s.mainFault f k o e d u).rowHeld = s.rowHeld := by simp [State.mainFault]
@[simp] theorem State.mainFault_sync (s : State) (f k o e : Nat) (d u : Word) : (s.mainFault f k o e d u).sync = s.sync := by simp [State.mainFault]
@[simp] theorem State.mainFault_drive (s : State) (f k o e : Nat) (d u : Word) : (s.mainFault f k o e d u).drive = s.drive := by simp [State.mainFault]
@[simp] theorem State.mainFault_filt (s : State) (f k o e : Nat) (d u : Word) : (s.mainFault f k o e d u).filt = s.filt := by simp [State.mainFault]
@[simp] theorem State.mainFault_lanes (s : State) (f k o e : Nat) (d u : Word) : (s.mainFault f k o e d u).lanes = s.lanes := by simp [State.mainFault]
@[simp] theorem State.mainFault_dets (s : State) (f k o e : Nat) (d u : Word) : (s.mainFault f k o e d u).dets = s.dets := by simp [State.mainFault]
@[simp] theorem State.mainFault_reserve (s : State) (f k o e : Nat) (d u : Word) : (s.mainFault f k o e d u).reserve = s.reserve := by simp [State.mainFault]
@[simp] theorem State.mainFault_cal (s : State) (f k o e : Nat) (d u : Word) : (s.mainFault f k o e d u).cal = s.cal := by simp [State.mainFault]
@[simp] theorem State.mainFault_cald (s : State) (f k o e : Nat) (d u : Word) : (s.mainFault f k o e d u).cald = s.cald := by simp [State.mainFault]
@[simp] theorem State.mainFault_pace (s : State) (f k o e : Nat) (d u : Word) : (s.mainFault f k o e d u).pace = s.pace := by simp [State.mainFault]
@[simp] theorem State.mainFault_sched (s : State) (f k o e : Nat) (d u : Word) : (s.mainFault f k o e d u).sched = s.sched := by simp [State.mainFault]
@[simp] theorem State.mainFault_ring (s : State) (f k o e : Nat) (d u : Word) : (s.mainFault f k o e d u).ring = s.ring := by simp [State.mainFault]
@[simp] theorem State.mainFault_port (s : State) (f k o e : Nat) (d u : Word) : (s.mainFault f k o e d u).port = s.port := by simp [State.mainFault]
@[simp] theorem State.mainFault_nvm (s : State) (f k o e : Nat) (d u : Word) : (s.mainFault f k o e d u).nvm = s.nvm := by simp [State.mainFault]
@[simp] theorem State.mainFault_sec (s : State) (f k o e : Nat) (d u : Word) : (s.mainFault f k o e d u).sec = s.sec := by simp [State.mainFault]
@[simp] theorem State.mainFault_geyser (s : State) (f k o e : Nat) (d u : Word) : (s.mainFault f k o e d u).geyser = s.geyser := by simp [State.mainFault]
@[simp] theorem State.mainFault_lib (s : State) (f k o e : Nat) (d u : Word) : (s.mainFault f k o e d u).lib = s.lib := by simp [State.mainFault]
@[simp] theorem State.mainFault_freeCtr (s : State) (f k o e : Nat) (d u : Word) : (s.mainFault f k o e d u).freeCtr = s.freeCtr := by simp [State.mainFault]
@[simp] theorem State.mainFault_pending (s : State) (f k o e : Nat) (d u : Word) : (s.mainFault f k o e d u).pending = s.pending := by simp [State.mainFault]

/-! ### aonFault -/

@[simp] theorem State.aonFault_aon (s : State) (f e : Nat) (d : Word) (o : Nat) : (s.aonFault f e d o).aon = s.aon := by simp [State.aonFault]
@[simp] theorem State.aonFault_pwr (s : State) (f e : Nat) (d : Word) (o : Nat) : (s.aonFault f e d o).pwr = s.pwr := by simp [State.aonFault]
@[simp] theorem State.aonFault_tables (s : State) (f e : Nat) (d : Word) (o : Nat) : (s.aonFault f e d o).tables = s.tables := by simp [State.aonFault]
@[simp] theorem State.aonFault_flash (s : State) (f e : Nat) (d : Word) (o : Nat) : (s.aonFault f e d o).flash = s.flash := by simp [State.aonFault]
@[simp] theorem State.aonFault_snap (s : State) (f e : Nat) (d : Word) (o : Nat) : (s.aonFault f e d o).snap = s.snap := by simp [State.aonFault]
@[simp] theorem State.aonFault_effGz (s : State) (f e : Nat) (d : Word) (o : Nat) : (s.aonFault f e d o).effGz = s.effGz := by simp [State.aonFault]
@[simp] theorem State.aonFault_seq (s : State) (f e : Nat) (d : Word) (o : Nat) : (s.aonFault f e d o).seq = s.seq := by simp [State.aonFault]
@[simp] theorem State.aonFault_rowDone (s : State) (f e : Nat) (d : Word) (o : Nat) : (s.aonFault f e d o).rowDone = s.rowDone := by simp [State.aonFault]
@[simp] theorem State.aonFault_rowHeld (s : State) (f e : Nat) (d : Word) (o : Nat) : (s.aonFault f e d o).rowHeld = s.rowHeld := by simp [State.aonFault]
@[simp] theorem State.aonFault_sync (s : State) (f e : Nat) (d : Word) (o : Nat) : (s.aonFault f e d o).sync = s.sync := by simp [State.aonFault]
@[simp] theorem State.aonFault_drive (s : State) (f e : Nat) (d : Word) (o : Nat) : (s.aonFault f e d o).drive = s.drive := by simp [State.aonFault]
@[simp] theorem State.aonFault_filt (s : State) (f e : Nat) (d : Word) (o : Nat) : (s.aonFault f e d o).filt = s.filt := by simp [State.aonFault]
@[simp] theorem State.aonFault_lanes (s : State) (f e : Nat) (d : Word) (o : Nat) : (s.aonFault f e d o).lanes = s.lanes := by simp [State.aonFault]
@[simp] theorem State.aonFault_dets (s : State) (f e : Nat) (d : Word) (o : Nat) : (s.aonFault f e d o).dets = s.dets := by simp [State.aonFault]
@[simp] theorem State.aonFault_reserve (s : State) (f e : Nat) (d : Word) (o : Nat) : (s.aonFault f e d o).reserve = s.reserve := by simp [State.aonFault]
@[simp] theorem State.aonFault_cal (s : State) (f e : Nat) (d : Word) (o : Nat) : (s.aonFault f e d o).cal = s.cal := by simp [State.aonFault]
@[simp] theorem State.aonFault_cald (s : State) (f e : Nat) (d : Word) (o : Nat) : (s.aonFault f e d o).cald = s.cald := by simp [State.aonFault]
@[simp] theorem State.aonFault_pace (s : State) (f e : Nat) (d : Word) (o : Nat) : (s.aonFault f e d o).pace = s.pace := by simp [State.aonFault]
@[simp] theorem State.aonFault_sched (s : State) (f e : Nat) (d : Word) (o : Nat) : (s.aonFault f e d o).sched = s.sched := by simp [State.aonFault]
@[simp] theorem State.aonFault_ring (s : State) (f e : Nat) (d : Word) (o : Nat) : (s.aonFault f e d o).ring = s.ring := by simp [State.aonFault]
@[simp] theorem State.aonFault_port (s : State) (f e : Nat) (d : Word) (o : Nat) : (s.aonFault f e d o).port = s.port := by simp [State.aonFault]
@[simp] theorem State.aonFault_nvm (s : State) (f e : Nat) (d : Word) (o : Nat) : (s.aonFault f e d o).nvm = s.nvm := by simp [State.aonFault]
@[simp] theorem State.aonFault_sec (s : State) (f e : Nat) (d : Word) (o : Nat) : (s.aonFault f e d o).sec = s.sec := by simp [State.aonFault]
@[simp] theorem State.aonFault_geyser (s : State) (f e : Nat) (d : Word) (o : Nat) : (s.aonFault f e d o).geyser = s.geyser := by simp [State.aonFault]
@[simp] theorem State.aonFault_lib (s : State) (f e : Nat) (d : Word) (o : Nat) : (s.aonFault f e d o).lib = s.lib := by simp [State.aonFault]
@[simp] theorem State.aonFault_freeCtr (s : State) (f e : Nat) (d : Word) (o : Nat) : (s.aonFault f e d o).freeCtr = s.freeCtr := by simp [State.aonFault]
@[simp] theorem State.aonFault_pending (s : State) (f e : Nat) (d : Word) (o : Nat) : (s.aonFault f e d o).pending = s.pending := by simp [State.aonFault]

/-! ### readErr -/

@[simp] theorem State.readErr_aon (s : State) (m : MemId) (a : Nat) : ((s.readErr m a).2).aon = s.aon := by unfold State.readErr; split <;> [rfl; (split <;> [rfl; (split <;> simp)])]
@[simp] theorem State.readErr_pwr (s : State) (m : MemId) (a : Nat) : ((s.readErr m a).2).pwr = s.pwr := by unfold State.readErr; split <;> [rfl; (split <;> [rfl; (split <;> simp)])]
@[simp] theorem State.readErr_tables (s : State) (m : MemId) (a : Nat) : ((s.readErr m a).2).tables = s.tables := by unfold State.readErr; split <;> [rfl; (split <;> [rfl; (split <;> simp)])]
@[simp] theorem State.readErr_flash (s : State) (m : MemId) (a : Nat) : ((s.readErr m a).2).flash = s.flash := by unfold State.readErr; split <;> [rfl; (split <;> [rfl; (split <;> simp)])]
@[simp] theorem State.readErr_snap (s : State) (m : MemId) (a : Nat) : ((s.readErr m a).2).snap = s.snap := by unfold State.readErr; split <;> [rfl; (split <;> [rfl; (split <;> simp)])]
@[simp] theorem State.readErr_effGz (s : State) (m : MemId) (a : Nat) : ((s.readErr m a).2).effGz = s.effGz := by unfold State.readErr; split <;> [rfl; (split <;> [rfl; (split <;> simp)])]
@[simp] theorem State.readErr_seq (s : State) (m : MemId) (a : Nat) : ((s.readErr m a).2).seq = s.seq := by unfold State.readErr; split <;> [rfl; (split <;> [rfl; (split <;> simp)])]
@[simp] theorem State.readErr_rowDone (s : State) (m : MemId) (a : Nat) : ((s.readErr m a).2).rowDone = s.rowDone := by unfold State.readErr; split <;> [rfl; (split <;> [rfl; (split <;> simp)])]
@[simp] theorem State.readErr_rowHeld (s : State) (m : MemId) (a : Nat) : ((s.readErr m a).2).rowHeld = s.rowHeld := by unfold State.readErr; split <;> [rfl; (split <;> [rfl; (split <;> simp)])]
@[simp] theorem State.readErr_sync (s : State) (m : MemId) (a : Nat) : ((s.readErr m a).2).sync = s.sync := by unfold State.readErr; split <;> [rfl; (split <;> [rfl; (split <;> simp)])]
@[simp] theorem State.readErr_drive (s : State) (m : MemId) (a : Nat) : ((s.readErr m a).2).drive = s.drive := by unfold State.readErr; split <;> [rfl; (split <;> [rfl; (split <;> simp)])]
@[simp] theorem State.readErr_filt (s : State) (m : MemId) (a : Nat) : ((s.readErr m a).2).filt = s.filt := by unfold State.readErr; split <;> [rfl; (split <;> [rfl; (split <;> simp)])]
@[simp] theorem State.readErr_lanes (s : State) (m : MemId) (a : Nat) : ((s.readErr m a).2).lanes = s.lanes := by unfold State.readErr; split <;> [rfl; (split <;> [rfl; (split <;> simp)])]
@[simp] theorem State.readErr_dets (s : State) (m : MemId) (a : Nat) : ((s.readErr m a).2).dets = s.dets := by unfold State.readErr; split <;> [rfl; (split <;> [rfl; (split <;> simp)])]
@[simp] theorem State.readErr_reserve (s : State) (m : MemId) (a : Nat) : ((s.readErr m a).2).reserve = s.reserve := by unfold State.readErr; split <;> [rfl; (split <;> [rfl; (split <;> simp)])]
@[simp] theorem State.readErr_cal (s : State) (m : MemId) (a : Nat) : ((s.readErr m a).2).cal = s.cal := by unfold State.readErr; split <;> [rfl; (split <;> [rfl; (split <;> simp)])]
@[simp] theorem State.readErr_cald (s : State) (m : MemId) (a : Nat) : ((s.readErr m a).2).cald = s.cald := by unfold State.readErr; split <;> [rfl; (split <;> [rfl; (split <;> simp)])]
@[simp] theorem State.readErr_pace (s : State) (m : MemId) (a : Nat) : ((s.readErr m a).2).pace = s.pace := by unfold State.readErr; split <;> [rfl; (split <;> [rfl; (split <;> simp)])]
@[simp] theorem State.readErr_sched (s : State) (m : MemId) (a : Nat) : ((s.readErr m a).2).sched = s.sched := by unfold State.readErr; split <;> [rfl; (split <;> [rfl; (split <;> simp)])]
@[simp] theorem State.readErr_ring (s : State) (m : MemId) (a : Nat) : ((s.readErr m a).2).ring = s.ring := by unfold State.readErr; split <;> [rfl; (split <;> [rfl; (split <;> simp)])]
@[simp] theorem State.readErr_port (s : State) (m : MemId) (a : Nat) : ((s.readErr m a).2).port = s.port := by unfold State.readErr; split <;> [rfl; (split <;> [rfl; (split <;> simp)])]
@[simp] theorem State.readErr_nvm (s : State) (m : MemId) (a : Nat) : ((s.readErr m a).2).nvm = s.nvm := by unfold State.readErr; split <;> [rfl; (split <;> [rfl; (split <;> simp)])]
@[simp] theorem State.readErr_sec (s : State) (m : MemId) (a : Nat) : ((s.readErr m a).2).sec = s.sec := by unfold State.readErr; split <;> [rfl; (split <;> [rfl; (split <;> simp)])]
@[simp] theorem State.readErr_geyser (s : State) (m : MemId) (a : Nat) : ((s.readErr m a).2).geyser = s.geyser := by unfold State.readErr; split <;> [rfl; (split <;> [rfl; (split <;> simp)])]
@[simp] theorem State.readErr_lib (s : State) (m : MemId) (a : Nat) : ((s.readErr m a).2).lib = s.lib := by unfold State.readErr; split <;> [rfl; (split <;> [rfl; (split <;> simp)])]
@[simp] theorem State.readErr_freeCtr (s : State) (m : MemId) (a : Nat) : ((s.readErr m a).2).freeCtr = s.freeCtr := by unfold State.readErr; split <;> [rfl; (split <;> [rfl; (split <;> simp)])]
@[simp] theorem State.readErr_pending (s : State) (m : MemId) (a : Nat) : ((s.readErr m a).2).pending = s.pending := by unfold State.readErr; split <;> [rfl; (split <;> [rfl; (split <;> simp)])]

/-! ### cellRead -/

@[simp] theorem State.cellRead_aon (s : State) (m : MemId) (a : Nat) : ((s.cellRead m a).2).aon = s.aon := by unfold State.cellRead; dsimp only; split <;> simp
@[simp] theorem State.cellRead_pwr (s : State) (m : MemId) (a : Nat) : ((s.cellRead m a).2).pwr = s.pwr := by unfold State.cellRead; dsimp only; split <;> simp
@[simp] theorem State.cellRead_tables (s : State) (m : MemId) (a : Nat) : ((s.cellRead m a).2).tables = s.tables := by unfold State.cellRead; dsimp only; split <;> simp
@[simp] theorem State.cellRead_flash (s : State) (m : MemId) (a : Nat) : ((s.cellRead m a).2).flash = s.flash := by unfold State.cellRead; dsimp only; split <;> simp
@[simp] theorem State.cellRead_snap (s : State) (m : MemId) (a : Nat) : ((s.cellRead m a).2).snap = s.snap := by unfold State.cellRead; dsimp only; split <;> simp
@[simp] theorem State.cellRead_effGz (s : State) (m : MemId) (a : Nat) : ((s.cellRead m a).2).effGz = s.effGz := by unfold State.cellRead; dsimp only; split <;> simp
@[simp] theorem State.cellRead_seq (s : State) (m : MemId) (a : Nat) : ((s.cellRead m a).2).seq = s.seq := by unfold State.cellRead; dsimp only; split <;> simp
@[simp] theorem State.cellRead_rowDone (s : State) (m : MemId) (a : Nat) : ((s.cellRead m a).2).rowDone = s.rowDone := by unfold State.cellRead; dsimp only; split <;> simp
@[simp] theorem State.cellRead_rowHeld (s : State) (m : MemId) (a : Nat) : ((s.cellRead m a).2).rowHeld = s.rowHeld := by unfold State.cellRead; dsimp only; split <;> simp
@[simp] theorem State.cellRead_sync (s : State) (m : MemId) (a : Nat) : ((s.cellRead m a).2).sync = s.sync := by unfold State.cellRead; dsimp only; split <;> simp
@[simp] theorem State.cellRead_drive (s : State) (m : MemId) (a : Nat) : ((s.cellRead m a).2).drive = s.drive := by unfold State.cellRead; dsimp only; split <;> simp
@[simp] theorem State.cellRead_filt (s : State) (m : MemId) (a : Nat) : ((s.cellRead m a).2).filt = s.filt := by unfold State.cellRead; dsimp only; split <;> simp
@[simp] theorem State.cellRead_lanes (s : State) (m : MemId) (a : Nat) : ((s.cellRead m a).2).lanes = s.lanes := by unfold State.cellRead; dsimp only; split <;> simp
@[simp] theorem State.cellRead_dets (s : State) (m : MemId) (a : Nat) : ((s.cellRead m a).2).dets = s.dets := by unfold State.cellRead; dsimp only; split <;> simp
@[simp] theorem State.cellRead_reserve (s : State) (m : MemId) (a : Nat) : ((s.cellRead m a).2).reserve = s.reserve := by unfold State.cellRead; dsimp only; split <;> simp
@[simp] theorem State.cellRead_cal (s : State) (m : MemId) (a : Nat) : ((s.cellRead m a).2).cal = s.cal := by unfold State.cellRead; dsimp only; split <;> simp
@[simp] theorem State.cellRead_pace (s : State) (m : MemId) (a : Nat) : ((s.cellRead m a).2).pace = s.pace := by unfold State.cellRead; dsimp only; split <;> simp
@[simp] theorem State.cellRead_sched (s : State) (m : MemId) (a : Nat) : ((s.cellRead m a).2).sched = s.sched := by unfold State.cellRead; dsimp only; split <;> simp
@[simp] theorem State.cellRead_ring (s : State) (m : MemId) (a : Nat) : ((s.cellRead m a).2).ring = s.ring := by unfold State.cellRead; dsimp only; split <;> simp
@[simp] theorem State.cellRead_port (s : State) (m : MemId) (a : Nat) : ((s.cellRead m a).2).port = s.port := by unfold State.cellRead; dsimp only; split <;> simp
@[simp] theorem State.cellRead_nvm (s : State) (m : MemId) (a : Nat) : ((s.cellRead m a).2).nvm = s.nvm := by unfold State.cellRead; dsimp only; split <;> simp
@[simp] theorem State.cellRead_sec (s : State) (m : MemId) (a : Nat) : ((s.cellRead m a).2).sec = s.sec := by unfold State.cellRead; dsimp only; split <;> simp
@[simp] theorem State.cellRead_geyser (s : State) (m : MemId) (a : Nat) : ((s.cellRead m a).2).geyser = s.geyser := by unfold State.cellRead; dsimp only; split <;> simp
@[simp] theorem State.cellRead_lib (s : State) (m : MemId) (a : Nat) : ((s.cellRead m a).2).lib = s.lib := by unfold State.cellRead; dsimp only; split <;> simp
@[simp] theorem State.cellRead_freeCtr (s : State) (m : MemId) (a : Nat) : ((s.cellRead m a).2).freeCtr = s.freeCtr := by unfold State.cellRead; dsimp only; split <;> simp
@[simp] theorem State.cellRead_pending (s : State) (m : MemId) (a : Nat) : ((s.cellRead m a).2).pending = s.pending := by unfold State.cellRead; dsimp only; split <;> simp

/-! ### fetchErr -/

@[simp] theorem State.fetchErr_aon (s : State) (c : CellId) : ((s.fetchErr c)).aon = s.aon := by simp [State.fetchErr]
@[simp] theorem State.fetchErr_pwr (s : State) (c : CellId) : ((s.fetchErr c)).pwr = s.pwr := by simp [State.fetchErr]
@[simp] theorem State.fetchErr_tables (s : State) (c : CellId) : ((s.fetchErr c)).tables = s.tables := by simp [State.fetchErr]
@[simp] theorem State.fetchErr_flash (s : State) (c : CellId) : ((s.fetchErr c)).flash = s.flash := by simp [State.fetchErr]
@[simp] theorem State.fetchErr_snap (s : State) (c : CellId) : ((s.fetchErr c)).snap = s.snap := by simp [State.fetchErr]
@[simp] theorem State.fetchErr_effGz (s : State) (c : CellId) : ((s.fetchErr c)).effGz = s.effGz := by simp [State.fetchErr]
@[simp] theorem State.fetchErr_seq (s : State) (c : CellId) : ((s.fetchErr c)).seq = s.seq := by simp [State.fetchErr]
@[simp] theorem State.fetchErr_rowDone (s : State) (c : CellId) : ((s.fetchErr c)).rowDone = s.rowDone := by simp [State.fetchErr]
@[simp] theorem State.fetchErr_rowHeld (s : State) (c : CellId) : ((s.fetchErr c)).rowHeld = s.rowHeld := by simp [State.fetchErr]
@[simp] theorem State.fetchErr_sync (s : State) (c : CellId) : ((s.fetchErr c)).sync = s.sync := by simp [State.fetchErr]
@[simp] theorem State.fetchErr_drive (s : State) (c : CellId) : ((s.fetchErr c)).drive = s.drive := by simp [State.fetchErr]
@[simp] theorem State.fetchErr_filt (s : State) (c : CellId) : ((s.fetchErr c)).filt = s.filt := by simp [State.fetchErr]
@[simp] theorem State.fetchErr_lanes (s : State) (c : CellId) : ((s.fetchErr c)).lanes = s.lanes := by simp [State.fetchErr]
@[simp] theorem State.fetchErr_dets (s : State) (c : CellId) : ((s.fetchErr c)).dets = s.dets := by simp [State.fetchErr]
@[simp] theorem State.fetchErr_reserve (s : State) (c : CellId) : ((s.fetchErr c)).reserve = s.reserve := by simp [State.fetchErr]
@[simp] theorem State.fetchErr_cal (s : State) (c : CellId) : ((s.fetchErr c)).cal = s.cal := by simp [State.fetchErr]
@[simp] theorem State.fetchErr_pace (s : State) (c : CellId) : ((s.fetchErr c)).pace = s.pace := by simp [State.fetchErr]
@[simp] theorem State.fetchErr_sched (s : State) (c : CellId) : ((s.fetchErr c)).sched = s.sched := by simp [State.fetchErr]
@[simp] theorem State.fetchErr_ring (s : State) (c : CellId) : ((s.fetchErr c)).ring = s.ring := by simp [State.fetchErr]
@[simp] theorem State.fetchErr_port (s : State) (c : CellId) : ((s.fetchErr c)).port = s.port := by simp [State.fetchErr]
@[simp] theorem State.fetchErr_nvm (s : State) (c : CellId) : ((s.fetchErr c)).nvm = s.nvm := by simp [State.fetchErr]
@[simp] theorem State.fetchErr_sec (s : State) (c : CellId) : ((s.fetchErr c)).sec = s.sec := by simp [State.fetchErr]
@[simp] theorem State.fetchErr_geyser (s : State) (c : CellId) : ((s.fetchErr c)).geyser = s.geyser := by simp [State.fetchErr]
@[simp] theorem State.fetchErr_lib (s : State) (c : CellId) : ((s.fetchErr c)).lib = s.lib := by simp [State.fetchErr]
@[simp] theorem State.fetchErr_freeCtr (s : State) (c : CellId) : ((s.fetchErr c)).freeCtr = s.freeCtr := by simp [State.fetchErr]
@[simp] theorem State.fetchErr_pending (s : State) (c : CellId) : ((s.fetchErr c)).pending = s.pending := by simp [State.fetchErr]

/-! ### loadData -/

@[simp] theorem State.loadData_aon (s : State) (c : CellId) (a : Nat) : ((s.loadData c a).2).aon = s.aon := by simp [State.loadData]
@[simp] theorem State.loadData_pwr (s : State) (c : CellId) (a : Nat) : ((s.loadData c a).2).pwr = s.pwr := by simp [State.loadData]
@[simp] theorem State.loadData_tables (s : State) (c : CellId) (a : Nat) : ((s.loadData c a).2).tables = s.tables := by simp [State.loadData]
@[simp] theorem State.loadData_flash (s : State) (c : CellId) (a : Nat) : ((s.loadData c a).2).flash = s.flash := by simp [State.loadData]
@[simp] theorem State.loadData_snap (s : State) (c : CellId) (a : Nat) : ((s.loadData c a).2).snap = s.snap := by simp [State.loadData]
@[simp] theorem State.loadData_effGz (s : State) (c : CellId) (a : Nat) : ((s.loadData c a).2).effGz = s.effGz := by simp [State.loadData]
@[simp] theorem State.loadData_seq (s : State) (c : CellId) (a : Nat) : ((s.loadData c a).2).seq = s.seq := by simp [State.loadData]
@[simp] theorem State.loadData_rowDone (s : State) (c : CellId) (a : Nat) : ((s.loadData c a).2).rowDone = s.rowDone := by simp [State.loadData]
@[simp] theorem State.loadData_rowHeld (s : State) (c : CellId) (a : Nat) : ((s.loadData c a).2).rowHeld = s.rowHeld := by simp [State.loadData]
@[simp] theorem State.loadData_sync (s : State) (c : CellId) (a : Nat) : ((s.loadData c a).2).sync = s.sync := by simp [State.loadData]
@[simp] theorem State.loadData_drive (s : State) (c : CellId) (a : Nat) : ((s.loadData c a).2).drive = s.drive := by simp [State.loadData]
@[simp] theorem State.loadData_filt (s : State) (c : CellId) (a : Nat) : ((s.loadData c a).2).filt = s.filt := by simp [State.loadData]
@[simp] theorem State.loadData_lanes (s : State) (c : CellId) (a : Nat) : ((s.loadData c a).2).lanes = s.lanes := by simp [State.loadData]
@[simp] theorem State.loadData_dets (s : State) (c : CellId) (a : Nat) : ((s.loadData c a).2).dets = s.dets := by simp [State.loadData]
@[simp] theorem State.loadData_reserve (s : State) (c : CellId) (a : Nat) : ((s.loadData c a).2).reserve = s.reserve := by simp [State.loadData]
@[simp] theorem State.loadData_cal (s : State) (c : CellId) (a : Nat) : ((s.loadData c a).2).cal = s.cal := by simp [State.loadData]
@[simp] theorem State.loadData_pace (s : State) (c : CellId) (a : Nat) : ((s.loadData c a).2).pace = s.pace := by simp [State.loadData]
@[simp] theorem State.loadData_sched (s : State) (c : CellId) (a : Nat) : ((s.loadData c a).2).sched = s.sched := by simp [State.loadData]
@[simp] theorem State.loadData_ring (s : State) (c : CellId) (a : Nat) : ((s.loadData c a).2).ring = s.ring := by simp [State.loadData]
@[simp] theorem State.loadData_port (s : State) (c : CellId) (a : Nat) : ((s.loadData c a).2).port = s.port := by simp [State.loadData]
@[simp] theorem State.loadData_nvm (s : State) (c : CellId) (a : Nat) : ((s.loadData c a).2).nvm = s.nvm := by simp [State.loadData]
@[simp] theorem State.loadData_sec (s : State) (c : CellId) (a : Nat) : ((s.loadData c a).2).sec = s.sec := by simp [State.loadData]
@[simp] theorem State.loadData_geyser (s : State) (c : CellId) (a : Nat) : ((s.loadData c a).2).geyser = s.geyser := by simp [State.loadData]
@[simp] theorem State.loadData_lib (s : State) (c : CellId) (a : Nat) : ((s.loadData c a).2).lib = s.lib := by simp [State.loadData]
@[simp] theorem State.loadData_freeCtr (s : State) (c : CellId) (a : Nat) : ((s.loadData c a).2).freeCtr = s.freeCtr := by simp [State.loadData]
@[simp] theorem State.loadData_pending (s : State) (c : CellId) (a : Nat) : ((s.loadData c a).2).pending = s.pending := by simp [State.loadData]

/-! ### cellTransients -/

@[simp] theorem State.cellTransients_aon (s : State) (p : PhysId) (f : Bool) : (s.cellTransients p f).aon = s.aon := rfl
@[simp] theorem State.cellTransients_pwr (s : State) (p : PhysId) (f : Bool) : (s.cellTransients p f).pwr = s.pwr := rfl
@[simp] theorem State.cellTransients_regs (s : State) (p : PhysId) (f : Bool) : (s.cellTransients p f).regs = s.regs := rfl
@[simp] theorem State.cellTransients_tables (s : State) (p : PhysId) (f : Bool) : (s.cellTransients p f).tables = s.tables := rfl
@[simp] theorem State.cellTransients_flash (s : State) (p : PhysId) (f : Bool) : (s.cellTransients p f).flash = s.flash := rfl
@[simp] theorem State.cellTransients_snap (s : State) (p : PhysId) (f : Bool) : (s.cellTransients p f).snap = s.snap := rfl
@[simp] theorem State.cellTransients_effGz (s : State) (p : PhysId) (f : Bool) : (s.cellTransients p f).effGz = s.effGz := rfl
@[simp] theorem State.cellTransients_seq (s : State) (p : PhysId) (f : Bool) : (s.cellTransients p f).seq = s.seq := rfl
@[simp] theorem State.cellTransients_rowDone (s : State) (p : PhysId) (f : Bool) : (s.cellTransients p f).rowDone = s.rowDone := rfl
@[simp] theorem State.cellTransients_rowHeld (s : State) (p : PhysId) (f : Bool) : (s.cellTransients p f).rowHeld = s.rowHeld := rfl
@[simp] theorem State.cellTransients_sync (s : State) (p : PhysId) (f : Bool) : (s.cellTransients p f).sync = s.sync := rfl
@[simp] theorem State.cellTransients_drive (s : State) (p : PhysId) (f : Bool) : (s.cellTransients p f).drive = s.drive := rfl
@[simp] theorem State.cellTransients_filt (s : State) (p : PhysId) (f : Bool) : (s.cellTransients p f).filt = s.filt := rfl
@[simp] theorem State.cellTransients_lanes (s : State) (p : PhysId) (f : Bool) : (s.cellTransients p f).lanes = s.lanes := rfl
@[simp] theorem State.cellTransients_dets (s : State) (p : PhysId) (f : Bool) : (s.cellTransients p f).dets = s.dets := rfl
@[simp] theorem State.cellTransients_reserve (s : State) (p : PhysId) (f : Bool) : (s.cellTransients p f).reserve = s.reserve := rfl
@[simp] theorem State.cellTransients_cal (s : State) (p : PhysId) (f : Bool) : (s.cellTransients p f).cal = s.cal := rfl
@[simp] theorem State.cellTransients_cald (s : State) (p : PhysId) (f : Bool) : (s.cellTransients p f).cald = s.cald := rfl
@[simp] theorem State.cellTransients_pace (s : State) (p : PhysId) (f : Bool) : (s.cellTransients p f).pace = s.pace := rfl
@[simp] theorem State.cellTransients_sched (s : State) (p : PhysId) (f : Bool) : (s.cellTransients p f).sched = s.sched := rfl
@[simp] theorem State.cellTransients_queue (s : State) (p : PhysId) (f : Bool) : (s.cellTransients p f).queue = s.queue := rfl
@[simp] theorem State.cellTransients_ring (s : State) (p : PhysId) (f : Bool) : (s.cellTransients p f).ring = s.ring := rfl
@[simp] theorem State.cellTransients_port (s : State) (p : PhysId) (f : Bool) : (s.cellTransients p f).port = s.port := rfl
@[simp] theorem State.cellTransients_nvm (s : State) (p : PhysId) (f : Bool) : (s.cellTransients p f).nvm = s.nvm := rfl
@[simp] theorem State.cellTransients_sec (s : State) (p : PhysId) (f : Bool) : (s.cellTransients p f).sec = s.sec := rfl
@[simp] theorem State.cellTransients_geyser (s : State) (p : PhysId) (f : Bool) : (s.cellTransients p f).geyser = s.geyser := rfl
@[simp] theorem State.cellTransients_lib (s : State) (p : PhysId) (f : Bool) : (s.cellTransients p f).lib = s.lib := rfl
@[simp] theorem State.cellTransients_freeCtr (s : State) (p : PhysId) (f : Bool) : (s.cellTransients p f).freeCtr = s.freeCtr := rfl
@[simp] theorem State.cellTransients_pending (s : State) (p : PhysId) (f : Bool) : (s.cellTransients p f).pending = s.pending := rfl

/-! ### mismatch -/

@[simp] theorem State.mismatch_aon (s : State) (c : CellId) : (s.mismatch c).aon = s.aon := by simp [State.mismatch]
@[simp] theorem State.mismatch_pwr (s : State) (c : CellId) : (s.mismatch c).pwr = s.pwr := by simp [State.mismatch]
@[simp] theorem State.mismatch_tables (s : State) (c : CellId) : (s.mismatch c).tables = s.tables := by simp [State.mismatch]
@[simp] theorem State.mismatch_flash (s : State) (c : CellId) : (s.mismatch c).flash = s.flash := by simp [State.mismatch]
@[simp] theorem State.mismatch_snap (s : State) (c : CellId) : (s.mismatch c).snap = s.snap := by simp [State.mismatch]
@[simp] theorem State.mismatch_effGz (s : State) (c : CellId) : (s.mismatch c).effGz = s.effGz := by simp [State.mismatch]
@[simp] theorem State.mismatch_seq (s : State) (c : CellId) : (s.mismatch c).seq = s.seq := by simp [State.mismatch]
@[simp] theorem State.mismatch_rowDone (s : State) (c : CellId) : (s.mismatch c).rowDone = s.rowDone := by simp [State.mismatch]
@[simp] theorem State.mismatch_rowHeld (s : State) (c : CellId) : (s.mismatch c).rowHeld = s.rowHeld := by simp [State.mismatch]
@[simp] theorem State.mismatch_sync (s : State) (c : CellId) : (s.mismatch c).sync = s.sync := by simp [State.mismatch]
@[simp] theorem State.mismatch_drive (s : State) (c : CellId) : (s.mismatch c).drive = s.drive := by simp [State.mismatch]
@[simp] theorem State.mismatch_filt (s : State) (c : CellId) : (s.mismatch c).filt = s.filt := by simp [State.mismatch]
@[simp] theorem State.mismatch_lanes (s : State) (c : CellId) : (s.mismatch c).lanes = s.lanes := by simp [State.mismatch]
@[simp] theorem State.mismatch_dets (s : State) (c : CellId) : (s.mismatch c).dets = s.dets := by simp [State.mismatch]
@[simp] theorem State.mismatch_reserve (s : State) (c : CellId) : (s.mismatch c).reserve = s.reserve := by simp [State.mismatch]
@[simp] theorem State.mismatch_cal (s : State) (c : CellId) : (s.mismatch c).cal = s.cal := by simp [State.mismatch]
@[simp] theorem State.mismatch_pace (s : State) (c : CellId) : (s.mismatch c).pace = s.pace := by simp [State.mismatch]
@[simp] theorem State.mismatch_sched (s : State) (c : CellId) : (s.mismatch c).sched = s.sched := by simp [State.mismatch]
@[simp] theorem State.mismatch_queue (s : State) (c : CellId) : (s.mismatch c).queue = s.queue := by simp [State.mismatch]
@[simp] theorem State.mismatch_ring (s : State) (c : CellId) : (s.mismatch c).ring = s.ring := by simp [State.mismatch]
@[simp] theorem State.mismatch_port (s : State) (c : CellId) : (s.mismatch c).port = s.port := by simp [State.mismatch]
@[simp] theorem State.mismatch_nvm (s : State) (c : CellId) : (s.mismatch c).nvm = s.nvm := by simp [State.mismatch]
@[simp] theorem State.mismatch_sec (s : State) (c : CellId) : (s.mismatch c).sec = s.sec := by simp [State.mismatch]
@[simp] theorem State.mismatch_geyser (s : State) (c : CellId) : (s.mismatch c).geyser = s.geyser := by simp [State.mismatch]
@[simp] theorem State.mismatch_fmon (s : State) (c : CellId) : (s.mismatch c).fmon = s.fmon := by simp [State.mismatch]
@[simp] theorem State.mismatch_lib (s : State) (c : CellId) : (s.mismatch c).lib = s.lib := by simp [State.mismatch]
@[simp] theorem State.mismatch_freeCtr (s : State) (c : CellId) : (s.mismatch c).freeCtr = s.freeCtr := by simp [State.mismatch]
@[simp] theorem State.mismatch_pending (s : State) (c : CellId) : (s.mismatch c).pending = s.pending := by simp [State.mismatch]

/-! ### spareLags -/

@[simp] theorem State.spareLags_aon (s : State) (c : CellId) (t : Token) : (s.spareLags c t).aon = s.aon := by unfold State.spareLags; dsimp only; split <;> simp
@[simp] theorem State.spareLags_pwr (s : State) (c : CellId) (t : Token) : (s.spareLags c t).pwr = s.pwr := by unfold State.spareLags; dsimp only; split <;> simp
@[simp] theorem State.spareLags_tables (s : State) (c : CellId) (t : Token) : (s.spareLags c t).tables = s.tables := by unfold State.spareLags; dsimp only; split <;> simp
@[simp] theorem State.spareLags_flash (s : State) (c : CellId) (t : Token) : (s.spareLags c t).flash = s.flash := by unfold State.spareLags; dsimp only; split <;> simp
@[simp] theorem State.spareLags_snap (s : State) (c : CellId) (t : Token) : (s.spareLags c t).snap = s.snap := by unfold State.spareLags; dsimp only; split <;> simp
@[simp] theorem State.spareLags_effGz (s : State) (c : CellId) (t : Token) : (s.spareLags c t).effGz = s.effGz := by unfold State.spareLags; dsimp only; split <;> simp
@[simp] theorem State.spareLags_seq (s : State) (c : CellId) (t : Token) : (s.spareLags c t).seq = s.seq := by unfold State.spareLags; dsimp only; split <;> simp
@[simp] theorem State.spareLags_rowDone (s : State) (c : CellId) (t : Token) : (s.spareLags c t).rowDone = s.rowDone := by unfold State.spareLags; dsimp only; split <;> simp
@[simp] theorem State.spareLags_rowHeld (s : State) (c : CellId) (t : Token) : (s.spareLags c t).rowHeld = s.rowHeld := by unfold State.spareLags; dsimp only; split <;> simp
@[simp] theorem State.spareLags_sync (s : State) (c : CellId) (t : Token) : (s.spareLags c t).sync = s.sync := by unfold State.spareLags; dsimp only; split <;> simp
@[simp] theorem State.spareLags_drive (s : State) (c : CellId) (t : Token) : (s.spareLags c t).drive = s.drive := by unfold State.spareLags; dsimp only; split <;> simp
@[simp] theorem State.spareLags_filt (s : State) (c : CellId) (t : Token) : (s.spareLags c t).filt = s.filt := by unfold State.spareLags; dsimp only; split <;> simp
@[simp] theorem State.spareLags_lanes (s : State) (c : CellId) (t : Token) : (s.spareLags c t).lanes = s.lanes := by unfold State.spareLags; dsimp only; split <;> simp
@[simp] theorem State.spareLags_dets (s : State) (c : CellId) (t : Token) : (s.spareLags c t).dets = s.dets := by unfold State.spareLags; dsimp only; split <;> simp
@[simp] theorem State.spareLags_reserve (s : State) (c : CellId) (t : Token) : (s.spareLags c t).reserve = s.reserve := by unfold State.spareLags; dsimp only; split <;> simp
@[simp] theorem State.spareLags_cal (s : State) (c : CellId) (t : Token) : (s.spareLags c t).cal = s.cal := by unfold State.spareLags; dsimp only; split <;> simp
@[simp] theorem State.spareLags_pace (s : State) (c : CellId) (t : Token) : (s.spareLags c t).pace = s.pace := by unfold State.spareLags; dsimp only; split <;> simp
@[simp] theorem State.spareLags_sched (s : State) (c : CellId) (t : Token) : (s.spareLags c t).sched = s.sched := by unfold State.spareLags; dsimp only; split <;> simp
@[simp] theorem State.spareLags_queue (s : State) (c : CellId) (t : Token) : (s.spareLags c t).queue = s.queue := by unfold State.spareLags; dsimp only; split <;> simp
@[simp] theorem State.spareLags_ring (s : State) (c : CellId) (t : Token) : (s.spareLags c t).ring = s.ring := by unfold State.spareLags; dsimp only; split <;> simp
@[simp] theorem State.spareLags_port (s : State) (c : CellId) (t : Token) : (s.spareLags c t).port = s.port := by unfold State.spareLags; dsimp only; split <;> simp
@[simp] theorem State.spareLags_nvm (s : State) (c : CellId) (t : Token) : (s.spareLags c t).nvm = s.nvm := by unfold State.spareLags; dsimp only; split <;> simp
@[simp] theorem State.spareLags_sec (s : State) (c : CellId) (t : Token) : (s.spareLags c t).sec = s.sec := by unfold State.spareLags; dsimp only; split <;> simp
@[simp] theorem State.spareLags_geyser (s : State) (c : CellId) (t : Token) : (s.spareLags c t).geyser = s.geyser := by unfold State.spareLags; dsimp only; split <;> simp
@[simp] theorem State.spareLags_fmon (s : State) (c : CellId) (t : Token) : (s.spareLags c t).fmon = s.fmon := by unfold State.spareLags; dsimp only; split <;> simp
@[simp] theorem State.spareLags_lib (s : State) (c : CellId) (t : Token) : (s.spareLags c t).lib = s.lib := by unfold State.spareLags; dsimp only; split <;> simp
@[simp] theorem State.spareLags_freeCtr (s : State) (c : CellId) (t : Token) : (s.spareLags c t).freeCtr = s.freeCtr := by unfold State.spareLags; dsimp only; split <;> simp
@[simp] theorem State.spareLags_pending (s : State) (c : CellId) (t : Token) : (s.spareLags c t).pending = s.pending := by unfold State.spareLags; dsimp only; split <;> simp

/-! ### drawBit -/

@[simp] theorem State.drawBit_aon (s : State) : (s.drawBit.2).aon = s.aon := rfl
@[simp] theorem State.drawBit_pwr (s : State) : (s.drawBit.2).pwr = s.pwr := rfl
@[simp] theorem State.drawBit_regs (s : State) : (s.drawBit.2).regs = s.regs := rfl
@[simp] theorem State.drawBit_tables (s : State) : (s.drawBit.2).tables = s.tables := rfl
@[simp] theorem State.drawBit_flash (s : State) : (s.drawBit.2).flash = s.flash := rfl
@[simp] theorem State.drawBit_snap (s : State) : (s.drawBit.2).snap = s.snap := rfl
@[simp] theorem State.drawBit_effGz (s : State) : (s.drawBit.2).effGz = s.effGz := rfl
@[simp] theorem State.drawBit_seq (s : State) : (s.drawBit.2).seq = s.seq := rfl
@[simp] theorem State.drawBit_rowDone (s : State) : (s.drawBit.2).rowDone = s.rowDone := rfl
@[simp] theorem State.drawBit_rowHeld (s : State) : (s.drawBit.2).rowHeld = s.rowHeld := rfl
@[simp] theorem State.drawBit_sync (s : State) : (s.drawBit.2).sync = s.sync := rfl
@[simp] theorem State.drawBit_drive (s : State) : (s.drawBit.2).drive = s.drive := rfl
@[simp] theorem State.drawBit_filt (s : State) : (s.drawBit.2).filt = s.filt := rfl
@[simp] theorem State.drawBit_lanes (s : State) : (s.drawBit.2).lanes = s.lanes := rfl
@[simp] theorem State.drawBit_dets (s : State) : (s.drawBit.2).dets = s.dets := rfl
@[simp] theorem State.drawBit_reserve (s : State) : (s.drawBit.2).reserve = s.reserve := rfl
@[simp] theorem State.drawBit_cal (s : State) : (s.drawBit.2).cal = s.cal := rfl
@[simp] theorem State.drawBit_cald (s : State) : (s.drawBit.2).cald = s.cald := rfl
@[simp] theorem State.drawBit_pace (s : State) : (s.drawBit.2).pace = s.pace := rfl
@[simp] theorem State.drawBit_sched (s : State) : (s.drawBit.2).sched = s.sched := rfl
@[simp] theorem State.drawBit_queue (s : State) : (s.drawBit.2).queue = s.queue := rfl
@[simp] theorem State.drawBit_ring (s : State) : (s.drawBit.2).ring = s.ring := rfl
@[simp] theorem State.drawBit_port (s : State) : (s.drawBit.2).port = s.port := rfl
@[simp] theorem State.drawBit_nvm (s : State) : (s.drawBit.2).nvm = s.nvm := rfl
@[simp] theorem State.drawBit_sec (s : State) : (s.drawBit.2).sec = s.sec := rfl
@[simp] theorem State.drawBit_geyser (s : State) : (s.drawBit.2).geyser = s.geyser := rfl
@[simp] theorem State.drawBit_fmon (s : State) : (s.drawBit.2).fmon = s.fmon := rfl
@[simp] theorem State.drawBit_lib (s : State) : (s.drawBit.2).lib = s.lib := rfl
@[simp] theorem State.drawBit_pending (s : State) : (s.drawBit.2).pending = s.pending := rfl

/-! ### spareCompares -/

@[simp] theorem State.spareCompares_aon (s : State) (c : CellId) (q : PhysId) (t : Token) : (s.spareCompares c q t).aon = s.aon := by unfold State.spareCompares; dsimp only; (repeat' split) <;> simp
@[simp] theorem State.spareCompares_pwr (s : State) (c : CellId) (q : PhysId) (t : Token) : (s.spareCompares c q t).pwr = s.pwr := by unfold State.spareCompares; dsimp only; (repeat' split) <;> simp
@[simp] theorem State.spareCompares_tables (s : State) (c : CellId) (q : PhysId) (t : Token) : (s.spareCompares c q t).tables = s.tables := by unfold State.spareCompares; dsimp only; (repeat' split) <;> simp
@[simp] theorem State.spareCompares_flash (s : State) (c : CellId) (q : PhysId) (t : Token) : (s.spareCompares c q t).flash = s.flash := by unfold State.spareCompares; dsimp only; (repeat' split) <;> simp
@[simp] theorem State.spareCompares_snap (s : State) (c : CellId) (q : PhysId) (t : Token) : (s.spareCompares c q t).snap = s.snap := by unfold State.spareCompares; dsimp only; (repeat' split) <;> simp
@[simp] theorem State.spareCompares_effGz (s : State) (c : CellId) (q : PhysId) (t : Token) : (s.spareCompares c q t).effGz = s.effGz := by unfold State.spareCompares; dsimp only; (repeat' split) <;> simp
@[simp] theorem State.spareCompares_seq (s : State) (c : CellId) (q : PhysId) (t : Token) : (s.spareCompares c q t).seq = s.seq := by unfold State.spareCompares; dsimp only; (repeat' split) <;> simp
@[simp] theorem State.spareCompares_rowDone (s : State) (c : CellId) (q : PhysId) (t : Token) : (s.spareCompares c q t).rowDone = s.rowDone := by unfold State.spareCompares; dsimp only; (repeat' split) <;> simp
@[simp] theorem State.spareCompares_rowHeld (s : State) (c : CellId) (q : PhysId) (t : Token) : (s.spareCompares c q t).rowHeld = s.rowHeld := by unfold State.spareCompares; dsimp only; (repeat' split) <;> simp
@[simp] theorem State.spareCompares_sync (s : State) (c : CellId) (q : PhysId) (t : Token) : (s.spareCompares c q t).sync = s.sync := by unfold State.spareCompares; dsimp only; (repeat' split) <;> simp
@[simp] theorem State.spareCompares_drive (s : State) (c : CellId) (q : PhysId) (t : Token) : (s.spareCompares c q t).drive = s.drive := by unfold State.spareCompares; dsimp only; (repeat' split) <;> simp
@[simp] theorem State.spareCompares_filt (s : State) (c : CellId) (q : PhysId) (t : Token) : (s.spareCompares c q t).filt = s.filt := by unfold State.spareCompares; dsimp only; (repeat' split) <;> simp
@[simp] theorem State.spareCompares_lanes (s : State) (c : CellId) (q : PhysId) (t : Token) : (s.spareCompares c q t).lanes = s.lanes := by unfold State.spareCompares; dsimp only; (repeat' split) <;> simp
@[simp] theorem State.spareCompares_dets (s : State) (c : CellId) (q : PhysId) (t : Token) : (s.spareCompares c q t).dets = s.dets := by unfold State.spareCompares; dsimp only; (repeat' split) <;> simp
@[simp] theorem State.spareCompares_reserve (s : State) (c : CellId) (q : PhysId) (t : Token) : (s.spareCompares c q t).reserve = s.reserve := by unfold State.spareCompares; dsimp only; (repeat' split) <;> simp
@[simp] theorem State.spareCompares_cal (s : State) (c : CellId) (q : PhysId) (t : Token) : (s.spareCompares c q t).cal = s.cal := by unfold State.spareCompares; dsimp only; (repeat' split) <;> simp
@[simp] theorem State.spareCompares_pace (s : State) (c : CellId) (q : PhysId) (t : Token) : (s.spareCompares c q t).pace = s.pace := by unfold State.spareCompares; dsimp only; (repeat' split) <;> simp
@[simp] theorem State.spareCompares_sched (s : State) (c : CellId) (q : PhysId) (t : Token) : (s.spareCompares c q t).sched = s.sched := by unfold State.spareCompares; dsimp only; (repeat' split) <;> simp
@[simp] theorem State.spareCompares_queue (s : State) (c : CellId) (q : PhysId) (t : Token) : (s.spareCompares c q t).queue = s.queue := by unfold State.spareCompares; dsimp only; (repeat' split) <;> simp
@[simp] theorem State.spareCompares_ring (s : State) (c : CellId) (q : PhysId) (t : Token) : (s.spareCompares c q t).ring = s.ring := by unfold State.spareCompares; dsimp only; (repeat' split) <;> simp
@[simp] theorem State.spareCompares_port (s : State) (c : CellId) (q : PhysId) (t : Token) : (s.spareCompares c q t).port = s.port := by unfold State.spareCompares; dsimp only; (repeat' split) <;> simp
@[simp] theorem State.spareCompares_nvm (s : State) (c : CellId) (q : PhysId) (t : Token) : (s.spareCompares c q t).nvm = s.nvm := by unfold State.spareCompares; dsimp only; (repeat' split) <;> simp
@[simp] theorem State.spareCompares_sec (s : State) (c : CellId) (q : PhysId) (t : Token) : (s.spareCompares c q t).sec = s.sec := by unfold State.spareCompares; dsimp only; (repeat' split) <;> simp
@[simp] theorem State.spareCompares_geyser (s : State) (c : CellId) (q : PhysId) (t : Token) : (s.spareCompares c q t).geyser = s.geyser := by unfold State.spareCompares; dsimp only; (repeat' split) <;> simp
@[simp] theorem State.spareCompares_fmon (s : State) (c : CellId) (q : PhysId) (t : Token) : (s.spareCompares c q t).fmon = s.fmon := by unfold State.spareCompares; dsimp only; (repeat' split) <;> simp
@[simp] theorem State.spareCompares_lib (s : State) (c : CellId) (q : PhysId) (t : Token) : (s.spareCompares c q t).lib = s.lib := by unfold State.spareCompares; dsimp only; (repeat' split) <;> simp
@[simp] theorem State.spareCompares_pending (s : State) (c : CellId) (q : PhysId) (t : Token) : (s.spareCompares c q t).pending = s.pending := by unfold State.spareCompares; dsimp only; (repeat' split) <;> simp

/-! ### token -/

@[simp] theorem State.token_aon (s : State) (c : CellId) (ws : List (Data × Data)) : ((s.token c ws).2).aon = s.aon := by unfold State.token; dsimp only; (repeat' split) <;> simp
@[simp] theorem State.token_pwr (s : State) (c : CellId) (ws : List (Data × Data)) : ((s.token c ws).2).pwr = s.pwr := by unfold State.token; dsimp only; (repeat' split) <;> simp
@[simp] theorem State.token_tables (s : State) (c : CellId) (ws : List (Data × Data)) : ((s.token c ws).2).tables = s.tables := by unfold State.token; dsimp only; (repeat' split) <;> simp
@[simp] theorem State.token_flash (s : State) (c : CellId) (ws : List (Data × Data)) : ((s.token c ws).2).flash = s.flash := by unfold State.token; dsimp only; (repeat' split) <;> simp
@[simp] theorem State.token_snap (s : State) (c : CellId) (ws : List (Data × Data)) : ((s.token c ws).2).snap = s.snap := by unfold State.token; dsimp only; (repeat' split) <;> simp
@[simp] theorem State.token_effGz (s : State) (c : CellId) (ws : List (Data × Data)) : ((s.token c ws).2).effGz = s.effGz := by unfold State.token; dsimp only; (repeat' split) <;> simp
@[simp] theorem State.token_seq (s : State) (c : CellId) (ws : List (Data × Data)) : ((s.token c ws).2).seq = s.seq := by unfold State.token; dsimp only; (repeat' split) <;> simp
@[simp] theorem State.token_rowDone (s : State) (c : CellId) (ws : List (Data × Data)) : ((s.token c ws).2).rowDone = s.rowDone := by unfold State.token; dsimp only; (repeat' split) <;> simp
@[simp] theorem State.token_rowHeld (s : State) (c : CellId) (ws : List (Data × Data)) : ((s.token c ws).2).rowHeld = s.rowHeld := by unfold State.token; dsimp only; (repeat' split) <;> simp
@[simp] theorem State.token_sync (s : State) (c : CellId) (ws : List (Data × Data)) : ((s.token c ws).2).sync = s.sync := by unfold State.token; dsimp only; (repeat' split) <;> simp
@[simp] theorem State.token_drive (s : State) (c : CellId) (ws : List (Data × Data)) : ((s.token c ws).2).drive = s.drive := by unfold State.token; dsimp only; (repeat' split) <;> simp
@[simp] theorem State.token_filt (s : State) (c : CellId) (ws : List (Data × Data)) : ((s.token c ws).2).filt = s.filt := by unfold State.token; dsimp only; (repeat' split) <;> simp
@[simp] theorem State.token_lanes (s : State) (c : CellId) (ws : List (Data × Data)) : ((s.token c ws).2).lanes = s.lanes := by unfold State.token; dsimp only; (repeat' split) <;> simp
@[simp] theorem State.token_dets (s : State) (c : CellId) (ws : List (Data × Data)) : ((s.token c ws).2).dets = s.dets := by unfold State.token; dsimp only; (repeat' split) <;> simp
@[simp] theorem State.token_reserve (s : State) (c : CellId) (ws : List (Data × Data)) : ((s.token c ws).2).reserve = s.reserve := by unfold State.token; dsimp only; (repeat' split) <;> simp
@[simp] theorem State.token_cal (s : State) (c : CellId) (ws : List (Data × Data)) : ((s.token c ws).2).cal = s.cal := by unfold State.token; dsimp only; (repeat' split) <;> simp
@[simp] theorem State.token_pace (s : State) (c : CellId) (ws : List (Data × Data)) : ((s.token c ws).2).pace = s.pace := by unfold State.token; dsimp only; (repeat' split) <;> simp
@[simp] theorem State.token_sched (s : State) (c : CellId) (ws : List (Data × Data)) : ((s.token c ws).2).sched = s.sched := by unfold State.token; dsimp only; (repeat' split) <;> simp
@[simp] theorem State.token_queue (s : State) (c : CellId) (ws : List (Data × Data)) : ((s.token c ws).2).queue = s.queue := by unfold State.token; dsimp only; (repeat' split) <;> simp
@[simp] theorem State.token_ring (s : State) (c : CellId) (ws : List (Data × Data)) : ((s.token c ws).2).ring = s.ring := by unfold State.token; dsimp only; (repeat' split) <;> simp
@[simp] theorem State.token_port (s : State) (c : CellId) (ws : List (Data × Data)) : ((s.token c ws).2).port = s.port := by unfold State.token; dsimp only; (repeat' split) <;> simp
@[simp] theorem State.token_nvm (s : State) (c : CellId) (ws : List (Data × Data)) : ((s.token c ws).2).nvm = s.nvm := by unfold State.token; dsimp only; (repeat' split) <;> simp
@[simp] theorem State.token_sec (s : State) (c : CellId) (ws : List (Data × Data)) : ((s.token c ws).2).sec = s.sec := by unfold State.token; dsimp only; (repeat' split) <;> simp
@[simp] theorem State.token_geyser (s : State) (c : CellId) (ws : List (Data × Data)) : ((s.token c ws).2).geyser = s.geyser := by unfold State.token; dsimp only; (repeat' split) <;> simp
@[simp] theorem State.token_lib (s : State) (c : CellId) (ws : List (Data × Data)) : ((s.token c ws).2).lib = s.lib := by unfold State.token; dsimp only; (repeat' split) <;> simp
@[simp] theorem State.token_pending (s : State) (c : CellId) (ws : List (Data × Data)) : ((s.token c ws).2).pending = s.pending := by unfold State.token; dsimp only; (repeat' split) <;> simp

/-! ### cellAdvance -/

@[simp] theorem State.cellAdvance_aon (s : State) (c : CellId) : (s.cellAdvance c).aon = s.aon := rfl
@[simp] theorem State.cellAdvance_pwr (s : State) (c : CellId) : (s.cellAdvance c).pwr = s.pwr := rfl
@[simp] theorem State.cellAdvance_regs (s : State) (c : CellId) : (s.cellAdvance c).regs = s.regs := rfl
@[simp] theorem State.cellAdvance_tables (s : State) (c : CellId) : (s.cellAdvance c).tables = s.tables := rfl
@[simp] theorem State.cellAdvance_flash (s : State) (c : CellId) : (s.cellAdvance c).flash = s.flash := rfl
@[simp] theorem State.cellAdvance_snap (s : State) (c : CellId) : (s.cellAdvance c).snap = s.snap := rfl
@[simp] theorem State.cellAdvance_effGz (s : State) (c : CellId) : (s.cellAdvance c).effGz = s.effGz := rfl
@[simp] theorem State.cellAdvance_seq (s : State) (c : CellId) : (s.cellAdvance c).seq = s.seq := rfl
@[simp] theorem State.cellAdvance_rowDone (s : State) (c : CellId) : (s.cellAdvance c).rowDone = s.rowDone := rfl
@[simp] theorem State.cellAdvance_rowHeld (s : State) (c : CellId) : (s.cellAdvance c).rowHeld = s.rowHeld := rfl
@[simp] theorem State.cellAdvance_sync (s : State) (c : CellId) : (s.cellAdvance c).sync = s.sync := rfl
@[simp] theorem State.cellAdvance_drive (s : State) (c : CellId) : (s.cellAdvance c).drive = s.drive := rfl
@[simp] theorem State.cellAdvance_filt (s : State) (c : CellId) : (s.cellAdvance c).filt = s.filt := rfl
@[simp] theorem State.cellAdvance_lanes (s : State) (c : CellId) : (s.cellAdvance c).lanes = s.lanes := rfl
@[simp] theorem State.cellAdvance_dets (s : State) (c : CellId) : (s.cellAdvance c).dets = s.dets := rfl
@[simp] theorem State.cellAdvance_reserve (s : State) (c : CellId) : (s.cellAdvance c).reserve = s.reserve := rfl
@[simp] theorem State.cellAdvance_cal (s : State) (c : CellId) : (s.cellAdvance c).cal = s.cal := rfl
@[simp] theorem State.cellAdvance_pace (s : State) (c : CellId) : (s.cellAdvance c).pace = s.pace := rfl
@[simp] theorem State.cellAdvance_sched (s : State) (c : CellId) : (s.cellAdvance c).sched = s.sched := rfl
@[simp] theorem State.cellAdvance_queue (s : State) (c : CellId) : (s.cellAdvance c).queue = s.queue := rfl
@[simp] theorem State.cellAdvance_ring (s : State) (c : CellId) : (s.cellAdvance c).ring = s.ring := rfl
@[simp] theorem State.cellAdvance_port (s : State) (c : CellId) : (s.cellAdvance c).port = s.port := rfl
@[simp] theorem State.cellAdvance_nvm (s : State) (c : CellId) : (s.cellAdvance c).nvm = s.nvm := rfl
@[simp] theorem State.cellAdvance_sec (s : State) (c : CellId) : (s.cellAdvance c).sec = s.sec := rfl
@[simp] theorem State.cellAdvance_geyser (s : State) (c : CellId) : (s.cellAdvance c).geyser = s.geyser := rfl
@[simp] theorem State.cellAdvance_fmon (s : State) (c : CellId) : (s.cellAdvance c).fmon = s.fmon := rfl
@[simp] theorem State.cellAdvance_lib (s : State) (c : CellId) : (s.cellAdvance c).lib = s.lib := rfl
@[simp] theorem State.cellAdvance_freeCtr (s : State) (c : CellId) : (s.cellAdvance c).freeCtr = s.freeCtr := rfl
@[simp] theorem State.cellAdvance_pending (s : State) (c : CellId) : (s.cellAdvance c).pending = s.pending := rfl

/-! ### cellBlock -/

@[simp] theorem State.cellBlock_aon (s : State) (c : CellId) (w : CellState) : (s.cellBlock c w).aon = s.aon := rfl
@[simp] theorem State.cellBlock_pwr (s : State) (c : CellId) (w : CellState) : (s.cellBlock c w).pwr = s.pwr := rfl
@[simp] theorem State.cellBlock_regs (s : State) (c : CellId) (w : CellState) : (s.cellBlock c w).regs = s.regs := rfl
@[simp] theorem State.cellBlock_tables (s : State) (c : CellId) (w : CellState) : (s.cellBlock c w).tables = s.tables := rfl
@[simp] theorem State.cellBlock_flash (s : State) (c : CellId) (w : CellState) : (s.cellBlock c w).flash = s.flash := rfl
@[simp] theorem State.cellBlock_snap (s : State) (c : CellId) (w : CellState) : (s.cellBlock c w).snap = s.snap := rfl
@[simp] theorem State.cellBlock_effGz (s : State) (c : CellId) (w : CellState) : (s.cellBlock c w).effGz = s.effGz := rfl
@[simp] theorem State.cellBlock_seq (s : State) (c : CellId) (w : CellState) : (s.cellBlock c w).seq = s.seq := rfl
@[simp] theorem State.cellBlock_rowDone (s : State) (c : CellId) (w : CellState) : (s.cellBlock c w).rowDone = s.rowDone := rfl
@[simp] theorem State.cellBlock_rowHeld (s : State) (c : CellId) (w : CellState) : (s.cellBlock c w).rowHeld = s.rowHeld := rfl
@[simp] theorem State.cellBlock_sync (s : State) (c : CellId) (w : CellState) : (s.cellBlock c w).sync = s.sync := rfl
@[simp] theorem State.cellBlock_drive (s : State) (c : CellId) (w : CellState) : (s.cellBlock c w).drive = s.drive := rfl
@[simp] theorem State.cellBlock_filt (s : State) (c : CellId) (w : CellState) : (s.cellBlock c w).filt = s.filt := rfl
@[simp] theorem State.cellBlock_lanes (s : State) (c : CellId) (w : CellState) : (s.cellBlock c w).lanes = s.lanes := rfl
@[simp] theorem State.cellBlock_dets (s : State) (c : CellId) (w : CellState) : (s.cellBlock c w).dets = s.dets := rfl
@[simp] theorem State.cellBlock_reserve (s : State) (c : CellId) (w : CellState) : (s.cellBlock c w).reserve = s.reserve := rfl
@[simp] theorem State.cellBlock_cal (s : State) (c : CellId) (w : CellState) : (s.cellBlock c w).cal = s.cal := rfl
@[simp] theorem State.cellBlock_pace (s : State) (c : CellId) (w : CellState) : (s.cellBlock c w).pace = s.pace := rfl
@[simp] theorem State.cellBlock_sched (s : State) (c : CellId) (w : CellState) : (s.cellBlock c w).sched = s.sched := rfl
@[simp] theorem State.cellBlock_queue (s : State) (c : CellId) (w : CellState) : (s.cellBlock c w).queue = s.queue := rfl
@[simp] theorem State.cellBlock_ring (s : State) (c : CellId) (w : CellState) : (s.cellBlock c w).ring = s.ring := rfl
@[simp] theorem State.cellBlock_port (s : State) (c : CellId) (w : CellState) : (s.cellBlock c w).port = s.port := rfl
@[simp] theorem State.cellBlock_nvm (s : State) (c : CellId) (w : CellState) : (s.cellBlock c w).nvm = s.nvm := rfl
@[simp] theorem State.cellBlock_sec (s : State) (c : CellId) (w : CellState) : (s.cellBlock c w).sec = s.sec := rfl
@[simp] theorem State.cellBlock_geyser (s : State) (c : CellId) (w : CellState) : (s.cellBlock c w).geyser = s.geyser := rfl
@[simp] theorem State.cellBlock_fmon (s : State) (c : CellId) (w : CellState) : (s.cellBlock c w).fmon = s.fmon := rfl
@[simp] theorem State.cellBlock_lib (s : State) (c : CellId) (w : CellState) : (s.cellBlock c w).lib = s.lib := rfl
@[simp] theorem State.cellBlock_freeCtr (s : State) (c : CellId) (w : CellState) : (s.cellBlock c w).freeCtr = s.freeCtr := rfl
@[simp] theorem State.cellBlock_pending (s : State) (c : CellId) (w : CellState) : (s.cellBlock c w).pending = s.pending := rfl

/-! ### frameRow -/

@[simp] theorem State.frameRow_aon (s : State) (r : Nat) : (s.frameRow r).aon = s.aon := rfl
@[simp] theorem State.frameRow_pwr (s : State) (r : Nat) : (s.frameRow r).pwr = s.pwr := rfl
@[simp] theorem State.frameRow_regs (s : State) (r : Nat) : (s.frameRow r).regs = s.regs := rfl
@[simp] theorem State.frameRow_tables (s : State) (r : Nat) : (s.frameRow r).tables = s.tables := rfl
@[simp] theorem State.frameRow_flash (s : State) (r : Nat) : (s.frameRow r).flash = s.flash := rfl
@[simp] theorem State.frameRow_snap (s : State) (r : Nat) : (s.frameRow r).snap = s.snap := rfl
@[simp] theorem State.frameRow_effGz (s : State) (r : Nat) : (s.frameRow r).effGz = s.effGz := rfl
@[simp] theorem State.frameRow_seq (s : State) (r : Nat) : (s.frameRow r).seq = s.seq := rfl
@[simp] theorem State.frameRow_rowDone (s : State) (r : Nat) : (s.frameRow r).rowDone = s.rowDone := rfl
@[simp] theorem State.frameRow_rowHeld (s : State) (r : Nat) : (s.frameRow r).rowHeld = s.rowHeld := rfl
@[simp] theorem State.frameRow_sync (s : State) (r : Nat) : (s.frameRow r).sync = s.sync := rfl
@[simp] theorem State.frameRow_drive (s : State) (r : Nat) : (s.frameRow r).drive = s.drive := rfl
@[simp] theorem State.frameRow_filt (s : State) (r : Nat) : (s.frameRow r).filt = s.filt := rfl
@[simp] theorem State.frameRow_lanes (s : State) (r : Nat) : (s.frameRow r).lanes = s.lanes := rfl
@[simp] theorem State.frameRow_dets (s : State) (r : Nat) : (s.frameRow r).dets = s.dets := rfl
@[simp] theorem State.frameRow_reserve (s : State) (r : Nat) : (s.frameRow r).reserve = s.reserve := rfl
@[simp] theorem State.frameRow_cal (s : State) (r : Nat) : (s.frameRow r).cal = s.cal := rfl
@[simp] theorem State.frameRow_pace (s : State) (r : Nat) : (s.frameRow r).pace = s.pace := rfl
@[simp] theorem State.frameRow_sched (s : State) (r : Nat) : (s.frameRow r).sched = s.sched := rfl
@[simp] theorem State.frameRow_queue (s : State) (r : Nat) : (s.frameRow r).queue = s.queue := rfl
@[simp] theorem State.frameRow_ring (s : State) (r : Nat) : (s.frameRow r).ring = s.ring := rfl
@[simp] theorem State.frameRow_port (s : State) (r : Nat) : (s.frameRow r).port = s.port := rfl
@[simp] theorem State.frameRow_nvm (s : State) (r : Nat) : (s.frameRow r).nvm = s.nvm := rfl
@[simp] theorem State.frameRow_sec (s : State) (r : Nat) : (s.frameRow r).sec = s.sec := rfl
@[simp] theorem State.frameRow_geyser (s : State) (r : Nat) : (s.frameRow r).geyser = s.geyser := rfl
@[simp] theorem State.frameRow_fmon (s : State) (r : Nat) : (s.frameRow r).fmon = s.fmon := rfl
@[simp] theorem State.frameRow_lib (s : State) (r : Nat) : (s.frameRow r).lib = s.lib := rfl
@[simp] theorem State.frameRow_freeCtr (s : State) (r : Nat) : (s.frameRow r).freeCtr = s.freeCtr := rfl
@[simp] theorem State.frameRow_pending (s : State) (r : Nat) : (s.frameRow r).pending = s.pending := rfl

/-! ### flashCut: a reset or a loss of power in the middle of a flash step -/

theorem State.stepCut_frame (s : State) (p : FlashStep) : ∃ f k, s.stepCut p = { s with flash := f, freeCtr := k } := by
  cases p with
  | erase b n => unfold State.stepCut; dsimp only; split <;> exact ⟨_, _, rfl⟩
  | program a l => exact ⟨_, _, rfl⟩

theorem State.eraseCut_fold (l : List Nat) (s : State) : ∃ f k, l.foldl (fun (s : State) j =>
    let r := s.drawBit
    if r.1 then r.2.flashErase (j * sectorLen) ((j + 1) * sectorLen) else r.2) s = { s with flash := f, freeCtr := k } := by
  induction l generalizing s with
  | nil => exact ⟨_, _, rfl⟩
  | cons j l ih =>
    obtain ⟨f, k, h⟩ := ih (if s.drawBit.1 then s.drawBit.2.flashErase (j * sectorLen) ((j + 1) * sectorLen) else s.drawBit.2)
    refine ⟨f, k, h.trans ?_⟩
    split <;> rfl

/-- A cut changes nothing but the flash and the draw number. -/
theorem State.flashCut_frame (s : State) : ∃ f k, s.flashCut = { s with flash := f, freeCtr := k } := by
  unfold State.flashCut
  split
  · split
    · exact ⟨_, _, rfl⟩
    · exact s.stepCut_frame _
  · split
    · exact State.eraseCut_fold _ s
    · exact ⟨_, _, rfl⟩

/-- Without a step to do, and outside the erasure of RETURN, a cut changes nothing. -/
theorem State.flashCut_idle (s : State) (h : s.nvm.todo = []) (r : s.sec.trans ≠ .returned) : s.flashCut = s := by
  unfold State.flashCut
  rw [h]
  split
  · contradiction
  · exact if_neg r

theorem State.stepCut_wf (s : State) (p : FlashStep) (h : Memory.wf flashDefault s.flash = true) :
    Memory.wf flashDefault (s.stepCut p).flash = true := by
  cases p with
  | erase b n =>
    unfold State.stepCut
    dsimp only
    split
    · exact State.flashErase_wf s.drawBit.2 b (b + n) h
    · exact h
  | program a l => exact State.flashProgram_wf s a _ h

theorem State.eraseCut_wf (s : State) (h : Memory.wf flashDefault s.flash = true) :
    Memory.wf flashDefault s.eraseCut.flash = true := by
  unfold State.eraseCut
  generalize List.range 61 = l
  induction l generalizing s with
  | nil => exact h
  | cons j l ih =>
    refine ih _ ?_
    dsimp only
    split
    · exact State.flashErase_wf s.drawBit.2 _ _ h
    · exact h

/-- A cut keeps the flash in canonical form. -/
theorem State.flashCut_wf (s : State) (h : Memory.wf flashDefault s.flash = true) :
    Memory.wf flashDefault s.flashCut.flash = true := by
  unfold State.flashCut
  split
  · split
    · exact h
    · exact s.stepCut_wf _ h
  · split
    · exact s.eraseCut_wf h
    · exact h

end Sys2Proof.Machine
end

