-- ==== Sys2Proof/Laws/Cells.lean ====
section
/-! SUPPORT. Laws of the Caldera's cells: registers, accumulators and predicates after a write, what a fetch leaves of the
cells, and what an instruction that changes only its cell comes to. -/

namespace Sys2Proof.Machine

/-! ### A cell's own state -/

theorem Cell.get_put (x : Cell) (d r : XReg) (v : Data) :
    (x.put d v).get r = if r = d ∧ d ≠ 0 then v else x.get r := by
  by_cases hd : d.val = 0
  · have : d = 0 := Fin.ext hd
    simp [Cell.put, this]
  · have hd' : d ≠ 0 := fun h => hd (by simp [h])
    simp only [Cell.put, if_neg hd, Cell.get, Vector.get_eq_getElem, Vector.getElem_set, Fin.ext_iff]
    by_cases hr : d.val = r.val
    · have : r.val ≠ 0 := by omega
      simp [hr, this]; intro h; exact absurd h hd'
    · simp [hr, eq_comm (a := r.val), Ne.symm, hd']

@[simp] theorem Cell.put_a0 (x : Cell) (d : XReg) (v : Data) : (x.put d v).a0 = x.a0 := by unfold Cell.put; split <;> rfl
@[simp] theorem Cell.put_a1 (x : Cell) (d : XReg) (v : Data) : (x.put d v).a1 = x.a1 := by unfold Cell.put; split <;> rfl
@[simp] theorem Cell.put_p1 (x : Cell) (d : XReg) (v : Data) : (x.put d v).p1 = x.p1 := by unfold Cell.put; split <;> rfl
@[simp] theorem Cell.put_p2 (x : Cell) (d : XReg) (v : Data) : (x.put d v).p2 = x.p2 := by unfold Cell.put; split <;> rfl
@[simp] theorem Cell.put_p3 (x : Cell) (d : XReg) (v : Data) : (x.put d v).p3 = x.p3 := by unfold Cell.put; split <;> rfl
@[simp] theorem Cell.put_pc (x : Cell) (d : XReg) (v : Data) : (x.put d v).pc = x.pc := by unfold Cell.put; split <;> rfl
@[simp] theorem Cell.put_loops (x : Cell) (d : XReg) (v : Data) : (x.put d v).loops = x.loops := by
  unfold Cell.put; split <;> rfl
@[simp] theorem Cell.put_st (x : Cell) (d : XReg) (v : Data) : (x.put d v).st = x.st := by unfold Cell.put; split <;> rfl

@[simp] theorem Cell.get_setAcc (x : Cell) (d r : XReg) (v : Acc) : (x.setAcc d v).get r = x.get r := by
  unfold Cell.setAcc; split <;> rfl

@[simp] theorem Cell.get_setPred (x : Cell) (d r : XReg) (v : Bool) : (x.setPred d v).get r = x.get r := by
  unfold Cell.setPred; split <;> rfl

@[simp] theorem Cell.get_advance (x : Cell) (r : XReg) : x.advance.get r = x.get r := rfl
@[simp] theorem Cell.advance_a0 (x : Cell) : x.advance.a0 = x.a0 := rfl
@[simp] theorem Cell.advance_a1 (x : Cell) : x.advance.a1 = x.a1 := rfl
@[simp] theorem Cell.advance_p1 (x : Cell) : x.advance.p1 = x.p1 := rfl
@[simp] theorem Cell.advance_p2 (x : Cell) : x.advance.p2 = x.p2 := rfl
@[simp] theorem Cell.advance_p3 (x : Cell) : x.advance.p3 = x.p3 := rfl
@[simp] theorem Cell.advance_st (x : Cell) : x.advance.st = .run := rfl
theorem Cell.advance_flow (x : Cell) : (x.advance.pc, x.advance.loops) = flow x.pc x.loops := rfl

/-! ### Reads of protected words -/

/-- A cell's read of a protected word changes nothing of the Caldera but the discard flag. -/
theorem State.cellRead_cald (s : State) (m : MemId) (a : Nat) :
    (s.cellRead m a).2.cald = { s.cald with discard := s.cald.discard || decide ((s.cellRead m a).1 ≠ 0) } := by
  unfold State.cellRead
  dsimp only
  split <;> simp_all [State.setDiscard]

@[simp] theorem State.cell_cellRead (s : State) (m : MemId) (a : Nat) (k : CellId) :
    (s.cellRead m a).2.cell k = s.cell k := by simp [State.cell, State.cellRead_cald]

/-- A fetch changes nothing of the Caldera but the discard flag. -/
theorem State.fetchErr_cald (s : State) (c : CellId) :
    ∃ b, (s.fetchErr c).cald = { s.cald with discard := b } := ⟨_, s.cellRead_cald _ _⟩

@[simp] theorem State.cell_fetchErr (s : State) (c k : CellId) : (s.fetchErr c).cell k = s.cell k :=
  s.cell_cellRead _ _ _

/-- A word without an error is read with no effect. -/
theorem State.readErr_none {s : State} {m : MemId} {a : Nat} (h : s.memErr m a = none) : s.readErr m a = (0, s) := by
  simp [State.readErr, h]

theorem State.cellRead_none {s : State} {m : MemId} {a : Nat} (h : s.memErr m a = none) : s.cellRead m a = (0, s) := by
  simp [State.cellRead, State.readErr_none h]

theorem State.fetchErr_none {s : State} {c : CellId}
    (h : s.memErr (.imem (s.cald.map.get c)) ((s.cell c).pc % 2048) = none) : s.fetchErr c = s := by
  simp [State.fetchErr, State.cellRead_none h]

/-! ### Instructions that change only their cell -/

/-- What such an instruction does where its cell issues it. -/
theorem State.cellOp_runs {s : State} {c : CellId} {i : Instr} (h : s.runs c i = true) (p : Pred) (f : Cell → Cell) :
    s.cellOp c i p f =
      (s.fetchErr c).setCell c (if (s.cell c).holds p then f (s.cell c) else s.cell c).advance := by
  simp [State.cellOp, h]

/-- It does nothing where its cell does not. -/
theorem State.cellOp_idle {s : State} {c : CellId} {i : Instr} (h : s.runs c i = false) (p : Pred) (f : Cell → Cell) :
    s.cellOp c i p f = s := by simp [State.cellOp, h]

/-- A cell runs an instruction only where it issues one, and only the one its word spells. -/
theorem State.runs_iff {s : State} {c : CellId} {i : Instr} :
    s.runs c i = true ↔ s.issues c = true ∧ decodeCell c (s.fetched c) = some i := by
  simp [State.runs]

/-- A fetch of a word without an error delivers the word. -/
theorem State.fetched_none {s : State} {c : CellId}
    (h : s.memErr (.imem (s.cald.map.get c)) ((s.cell c).pc % 2048) = none) :
    s.fetched c = s.imemRead (s.phys c) ((s.cell c).pc % 2048) := by
  simp [State.fetched, State.readErr_none h]

end Sys2Proof.Machine
end

