-- ==== Sys2Proof/Tests/Slice0.lean ====
section
/-! SUPPORT. Tests of the model on small states: the well-formedness checks refuse ill-formed commands, examples worked in
the spec come out as the spec works them, and every statement with hypotheses has a state that meets them. -/

namespace Sys2Proof.Tests

open Sys2Proof Sys2Proof.Machine

-- One theorem after another: each `decide +kernel` waits for the kernel, and in parallel every one would hold a thread.
set_option Elab.async false

/-! ### Well-formedness: one ill-formed command for each check -/

def crcHdr : SpiHeader := ⟨0, 0x12, some 0⟩

theorem test_wf_cadence_needs_164_charges : (Instr.cadencePeriod .first none (List.replicate 163 0)).wf = false := by
  decide +kernel
theorem test_wf_pace_sample_is_a_byte : (Instr.paceSample 256).wf = false := by decide +kernel
theorem test_wf_intake_row : (Instr.intake 0 1 0 false false 384 0).wf = false := by decide +kernel
theorem test_wf_intakes_row : (Instr.intakes 0 1 0 false false 384 0).wf = false := by decide +kernel
theorem test_wf_wait_entry_row : (Instr.waitEntry 0 384).wf = false := by decide +kernel
theorem test_wf_wht_d31 : (Instr.wht 0 .always 31 1 2).wf = false := by decide +kernel
theorem test_wf_register_write_crc : (Instr.spiRegisterWrite (some crcHdr) [⟨0, none⟩]).wf = false := by decide +kernel
theorem test_wf_window_write_crc : (Instr.spiWindowWrite (some (spiHdr 5)) [⟨0, some 0⟩]).wf = false := by decide +kernel
theorem test_wf_geyser_has_four_buses : (Instr.geyserScan (List.replicate 5 (List.replicate 64 0))).wf = false := by decide +kernel
theorem test_wf_geyser_has_64_edges : (Instr.geyserScan [List.replicate 63 0]).wf = false := by decide +kernel
theorem test_wf_gain_phase_measures_all : (Instr.selfCalGainPhase [⟨0, 1⟩]).wf = false := by decide +kernel
theorem test_wf_self_cal_end_takes_outputs : (Instr.selfCalEnd (List.replicate 164 ⟨0, 0⟩)).wf = false := by decide +kernel
theorem test_wf_lane_cal_pairs : (Instr.laneCalDone [⟨0, 1⟩] []).wf = false := by decide +kernel
theorem test_wf_reserved_op_is_reserved : (Instr.nvmReservedOp 6).wf = false := by decide +kernel
theorem test_wf_scrub_in_range : (Instr.scrubWord (.imem 0) 2048).wf = false := by decide +kernel
theorem test_wf_memory_fault_in_range : (Instr.singleFault (.memory .ring 16384 1 false) false).wf = false := by decide +kernel
theorem test_wf_memory_fault_has_bits : (Instr.singleFault (.memory .ring 0 0 false) false).wf = false := by decide +kernel
theorem test_wf_cell_fault_alters : (Instr.singleFault (.cell 0 0) false).wf = false := by decide +kernel
theorem test_wf_pin_fault_alters : (Instr.singleFault (.pin .hsdi 0) false).wf = false := by decide +kernel
theorem test_wf_examples : (Instr.cadencePeriod .first (some .second) (List.replicate 164 0)).wf = true ∧
    (Instr.paceSample 255).wf = true ∧ (Instr.waitEntry 0 383).wf = true ∧ (Instr.wht 0 .always 30 1 2).wf = true ∧
    (Instr.nvmReservedOp 7).wf = true ∧ (Instr.scrubWord (.imem 0) 2047).wf = true := by
  decide +kernel

/-! ### Small states -/

/-- The block after boot, ACTIVE, with nothing loaded. -/
def up : State := { State.reset with pwr := { Pwr.reset with pstate := .active, ready := true, boot := .done } }

/-- A Caldera frame is open and every cell runs. -/
def inFrame : State :=
  { up with cald := { Cald.reset with isOpen := true, cells := Vector.replicate 7 { Cell.reset with st := .run } } }

/-- Cell 0 of an open frame holds `a` in x1 and `b` in x2. -/
def operands (a b : Data) : State :=
  inFrame.setCell 0 (({ Cell.reset with st := .run }.put 1 a).put 2 b)

/-- The state with the word of instruction `i` where its cell fetches next. -/
def coded (s : State) (i : Instr) : State := match i.coded with
  | some (c, w) =>
    { s with cald := { s.cald with imem := memWrite imemDefault s.cald.imem (s.phys c * 2048 + (s.cell c).pc % 2048) w } }
  | none => s

/-- A schedule runs. -/
def running : State := { up with sched := { Sched.reset with state := .running, valid := true } }

/-- The block in SLEEP. -/
def asleep : State := { State.reset with pwr := { Pwr.reset with pstate := .sleep, boot := .done } }

/-- What a cell's instruction leaves where its word stands. -/
def ran (i : Instr) (s : State) : State := match exec i (coded s i) with
  | .next t => t
  | _ => up

/-- What a command leaves; `up` if it stops. -/
def after (i : Instr) (s : State) : State := match exec i s with
  | .next t => t
  | _ => up

/-! ### Examples of the spec -/

/-- 10, Examples: the CRC of the header 0x90 0x00. -/
theorem test_crc8_of_header : crc8 [0x90, 0x00] = 0x36 := by decide +kernel

/-- 10, Examples: an SPI read of CHIP_ID with CRC. -/
theorem test_spi_read_of_chip_id :
    (after (.spiRegisterRead (some ⟨0, 0, some 0x36⟩) 1) up).port.out = [0, 0, 0, 0x91, 0x61, 0x44, 0xD2] := by
  decide +kernel

/-- Table 6.4: ADD wraps and ADDS saturates. -/
theorem test_add_wraps : ((ran (.add 0 .always 3 1 2) (operands 0x7FFFFF 1)).cell 0).get 3 = 0x800000 := by
  decide +kernel
theorem test_adds_saturates : ((ran (.adds 0 .always 3 1 2) (operands 0x7FFFFF 1)).cell 0).get 3 = 0x7FFFFF := by
  decide +kernel
/-- Table 6.4: SAR keeps the sign. -/
theorem test_sar_keeps_the_sign : ((ran (.sar 0 .always 3 1 2) (operands 0x800000 4)).cell 0).get 3 = 0xF80000 := by
  decide +kernel
/-- R180: the source of SORT is its destination too. -/
theorem test_sort_swaps : ((ran (.sort 0 .always 1 2) (operands 5 0xFFFFFF)).cell 0).get 1 = 0xFFFFFF := by
  decide +kernel

/-- Tables 6.2 and 6.4: words bit by bit, opcode, d, a, b, and the fields of the format. -/
theorem test_word_add :
    decodeCell 2 0b000001_00011_00001_00010_000_000000000000000000000000 = some (.add 2 .always 3 1 2) := by decide +kernel
theorem test_word_addi :
    decodeCell 0 0b000011_11111_00001_00000_101_111111111111111111111111 = some (.addi 0 .notP1 31 1 0xFFFFFF) := by
  decide +kernel
theorem test_word_mac :
    decodeCell 6 0b011101_00001_00010_00011_011_000000000000000000000000 = some (.mac 6 .ifP3 1 2 3) := by decide +kernel
theorem test_word_st :
    decodeCell 0 0b100001_00000_00100_00101_000_1_00000000000_111111111110 = some (.st 0 .always 4 5 true 4094) := by
  decide +kernel
theorem test_word_getw :
    decodeCell 0 0b100011_00111_00000_01000_001_1101_0_000_0000000000011111 = some (.getw 0 .ifP1 7 8 13 false 31) := by
  decide +kernel
theorem test_word_intake :
    decodeCell 0 0b101000_00110_00000_00111_1_0_101111111_10100000_00000000 = some (.intake 0 6 7 true false 383 160) := by
  decide +kernel
theorem test_word_send : decodeCell 0 0b101010_00000_01001_00000_001_000000000000000000000000 = some (.send 0 9 .prev) := by
  decide +kernel
theorem test_word_emit :
    decodeCell 0 0b101100_00000_00000_00000_010_000000000000_000000001000 = some (.emit 0 (.code .ifP2 8)) := by
  decide +kernel
theorem test_word_wht : decodeCell 0 0b110000_00100_00001_00010_000_000000000000000000000000 = some (.wht 0 .always 4 1 2) := by
  decide +kernel
theorem test_word_loop :
    decodeCell 0 0b111000_00000_00000_00000_00000000011_00000_00000001010 = some (.loop 0 3 10) := by decide +kernel
theorem test_word_wait_entry :
    decodeCell 0 0b111010_00000_00000_00000_000_000000000000000_101111111 = some (.waitEntry 0 383) := by decide +kernel
theorem test_word_frame_end :
    decodeCell 0 0b111011_00000_00000_00000_000_000000000000000000000000 = some (.frameEnd 0) := by decide +kernel

/-- 04, the worked result: a sum of 9521070 with SHIFT 1 and ALIGN gives 18595. -/
theorem test_result_format : formatSlot true true (asr 9521070 1) = 18595 := by decide +kernel

/-- 09, the ring example: a mark at 1200, WR at 3600, 2400 entries since. -/
def marked : State := { up with ring := { Ring.reset with wr := 3600, rd := 3000, u := 600, mark := some 1200, since := 2400 } }
theorem test_rewind_to_the_mark : (after .ringRewind marked).ring.rd = 1200 ∧ (after .ringRewind marked).ring.u = 2400 := by
  decide +kernel

/-- R301: without a mark the rewind fails and takes the oldest valid entry. -/
theorem test_rewind_without_a_mark :
    (after .ringRewind { marked with ring := { marked.ring with mark := none } }).flag Reg.RING_STAT 13 = true := by
  decide +kernel

/-! ### Witnesses: a state and operands for every clause with hypotheses -/

/-- Canonical memories: everything at its reset content. -/
theorem up_memWf : up.MemWf := ⟨rfl, rfl, rfl, fun _ h => (List.not_mem_nil h).elim, rfl, rfl, rfl⟩

theorem inFrame_memWf : inFrame.MemWf := ⟨rfl, rfl, rfl, fun _ h => (List.not_mem_nil h).elim, rfl, rfl, rfl⟩

theorem witness_stepRunsFront :
    ({ up with pending := [.ringMark, .relock] } : State).pending = .ringMark :: [.relock] ∧ up.pending = [] ∧
      asleep.aonUp = true ∧ 1 < ({ asleep with pwr := { asleep.pwr with timerLeft := 2 } } : State).pwr.timerLeft := by
  decide +kernel

theorem witness_execLeavesPending : ∃ t, exec .ringMark up = .next t := ⟨_, rfl⟩

/-- A step of the idle block, and one that resets it, for the statements about every step. -/
theorem witness_stepKeeps : up.MemWf ∧ (∃ t, step up = .next t) ∧ up.IdsFixed ∧ up.Sized ∧
    ∃ t, step { up with pending := [.vioLow] } = .next t :=
  ⟨up_memWf, ⟨_, rfl⟩, ⟨by decide +kernel, by decide +kernel⟩,
    ⟨by decide +kernel, by decide +kernel, by decide +kernel, by decide +kernel, by decide +kernel⟩, ⟨_, rfl⟩⟩

/-- Cell 6 of an open frame runs; a condition on P1 is false, its complement true. -/
theorem witness_cells : inFrame.issues 0 = true ∧ inFrame.issues 6 = true ∧ (inFrame.cell 0).holds .always = true ∧
    (inFrame.cell 6).holds .notP3 = true := by
  decide +kernel

/-- The instructions of the statements about cells run where their words stand. -/
theorem witness_runs :
    [Instr.add 0 .always 3 1 2, .med3 0 .always 3 1 2, .racc 0 .always 3 0 63, .plt 6 .notP3 3 1 2, .clra 0 .always 1,
      .wht 0 .always 30 1 2, .sort 0 .always 1 2, .nop 0 .always, .loop 0 0 2047, .getr 0 .always 1 0x4F,
      .getw 0 .always 1 2 14 true 0xFFFF, .ld 0 (.code .always 1 2 true 4095), .st 0 .always 1 2 true 4095,
      .pub 0 (.code .always 1 0x80), .vote 0 (.code .always 1), .emit 0 (.code .always 4088), .ering 0 (.code .always 4092),
      .emit 0 (.code .ifP1 0), .intake 0 1 2 true true 383 160, .intakes 0 1 2 false false 5 0, .waitEntry 0 383,
      .send 0 1 .next, .recv 6 1 .prev, .frameEnd 3].all
      (fun i => match i.coded with
        | some (c, _) => (coded inFrame i).runs c i && i.wf
        | none => false) = true := by
  decide +kernel

theorem witness_words : (Instr.waitEntry 6 383).wf = true ∧ (Instr.waitEntry 6 383).coded.isSome = true ∧
    codeBits 0x040400000000 24 3 = 0 ∧ codeBits 0x000004000000 24 3 = 4 ∧ codeBits 0x000004000000 42 6 < 0x28 := by
  decide +kernel

theorem witness_falsePredicate : (Instr.emit 0 (.code .ifP1 0)).wf = true ∧
    (Instr.emit 0 (.code .ifP1 0)).predicated = some (0, .ifP1) ∧ inFrame.issues 0 = true ∧
    (inFrame.cell 0).holds .ifP1 = false ∧ inFrame.runs 0 (.emit 0 (.code .ifP1 0)) = false := by
  decide +kernel

theorem witness_loop_bounds : (0 : Nat) ≤ 0 ∧ (1 : Nat) ≤ 1 := by decide

/-- The last register of the map and the first address beyond it, in GETR; a WHT pair at its last register. -/
theorem witness_snapshot_reads : (0x4F : Data).toNat % 256 = Reg.DRV_F3.val ∧ 80 ≤ (0x50 : Data).toNat % 256 ∧
    (30 : XReg).val ≠ 31 := by
  decide +kernel

theorem witness_forbidden : 383 < 384 := by decide

/-- LD, ST, PUB, VOTE, EMIT, ERING: no fault in the hardware and no library image. -/
theorem witness_coded_memWf : (coded inFrame (.st 0 .always 1 2 true 4095)).MemWf :=
  ⟨rfl, rfl, rfl, fun _ h => (List.not_mem_nil h).elim, rfl, by decide +kernel, rfl⟩

/-- A false EMIT and a false ERING in a shadowed cell whose spare has stopped. -/
def spareStopped (i : Instr) : State :=
  { coded inFrame i with
    cald := { (coded inFrame i).cald with shadow := some 0, spare := some 7 }, fmon := { Fmon.reset with faults := [(.halt 7, false)] } }

theorem witness_null_token :
    (∀ i ∈ [Instr.emit 0 (.code .ifP1 0), .ering 0 (.code .ifP1 0)], (spareStopped i).runs 0 i = true ∧ i.givesNull = true ∧
      ((spareStopped i).cell 0).holds .ifP1 = false ∧ (spareStopped i).mute 7 = true ∧
      (spareStopped i).fmon.memErrs = [] ∧ (spareStopped i).cald.lag.length < 64) := by
  decide +kernel

theorem inFrame_cellsSound : inFrame.cellsSound := ⟨fun _ h => (List.not_mem_nil h).elim, rfl, rfl⟩

theorem witness_load_store : inFrame.MemWf ∧ (inFrame.fetchErr 0).memErr (.dmem (inFrame.cald.map.get 0)) 4095 = none ∧
    inFrame.lib.on = false ∧ inFrame.fmon.memErrs = [] :=
  ⟨inFrame_memWf, by decide +kernel, rfl, rfl⟩

/-- The library at a stage of the frame, whose one row is complete; cell 2 waits for it. -/
def library (stage : Nat) : State :=
  { inFrame with lib := { Lib.reset with on := true, stage := stage }, rowDone := [0] }
def libraryWaits : State := (library 0).setCell 2 { Cell.reset with st := .library }

theorem library_cellsSound (n : Nat) : (library n).cellsSound := ⟨fun _ h => (List.not_mem_nil h).elim, rfl, rfl⟩

theorem witness_library : (library 0).libAt 0 0 = true ∧ (library 0).fmon.memErrs = [] ∧
    (library 0).libRows.all (library 0).rowComplete = true ∧
    ({ library 0 with rowDone := [] } : State).libRows.all ({ library 0 with rowDone := [] } : State).rowComplete = false ∧
    libraryWaits.mainUp = true ∧ libraryWaits.cald.isOpen = true ∧ (libraryWaits.cell 2).st = .library ∧
    libraryWaits.libRows.all libraryWaits.rowComplete = true ∧ (library 1).libAt 6 1 = true ∧
    ({ library 1 with lib := { (library 1).lib with stale := true } } : State).libAt 6 1 = true ∧
    (library 1).lib.capNow = false ∧ (library 1).lib.trackNow = false ∧ (library 2).libAt 0 2 = true ∧
    (library 1).cald.snap.flag Reg.FUNC_EN 4 = true ∧ (library 2).issues 0 = true ∧ (library 2).lib.on = true ∧
    2 ≤ (library 2).lib.stage ∧ (library 3).libAt 0 3 = true := by
  decide +kernel

/-- The queue at its last free place and full, with the gap state closed and open. -/
def fullQueue : State := { up with queue := { Queue.reset with items := List.replicate 63 (Vector.replicate 8 0) } }
def lastPlace : State :=
  { up with queue := { Queue.reset with items := List.replicate 62 (Vector.replicate 8 0), gap := some ⟨65535, 1, 2, 3⟩ } }

theorem witness_queue : up.flag Reg.FUNC_EN 5 = true ∧ up.queue.occupancy < 63 ∧ up.queue.gap = none ∧
    lastPlace.queue.occupancy < 63 ∧ lastPlace.queue.gap = some ⟨65535, 1, 2, 3⟩ ∧
    63 ≤ fullQueue.queue.occupancy ∧ (up.setFlag Reg.FUNC_EN 5 false).flag Reg.FUNC_EN 5 = false := by
  decide +kernel

/-- Row 5 of the frame is complete, row 383 is not; cell 0 runs, cell 1 waits for row 383. -/
def rowsKnown : State := { inFrame with rowDone := [5] }
def waitsRow : State := inFrame.setCell 1 { Cell.reset with st := .waitRow 383 }

theorem witness_rows : rowsKnown.rowComplete 5 = true ∧ rowsKnown.rowComplete 383 = false ∧ (383 : Nat) ≤ 383 ∧
    rowsKnown.issues 0 = true ∧ rowsKnown.fmon.memErrs = [] ∧
    waitsRow.mainUp = true ∧ waitsRow.cald.isOpen = true ∧ (waitsRow.cell 1).st = .waitRow 383 := by
  decide +kernel

theorem witness_intake_sound : ∀ k, rowsKnown.intakeMask k = 0 := fun _ => rfl

/-- Cell 6 sends to its next cell, cell 0, which receives. -/
def paired : State :=
  (inFrame.setCell 6 { Cell.reset with st := .send .next 7 }).setCell 0 { Cell.reset with st := .recv .prev 1 }

theorem witness_channels : paired.mainUp = true ∧ paired.cald.isOpen = true ∧ (paired.cell 6).st = .send .next 7 ∧
    (paired.cell (peer 6 .next)).st = .recv (dirFlip .next) 1 := by
  decide +kernel

theorem witness_channels_sound : paired.cellsSound := ⟨fun _ h => (List.not_mem_nil h).elim, rfl, rfl⟩

/-- Every cell but cell 3 is done. -/
def lastCell : State :=
  let cs := (Vector.replicate 7 { Cell.reset with st := .done }).set 3 { Cell.reset with st := .run }
  { up with cald := { Cald.reset with isOpen := true, cells := cs } }

/-- Every cell waits for row 383. -/
def allLate : State :=
  let cs := Vector.replicate 7 { Cell.reset with st := .waitRow 383 }
  { up with cald := { Cald.reset with isOpen := true, cells := cs } }

theorem witness_frameEnd : (coded inFrame (.frameEnd 3)).runs 3 (.frameEnd 3) = true ∧
    (∃ k, k ≠ 3 ∧ inFrame.cellDone k = false) ∧ (coded lastCell (.frameEnd 3)).runs 3 (.frameEnd 3) = true ∧
    (∀ k, k ≠ 3 → lastCell.cellDone k = true) ∧ lastCell.fmon.memErrs = [] ∧ inFrame.rowLate = false ∧ allLate.rowLate = true := by
  decide +kernel

/-- Cells 2 and 4 have staged KEY_STAT and the vote. -/
def staged : State :=
  { lastCell with cald := { lastCell.cald with pubs := [(4, 0x32, 9), (2, 0x32, 8)], votes := [(2, true), (4, false)] } }

theorem witness_close : staged.lastPub 0x32 9 ∧ staged.lastVote false ∧ staged.stalledTwice = [] ∧
    staged.cald.discard = false ∧ ({ staged with cald := { staged.cald with discard := true } } : State).cald.discard = true ∧
    (∀ k v, (k, 0x32, v) ∉ lastCell.cald.pubs) := by
  refine ⟨⟨4, by decide +kernel, ?_⟩, ⟨4, by decide +kernel, ?_⟩, by decide +kernel, rfl, rfl,
    fun _ _ h => (List.not_mem_nil h).elim⟩
  · intro k v h
    simp [staged] at h
    rcases h with ⟨rfl, rfl⟩ | ⟨rfl, rfl⟩ <;> simp
  · intro k b h
    simp [staged] at h
    rcases h with ⟨rfl, rfl⟩ | ⟨rfl, rfl⟩ <;> simp

/-- A frame is owed and none is open. -/
def owes : State := { up with cald := { Cald.reset with owed := [⟨7, Snap.reset⟩] } }

theorem witness_open : owes.mainUp = true ∧ owes.cald.isOpen = false ∧ owes.cald.owed = ⟨7, Snap.reset⟩ :: [] ∧
    owes.cald.takeover = none := by
  decide +kernel

/-- A takeover whose copy is under way; a cell under test. -/
def takesOver : State :=
  { up with cald := { Cald.reset with takeover := some ⟨0, 0, 7, false⟩, spare := none } }
def tests : State := { up with cald := { Cald.reset with testing := some (0, 0), spare := none } }

theorem witness_takeover : inFrame.cellDone 0 = false ∧ inFrame.waitsForRow 7 0 = false ∧
    waitsRow.waitsForRow 7 1 = true ∧ takesOver.cald.takeover = some ⟨0, 0, 7, false⟩ ∧ (0 : PhysId) ≠ 7 ∧
    tests.cald.testing = some (0, 0) ∧ tests.cellFaulty 0 = false ∧
    ({ tests with fmon := { Fmon.reset with faults := [(.cell 0 1, false)] } } : State).cellFaulty 0 = true := by
  decide +kernel

theorem witness_takeover_memWf : takesOver.MemWf :=
  ⟨rfl, rfl, rfl, fun _ h => (List.not_mem_nil h).elim, rfl, rfl, rfl⟩

/-- The servo raises, is at the ceiling, and the buck steps with and without a target. -/
theorem witness_pace : running.mainUp = true ∧ running.sched.valid = true ∧ running.servo = true ∧
    running.paceLim < 255 ∧ recentRaise running.aon.time running.pace.raisedP = false ∧ running.vset = 28 ∧
    (running.setFld Reg.PMU_STAT 8 5 5).mainUp = true ∧
    ({ running with pace := { Pace.reset with moving := true, target := some 3 } } : State).pace.moving = true := by
  decide +kernel

/-! Frames, entries, lanes -/

/-- Entry 5 as it runs: mode 1 with nothing in the way, four counted chips. -/
def anEntry : EntryRun :=
  { idx := 5, e := Entry.ofWords 0x2000 0 0x0400 0, freq := 0, profile := 0, roles := List.replicate 164 .sense,
    firstChip := 0, counted := 4, invalid := 0, lost := false, noPump := false, fc := 1, slot0 := 0, blocked := [],
    off := false, idle := false, memErr := false, serve := [], prefill := 0, hk := [] }

/-- A frame of a running schedule at its first boundary; entry 5 ready; waiting for DSYNC; running. -/
def boundary : State := { running with seq := { Seq.reset with run := true, phase := .boundary } }
def ready : State := { running with seq := { Seq.reset with run := true, phase := .ready, entry := 5, placed := true } }
def waits : State := { running with seq := { Seq.reset with run := true, phase := .waiting, entry := 5 } }
def runs : State := { running with seq := { Seq.reset with run := true, phase := .running, entry := 5, left := 4,
                                                           cur := some anEntry, pend := [anEntry] } }

theorem witness_frames : running.seqMay = true ∧ running.calBusy = false ∧ running.seq.run = false ∧
    running.cal.due = false ∧ running.fmon.memErrs = [] ∧ boundary.seqMay = true ∧ boundary.seq.run = true ∧
    ({ running with seq := { Seq.reset with due := true } } : State).seqMay = true := by
  decide +kernel

theorem witness_entries : boundary.mainUp = true ∧ boundary.atBoundary = true ∧ boundary.seq.pins = Seq.reset.pins ∧
    boundary.syncEn = false ∧ boundary.outputsTaken = true ∧ ready.seq.placed = true ∧ ready.seq.phase = .ready ∧ ready.seq.hold = 0 ∧ ready.noMoreEntries = false ∧
    ready.fmon.memErrs = [] := by
  decide +kernel

/-- Locked with an expected period of 1000, the sync function on; a display burst over an entry. -/
def locked : State :=
  { up.setReg Reg.SYNC_STAT 0x4000 with snap := { Snap.reset with regs := regsReset.set 0x1B 0x8000 },
                                        sync := ⟨1000, true, [], true⟩ }
def spills : State := { runs with snap := { Snap.reset with regs := regsReset.set 0x1D 1 }, sync := ⟨0, true, [], true⟩ }

theorem witness_sync : waits.mainUp = true ∧ waits.pwr.boot = .done ∧ waits.snap.flag Reg.SYNC_CTL 14 = false ∧ waits.seq.phase = .waiting ∧ waits.noMoreEntries = false ∧
    running.seq.phase ≠ .waiting ∧ running.sync.seen = false ∧ locked.seq.phase ≠ .waiting ∧
    locked.sync.seen = true ∧ locked.syncEn = true ∧ locked.flag Reg.SYNC_STAT 14 = true ∧
    100 * (((1030 : Nat) : Int) - (locked.sync.pexp : Nat)).natAbs ≤ 3 * locked.sync.pexp ∧
    spills.burstRuns = true ∧ spills.snap.reg Reg.QUIET_LEN ≠ 0 ∧ spills.flag Reg.SYNC_STAT 15 = false := by
  decide +kernel

theorem witness_chips : runs.mainUp = true ∧ profTrack (runs.snap.profile 0) = false ∧ anEntry.e.act = 1 ∧
    ({ runs with filt := { Filt.reset with first := false } } : State).filt.first = false ∧
    ({ runs with filt := { Filt.reset with first := true } } : State).filt.first = true ∧ ready.outputsTaken = true ∧
    waits.seq.phase ≠ .running ∧ waits.seq.phase ≠ .ready ∧ runs.seq.phase = .running ∧ runs.seq.cur = some anEntry ∧ 0 < runs.seq.left ∧
    ready.seq.phase = .ready ∧ ({ ready with seq := { ready.seq with hold := 1 } } : State).seq.hold = 1 := by
  decide +kernel

/-- A lane that senses, one that does not; a CIC output at the first cadence period that gives one. -/
theorem witness_lanes : runs.mainUp = true ∧ runs.agreed 4 = false ∧ runs.fmon.faults = [] ∧
    nth runs.rolesNow 163 .ground = .sense ∧ nth up.rolesNow 0 .ground = .ground ∧
    (({ runs with filt := { Filt.reset with cad := 4 } } : State).filt.cic + 1) * 4 ≤ 4 := by
  decide +kernel

def aChip : Chip := ⟨0, 0, true, 0, 0, none, false, ⟨false, false, none, 0⟩⟩

/-- One chip is driven whose output is due; a fade of 8 outputs has come to its end, with and without a pending bank. -/
def chipDue : State :=
  { runs with filt := { Filt.reset with cic := 1, chips := [aChip] } }
def fading (p : Option Bool) : State :=
  { up with filt := { Filt.reset with fade := some ⟨true, 8, 0, 0⟩, edge := 8, pend := p } }

theorem witness_resampler : chipDue.mainUp = true ∧ chipDue.agreed 4 = false ∧
    chipDue.nextChip (chipDue.lanes.get 0) = some aChip ∧ chipDue.filt.fade = none ∧
    chipDue.outputDue aChip 0 = true ∧ chipDue.filt.edge ≤ 0 ∧ (fading none).filt.fade = some ⟨true, 8, 0, 0⟩ ∧ 0 + 8 ≤ (fading (some false)).filt.edge ∧
    (fading (some false)).filt.pend = some false := by
  decide +kernel

/-- The chip's output is due in a fade of 32, as its first lane takes it and as another lane does after it. -/
def chipFading (c : Chip) (edge : Nat) : State :=
  { chipDue with filt := { chipDue.filt with chips := [c], edge := edge, fade := some ⟨true, 32, 0, edge⟩ } }
def fixedChip : Chip := { aChip with fade := some (false, true, 0, 16) }

theorem witness_fade_blend : (chipFading aChip 0).blendFor 0 = (false, some (false, true, 0, 16)) ∧
    (chipFading aChip 0).blendFor 31 = (false, some (false, true, 31, 32)) ∧
    (chipFading aChip 0).blendFor 32 = (true, none) := ⟨by decide +kernel, by decide +kernel, by decide +kernel⟩

theorem witness_fade : (chipFading aChip 0).nextChip ((chipFading aChip 0).lanes.get 5) = some aChip ∧
    (chipFading aChip 0).outputDue aChip 5 = true ∧ (chipFading aChip 0).filt.edge ≤ aChip.no ∧
    (chipFading fixedChip 1).nextChip ((chipFading fixedChip 1).lanes.get 5) = some fixedChip ∧
    (chipFading fixedChip 1).outputDue fixedChip 5 = true ∧ fixedChip.no < (chipFading fixedChip 1).filt.edge := by
  decide +kernel

/-- The row of entry 5 is ready; slot 0 of a mode-1 entry senses with a saturation and without. -/
def rowDue : State := { runs with seq := { runs.seq with left := 0 } }
def rowDirty : State := { rowDue with filt := { Filt.reset with sats := [⟨0, 0, true, false⟩] } }

theorem witness_row : rowDue.mainUp = true ∧ rowDue.seq.pend = anEntry :: [] ∧ rowDue.rowReady anEntry = true ∧
    anEntry.idx ≤ 383 ∧ anEntry.e.act ≠ 5 ∧ anEntry.e.act ≠ 7 ∧ 159 ∉ anEntry.blocked ∧ anEntry.off = false ∧
    anEntry.idle = false ∧ rowDue.entrySigns anEntry (anEntry.slotLane 159) = [] ∧
    rowDirty.entrySigns anEntry (anEntry.slotLane 0) ≠ [] ∧ (nth anEntry.roles 159 .ground).converts = true := by
  decide +kernel

theorem witness_row_memWf : rowDue.MemWf := ⟨rfl, rfl, rfl, fun _ h => (List.not_mem_nil h).elim, rfl, rfl, rfl⟩

/-- Detector 3 at the last sample of its block; a housekeeping entry at its last slot; a self-calibration runs. -/
def blockEnds : State := { up with dets := up.dets.set 3 { Det.reset with busy := true, n := 64, cfg := [0, 64, 0, 0] } }
def housekeeps : State :=
  let r := { anEntry with e := Entry.ofWords 0xA000 0 0 0, hk := List.replicate 6 0 }
  { running with seq := { Seq.reset with run := true, phase := .running, cur := some r, pend := [r] } }
def calibrates : State := { up with cal := { Cal.reset with phase := .offset } }

theorem witness_detector : blockEnds.mainUp = true ∧ blockEnds.agreed 4 = false ∧ (blockEnds.dets.get 3).busy = true ∧
    (blockEnds.dets.get 3).n = (blockEnds.dets.get 3).blen := by
  decide +kernel

theorem witness_detector_memWf : blockEnds.MemWf := ⟨rfl, rfl, rfl, fun _ h => (List.not_mem_nil h).elim, rfl, rfl, rfl⟩

theorem witness_housekeeping : ∃ r, housekeeps.mainUp = true ∧ housekeeps.calBusy = false ∧
    housekeeps.running = some r ∧ r.e.act = 5 ∧ (6 : Fin 7).val = r.hk.length ∧ housekeeps.chipsOver = false ∧ calibrates.mainUp = true ∧
    calibrates.calBusy = true ∧ calibrates.cal.measured = false ∧
    ({ calibrates with cal := { calibrates.cal with measured := true } } : State).calBusy = true :=
  ⟨_, by decide +kernel, by decide +kernel, rfl, by decide +kernel, by decide +kernel, by decide +kernel,
    by decide +kernel, by decide +kernel, by decide +kernel, by decide +kernel⟩

/-- The pump runs and stands; the DPLL is on, acquires, is locked, and drives. -/
theorem witness_pump_dpll :
    ({ up with drive := { Drive.reset with pump := true } } : State).drive.pump = true ∧ up.drive.pump = false ∧
    (up.setReg Reg.CLK_CTL 0x2001).pwr.boot = .done ∧ ({ up with pwr := { up.pwr with boot := .stream } } : State).mainUp = true ∧
    (up.setReg Reg.CLK_CTL 0x2001).mainUp = true ∧ (up.setReg Reg.CLK_CTL 0x2001).tb ≠ 0 ∧
    (up.setReg Reg.CLK_CTL 0x2001).flag Reg.CLK_STAT 14 = false ∧
    (up.setReg Reg.CLK_STAT 0xC000).flag Reg.CLK_STAT 14 = true ∧
    (up.setReg Reg.CLK_STAT 0xC000).flag Reg.CLK_STAT 15 = true := by
  decide +kernel

/-! Queue, ring, host port -/

/-- A record waits in the insertion buffer. -/
def inserted : State := { up with queue := { Queue.reset with ins := [Vector.replicate 8 0] } }

theorem witness_insert : inserted.mainUp = true ∧ inserted.queue.ins = Vector.replicate 8 0 :: [] ∧
    ({ inserted with cald := { Cald.reset with isOpen := true } } : State).cald.isOpen = true ∧
    inserted.cald.isOpen = false ∧ inserted.queue.stopped = false ∧ inserted.flag Reg.FUNC_EN 5 = true ∧
    inserted.queue.occupancy < 63 ∧ inserted.queue.gap = none ∧
    Nat.max 1 (inserted.fld Reg.RPT_CTL 8 6) ≤ 1 := by
  decide +kernel

theorem witness_ring : up.mainUp = true ∧ up.ring.u < 4096 ∧
    ({ up with ring := { Ring.reset with u := 4096 } } : State).ring.u = 4096 ∧
    (marked.ring.wr - (3599 : Word).setWidth 12).toNat ≤ ({ marked.ring with count := 1 } : Ring).count ∧
    ¬ (marked.ring.wr - (3598 : Word).setWidth 12).toNat ≤ ({ marked.ring with count := 1 } : Ring).count := by
  decide +kernel

/-- A register without side effects in reads and writes: the last of the map, DRV_F3; and an AON one, INT_EN. -/
theorem witness_registers : bits (0xA500 : Word) 8 8 = 0xA5 ∧ plainWritten Reg.DRV_F3 ∧ plainRead Reg.DRV_F3 ∧ plainWritten Reg.INT_EN ∧ plainRead Reg.INT_EN ∧
    (0x4F : BitVec 7).toNat = Reg.DRV_F3.val ∧ up.answers 0x4F = true ∧ asleep.answers 0x04 = true ∧
    80 ≤ (0x50 : BitVec 7).toNat ∧ Reg.DRV_F3 ≠ Reg.HOST_STAT ∧ Reg.DRV_F3 ≠ Reg.INT_STAT := by
  simp only [plainWritten, plainRead]
  decide +kernel

theorem witness_spi : up.spiIdle ∧ asleep.spiIdle ∧ asleep.mainUp = false ∧ 16 ≤ Reg.FUNC_RESET.val ∧
    asleep.pwr.pstate = .sleep :=
  ⟨⟨rfl, rfl, rfl, rfl, by decide, rfl⟩, ⟨rfl, rfl, rfl, rfl, by decide, rfl⟩, rfl, by decide, rfl⟩

/-- Writes of the registers with command bits: the first and the last of them, one in SLEEP, a command bit alone. -/
theorem witness_commands : up.answers 0x05 = true ∧ up.answers 0x4A = true ∧ asleep.aonUp = true ∧
    asleep.pwr.pstate = .sleep ∧ (0x8000 : Word).getLsbD 15 = true ∧ (0x8000 : Word).toNat / 2 ^ 13 = 4 ∧
    (0x4000 : Word).toNat / 2 ^ 13 = 2 ∧ (0x2000 : Word).toNat / 2 ^ 13 = 1 ∧ (0x8000 : Word).toNat / 2 ^ 14 = 2 ∧
    (0x4000 : Word).toNat / 2 ^ 14 = 1 ∧ (0xC000 : Word).toNat / 2 ^ 12 % 8 = 4 ∧ bits (0x865A : Word) 8 4 = 6 ∧
    bits (0xB000 : Word) 12 3 = 3 ∧ 4 ≤ bits (0xF000 : Word) 12 3 ∧ up.pwr.hs = none ∧ up.seq.run = false ∧
    up.calderaBusy = false ∧ up.nvm.op = none := by
  decide +kernel

/-- The window at CALF, in it and beyond it. -/
def window (a : Word) : State := (up.setReg Reg.WIN_SEL 6).setReg Reg.WIN_ADDR a

theorem witness_window : (window 0).mainUp = true ∧ (window 0).fmon.memErrs = [] ∧ (window 0).winCode ∈ [5, 6, 7, 8, 14] ∧
    (window (word (winSize 6 - 1))).winAddr < winSize 6 ∧ ¬ (window (word (winSize 6))).winAddr < winSize 6 := by
  decide +kernel

theorem witness_window_state : (window 0).MemWf ∧ (window 0).spiIdle :=
  ⟨⟨rfl, rfl, rfl, fun _ h => (List.not_mem_nil h).elim, rfl, rfl, rfl⟩, ⟨rfl, rfl, rfl, rfl, by decide, rfl⟩⟩

/-- The queue holds one record; a stalled burst with the queue filled again, and with it empty. -/
def oneItem : State := { up with queue := { Queue.reset with items := [Vector.replicate 8 3] } }
def burst : Txn :=
  { rd := true, kind := 2, needs := true, crcOn := false, crc := 0, dead := false, void := false, addr := 0, read := [], redone := [],
    queue := true }
def stalled (l : List Rec) : State :=
  { up with queue := { Queue.reset with items := l, stream := .stalled }, port := { Port.reset with txn := some burst } }

theorem witness_reports : oneItem.mainUp = true ∧ oneItem.fmon.memErrs = [] ∧ oneItem.queue.cut = false ∧
    oneItem.queue.word < 8 ∧ oneItem.queue.stopped = false ∧ oneItem.queue.items = Vector.replicate 8 3 :: [] ∧
    up.queue.items = [] ∧ up.queue.word = 0 ∧ oneItem.queue.stream = .off ∧
    ({ oneItem with queue := { oneItem.queue with word := 7 } } : State).queue.word < 8 ∧
    (stalled [Vector.replicate 8 3]).port.txn = some burst ∧ burst.kind = 2 ∧ burst.dead = false ∧ burst.crcOn = false ∧
    (stalled []).queue.stream = .stalled ∧ (stalled []).queue.seen = 0 ∧ (stalled []).queue.word = 0 ∧
    (stalled []).aon.hsel = false ∧ (stalled []).fmon.faults = [] := by
  decide +kernel

theorem witness_stream_idle : oneItem.spiIdle := ⟨rfl, rfl, rfl, rfl, by decide, rfl⟩

/-- The port as an I2C target: idle, and with a read that waits for MAIN. -/
def i2c : State := { up with aon := { Aon.reset with hsel := true } }
def readTxn : Txn :=
  { rd := true, kind := 0, needs := true, crcOn := false, crc := 0, dead := false, void := false, addr := 16, read := [], redone := [],
    queue := false }
def stretched (s : State) : State :=
  { s with aon := { s.aon with hsel := true }, port := { Port.reset with txn := some readTxn, stretch := some (.read 1) } }

/-- A write of the last register is in progress. -/
def writing : State :=
  { i2c with port := { Port.reset with txn := some { readTxn with rd := false, addr := 0x4F } } }

theorem witness_i2c : i2c.i2cIdle ∧ i2c.answers 0x4F = true ∧ ptrValid 0x90 = true ∧ ptrValid 0x91 = false ∧
    i2c.i2cAddrByte = 0x58 ∧ ptrKind 0x86 = 1 ∧ (0x86 : Byte).toNat % 16 ≠ 0 ∧
    ({ i2c with port := { Port.reset with ptr := 0x4F } } : State).port.ptr = BitVec.ofNat 8 Reg.DRV_F3.val :=
  ⟨⟨rfl, rfl, rfl, rfl, rfl, by decide⟩, rfl, by decide, by decide, by decide, by decide, by decide, by decide⟩

theorem witness_i2c_write : writing.aonUp = true ∧ writing.aon.hsel = true ∧ writing.fmon.faults = [] ∧
    writing.port.txn = some { readTxn with rd := false, addr := 0x4F } ∧ writing.port.stretch = none ∧
    readTxn.kind = 0 ∧ readTxn.dead = false ∧ readTxn.crcOn = false ∧ writing.answers 0x4F = true ∧
    readTxn.void = false := by
  decide +kernel

theorem witness_stretch : (stretched up).aonUp = true ∧ (stretched up).aon.hsel = true ∧ (stretched up).fmon.faults = [] ∧
    (stretched up).port.txn = some readTxn ∧ (stretched up).port.stretch = some (.read 1) ∧ readTxn.kind = 0 ∧
    readTxn.addr = Reg.FUNC_RESET.val ∧ readTxn.dead = false ∧ readTxn.crcOn = false ∧ 16 ≤ Reg.FUNC_RESET.val ∧
    (stretched up).mainUp = true ∧ (stretched asleep).mainUp = false := by
  decide +kernel

theorem witness_stretch_plain : plainRead Reg.FUNC_RESET := by
  simp only [plainRead]
  decide +kernel

theorem witness_transactions : up.aonUp = true ∧ up.aon.hsel = false ∧ i2c.aon.hsel = true ∧ up.port.rstDue = false ∧
    up.port.txn = none ∧ ({ i2c with port := { Port.reset with txn := some { readTxn with rd := false } } } : State).aonUp = true ∧
    (stalled []).port.txn = some burst ∧ burst.needs = true := by
  decide +kernel

/-- A write of a MAIN register stands at an odd byte in SLEEP. -/
def oddByte : State :=
  { asleep with aon := { Aon.reset with hsel := true }, port := { Port.reset with txn := some { readTxn with rd := false } } }

theorem witness_odd : oddByte.aonUp = true ∧ oddByte.oddWaits = true ∧ oddByte.pwr.pstate ≠ .wakeFail ∧
    writing.oddWaits = false := by
  decide +kernel

/-! Resets, functions, image load -/

theorem witness_resets : up.aonUp = true ∧ (1000 : Nat) ≤ 1000 ∧ (99 : Nat) < 100 ∧ (100 : Nat) ≤ 999 ∧
    (999 : Nat) < 1000 ∧ up.aon.slow = .internal ∧
    ({ up with aon := { Aon.reset with por := true } } : State).aon.por = true ∧ up.aon.por = false := by
  decide +kernel

theorem witness_functions : up.mainUp = true ∧ up.readsQueue = false ∧ up.flag Reg.FUNC_EN 5 = true ∧
    (stalled []).readsQueue = true ∧
    (up.setReg Reg.FUNC_EN 0x07FE).flag Reg.FUNC_EN 0 = false ∧ (up.setReg Reg.FUNC_EN 0x07FD).flag Reg.FUNC_EN 1 = false := by
  decide +kernel

/-- Resets of LANES and FILTERS wait at a boundary and at an entry start; the queue is disabled. -/
theorem witness_function_resets : (boundary.setFlag Reg.FUNC_RESET 0 true).atBoundary = true ∧
    (boundary.setFlag Reg.FUNC_RESET 0 true).flag Reg.FUNC_RESET 0 = true ∧
    (ready.setFlag Reg.FUNC_RESET 1 true).flag Reg.FUNC_RESET 1 = true ∧
    (ready.setFlag Reg.FUNC_RESET 1 true).noMoreEntries = false ∧ (up.setFlag Reg.FUNC_EN 5 false).readsQueue = false ∧
    (inFrame.setFlag Reg.FUNC_EN 5 false).cald.isOpen = true := by
  decide +kernel

/-- Load mode is asked for, is on, and a COMMIT is under way. -/
def loading : State := { up with sched := { Sched.reset with state := .load, commit := true, loadWait := true } }
def asksLoad : State := { running with sched := { running.sched with loadWait := true } }

theorem witness_image : up.flag Reg.SCHED_CTL 15 = false ∧ asksLoad.sched.loadWait = true ∧ asksLoad.seq.run = false ∧
    asksLoad.calderaBusy = false ∧ asksLoad.sched.state ≠ .copy ∧ loading.sched.state = .load ∧
    running.sched.state ≠ .load ∧ loading.mainUp = true ∧ loading.pwr.boot = .done ∧ loading.sched.commit = true ∧
    loading.nvm.op = none := by
  decide +kernel

/-! Sleep, wake, Geyser -/

/-- Handshakes at the first and the last block, with and without a delay, with two and three delays gone. -/
def asked (block delays : Nat) : State :=
  { up with pwr := { up.pwr with pstate := .entry, hs := some ⟨block, delays, [], none⟩ } }
def askedBusy (delays : Nat) : State :=
  { asked 1 delays with queue := { Queue.reset with word := 1 } }

theorem witness_handshake : up.pwr.pstate = .active ∧ up.pwr.hs = none ∧ up.pwr.goSleep = false ∧ (asked 1 0).mainUp = true ∧
    (asked 1 0).pwr.hs = some ⟨1, 0, [], none⟩ ∧ (asked 1 0).delays 1 = false ∧ (asked 7 0).delays 7 = false ∧
    (asked 7 0).pwr.goSleep = false ∧ (7 : Nat) ≤ 7 ∧
    ({ asked 7 0 with sec := { Sec.reset with tapOut := true } } : State).sec.tapOut = true ∧
    (askedBusy 2).delays 1 = true ∧ (askedBusy 3).delays 1 = true ∧
    (askedBusy 3).pwr.hs = some ⟨1, 3, [], none⟩ := by
  decide +kernel

theorem witness_sleepEntry :
    let s : State := { up with pwr := { up.pwr with goSleep := true } }
    s.mainUp = true ∧ s.pwr.goSleep = true := by
  decide +kernel

/-- Asleep with the timer counting, DSYNC enabled and a wake asked for. -/
def sleeping : State :=
  { asleep with pwr := { asleep.pwr with timerLeft := 1, dsyncWk := true, pol := true, reqs := [.timer] } }

theorem witness_wakeSources : sleeping.aonUp = true ∧ sleeping.pwr.pstate = .sleep ∧ sleeping.pwr.timerLeft ≠ 0 ∧
    sleeping.pwr.dsyncWk = true ∧ sleeping.pwr.pol = true ∧ sleeping.sec.life ≠ .secured ∧ sleeping.pwr.reqs ≠ [] ∧
    up.pwr.pstate ≠ .sleep ∧
    ({ up with sec := { Sec.reset with life := .secured } } : State).sec.life = .secured := by
  decide +kernel

/-- A wake at step `n`. -/
def wakes (n : Nat) (retried waiting : Bool) : State :=
  { asleep with pwr := { asleep.pwr with pstate := .waking, step := n, retried := retried, waiting := waiting } }

theorem witness_wakeSteps : (wakes 2 false false).aonUp = true ∧ (wakes 2 false false).pwr.pstate = .waking ∧
    (wakes 2 false false).pwr.waiting = false ∧ (wakes 2 false false).pwr.retried = false ∧
    (wakes 2 true false).pwr.retried = true ∧ (wakes 3 false false).pwr.step = 3 ∧ (wakes 5 false false).pwr.step = 5 ∧
    (wakes 2 false true).pwr.waiting = true := by
  decide +kernel

/-- The Geyser scans four buses; scan `n` comes next. -/
def scans (n : Nat) (touched : Bool) : State :=
  { asleep with geyser := { Geyser.reset with on := true, cand := touched, scan := n,
                                              buses := List.replicate 4 { Bus.reset with touched := touched } } }

theorem witness_geyser : (scans 0 false).aonUp = true ∧ (scans 0 false).pwr.pstate = .sleep ∧ (scans 0 false).geyser.on = true ∧
    3 < (scans 0 false).geyser.buses.length ∧ (scans 0 false).geyser.scan < 4 ∧ (scans 3 false).geyser.scan = 3 ∧
    4 ≤ (scans 4 false).geyser.scan ∧ (nth (scans 4 false).geyser.buses 3 Bus.reset).excl = false ∧
    1 ≤ (scans 2 false).geyser.scan ∧ (scans 2 false).geyser.scan < 3 ∧
    (nth ((scans 4 false).geyser.buses.map (fun b : Bus => { b with excl := true })) 3 Bus.reset).excl = true ∧
    (∀ j < 64, nth (List.replicate 64 (512000 : Int)) j 0 = 512000) ∧ (scans 4 true).geyser.cand = true ∧ (nth (scans 4 true).geyser.buses 3 Bus.reset).touched = true := by
  decide +kernel

/-- HOLD is enabled, and bus 0 has been touched for a second; without it no pattern completes. -/
def held (cfg : Word) : State :=
  let s : State := asleep.setReg Reg.GEYSER_CFG cfg
  { s with aon := { Aon.reset with time := 40000 },
           geyser := { Geyser.reset with on := true, cand := true, scan := 8, evs := [⟨0, 5, 0, none⟩],
                                         buses := [{ Bus.reset with touched := true, base := -30000 },
                                                   { Bus.reset with base := 30000 }] } }

theorem witness_patterns :
    let scan (s : State) := s.watchBuses [List.replicate 64 0, List.replicate 64 0]
    ((scan (held 0x9000)).1.pattern (scan (held 0x9000)).1.geyser (scan (held 0x9000)).2 = some 3) ∧
    ((scan (held 0x8000)).1.pattern (scan (held 0x8000)).1.geyser (scan (held 0x8000)).2 = none) := by
  decide +kernel

/-- 08: with ON 96 and OFFR 8, OFF is 48. -/
theorem test_geyser_off : (up.setReg Reg.GEYSER_THR 0x6080).geyOffThr = 48 := by decide +kernel

/-! Calibration, NVM -/

/-- A run is due; its offset and gain phases; a round measures lane 160. -/
def calDue : State := { up with cal := { Cal.reset with due := true } }
def gainPhase : State := { up with cal := { Cal.reset with phase := .gain, offs := List.replicate 164 0 } }
def measures : State := { up with cal := { Cal.reset with round := some ⟨0, 0, false, [160], false, false, [], [], [], false⟩ } }
def backgrounds : State := { running with tables := [(winKey Win.SEQ 0, 0xE001), (winKey Win.SEQ 1, 0x8000)] }

theorem witness_calibration : up.flag Reg.CAL_CMD 15 = false ∧ calDue.cal.due = true ∧ calDue.calBusy = false ∧
    calDue.seq.run = false ∧ calDue.cal.waits = false ∧ calibrates.cal.phase = .offset ∧ gainPhase.cal.phase = .gain ∧
    gainPhase.pwr.boot = .done ∧ gainPhase.cal.round = none ∧ (0 : Int) < 1 - 256 * 0 * 1 ∧
    measures.cal.round = some ⟨0, 0, false, [160], false, false, [], [], [], false⟩ ∧ [160] ≠ ([] : List Nat) ∧
    backgrounds.calBusy = false ∧ backgrounds.flag Reg.CAL_STAT 14 = false ∧ backgrounds.cal.dueRnd = false := by
  decide +kernel

theorem witness_background : backgrounds.hasBg = true := by decide +kernel

theorem witness_gainPhase_memWf : gainPhase.MemWf := ⟨rfl, rfl, rfl, fun _ h => (List.not_mem_nil h).elim, rfl, rfl, rfl⟩

/-- A header of 12 bytes and nothing else is loaded. -/
def headerOnly : State := { up with sched := { Sched.reset with state := .load, loaded := 12 } }

theorem witness_nvm_begins : up.mainUp = true ∧ up.agreed 6 = false ∧ up.nvm.op = none ∧ headerOnly.imageComplete = true ∧
    headerOnly.nvm.op = none ∧ running.sched.state = .running ∧ up.sec.life ≠ .secured ∧ (0x5B : Byte) ≠ 0x5A ∧
    up.sec.trans = .none ∧ ({ up with sec := { Sec.reset with trans := .returned } } : State).sec.trans ≠ .none ∧
    7 ≤ (7 : BitVec 4).toNat ∧ ({ up with nvm := { Nvm.reset with op := some .eraseA } } : State).nvm.op ≠ none ∧
    ({ up with nvm := { Nvm.reset with op := some .eraseA } } : State).agreed 6 = false := by
  decide +kernel

/-- A page, and the end of an operation. -/
def programs (todo : List FlashStep) : State := { up with nvm := { Nvm.reset with op := some .saveCal, todo := todo } }

theorem witness_nvm_steps : (programs [.program 0 [1]]).nvm.op = some .saveCal ∧
    (programs [.program 0 [1]]).nvm.todo = .program 0 [1] :: [] ∧ (programs [.erase 0 4096]).nvm.paused = false ∧
    (programs []).nvm.todo = [] ∧ (programs []).nvm.frames = 0 ∧ (programs []).nvm.after = false ∧
    NvmOp.saveCal ≠ .autoSave := by
  decide +kernel

theorem witness_nvm_memWf : (programs []).MemWf := ⟨rfl, rfl, rfl, fun _ h => (List.not_mem_nil h).elim, rfl, rfl, rfl⟩

/-! Lifecycle, TAP, faults -/

/-- A nonce stands; with the whole response written. -/
def nonceOut (n : Nat) : State := { up with sec := { Sec.reset with nonce := some 7, resp := List.replicate n 0 } }

def answered (p : Nat) : State := { up with sec := { (nonceOut 16).sec with purpose := p } }

theorem witness_challenge : ({ up with sec := { Sec.reset with asked := true } } : State).sec.asked = true ∧
    (nonceOut 15).sec.nonce = some 7 ∧ (nonceOut 15).sec.resp.length < 16 ∧ (nonceOut 16).sec.resp.length = 16 ∧
    ∀ p, (answered p).sec.nonce = some 7 ∧ (answered p).sec.resp.length = 16 ∧ (answered p).sec.purpose = p ∧
      (answered p).sec.rslot < 4 := by
  refine ⟨?_, ?_, ?_, ?_, fun p => ⟨rfl, rfl, rfl, (by decide : 0 < 4)⟩⟩ <;>
  decide +kernel

/-- Slot 0 enrolled; in DEVELOP with a live production key and the unlock key set; a transition under way. -/
def enrolled : State := { up with sec := { Sec.reset with shadow := #v[0xFF, 0, 0, 0] } }
def develop : State := { up with sec := { Sec.reset with life := .develop, shadow := #v[0xFF, 0xFF, 0, 0xFF0000FF] } }
def moves (t : Transition) : State := { up with sec := { Sec.reset with trans := t } }

theorem witness_lifecycle : enrolled.pwr.pstate = .active ∧ enrolled.sec.trans = .none ∧ enrolled.sec.life = .opened ∧
    (∃ k, k < 4 ∧ enrolled.enrolled k = true ∧ enrolled.revoked k = false) ∧ develop.sec.life = .develop ∧
    develop.liveProduction ≠ [] ∧ develop.keyset = true ∧ develop.sec.life ≠ .opened ∧
    (moves .develop).sec.trans = .develop ∧ (moves .secured).sec.trans = .secured ∧
    (moves .returned).sec.trans = .returned ∧ (moves .returned).nvm.todo = [] ∧
    ({ moves .returned with nvm := { Nvm.reset with todo := [.erase 0 4096] } } : State).nvm.todo ≠ [] ∧ (moves .returnFuse).sec.trans = .returnFuse := by
  refine ⟨?_, ?_, ?_, ⟨0, ?_⟩, ?_⟩ <;> decide +kernel

theorem witness_return_memWf : (moves .returned).MemWf := ⟨rfl, rfl, rfl, fun _ h => (List.not_mem_nil h).elim, rfl, rfl, rfl⟩

def probed : State := { up with sec := { Sec.reset with tapOut := true } }

theorem witness_tap : probed.sec.tapOut = true ∧ (0x1F : BitVec 5) ∉ [0x01, 0x08, 0x0C] ∧ probed.otpAllowed 40 1 = true ∧
    ({ probed with sec := { probed.sec with life := .secured } } : State).sec.life = .secured ∧
    (3 : BitVec 2) ≠ 1 ∧ (3 : BitVec 2) ≠ 2 ∧ (Instr.otpProgRead ((3 : BitVec 2) ++ (63 : BitVec 6) ++ (0 : BitVec 32))).wf = true ∧
    (0x8000000000 + 0x4F * 0x80000000 : BitVec 40).getLsbD 39 = true ∧
    (0x8000000000 + 0x4F * 0x80000000 : BitVec 40).getLsbD 38 = false ∧
    (0x8000000000 + 0x4F * 0x80000000 : BitVec 40).toNat / 2 ^ 31 % 128 = Reg.DRV_F3.val ∧
    ({ up with sec := { Sec.reset with otpProg := some (63, 1) } } : State).sec.otpProg = some (63, 1) := by
  decide +kernel

/-- One bad FIO window has been; one wrong readback of IRQ_N; a bit in error in IMEM of cell 0. -/
def badOnce : State := { up with fmon := { Fmon.reset with fioBad := 1, irqDiff := 1 } }
def inError (bits : Nat) : State :=
  { up with fmon := { Fmon.reset with memErrs := [⟨.imem 0, 0, bits, false, false⟩] } }

theorem witness_faultMonitor : badOnce.mainUp = true ∧ badOnce.snap.flag Reg.FAULT_EN 9 = true ∧ badOnce.fio2 = false ∧
    badOnce.fmon.fioBad = 1 ∧ 93750 < 50 * (((95626 : Nat) : Int) - 93750).natAbs ∧
    50 * (((95625 : Nat) : Int) - 93750).natAbs ≤ 93750 ∧ 50 * (((46875 : Nat) : Int) - 46875).natAbs ≤ 46875 ∧
    up.snap.flag Reg.FAULT_EN 8 = true ∧ up.supplyCounts .vana = true ∧ up.aonUp = true ∧
    ({ up with aon := { Aon.reset with slow := .xtal } } : State).aon.slow = .xtal ∧ up.aon.slow ≠ .watchdog ∧
    badOnce.snap.flag Reg.FAULT_EN 7 = true ∧ badOnce.fmon.irqDiff = 1 := by
  decide +kernel

theorem witness_memoryErrors : up.memErr (.imem 0) 0 = none ∧
    (inError 1).memErr (.imem 0) 0 = some ⟨.imem 0, 0, 1, false, false⟩ ∧ ones 1 = 1 ∧ 2 ≤ ones 3 ∧
    (inError 3).memErr (.imem 0) 0 = some ⟨.imem 0, 0, 3, false, false⟩ ∧ (inError 1).mainUp = true ∧
    (inError 1).pwr.pstate = .active ∧ (inError 1).snap.flag Reg.FAULT_EN 10 = true ∧
    (∀ x ∈ (inError 1).fmon.memErrs, x.mem = .imem 0 → x.addr = 0 → x = ⟨.imem 0, 0, 1, false, false⟩) ∧
    (inError 1).scrubOf (.imem 0) 0 = none ∧
    (∀ x ∈ (inError 1).fmon.memErrs, x.mem = .imem 0 → x.addr = 0 → x.stuck = false) := by
  decide +kernel

/-- The word was in error at its last scrub, and no stuck bit has been reported yet. -/
theorem witness_stuck :
    let s : State := { inError 1 with fmon := { (inError 1).fmon with scrubbed := [⟨.imem 0, 0, false⟩] } }
    s.scrubOf (.imem 0) 0 = some ⟨.imem 0, 0, false⟩ ∧ s.snap.flag Reg.FAULT_EN 10 = true ∧
    s.memErr (.imem 0) 0 = some ⟨.imem 0, 0, 1, false, false⟩ := by
  decide +kernel

theorem witness_otherFault : ∀ m a b st, FaultSpec.lane 0 1 ≠ .memory m a b st := fun _ _ _ _ h => nomatch h

end Sys2Proof.Tests
end

section
/-! PROOFS. The write side of the Fumarole queue (09, R279 to R283): what a push accepts, what it drops, and how a drop
opens or extends the gap state. -/

namespace Sys2Proof.Machine

/-! ### The gap state and its record (R280, R281) -/

@[simp] theorem gapDrop_none (fc time : Word) :
    gapDrop none fc time = { dropped := 1, first := fc, last := fc, tFirst := time } := rfl

@[simp] theorem gapDrop_some (g : Gap) (fc time : Word) :
    gapDrop (some g) fc time = { g with dropped := min 65535 (g.dropped + 1), last := fc } := rfl

theorem gapRec_eq (g : Gap) (r : Rec) :
    gapRec g r = #v[0x5000, r.get 1, r.get 2, word g.dropped, g.first, g.last, g.tFirst, 0] := rfl

/-! ### An accepted record (R279, R281) -/

section Accepted

variable {s : State} (r : Rec) (hen : s.flag Reg.FUNC_EN 5 = true) (hocc : s.queue.occupancy < 63)
include hen hocc

/-- An accepted record is staged behind the GAP record of an open gap state, which closes. -/
theorem State.pushRec_queue_of_accepted :
    (s.pushRec r).queue =
      { s.queue with staged := s.queue.staged ++ s.queue.gap.toList.map (gapRec · r) ++ [r], gap := none } := by
  have hacc : ¬ 63 ≤ s.queue.occupancy := by omega
  cases hg : s.queue.gap <;> simp [State.pushRec, hen, hacc, hg]

theorem State.pushRec_regs_of_accepted : (s.pushRec r).regs = s.regs := by
  have hacc : ¬ 63 ≤ s.queue.occupancy := by omega
  cases hg : s.queue.gap <;> simp [State.pushRec, hen, hacc, hg]

/-- A GAP record and the record behind it still fit: the 64th place is theirs (R281). -/
theorem State.pushRec_occupancy_of_accepted : (s.pushRec r).queue.occupancy ≤ 64 := by
  have hpre : s.queue.gap.toList.length ≤ 1 := Option.length_toList_le
  rw [State.pushRec_queue_of_accepted r hen hocc]
  simp only [Queue.occupancy, List.length_append, List.length_map, List.length_singleton] at hocc ⊢
  omega

end Accepted

/-! ### A dropped record (R280, R283) -/

/-- A dropped record leaves its trace in the gap state, the count of drops and RPT_STAT.DROP, and nowhere else. -/
theorem State.pushRec_of_dropped {s : State} (r : Rec)
    (hdrop : s.flag Reg.FUNC_EN 5 = false ∨ 63 ≤ s.queue.occupancy) :
    s.pushRec r =
      { s with queue := { s.queue with
          gap := some (gapDrop s.queue.gap (r.get 1) s.time16), drops := s.queue.drops + 1 }
      }.setFlag Reg.RPT_STAT 14 true := by
  simp [State.pushRec, hdrop]

/-- Settles O17: by whether the push is accepted, with the gap state closed or open, or dropped. -/
theorem queueAcceptsOrDrops : Obligations.QueueAcceptsOrDrops := by
  unfold Obligations.QueueAcceptsOrDrops
  intro s r t
  refine ⟨fun hen hocc hgap => ?closed, fun g hen hocc hgap => ?opened, fun hdrop => ?dropped⟩
  case closed =>
    have hq := State.pushRec_queue_of_accepted r hen hocc
    exact ⟨by simp [t, hq, hgap], by simp [t, hq], State.pushRec_regs_of_accepted r hen hocc⟩
  case opened =>
    have hq := State.pushRec_queue_of_accepted r hen hocc
    exact ⟨by simp [t, hq, hgap, gapRec_eq], by simp [t, hq], State.pushRec_occupancy_of_accepted r hen hocc⟩
  case dropped =>
    have ht : t = _ := State.pushRec_of_dropped r hdrop
    rw [ht]
    refine ⟨rfl, rfl, State.flag_setFlag_same _ _ _ _ (by omega), ?_⟩
    cases hg : s.queue.gap <;> simp [State.time16]

end Sys2Proof.Machine
end

section
/-! PROOFS. CHIP_ID and CHIP_REV (15, R439): the two words of a register file, and what leaves them as they are: a
write of any other register, and branches and folds of operations that leave them. The lemmas `…_ids` of the sections
below say it once of each operation, in the order of the model's files; a helper that one operation alone calls is
unfolded with it. -/

namespace Sys2Proof.Machine

/-! ### The identification words -/

/-- The words of CHIP_ID and CHIP_REV in a register file. -/
def idWords (regs : Vector Word 80) : Word × Word := (regs.get Reg.CHIP_ID, regs.get Reg.CHIP_REV)

/-- The stored identification words of a state. -/
@[simp] abbrev State.ids (s : State) : Word × Word := idWords s.regs

/-- What the silicon fixes (Tables 15.3 and 15.4). -/
def chipIds : Word × Word := (0x6144, 0x0101)

theorem State.idsFixed_iff (s : State) : s.IdsFixed ↔ s.ids = chipIds :=
  ⟨fun h => Prod.ext h.id h.rev, fun h => ⟨congrArg Prod.fst h, congrArg Prod.snd h⟩⟩

/-! ### Register writes -/

/-- A write of any other register leaves them. -/
@[simp] theorem State.setReg_ids (s : State) (r : RegId) (v : Word) (hr : 1 < r.val) : (s.setReg r v).ids = s.ids := by
  have h0 : Reg.CHIP_ID ≠ r := fun h => absurd hr (by simp [← h])
  have h1 : Reg.CHIP_REV ≠ r := fun h => absurd hr (by simp [← h])
  exact Prod.ext (s.reg_setReg_ne v h0) (s.reg_setReg_ne v h1)

@[simp] theorem State.setFld_ids (s : State) (r : RegId) (lo w x : Nat) (hr : 1 < r.val) :
    (s.setFld r lo w x).ids = s.ids :=
  s.setReg_ids r _ hr

@[simp] theorem State.setFlag_ids (s : State) (r : RegId) (b : Nat) (v : Bool) (hr : 1 < r.val) :
    (s.setFlag r b v).ids = s.ids :=
  s.setReg_ids r _ hr

@[simp] theorem State.incFld_ids (s : State) (r : RegId) (lo w : Nat) (hr : 1 < r.val) :
    (s.incFld r lo w).ids = s.ids :=
  s.setReg_ids r _ hr

@[simp] theorem State.satFld_ids (s : State) (r : RegId) (lo w : Nat) (hr : 1 < r.val) :
    (s.satFld r lo w).ids = s.ids :=
  s.setReg_ids r _ hr

/-! ### Branches and folds -/

@[simp] theorem State.ids_ite (c : Prop) [Decidable c] (s t : State) :
    (if c then s else t).ids = if c then s.ids else t.ids :=
  apply_ite State.ids c s t

@[simp] theorem State.snd_ids_ite {α : Type} (c : Prop) [Decidable c] (p q : α × State) :
    (if c then p else q).2.ids = if c then p.2.ids else q.2.ids := apply_ite (fun r => r.2.ids) c p q

@[simp] theorem State.foldl_ids {α : Type} (l : List α) (f : State → α → State) (s : State)
    (hf : ∀ t a, (f t a).ids = t.ids) : (l.foldl f s).ids = s.ids := by
  induction l generalizing s with
  | nil => rfl
  | cons a l ih => exact (ih _).trans (hf s a)

@[simp] theorem State.snd_foldl_ids {α β : Type} (l : List α) (f : β × State → α → β × State)
    (p : β × State) (hf : ∀ q a, (f q a).2.ids = q.2.ids) : (l.foldl f p).2.ids = p.2.ids := by
  induction l generalizing p with
  | nil => rfl
  | cons a l ih => exact (ih _).trans (hf p a)

end Sys2Proof.Machine
end

section
/-! PROOFS. Operations that leave CHIP_ID and CHIP_REV as they are (1): those that many commands share (Ops to
Calib). -/

namespace Sys2Proof.Machine

/-! ### Registers, memories, free values -/

@[simp] theorem State.drawWord_ids (s : State) : s.drawWord.2.ids = s.ids := by rfl
@[simp] theorem State.drawInt_ids (s : State) : s.drawInt.2.ids = s.ids := by rfl

/-- Operations that each leave the words leave them together. -/
@[simp] theorem applyAll_ids (l : List (State → State)) (s : State) (hl : ∀ f ∈ l, ∀ t, (f t).ids = t.ids) :
    (applyAll l s).ids = s.ids := by
  induction l generalizing s with
  | nil => rfl
  | cons f l ih => exact (ih _ fun g hg => hl g (.tail f hg)).trans (hl f (.head l) s)

/-! ### Error flags, votes, sleep that becomes due -/

@[simp] theorem State.raise_ids (s : State) (b : Nat) : (s.raise b).ids = s.ids := by simp [State.raise]
@[simp] theorem State.hostErr_ids (s : State) (b : Nat) : (s.hostErr b).ids = s.ids := by simp [State.hostErr]
@[simp] theorem State.crcErr_ids (s : State) : s.crcErr.ids = s.ids := by simp [State.crcErr]
@[simp] theorem State.winErr_ids (s : State) (b : Nat) : (s.winErr b).ids = s.ids := by simp [State.winErr]
@[simp] theorem State.quiesceCheck_ids (s : State) : s.quiesceCheck.ids = s.ids := by simp [State.quiesceCheck]
@[simp] theorem State.beginQuiesce_ids (s : State) : s.beginQuiesce.ids = s.ids := by simp [State.beginQuiesce]
@[simp] theorem State.dueIfStopped_ids (s : State) : s.dueIfStopped.ids = s.ids := by simp [State.dueIfStopped]
@[simp] theorem State.settle_ids (s t : State) : (s.settle t).ids = t.ids := by simp [State.settle]

/-! ### Faults that pass, detectors -/

@[simp] theorem State.passFaults_ids (s : State) (k : FaultSpec → Bool) : (s.passFaults k).ids = s.ids := by rfl

@[simp] theorem State.detAbort_ids (s : State) (flag : Bool) (k : Fin 4) : (s.detAbort flag k).ids = s.ids := by
  simp [State.detAbort]

@[simp] theorem State.detAbortAll_ids (s : State) (flag : Bool) : (s.detAbortAll flag).ids = s.ids := by
  simp [State.detAbortAll]

@[simp] theorem State.detSample_ids (s : State) (ys : List Int) (inv : List Bool) (k : Fin 4) :
    (s.detSample ys inv k).ids = s.ids := by
  simp [State.detSample]

@[simp] theorem State.detDone_ids (s : State) (k : Fin 4) : (s.detDone k).ids = s.ids := by simp [State.detDone]

@[simp] theorem State.detAttach_ids (s : State) (gz : Nat) (k : Fin 4) : (s.detAttach gz k).ids = s.ids := by
  unfold State.detAttach
  split <;> simp [State.detStart]

@[simp] theorem State.trackChip_ids (s : State) (prof : List Word) (first : Bool) (u : BitVec 32) :
    (s.trackChip prof first u).ids = s.ids := by
  simp [State.trackChip]

@[simp] theorem State.fadeEnd_ids (s : State) (next : Nat) : (s.fadeEnd next).ids = s.ids := by
  simp only [State.fadeEnd]
  repeat' split
  all_goals simp

@[simp] theorem State.bankRequest_ids (s : State) (bank xfade : Bool) : (s.bankRequest bank xfade).2.ids = s.ids := by
  simp only [State.bankRequest]
  repeat' split
  all_goals simp

@[simp] theorem State.blendOf_ids (s : State) (c : Chip) : (s.blendOf c).2.ids = s.ids := by
  simp only [State.blendOf]
  repeat' split
  all_goals simp

@[simp] theorem State.fixBlend_ids (s : State) (c : Chip) : (s.fixBlend c).2.ids = s.ids := by simp [State.fixBlend]

/-! ### Installation of an image -/

/-- No parameter of an image names the identification registers (R204). -/
@[simp] theorem State.applyParam_ids (s : State) (p : Nat × Word) : (s.applyParam p).ids = s.ids := by
  unfold State.applyParam
  split
  case h_1 m hm =>
    have hr : 1 < (regId p.1).val := by
      revert hm
      unfold paramMask
      split <;> simp [regId, *]
    exact s.setReg_ids _ _ hr
  case h_2 => rfl

@[simp] theorem State.winRewrite_ids (s : State) (code a n : Nat) : (s.winRewrite code a n).ids = s.ids := by rfl

@[simp] theorem State.installWin_ids (s : State) (l : Option (List Byte)) (code : Nat) :
    (s.installWin l code).ids = s.ids := by
  unfold State.installWin
  split <;> simp

@[simp] theorem State.installCell_ids (s : State) (code : List Byte) (data : Option (List Byte)) (k : Nat) :
    (s.installCell code data k).ids = s.ids := by
  rfl

@[simp] theorem State.installImage_ids (s : State) (img : List Byte) : (s.installImage img).ids = s.ids := by
  simp [State.installImage]

/-! ### The write side of the queue -/

@[simp] theorem State.pushRec_ids (s : State) (r : Rec) : (s.pushRec r).ids = s.ids := by simp [State.pushRec]

@[simp] theorem State.countDrops_ids (s : State) (n : Nat) : (s.countDrops n).ids = s.ids := by
  simp [State.countDrops]

@[simp] theorem State.commitQueue_ids (s : State) : s.commitQueue.ids = s.ids := by simp [State.commitQueue]
@[simp] theorem State.insertRec_ids (s : State) (r : Rec) : (s.insertRec r).ids = s.ids := by simp [State.insertRec]

@[simp] theorem State.pushInserted_ids (s : State) : s.pushInserted.ids = s.ids := by
  unfold State.pushInserted
  split <;> simp [State.commitInserted]

@[simp] theorem State.drainInserted_ids (s : State) : s.drainInserted.ids = s.ids := by simp [State.drainInserted]
@[simp] theorem State.queueSync_ids (s : State) : s.queueSync.ids = s.ids := by rfl
@[simp] theorem State.flushQueue_ids (s : State) : s.flushQueue.ids = s.ids := by simp [State.flushQueue]

/-! ### Fault events and memory errors -/

@[simp] theorem State.recordFault_ids (s : State) (e : FaultEvent) : (s.recordFault e).ids = s.ids := by
  simp [State.recordFault]

@[simp] theorem State.faultEvent_ids (s : State) (e : FaultEvent) : (s.faultEvent e).ids = s.ids := by
  simp only [State.faultEvent]
  split <;> simp

@[simp] theorem State.recordLater_ids (s : State) : s.recordLater.ids = s.ids := by simp [State.recordLater]

@[simp] theorem State.mainFault_ids (s : State) (flag cls outcome elem : Nat) (detail subst : Word) :
    (s.mainFault flag cls outcome elem detail subst).ids = s.ids := by
  simp [State.mainFault]

@[simp] theorem State.aonFault_ids (s : State) (flag elem : Nat) (detail : Word) (outcome : Nat) :
    (s.aonFault flag elem detail outcome).ids = s.ids := by
  simp [State.aonFault]

@[simp] theorem State.scrubRewrite_ids (s : State) (e : MemErr) : (s.scrubRewrite e).ids = s.ids := by
  simp [State.scrubRewrite]

@[simp] theorem State.readErr_ids (s : State) (m : MemId) (addr : Nat) : (s.readErr m addr).2.ids = s.ids := by
  unfold State.readErr
  split <;> simp

/-! ### Host writes -/

/-- Where no field is RW or W1C a host write leaves the word. -/
theorem write_of_empty_masks (old v : BitVec 16) : ((old &&& ~~~0) ||| (v &&& 0)) &&& ~~~(v &&& 0) = old := by
  have h1 (x : BitVec 16) : x &&& ~~~0 = x := BitVec.and_allOnes
  have h0 : v &&& 0 = 0 := BitVec.and_zero
  rw [h0, h1, h1]
  exact BitVec.or_zero

/-- A host write changes neither identification register: both have no field that it may change (Table 15.2). -/
@[simp] theorem State.plainWrite_ids (s : State) (r : RegId) (v : Word) : (s.plainWrite r v).ids = s.ids := by
  by_cases hr : 1 < r.val
  · exact s.setReg_ids r _ hr
  · have hm : rwMask r.val = 0 ∧ w1cMask r.val = 0 := by
      obtain h | h : r.val = 0 ∨ r.val = 1 := by omega
      all_goals simp [h, rwMask, w1cMask]
    have hw : s.plainWrite r v = s.setReg r (s.reg r) := by
      simp only [State.plainWrite, hm, write_of_empty_masks]
    rw [hw]
    exact congrArg idWords (Vector.set_getElem_self r.isLt)

/-! ### Steps on the flash -/

@[simp] theorem State.sigCheck_ids (s : State) : s.sigCheck.ids = s.ids := by simp [State.sigCheck]
@[simp] theorem State.nvmViews_ids (s : State) : s.nvmViews.ids = s.ids := by simp [State.nvmViews]

@[simp] theorem State.nvmBegin_ids (s : State) (op : NvmOp) (todo : List FlashStep) :
    (s.nvmBegin op todo).ids = s.ids := by
  rfl

@[simp] theorem State.nvmEnd_ids (s : State) : s.nvmEnd.ids = s.ids := by simp [State.nvmEnd]

@[simp] theorem State.nvmRefuse_ids (s : State) (code : Nat) : (s.nvmRefuse code).ids = s.ids := by
  simp [State.nvmRefuse]

@[simp] theorem State.flashStep_ids (s : State) (x : FlashStep) : (s.flashStep x).ids = s.ids := by
  unfold State.flashStep
  split <;> simp

/-! ### Factors and background rounds -/

@[simp] theorem State.calGain_ids (s : State) (m : Meas) (off : Int) : (s.calGain m off).2.ids = s.ids := by
  simp [State.calGain]

@[simp] theorem State.calFactors_ids (s : State) (off : Int) (gain : Meas) :
    (s.calFactors off gain).2.ids = s.ids := by
  simp [State.calFactors]

@[simp] theorem State.calPass_ids (s : State) (n : Nat) (o g : Word) : (s.calPass n o g).ids = s.ids := by rfl

@[simp] theorem State.calFailLane_ids (s : State) (n : Nat) : (s.calFailLane n).ids = s.ids := by
  simp [State.calFailLane]

@[simp] theorem State.calFinish_ids (s : State) (failed : Bool) : (s.calFinish failed).ids = s.ids := by
  simp only [State.calFinish, State.autoSave]
  repeat' split
  all_goals simp

@[simp] theorem State.calTrigger_ids (s : State) : s.calTrigger.ids = s.ids := by simp [State.calTrigger]

@[simp] theorem State.tempUpdate_ids (s : State) (v : Word) : (s.tempUpdate v).ids = s.ids := by
  simp [State.tempUpdate]

@[simp] theorem State.setReserve_ids (s : State) (g : Nat) (u : ReserveUse) : (s.setReserve g u).ids = s.ids := by rfl
@[simp] theorem State.endStandIns_ids (s : State) : s.endStandIns.ids = s.ids := by rfl
@[simp] theorem State.dropRound_ids (s : State) : s.dropRound.ids = s.ids := by simp [State.dropRound]

@[simp] theorem State.roundStart_ids (s : State) (r : Round) : (s.roundStart r).ids = s.ids := by
  simp [State.roundStart]

@[simp] theorem State.groupBegin_ids (s : State) (r : Round) (g : Nat) : (s.groupBegin r g).ids = s.ids := by
  simp [State.groupBegin]

@[simp] theorem State.calSlot_ids (s : State) : s.calSlot.ids = s.ids := by
  unfold State.calSlot
  split <;> simp [State.roundNext]

@[simp] theorem State.roundApply_ids (s : State) : s.roundApply.ids = s.ids := by
  unfold State.roundApply
  split <;> simp

@[simp] theorem State.roundHold_ids (s : State) (r : Round) (off gain : List Meas) :
    (s.roundHold r off gain).ids = s.ids := by
  refine (State.snd_foldl_ids _ _ (r, s) fun q i => ?_)
  dsimp only
  split <;> simp

@[simp] theorem State.takeReserve_ids (s : State) (g pin : Nat) : (s.takeReserve g pin).ids = s.ids := by
  simp only [State.takeReserve]
  split <;> simp

end Sys2Proof.Machine
end

section
/-! PROOFS. Operations that leave CHIP_ID and CHIP_REV as they are (2): frames, lanes, rows, the Caldera and the ring
(Frame to Close). -/

namespace Sys2Proof.Machine

/-! ### Frames and entries -/

@[simp] theorem State.substFrame_ids (s : State) : s.substFrame.ids = s.ids := by simp [State.substFrame]
@[simp] theorem State.syncClear_ids (s : State) : s.syncClear.ids = s.ids := by simp [State.syncClear]
@[simp] theorem State.showApplied_ids (s : State) : s.showApplied.ids = s.ids := by simp [State.showApplied]

@[simp] theorem State.frameStart_ids (s : State) : s.frameStart.ids = s.ids := by
  simp [State.frameStart, State.trkFrame, State.pumpFrame, State.oweFrame, State.syncFrame, State.readTables,
    State.hopFrame]

@[simp] theorem State.fetchEntry_ids (s : State) (e : Nat) : (s.fetchEntry e).2.2.ids = s.ids := by
  simp [State.fetchEntry, List.range_succ]

@[simp] theorem State.becomeReady_ids (s : State) : s.becomeReady.ids = s.ids := by simp [State.becomeReady]

@[simp] theorem State.entryBoundary_ids (s : State) : s.entryBoundary.ids = s.ids := by
  simp only [State.entryBoundary, State.moveTimebase, State.lanesBoundary]
  repeat' split
  all_goals simp

@[simp] theorem State.syncStart_ids (s : State) : s.syncStart.2.ids = s.ids := by
  simp [State.syncStart, State.syncReset]

@[simp] theorem State.fixChips_ids (s : State) : s.fixChips.ids = s.ids := by simp [State.fixChips]

@[simp] theorem State.fadeSettle_ids (s : State) : s.fadeSettle.ids = s.ids := by
  unfold State.fadeSettle
  split <;> simp

@[simp] theorem State.entryStart_ids (s : State) (anchor : Bool) : (s.entryStart anchor).ids = s.ids := by
  simp [State.entryStart, State.markInvalid, State.setOrder]

@[simp] theorem State.captureFrame_ids (s : State) : s.captureFrame.ids = s.ids := by simp [State.captureFrame]

@[simp] theorem State.frameDone_ids (s : State) (completed : Bool) : (s.frameDone completed).ids = s.ids := by
  simp [State.frameDone]

@[simp] theorem State.frameCheck_ids (s : State) : s.frameCheck.ids = s.ids := by
  simp only [State.frameCheck]
  repeat' split
  all_goals simp

@[simp] theorem State.cutFrame_ids (s : State) : s.cutFrame.ids = s.ids := by simp [State.cutFrame, State.releaseCut]

/-! ### Lanes, chips and outputs -/

@[simp] theorem State.entryChip_ids (s : State) (r : EntryRun) (u : BitVec 32) : (s.entryChip r u).ids = s.ids := by
  simp [State.entryChip]

@[simp] theorem State.driveChip_ids (s : State) (u : BitVec 32) : (s.driveChip u).ids = s.ids := by
  unfold State.driveChip
  split <;> simp [State.holdChip]

@[simp] theorem State.clip_ids (s : State) (n : Nat) (high : Bool) : (s.clip n high).ids = s.ids := by
  simp [State.clip, State.detDirty]

@[simp] theorem State.laneTransients_ids (s : State) : s.laneTransients.ids = s.ids := by rfl

@[simp] theorem State.cadence_ids (s : State) (h : Half) (edge : Option Half) (q : List Int) :
    (s.cadence h edge q).ids = s.ids := by
  refine (State.foldl_ids _ _ _ fun t n => ?_).trans (by simp)
  split <;> simp

@[simp] theorem State.cicOutput_ids (s : State) : s.cicOutput.ids = s.ids := by
  simp only [State.cicOutput]
  split <;> simp

@[simp] theorem State.laneResample_ids (s : State) (n : LaneId) (c : Chip) : (s.laneResample n c).ids = s.ids := by
  simp [State.laneResample, State.pruneChips]

@[simp] theorem State.hkDone_ids (s : State) (ch : Nat) (v : Word) : (s.hkDone ch v).ids = s.ids := by
  unfold State.hkDone
  split <;> simp

/-! ### Rows of the result store -/

@[simp] theorem State.laneFails_ids (s : State) (r : EntryRun) (n : Nat) : (s.laneFails r n).ids = s.ids := by
  simp only [State.laneFails]
  repeat' split
  all_goals simp

@[simp] theorem State.captureRow_ids (s : State) (r : EntryRun) (bad : Bool) (overs : List Bool) :
    (s.captureRow r bad overs).ids = s.ids := by
  simp [State.captureRow]

@[simp] theorem State.putRow_ids (s : State) (r : EntryRun) (overrun : Bool) : (s.putRow r overrun).ids = s.ids := by
  simp [State.putRow, State.internalCheck]

@[simp] theorem State.raceMark_ids (s : State) (k : Nat) : (s.raceMark k).ids = s.ids := by
  unfold State.raceMark
  split <;> simp

@[simp] theorem State.rowWrite_ids (s : State) (r : EntryRun) (rest : List EntryRun) (overrun : Bool) :
    (s.rowWrite r rest overrun).ids = s.ids := by
  simp [State.rowWrite, State.rowForget]

@[simp] theorem State.overrunSeen_ids (s : State) (row : Nat) (racing : Bool) :
    (s.overrunSeen row racing).2.ids = s.ids := by
  simp [State.overrunSeen]

/-! ### Instructions of a cell -/

@[simp] theorem State.cellRead_ids (s : State) (m : MemId) (addr : Nat) : (s.cellRead m addr).2.ids = s.ids := by
  simp [State.cellRead]

@[simp] theorem State.fetchErr_ids (s : State) (c : CellId) : (s.fetchErr c).ids = s.ids := by simp [State.fetchErr]

@[simp] theorem State.loadData_ids (s : State) (c : CellId) (a : Nat) : (s.loadData c a).2.ids = s.ids := by
  simp [State.loadData]

@[simp] theorem State.loadWords_ids (s : State) (c : CellId) (a n : Nat) : (s.loadWords c a n).2.ids = s.ids := by
  induction n with
  | zero => rfl
  | succ n ih => simpa [State.loadWords] using ih

@[simp] theorem State.mismatch_ids (s : State) (c : CellId) : (s.mismatch c).ids = s.ids := by simp [State.mismatch]

@[simp] theorem State.token_ids (s : State) (c : CellId) (ws : List (Data × Data)) :
    (s.token c ws).2.ids = s.ids := by
  unfold State.token
  split <;> simp [State.spareCompares, State.spareLags]

@[simp] theorem State.takenIn_ids (s : State) (c : CellId) (v : Word) : (s.takenIn c v).2.ids = s.ids := by
  simp [State.takenIn]

@[simp] theorem State.cellOp_ids (s : State) (c : CellId) (i : Instr) (p : Pred) (f : Cell → Cell) :
    (s.cellOp c i p f).ids = s.ids := by
  simp [State.cellOp]

@[simp] theorem State.cellReg_ids (s : State) (c : CellId) (i : Instr) (p : Pred) (d : XReg) (f : Cell → Data) :
    (s.cellReg c i p d f).ids = s.ids := by
  simp [State.cellReg]

@[simp] theorem State.cellPred_ids (s : State) (c : CellId) (i : Instr) (p : Pred) (d : XReg) (f : Cell → Bool) :
    (s.cellPred c i p d f).ids = s.ids := by
  simp [State.cellPred]

@[simp] theorem State.cellAcc_ids (s : State) (c : CellId) (i : Instr) (p : Pred) (d : XReg) (f : Cell → Acc) :
    (s.cellAcc c i p d f).ids = s.ids := by
  simp [State.cellAcc]

@[simp] theorem State.cellAct_ids (s : State) (c : CellId) (i : Instr) (p : Pred) (f : State → State)
    (hf : ∀ t, (f t).ids = t.ids) : (s.cellAct c i p f).ids = s.ids := by
  simp [State.cellAct, hf]

@[simp] theorem State.cellEmit_ids (s : State) (c : CellId) (i : Instr) (p : Pred) (f : State → State)
    (hf : ∀ t, (f t).ids = t.ids) : (s.cellEmit c i p f).ids = s.ids := by
  simp [State.cellEmit, hf]

/-! ### The Sinter ring -/

@[simp] theorem State.ringWrite_ids (s : State) (e : Vector Word 4) : (s.ringWrite e).ids = s.ids := by
  simp [State.ringWrite]

@[simp] theorem State.ringSetRd_ids (s : State) (v : Word) : (s.ringSetRd v).ids = s.ids := by rfl
@[simp] theorem State.ringMark_ids (s : State) : s.ringMark.ids = s.ids := by rfl

@[simp] theorem State.ringRewind_ids (s : State) : s.ringRewind.ids = s.ids := by
  simp only [State.ringRewind]
  split <;> simp

@[simp] theorem State.ringClear_ids (s : State) : s.ringClear.ids = s.ids := by rfl

/-! ### The Caldera's frame cycle -/

@[simp] theorem State.setVset_ids (s : State) (v : Nat) : (s.setVset v).ids = s.ids := by simp [State.setVset]
@[simp] theorem State.vstart_ids (s : State) : s.vstart.ids = s.ids := by simp [State.vstart]
@[simp] theorem State.raiseVcore_ids (s : State) : s.raiseVcore.ids = s.ids := by simp [State.raiseVcore]

@[simp] theorem State.climb_ids (s : State) : s.climb.ids = s.ids := by
  unfold State.climb
  split <;> simp

@[simp] theorem State.publish_ids (s : State) (target : Nat) (v : Word) : (s.publish target v).ids = s.ids := by
  unfold State.publish
  split <;> simp [State.gwake]

@[simp] theorem State.publishAll_ids (s : State) : s.publishAll.ids = s.ids := by
  refine State.foldl_ids _ _ s fun t k => ?_
  split <;> simp

@[simp] theorem State.voteClose_ids (s : State) : s.voteClose.ids = s.ids := by
  unfold State.voteClose
  split <;> simp

@[simp] theorem State.frameOver_ids (s : State) : s.frameOver.ids = s.ids := by
  simp [State.frameOver, State.releaseRows]

@[simp] theorem State.abandonFrame_ids (s : State) : s.abandonFrame.ids = s.ids := by simp [State.abandonFrame]

@[simp] theorem State.restartSchedule_ids (s : State) : s.restartSchedule.ids = s.ids := by
  simp [State.restartSchedule]

@[simp] theorem State.beginTakeover_ids (s : State) (c : CellId) (q : PhysId) :
    (s.beginTakeover c q).ids = s.ids := by
  simp [State.beginTakeover]

@[simp] theorem State.afterMismatch_ids (s : State) : s.afterMismatch.ids = s.ids := by
  unfold State.afterMismatch
  split <;> simp

@[simp] theorem State.afterStalls_ids (s : State) (stalls : List CellId) : (s.afterStalls stalls).ids = s.ids := by
  simp only [State.afterStalls]
  repeat' split
  all_goals simp

@[simp] theorem State.afterClose_ids (s : State) : s.afterClose.ids = s.ids := by
  simp [State.afterClose, State.dueAtClose]

@[simp] theorem State.closeFrame_ids (s : State) : s.closeFrame.ids = s.ids := by
  simp [State.closeFrame, State.commitFrame]

@[simp] theorem State.takeOver_ids (s : State) : s.takeOver.ids = s.ids := by
  unfold State.takeOver
  split <;> simp

@[simp] theorem State.openFrame_ids (s : State) (o : Owed) (rest : List Owed) : (s.openFrame o rest).ids = s.ids := by
  simp [State.openFrame, State.servoOpen, State.scrubFound, State.libOpen]

@[simp] theorem State.intakeDone_ids (s : State) (c : CellId) (row w : Nat) (d : XReg) (rel signed : Bool) :
    (s.intakeDone c row w d rel signed).ids = s.ids := by
  simp [State.intakeDone]

@[simp] theorem State.intake_ids (s : State) (c : CellId) (i : Instr) (d b : XReg) (rel idx : Bool) (row : Nat)
    (word : Byte) (signed : Bool) : (s.intake c i d b rel idx row word signed).ids = s.ids := by
  simp [State.intake]

@[simp] theorem State.deadline_ids (s : State) : s.deadline.ids = s.ids := by simp [State.deadline]

end Sys2Proof.Machine
end

section
/-! PROOFS. Operations that leave CHIP_ID and CHIP_REV as they are (3): the queue's read side, windows, image load,
functions, the NVM controller, sleep, wake, boot, the fault monitor, security and the sequencer (Stream to Sequencer).
The resets are here: one of AON restores both words, one of MAIN keeps them. -/

namespace Sys2Proof.Machine

/-! ### The read side of the queue -/

@[simp] theorem State.wordTaken_ids (s : State) (w : Word) (rest : List Rec) : (s.wordTaken w rest).ids = s.ids := by
  simp [State.wordTaken]

@[simp] theorem State.takeWord_ids (s : State) : s.takeWord.2.ids = s.ids := by
  simp only [State.takeWord]
  repeat' split
  all_goals simp

@[simp] theorem State.readRptData_ids (s : State) : s.readRptData.2.ids = s.ids := by simp [State.readRptData]
@[simp] theorem State.streamWord_ids (s : State) : s.streamWord.2.ids = s.ids := by simp [State.streamWord]

@[simp] theorem State.streamStallOver_ids (s : State) : s.streamStallOver.ids = s.ids := by
  simp [State.streamStallOver]

/-! ### Windows -/

@[simp] theorem State.winNext_ids (s : State) : s.winNext.ids = s.ids := by simp [State.winNext]

@[simp] theorem State.winRefuse_ids (s : State) (refused range : Bool) : (s.winRefuse refused range).ids = s.ids := by
  simp [State.winRefuse]

@[simp] theorem State.goertzelRead_ids (s : State) (a : Nat) : (s.goertzelRead a).2.ids = s.ids := by
  simp [State.goertzelRead]

@[simp] theorem State.raceRead_ids (s : State) (k : Nat) : (s.raceRead k).ids = s.ids := by
  unfold State.raceRead
  split <;> simp

@[simp] theorem State.winWord_ids (s : State) (code a : Nat) : (s.winWord code a).2.ids = s.ids := by
  unfold State.winWord
  split <;> simp [State.nvmRead, State.tableRead]

@[simp] theorem State.winRead_ids (s : State) : s.winRead.2.ids = s.ids := by simp [State.winRead]
@[simp] theorem State.noImage_ids (s : State) : s.noImage.ids = s.ids := by simp [State.noImage]
@[simp] theorem State.imageDisorder_ids (s : State) : s.imageDisorder.ids = s.ids := by simp [State.imageDisorder]

@[simp] theorem State.winWrite_ids (s : State) (v : Word) : (s.winWrite v).ids = s.ids := by
  simp only [State.winWrite, State.winPut, State.imageWrite]
  repeat' split
  all_goals simp

/-! ### The load of an image -/

@[simp] theorem State.schedLoad_ids (s : State) : s.schedLoad.ids = s.ids := by simp [State.schedLoad]
@[simp] theorem State.loadEnter_ids (s : State) : s.loadEnter.ids = s.ids := by rfl
@[simp] theorem State.schedCommit_ids (s : State) : s.schedCommit.ids = s.ids := by simp [State.schedCommit]

@[simp] theorem State.loadEnd_ids (s : State) (st : SchedState) : (s.loadEnd st).ids = s.ids := by
  simp [State.loadEnd]

@[simp] theorem State.firstFrame_ids (s : State) : s.firstFrame.ids = s.ids := by simp [State.firstFrame]

@[simp] theorem State.schedStart_ids (s : State) (sub : Nat) (w : Word) : (s.schedStart sub w).ids = s.ids := by
  simp [State.schedStart]

@[simp] theorem State.libInstalled_ids (s : State) : s.libInstalled.ids = s.ids := by rfl
@[simp] theorem State.commitDone_ids (s : State) : s.commitDone.ids = s.ids := by simp [State.commitDone]
@[simp] theorem State.schedAbort_ids (s : State) : s.schedAbort.ids = s.ids := by simp [State.schedAbort]

/-! ### Function resets and enables -/

@[simp] theorem State.resetLanes_ids (s : State) : s.resetLanes.ids = s.ids := by simp [State.resetLanes]
@[simp] theorem State.resetFilters_ids (s : State) : s.resetFilters.ids = s.ids := by simp [State.resetFilters]
@[simp] theorem State.resetSeq_ids (s : State) : s.resetSeq.ids = s.ids := by simp [State.resetSeq]

@[simp] theorem State.resetCaldera_ids (s : State) : s.resetCaldera.ids = s.ids := by
  simp [State.resetCaldera, State.abandonNow]

@[simp] theorem State.resetTrack_ids (s : State) : s.resetTrack.ids = s.ids := by simp [State.resetTrack]

@[simp] theorem State.queueReset_ids (s : State) : s.queueReset.ids = s.ids := by
  simp [State.queueReset, State.resetQueue]

@[simp] theorem State.resetQueueFn_ids (s : State) : s.resetQueueFn.ids = s.ids := by simp [State.resetQueueFn]

@[simp] theorem State.resetRing_ids (s : State) : s.resetRing.ids = s.ids := by
  simp [State.resetRing, State.ringReset]

@[simp] theorem State.resetNvmctl_ids (s : State) : s.resetNvmctl.ids = s.ids := by simp [State.resetNvmctl]
@[simp] theorem State.relock_ids (s : State) : s.relock.ids = s.ids := by rfl
@[simp] theorem State.hostReset_ids (s : State) : s.hostReset.ids = s.ids := by simp [State.hostReset]
@[simp] theorem State.resetHostport_ids (s : State) : s.resetHostport.ids = s.ids := by simp [State.resetHostport]
@[simp] theorem State.resetGeyser_ids (s : State) : s.resetGeyser.ids = s.ids := by simp [State.resetGeyser]
@[simp] theorem State.resetGoertzel_ids (s : State) : s.resetGoertzel.ids = s.ids := by simp [State.resetGoertzel]
@[simp] theorem State.enLanes_ids (s : State) (on : Bool) : (s.enLanes on).ids = s.ids := by simp [State.enLanes]

@[simp] theorem State.enFilters_ids (s : State) (on : Bool) : (s.enFilters on).ids = s.ids := by
  simp [State.enFilters]

@[simp] theorem State.enSeq_ids (s : State) (on : Bool) : (s.enSeq on).ids = s.ids := by simp [State.enSeq]
@[simp] theorem State.dropOwed_ids (s : State) : s.dropOwed.ids = s.ids := by rfl

@[simp] theorem State.enCaldera_ids (s : State) (on : Bool) : (s.enCaldera on).ids = s.ids := by
  simp [State.enCaldera]

@[simp] theorem State.enTrack_ids (s : State) (on : Bool) : (s.enTrack on).ids = s.ids := by simp [State.enTrack]
@[simp] theorem State.enQueue_ids (s : State) (on : Bool) : (s.enQueue on).ids = s.ids := by simp [State.enQueue]
@[simp] theorem State.enRing_ids (s : State) (on : Bool) : (s.enRing on).ids = s.ids := by simp [State.enRing]
@[simp] theorem State.enNvmctl_ids (s : State) (on : Bool) : (s.enNvmctl on).ids = s.ids := by simp [State.enNvmctl]
@[simp] theorem State.enGeyser_ids (s : State) (on : Bool) : (s.enGeyser on).ids = s.ids := by simp [State.enGeyser]

@[simp] theorem State.enGoertzel_ids (s : State) (on : Bool) : (s.enGoertzel on).ids = s.ids := by
  simp [State.enGoertzel]

@[simp] theorem State.inMain_ids (s : State) (f : State → State) (hf : ∀ t, (f t).ids = t.ids) :
    (s.inMain f).ids = s.ids := by
  simp [State.inMain, hf]

/-! ### The NVM controller -/

@[simp] theorem State.nvmGoing_ids (s : State) (op : NvmOp) (todo : List FlashStep) :
    (s.nvmGoing op todo).ids = s.ids := by
  simp [State.nvmGoing]

@[simp] theorem State.nvmProgram_ids (s : State) (op : NvmOp) (slot : Nat) : (s.nvmProgram op slot).ids = s.ids := by
  simp [State.nvmProgram]

@[simp] theorem State.nvmStart_ids (s : State) (op : Nat) (key : Byte) : (s.nvmStart op key).ids = s.ids := by
  simp only [State.nvmStart, State.nvmErase, State.nvmCapture]
  repeat' split
  all_goals simp

@[simp] theorem State.nvmGo_ids (s : State) (op : Nat) (key : Byte) : (s.nvmGo op key).ids = s.ids := by
  simp [State.nvmGo]

@[simp] theorem State.nvmRelease_ids (s : State) : s.nvmRelease.ids = s.ids := by
  unfold State.nvmRelease
  split <;> simp

@[simp] theorem State.pageDone_ids (s : State) (p : FlashStep) (rest : List FlashStep) :
    (s.pageDone p rest).ids = s.ids := by
  simp [State.pageDone]

@[simp] theorem State.nvmDone_ids (s : State) : s.nvmDone.ids = s.ids := by simp [State.nvmDone]

/-! ### Sleep -/

@[simp] theorem State.hsRefuse_ids (s : State) (block reason : Nat) : (s.hsRefuse block reason).ids = s.ids := by
  simp only [State.hsRefuse, State.restartBlocks]
  split <;> simp

@[simp] theorem State.stopBlock_ids (s : State) (block : Nat) : (s.stopBlock block).ids = s.ids := by
  unfold State.stopBlock
  split <;> simp [State.groundLanes]

@[simp] theorem State.hsAnswer_ids (s : State) (h : Handshake) : (s.hsAnswer h).ids = s.ids := by
  simp [State.hsAnswer, State.hsAgree]

@[simp] theorem State.sleepReq_ids (s : State) : s.sleepReq.ids = s.ids := by simp [State.sleepReq]
@[simp] theorem State.sleepAsk_ids (s : State) : s.sleepAsk.ids = s.ids := by simp [State.sleepAsk]

@[simp] theorem State.hsAskAgain_ids (s : State) (h : Handshake) : (s.hsAskAgain h).ids = s.ids := by
  simp [State.hsAskAgain]

@[simp] theorem State.geyserLatch_ids (s : State) : s.geyserLatch.ids = s.ids := by simp [State.geyserLatch]
@[simp] theorem State.timerStart_ids (s : State) : s.timerStart.ids = s.ids := by rfl
@[simp] theorem State.enginesOff_ids (s : State) : s.enginesOff.ids = s.ids := by simp [State.enginesOff]

@[simp] theorem State.sleepEntry_ids (s : State) : s.sleepEntry.ids = s.ids := by
  simp [State.sleepEntry, State.secAsleep, State.geyserRejection, State.sleepPins]

/-! ### The Geyser -/

@[simp] theorem State.zeroScan_ids (s : State) (k : Nat) (rs : List BusScan) : (s.zeroScan k rs).ids = s.ids := by
  simp [State.zeroScan]

@[simp] theorem State.wakeRequest_ids (s : State) (w : WakeSource) : (s.wakeRequest w).ids = s.ids := by
  simp [State.wakeRequest]

@[simp] theorem State.watchBuses_ids (s : State) (rs : List BusScan) : (s.watchBuses rs).1.ids = s.ids := by rfl

@[simp] theorem State.watchScan_ids (s : State) (rs : List BusScan) : (s.watchScan rs).ids = s.ids := by
  simp only [State.watchScan, State.candidate]
  split <;> simp

/-! ### Wake -/

@[simp] theorem State.cutEntry_ids (s : State) : s.cutEntry.ids = s.ids := by simp [State.cutEntry]
@[simp] theorem State.toFio2_ids (s : State) : s.toFio2.ids = s.ids := by simp [State.toFio2]
@[simp] theorem State.fioEvent_ids (s : State) (why : Word) : (s.fioEvent why).ids = s.ids := by simp [State.fioEvent]
@[simp] theorem State.wakeEvent_ids (s : State) : s.wakeEvent.ids = s.ids := by simp [State.wakeEvent]

@[simp] theorem State.stepFailed_ids (s : State) (w : WakeStep) : (s.stepFailed w).ids = s.ids := by
  simp [State.stepFailed]

@[simp] theorem State.wakeDone_ids (s : State) : s.wakeDone.ids = s.ids := by
  simp [State.wakeDone, State.wakeFrame, State.wakeAfresh]

@[simp] theorem State.wakeTimerWrite_ids (s : State) (v : Word) : (s.wakeTimerWrite v).ids = s.ids := by
  simp only [State.wakeTimerWrite]
  split <;> simp

/-! ### Resets and boot -/

/-- A reset of AON gives every register its Reset column. -/
@[simp] theorem State.rebooted_ids (s : State) (cause : Nat) (hsel hsdo : Bool) :
    (s.rebooted cause hsel hsdo).ids = chipIds := rfl

/-- A MAIN reset keeps the AON registers, the two of the identification among them (Table 11.13). -/
@[simp] theorem State.mainReset_ids (s : State) : s.mainReset.ids = s.ids := by
  simp [State.mainReset, idWords]

@[simp] theorem State.systemReset_ids (s : State) (st : Straps) : (s.systemReset st).ids = chipIds := rfl
@[simp] theorem State.cellBist_ids (s : State) : s.cellBist.ids = s.ids := by simp [State.cellBist]

@[simp] theorem State.calLoad_ids (s : State) : s.calLoad.ids = s.ids := by
  unfold State.calLoad
  split <;> simp

@[simp] theorem State.bootFinish_ids (s : State) : s.bootFinish.ids = s.ids := by simp [State.bootFinish]
@[simp] theorem State.bootCal_ids (s : State) : s.bootCal.ids = s.ids := by simp [State.bootCal]

@[simp] theorem State.bootGoertzel_ids (s : State) (img : List Byte) : (s.bootGoertzel img).ids = s.ids :=
  State.foldl_ids _ _ s fun t k => by simp

@[simp] theorem State.bootSlot_ids (s : State) (b : Bool) : (s.bootSlot b).ids = s.ids := by simp [State.bootSlot]

@[simp] theorem State.bootStream_ids (s : State) : s.bootStream.ids = s.ids := by
  unfold State.bootStream
  split <;> simp

@[simp] theorem State.fioReady_ids (s : State) : s.fioReady.ids = s.ids := by simp [State.fioReady, State.bootInit]
@[simp] theorem State.wakeOnFio2_ids (s : State) : s.wakeOnFio2.ids = s.ids := by simp [State.wakeOnFio2]

@[simp] theorem State.sysReset_ids (s : State) (v : Word) (st : Straps) (h : s.ids = chipIds) :
    (s.sysReset v st).ids = chipIds := by
  simp [State.sysReset, h]

/-! ### Self-calibration -/

@[simp] theorem State.calSelf_ids (s : State) : s.calSelf.ids = s.ids := by simp [State.calSelf]
@[simp] theorem State.calStart_ids (s : State) : s.calStart.ids = s.ids := by simp [State.calStart]

@[simp] theorem State.calJudge_ids (m : List Meas) (acc : Bool × State) (n : Nat) :
    (State.calJudge m acc n).2.ids = acc.2.ids := by
  simp only [State.calJudge]
  split <;> simp

@[simp] theorem State.calEnd_ids (s : State) (m : List Meas) : (s.calEnd m).ids = s.ids := by simp [State.calEnd]
@[simp] theorem State.calRecal_ids (s : State) : s.calRecal.ids = s.ids := by simp [State.calRecal]

/-! ### Takeovers -/

@[simp] theorem State.secondStall_ids (s : State) (c : CellId) : (s.secondStall c).ids = s.ids := by
  simp [State.secondStall]

@[simp] theorem State.noteStall_ids (s : State) (c : CellId) : (s.noteStall c).ids = s.ids := by rfl

/-! ### The fault monitor -/

@[simp] theorem State.aonFaultFree_ids (s : State) (flag elem outcome : Nat) :
    (s.aonFaultFree flag elem outcome).ids = s.ids := by
  simp [State.aonFaultFree]

@[simp] theorem State.supplyFault_ids (s : State) (p : Supply) : (s.supplyFault p).ids = s.ids := by
  simp [State.supplyFault]

@[simp] theorem State.memFault_ids (s : State) (m : MemId) (addr bits : Nat) (stuck : Bool) :
    (s.memFault m addr bits stuck).ids = s.ids := by
  rfl

/-! ### Lifecycle and TAP -/

@[simp] theorem State.secRefuse_ids (s : State) : s.secRefuse.ids = s.ids := by simp [State.secRefuse]
@[simp] theorem State.nonceDrop_ids (s : State) : s.nonceDrop.ids = s.ids := by rfl
@[simp] theorem State.transBegin_ids (s : State) (t : Transition) : (s.transBegin t).ids = s.ids := by rfl

@[simp] theorem State.debugCtl_ids (s : State) (v : Word) : (s.debugCtl v).ids = s.ids := by
  simp only [State.debugCtl, State.reqRelock, State.advDevelop, State.nonceRequest, State.advSecured]
  repeat' split
  all_goals simp

@[simp] theorem State.readChal_ids (s : State) : s.readChal.2.ids = s.ids := by
  unfold State.readChal
  split <;> simp

@[simp] theorem State.writeChal_ids (s : State) (w : Word) : (s.writeChal w).ids = s.ids := by simp [State.writeChal]

@[simp] theorem State.otpBegin_ids (s : State) (a : Nat) (d : BitVec 32) (refused : Bool) :
    (s.otpBegin a d refused).ids = s.ids := by
  rfl

@[simp] theorem State.authAct_ids (s : State) : s.authAct.ids = s.ids := by
  unfold State.authAct
  split <;> simp [State.returnBegin]

@[simp] theorem State.authDone_ids (s : State) (nonce : BitVec 128) : (s.authDone nonce).ids = s.ids := by
  simp [State.authDone]

@[simp] theorem State.otpProgram_ids (s : State) (a : Nat) (d : BitVec 32) : (s.otpProgram a d).ids = s.ids := by
  unfold State.otpProgram
  split <;> simp

@[simp] theorem State.tapIr_ids (s : State) (ir : BitVec 5) : (s.tapIr ir).ids = s.ids := by rfl

@[simp] theorem State.otpUpdate_ids (s : State) (op : BitVec 2) (addr : BitVec 6) (data : BitVec 32) :
    (s.otpUpdate op addr data).ids = s.ids := by
  unfold State.otpUpdate
  split <;> simp

@[simp] theorem State.otpShift_ids (s : State) (dr : BitVec 40) : (s.otpShift dr).ids = s.ids := by
  simp [State.otpShift]

/-! ### Display synchronisation and DPLL -/

@[simp] theorem State.deferForCal_ids (s : State) : s.deferForCal.ids = s.ids := by simp [State.deferForCal]

@[simp] theorem State.syncInterval_ids (s : State) (i : Nat) : (s.syncInterval i).ids = s.ids := by
  simp [State.syncInterval]

@[simp] theorem State.syncLost_ids (s : State) : s.syncLost.ids = s.ids := by simp [State.syncLost]
@[simp] theorem State.leaveDpll_ids (s : State) : s.leaveDpll.ids = s.ids := by simp [State.leaveDpll]

@[simp] theorem State.clkCtlWrite_ids (s : State) (v : Word) : (s.clkCtlWrite v).ids = s.ids := by
  simp [State.clkCtlWrite]

end Sys2Proof.Machine
end

section
/-! PROOFS. Operations that leave CHIP_ID and CHIP_REV as they are (4): register accesses and the host port. A write of
SYS_RESET resets, so the operations that commit a host's word are stated from words as the silicon fixes them. -/

namespace Sys2Proof.Machine

/-! ### Registers as the host reaches them -/

@[simp] theorem State.readReg_ids (s : State) (a : Nat) : (s.readReg a).2.ids = s.ids := by
  simp only [State.readReg, State.readCalL, State.readTimeL, State.readTimeH, State.readCalH]
  repeat' split
  all_goals simp

@[simp] theorem onBit_ids (v : Word) (b : Nat) (f : State → State) (s : State) (hf : ∀ t, (f t).ids = t.ids) :
    (onBit v b f s).ids = s.ids := by
  simp [onBit, hf]

@[simp] theorem State.writeSleepCtl_ids (s : State) (v : Word) : (s.writeSleepCtl v).ids = s.ids := by
  simp [State.writeSleepCtl]

@[simp] theorem State.writePwrVote_ids (s : State) (v : Word) : (s.writePwrVote v).ids = s.ids := by
  simp [State.writePwrVote, State.hostVoteSet]

@[simp] theorem State.writeGeyserCfg_ids (s : State) (v : Word) : (s.writeGeyserCfg v).ids = s.ids := by
  simp [State.writeGeyserCfg]

@[simp] theorem State.writeFuncReset_ids (s : State) (v : Word) : (s.writeFuncReset v).ids = s.ids := by
  simp [State.writeFuncReset]

@[simp] theorem State.writeFuncEn_ids (s : State) (v : Word) : (s.writeFuncEn v).ids = s.ids := by
  simp [State.writeFuncEn]

@[simp] theorem State.writeSchedCtl_ids (s : State) (v : Word) : (s.writeSchedCtl v).ids = s.ids := by
  simp [State.writeSchedCtl]

@[simp] theorem State.writeFiltCtl_ids (s : State) (v : Word) : (s.writeFiltCtl v).ids = s.ids := by
  simp [State.writeFiltCtl]

@[simp] theorem State.writeCalCmd_ids (s : State) (v : Word) : (s.writeCalCmd v).ids = s.ids := by
  simp [State.writeCalCmd]

@[simp] theorem State.writeBaseCtl_ids (s : State) (v : Word) : (s.writeBaseCtl v).ids = s.ids := by
  simp [State.writeBaseCtl]

@[simp] theorem State.clrGap_ids (s : State) : s.clrGap.ids = s.ids := by simp [State.clrGap]

@[simp] theorem State.writeRptCtl_ids (s : State) (v : Word) : (s.writeRptCtl v).ids = s.ids := by
  simp [State.writeRptCtl]

@[simp] theorem State.writeRingCtl_ids (s : State) (v : Word) : (s.writeRingCtl v).ids = s.ids := by
  simp [State.writeRingCtl]

@[simp] theorem State.writeWinSel_ids (s : State) (v : Word) : (s.writeWinSel v).ids = s.ids := by
  simp [State.writeWinSel]

@[simp] theorem State.writeNvmCtl_ids (s : State) (v : Word) : (s.writeNvmCtl v).ids = s.ids := by
  simp [State.writeNvmCtl]

@[simp] theorem State.writeHostCtl_ids (s : State) (v : Word) : (s.writeHostCtl v).ids = s.ids := by
  simp [State.writeHostCtl]

@[simp] theorem State.sysResetFree_ids (s : State) (v : Word) (h : s.ids = chipIds) :
    (s.sysResetFree v).ids = chipIds := by
  simp [State.sysResetFree, h]

@[simp] theorem State.commitReg_ids (s : State) (a : Nat) (v : Word) (h : s.ids = chipIds) :
    (s.commitReg a v).ids = chipIds := by
  unfold State.commitReg
  repeat' split
  all_goals simp [h]

/-! ### The host port -/

@[simp] theorem State.drives_ids (s : State) (l : List Byte) : (s.drives l).ids = s.ids := by rfl
@[simp] theorem State.quiet_ids (s : State) : s.quiet.ids = s.ids := by rfl
@[simp] theorem State.clocked_ids (s : State) : s.clocked.ids = s.ids := by rfl
@[simp] theorem State.nacks_ids (s : State) : s.nacks.ids = s.ids := by rfl
@[simp] theorem State.onTxn_ids (s : State) (f : Txn → Txn) : (s.onTxn f).ids = s.ids := by rfl

@[simp] theorem State.txnOpen_ids (s : State) (rd : Bool) (kind addr : Nat) (crcOn dead : Bool) :
    (s.txnOpen rd kind addr crcOn dead).ids = s.ids := by
  rfl

@[simp] theorem State.txnDies_ids (s : State) : s.txnDies.ids = s.ids := by rfl
@[simp] theorem State.touchMain_ids (s : State) : s.touchMain.ids = s.ids := by simp [State.touchMain]
@[simp] theorem State.pinTransients_ids (s : State) : s.pinTransients.ids = s.ids := by rfl
@[simp] theorem State.txnOver_ids (s : State) : s.txnOver.ids = s.ids := by simp [State.txnOver]
@[simp] theorem State.txnEnd_ids (s : State) : s.txnEnd.ids = s.ids := by simp [State.txnEnd]
@[simp] theorem State.txnVoid_ids (s : State) : s.txnVoid.ids = s.ids := by rfl

@[simp] theorem State.txnSelect_ids (s : State) : s.txnSelect.ids = s.ids := by
  unfold State.txnSelect
  split <;> simp [State.winSelect]

@[simp] theorem State.status_ids (s t : State) (resp : Nat) : (s.status t resp).2.ids = t.ids := by
  simp [State.status]

@[simp] theorem State.statusWord_ids (s : State) (k : Nat) : (s.statusWord k).2.ids = s.ids := by
  simp [State.statusWord]

@[simp] theorem State.portWord_ids (s : State) (t : Txn) : (s.portWord t).2.ids = s.ids := by
  unfold State.portWord
  split <;> simp

@[simp] theorem State.capture_ids (s : State) (t : Txn) : (s.capture t).2.ids = s.ids := by simp [State.capture]
@[simp] theorem State.wordOut_ids (s : State) (t : Txn) (w : Word) : (s.wordOut t w).2.ids = s.ids := by rfl

@[simp] theorem State.commitWord_ids (s : State) (t : Txn) (v : Word) (h : s.ids = chipIds) :
    (s.commitWord t v).ids = chipIds := by
  simp only [State.commitWord]
  split <;> simp [h]

theorem State.takeWire_ids (s : State) (t : Txn) (w : WireWord) (f : State → Txn → Word → State)
    (h : s.ids = chipIds) (hf : ∀ u v, u.ids = chipIds → (f u t v).ids = chipIds) :
    (s.takeWire t w f).ids = chipIds := by
  simp only [State.takeWire]
  repeat' split
  all_goals simp [h, hf]

@[simp] theorem State.spiCapture_ids (s : State) (t : Txn) : (s.spiCapture t).2.ids = s.ids := by
  simp [State.spiCapture]

@[simp] theorem State.spiRead_ids (n : Nat) (s : State) : (State.spiRead n s).2.ids = s.ids := by
  induction n generalizing s with
  | zero => rfl
  | succ n ih =>
    unfold State.spiRead
    split
    · rfl
    · simp [ih]

@[simp] theorem State.spiCommit_ids (s : State) (t : Txn) (v : Word) (h : s.ids = chipIds) :
    (s.spiCommit t v).ids = chipIds := by
  simp [State.spiCommit, h]

@[simp] theorem State.spiWrite_ids (s : State) (ws : List WireWord) (h : s.ids = chipIds) :
    (s.spiWrite ws).ids = chipIds := by
  induction ws generalizing s with
  | nil => exact h
  | cons w ws ih =>
    refine ih _ ?_
    dsimp only
    split
    · rename_i t _
      have hw : (s.takeWire t w State.spiCommit).ids = chipIds :=
        State.takeWire_ids s t w _ h fun u v hu => State.spiCommit_ids u t v hu
      simp [hw, h]
    · exact h

@[simp] theorem State.spiMore_ids (s : State) (ws : List WireWord) (n : Nat) (h : s.ids = chipIds) :
    (s.spiMore ws n).ids = chipIds := by
  unfold State.spiMore
  split <;> simp [h]

@[simp] theorem State.spiDead_ids (s t : State) (rd crcOn : Bool) (resp n : Nat) :
    (s.spiDead t rd crcOn resp n).ids = t.ids := by
  simp [State.spiDead]

@[simp] theorem State.spiServe_ids (s : State) (crcOn : Bool) (n : Nat) : (s.spiServe crcOn n).ids = s.ids := by
  simp [State.spiServe]

@[simp] theorem State.spiGo_ids (s : State) (rd : Bool) (kind : Nat) (addr : Byte) (crcOn : Bool) (ws : List WireWord)
    (n : Nat) (h : s.ids = chipIds) : (s.spiGo rd kind addr crcOn ws n).ids = chipIds := by
  simp [State.spiGo, h]

@[simp] theorem State.spiStart_ids (s : State) (rd : Bool) (kind : Nat) (hdr : SpiHeader) (ws : List WireWord) (n : Nat)
    (h : s.ids = chipIds) : (s.spiStart rd kind hdr ws n).ids = chipIds := by
  simp [State.spiStart, h]

theorem State.inSpi_ids {s : State} {f : State → State} (h : s.ids = chipIds)
    (hf : ∀ t, t.ids = chipIds → (f t).ids = chipIds) : (s.inSpi f).ids = chipIds := by
  simp [State.inSpi, h, hf]

theorem State.inI2c_ids {s : State} {f : State → State} (h : s.ids = chipIds)
    (hf : ∀ t, t.ids = chipIds → (f t).ids = chipIds) : (s.inI2c f).ids = chipIds := by
  simp [State.inI2c, h, hf]

@[simp] theorem State.spiRow_ids (s : State) (rd : Bool) (kind : Nat) (hdr : Option SpiHeader) (ws : List WireWord)
    (n : Nat) (h : s.ids = chipIds) : (s.spiRow rd kind hdr ws n).ids = chipIds := by
  refine State.inSpi_ids h fun t ht => ?_
  split <;> simp [ht]

@[simp] theorem State.i2cHold_ids (s : State) (st : Stretch) : (s.i2cHold st).ids = s.ids := by simp [State.i2cHold]

@[simp] theorem State.i2cCapture_ids (s : State) (t : Txn) : (s.i2cCapture t).2.ids = s.ids := by
  simp [State.i2cCapture]

@[simp] theorem State.i2cRead_ids (n : Nat) (s : State) : (State.i2cRead n s).2.ids = s.ids := by
  induction n generalizing s with
  | zero => rfl
  | succ n ih =>
    unfold State.i2cRead
    split
    · rfl
    · simp [ih]

@[simp] theorem State.i2cReadOnly_ids (s : State) : s.i2cReadOnly.ids = s.ids := by simp [State.i2cReadOnly]

@[simp] theorem State.i2cWrite_ids (s : State) (ws : List WireWord) (h : s.ids = chipIds) :
    (s.i2cWrite ws).ids = chipIds := by
  induction ws generalizing s with
  | nil => exact h
  | cons w ws ih =>
    unfold State.i2cWrite
    split
    · exact h
    · rename_i t _
      have hw : (s.takeWire t w State.commitWord).ids = chipIds :=
        State.takeWire_ids s t w _ h fun u v hu => State.commitWord_ids u t v hu
      simp [ih _ hw, h]

@[simp] theorem State.i2cStart_ids (s : State) (rd : Bool) (a : Byte) (f : State → State)
    (hf : ∀ t, (f t).ids = t.ids) : (s.i2cStart rd a f).ids = s.ids := by
  simp [State.i2cStart, hf]

@[simp] theorem State.i2cPointer_ids (s : State) (ptr : Byte) (crc : Option Byte) :
    (s.i2cPointer ptr crc).ids = s.ids := by
  simp [State.i2cPointer]

@[simp] theorem State.i2cMore_ids (s : State) (n : Nat) : (s.i2cMore n).ids = s.ids := by
  unfold State.i2cMore
  split <;> simp

@[simp] theorem State.i2cReads_ids (s : State) (n : Nat) : (s.i2cReads n).ids = s.ids := by simp [State.i2cReads]
@[simp] theorem State.streamOn_ids (s : State) (n : Nat) : (s.streamOn n).ids = s.ids := by simp [State.streamOn]

@[simp] theorem State.i2cOdd_ids (s : State) : s.i2cOdd.ids = s.ids := by
  unfold State.i2cOdd
  split <;> simp

@[simp] theorem State.i2cEnds_ids (s : State) (e : I2cEnd) : (s.i2cEnds e).ids = s.ids := by simp [State.i2cEnds]

@[simp] theorem State.stretchOver_ids (s : State) (st : Stretch) (h : s.ids = chipIds) :
    (s.stretchOver st).ids = chipIds := by
  simp only [State.stretchOver]
  split <;> simp [h]

@[simp] theorem State.apart_ids (s : State) (f : State → Word × State) (hf : ∀ t, (f t).2.ids = t.ids) :
    (s.apart f).2.ids = s.ids := by
  simp [State.apart, hf]

@[simp] theorem State.dbgNoData_ids (s : State) (code : Nat) : (s.dbgNoData code).ids = s.ids := by
  simp [State.dbgNoData]

@[simp] theorem State.dbgAccess_ids (s : State) (dr : BitVec 40) (h : s.ids = chipIds) :
    (s.dbgAccess dr).ids = chipIds := by
  simp [State.dbgAccess, h]

end Sys2Proof.Machine
end

section
/-! PROOFS. Operations that leave CHIP_ID and CHIP_REV as they are (5): the default schedule library and the values that
leave a cell (LibImage to Transfer). -/

namespace Sys2Proof.Machine

/-! ### The library's image -/

@[simp] theorem State.drawInts_ids (s : State) (n : Nat) : (s.drawInts n).2.ids = s.ids := by
  induction n generalizing s with
  | zero => rfl
  | succ n ih => simp [State.drawInts, ih]

@[simp] theorem State.libDecode_ids (s : State) (g : Grid) : (s.libDecode g).ids = s.ids := by
  simp [State.libDecode, State.mutualImage]

@[simp] theorem State.libStrengths_ids (s : State) (g : Grid) : (s.libStrengths g).ids = s.ids := by rfl
@[simp] theorem State.libTrack_ids (s : State) (g : Grid) : (s.libTrack g).ids = s.ids := by rfl
@[simp] theorem State.captureEnd_ids (s : State) (g : Grid) : (s.captureEnd g).ids = s.ids := by rfl
@[simp] theorem State.capRequest_ids (s : State) : s.capRequest.ids = s.ids := by simp [State.capRequest]
@[simp] theorem State.puCheck_ids (s : State) (g : Grid) : (s.puCheck g).ids = s.ids := by simp [State.puCheck]
@[simp] theorem State.libAnti_ids (s : State) (g : Grid) : (s.libAnti g).ids = s.ids := by rfl

@[simp] theorem State.elecJudge_ids (s : State) (p other slot code : Nat) (bad : Bool) :
    (s.elecJudge p other slot code bad).ids = s.ids := by
  simp [State.elecJudge, State.elecFault]

@[simp] theorem State.elecAxis_ids (s : State) (pins : List Nat) (line : Nat → Nat) :
    (s.elecAxis pins line).ids = s.ids := by
  refine (State.foldl_ids _ _ _ fun t i => ?_).trans (State.foldl_ids _ _ s fun t p => ?_)
  all_goals
    dsimp only
    split <;> simp

/-! ### The library's regions -/

@[simp] theorem State.centroid_ids (s : State) (i n : Nat) (lo mid hi : Int) :
    (s.centroid i n lo mid hi).2.ids = s.ids := by
  simp [State.centroid]

@[simp] theorem State.regionPos_ids (s : State) (g : Grid) (peak : Nat) : (s.regionPos g peak).2.2.ids = s.ids := by
  simp [State.regionPos]

@[simp] theorem State.selfPos_ids (s : State) (pins : List Nat) (i : Nat) : (s.selfPos pins i).2.ids = s.ids := by
  simp [State.selfPos]

@[simp] theorem State.findHover_ids (s : State) (g : Grid) (rs : List Region) : (s.findHover g rs).2.ids = s.ids := by
  unfold State.findHover
  split <;> simp

@[simp] theorem State.libRegions_ids (s : State) (g : Grid) : (s.libRegions g).ids = s.ids := by
  simp [State.libRegions, State.makeRegion]

@[simp] theorem State.libTime_ids (s : State) : s.libTime.ids = s.ids := by rfl

@[simp] theorem State.libLoad_ids (s : State) : s.libLoad.ids = s.ids := by
  simp [State.libLoad, State.rebaseFrame, State.libElec, State.libRestart]

/-! ### The library's contacts -/

@[simp] theorem State.setLib_ids (s : State) (f : Lib → Lib) : (s.setLib f).ids = s.ids := by rfl

@[simp] theorem State.noteEnd_ids (s : State) (c : Contact) (code : Nat) (plain stale : Bool) :
    (s.noteEnd c code plain stale).ids = s.ids := by
  rfl

@[simp] theorem State.endContact_ids (s : State) (c : Contact) (code : Nat) (plain stale : Bool) :
    (s.endContact c code plain stale).ids = s.ids := by
  rfl

@[simp] theorem State.putContact_ids (s : State) (c : Contact) : (s.putContact c).ids = s.ids := by rfl
@[simp] theorem State.endAll_ids (s : State) (stale : Bool) : (s.endAll stale).ids = s.ids := by simp [State.endAll]

@[simp] theorem State.missContact_ids (s : State) (c : Contact) : (s.missContact c).ids = s.ids := by
  simp [State.missContact]

@[simp] theorem State.absorbNodes_ids (s : State) (g : Grid) (c : Contact) : (s.absorbNodes g c).ids = s.ids := by rfl
@[simp] theorem State.addStatus_ids (s : State) (r : Rec) : (s.addStatus r).ids = s.ids := by rfl

@[simp] theorem State.orAbsorb_ids (s : State) (g : Grid) (old c : Contact) : (s.orAbsorb g old c).ids = s.ids := by
  simp [State.orAbsorb]

@[simp] theorem State.gloveSeen_ids (s : State) (k : Kind) : (s.gloveSeen k).ids = s.ids := by simp [State.gloveSeen]

@[simp] theorem State.turnContact_ids (s : State) (g : Grid) (c : Contact) (k : Kind) (r : Region) :
    (s.turnContact g c k r).ids = s.ids := by
  simp [State.turnContact]

@[simp] theorem State.trackContact_ids (s : State) (g : Grid) (c : Contact) (r : Region) (cls : Class) :
    (s.trackContact g c r cls).ids = s.ids := by
  unfold State.trackContact
  split <;> simp

@[simp] theorem State.trackSuspect_ids (s : State) (g : Grid) (c : Contact) : (s.trackSuspect g c).ids = s.ids := by
  simp [State.trackSuspect]

@[simp] theorem State.trackAll_ids (s : State) (g : Grid) (ps : List (Nat × Nat)) (cl : List Class) :
    (s.trackAll g ps cl).ids = s.ids := by
  refine State.foldl_ids _ _ s fun t c => ?_
  repeat' split
  all_goals simp

@[simp] theorem State.beginContact_ids (s : State) (g : Grid) (c : Cand) : (s.beginContact g c).ids = s.ids := by
  simp only [State.beginContact]
  repeat' split
  all_goals simp

@[simp] theorem State.puContact_ids (s : State) (g : Grid) (cx cy : List Nat) :
    (s.puContact g cx cy).ids = s.ids := by
  unfold State.puContact
  split <;> simp [State.puLeft]

@[simp] theorem State.puForm_ids (s : State) (g : Grid) (all : Bool) : (s.puForm g all).ids = s.ids := by
  simp [State.puForm]

@[simp] theorem State.libWet_ids (s : State) (g : Grid) (cl : List Class) : (s.libWet g cl).ids = s.ids := by
  simp [State.libWet]

@[simp] theorem State.libGlove_ids (s : State) (was : Bool) : (s.libGlove was).ids = s.ids := by simp [State.libGlove]

@[simp] theorem State.libContacts_ids (s : State) (g : Grid) : (s.libContacts g).ids = s.ids := by
  simp [State.libContacts, State.beginAll, State.puAnnounce, State.libLock, State.puTell]

/-! ### The library's keys, gestures and records -/

@[simp] theorem State.keyRec_ids (s : State) (g : Grid) (k ev cause : Nat) : (s.keyRec g k ev cause).ids = s.ids := by
  rfl

@[simp] theorem State.keyEvent_ids (s : State) (g : Grid) (k : Nat) (on : Bool) (cause : Nat) :
    (s.keyEvent g k on cause).ids = s.ids := by
  rfl

@[simp] theorem State.debounce_ids (s : State) (g : Grid) (k : Nat) : (s.debounce g k).ids = s.ids := by
  simp [State.debounce]

@[simp] theorem State.keyFrame_ids (s : State) (g : Grid) (old : List Word) (k : Nat) :
    (s.keyFrame g old k).ids = s.ids := by
  simp [State.keyFrame]

@[simp] theorem State.gestureAt_ids (s : State) (bit sub : Nat) (p : Nat × Nat) (a b dur extra : Nat) :
    (s.gestureAt bit sub p a b dur extra).ids = s.ids := by
  simp [State.gestureAt]

@[simp] theorem State.gesture_ids (s : State) (g : Grid) (bit sub : Nat) (x y : Int) (a b dur extra : Nat) :
    (s.gesture g bit sub x y a b dur extra).ids = s.ids := by
  simp [State.gesture]

@[simp] theorem State.gestureDuo_ids (s : State) (g : Grid) (bit sub : Nat) (d : Duo) (extra : Nat) :
    (s.gestureDuo g bit sub d extra).ids = s.ids := by
  simp [State.gestureDuo]

@[simp] theorem State.swipe_ids (s : State) (g : Grid) (c : Contact) : (s.swipe g c).ids = s.ids := by
  simp [State.swipe]

@[simp] theorem State.tapMade_ids (s : State) (g : Grid) (c : Contact) : (s.tapMade g c).ids = s.ids := by
  unfold State.tapMade
  split <;> simp

@[simp] theorem State.duoUp_ids (s : State) (g : Grid) (u : Ended) (d : Duo) : (s.duoUp g u d).ids = s.ids := by
  simp [State.duoUp]

@[simp] theorem State.keepGone_ids (s : State) (u : Ended) : (s.keepGone u).ids = s.ids := by simp [State.keepGone]

@[simp] theorem State.upGesture_ids (s : State) (g : Grid) (u : Ended) : (s.upGesture g u).ids = s.ids := by
  simp only [State.upGesture]
  split <;> simp

@[simp] theorem State.downGesture_ids (s : State) (c : Contact) : (s.downGesture c).ids = s.ids := by
  simp only [State.downGesture]
  split <;> simp

@[simp] theorem State.libDuos_ids (s : State) : s.libDuos.ids = s.ids := by rfl

@[simp] theorem State.pinchGesture_ids (s : State) (g : Grid) : (s.pinchGesture g).ids = s.ids := by
  simp only [State.pinchGesture]
  repeat' split
  all_goals simp

@[simp] theorem State.palmRegion_ids (s : State) (g : Grid) (old : List Palm) (r : Region) :
    (s.palmRegion g old r).2.ids = s.ids := by
  unfold State.palmRegion
  split <;> simp

@[simp] theorem State.markAlone_ids (s : State) : s.markAlone.ids = s.ids := by rfl
@[simp] theorem State.dropGestures_ids (s : State) : s.dropGestures.ids = s.ids := by rfl

@[simp] theorem State.libGestures_ids (s : State) (g : Grid) (cl : List Class) :
    (s.libGestures g cl).ids = s.ids := by
  simp [State.libGestures, State.longGesture, State.palmGesture, State.tapExpiry]

@[simp] theorem State.wakeResult_ids (s : State) (r : WakeRes) : (s.wakeResult r).ids = s.ids := by rfl

@[simp] theorem State.judgeWake_ids (s : State) (g : Grid) (cl : List Class) : (s.judgeWake g cl).ids = s.ids := by
  simp [State.judgeWake]

@[simp] theorem State.libWake_ids (s : State) (g : Grid) (cl : List Class) : (s.libWake g cl).ids = s.ids := by
  simp only [State.libWake]
  split <;> simp

@[simp] theorem State.libHop_ids (s : State) : s.libHop.ids = s.ids := by rfl

@[simp] theorem State.libTrackEnd_ids (s : State) (g : Grid) (reset : Bool) :
    (s.libTrackEnd g reset).ids = s.ids := by
  simp [State.libTrackEnd, State.releaseKeys]

@[simp] theorem State.libFrame_ids (s : State) (g : Grid) : (s.libFrame g).ids = s.ids := by
  simp [State.libFrame, State.libFreeze, State.libKeys, State.libPowerup]

@[simp] theorem State.libCounted_ids (s : State) : s.libCounted.ids = s.ids := by rfl
@[simp] theorem State.libVote_ids (s : State) : s.libVote.2.ids = s.ids := by simp [State.libVote]

/-! ### Values out of a cell -/

@[simp] theorem State.libRead_ids (s : State) : s.libRead.ids = s.ids := by simp [State.libRead]

@[simp] theorem State.stagePub_ids (s : State) (c : CellId) (target : Nat) (v : Word) :
    (s.stagePub c target v).ids = s.ids := by
  simp [State.stagePub]

@[simp] theorem State.stageVote_ids (s : State) (c : CellId) (v : Bool) : (s.stageVote c v).ids = s.ids := by
  simp [State.stageVote]

@[simp] theorem State.emitWords_ids (s : State) (c : CellId) (ws : List Word) : (s.emitWords c ws).2.ids = s.ids := by
  simp [State.emitWords]

@[simp] theorem State.emitRec_ids (s : State) (c : CellId) (ws : List Word) : (s.emitRec c ws).ids = s.ids := by
  simp [State.emitRec]

@[simp] theorem State.emitRing_ids (s : State) (c : CellId) (ws : List Word) : (s.emitRing c ws).ids = s.ids := by
  simp [State.emitRing]

end Sys2Proof.Machine
end

section
/-! PROOFS. The identification words in every command and every step (15, R439), and how they read. -/

namespace Sys2Proof.Machine

/-! ### Commands -/

/-- Any state that `o` goes on to holds what the silicon fixes. -/
def keepsIds (o : Host.Outcome State Fault Refusal) : Prop := ∀ t, o = .next t → t.ids = chipIds

theorem keepsIds_refused (r : Refusal) : keepsIds (.refused r) := fun _ hu => nomatch hu

theorem keepsIds_next {t : State} (ht : t.ids = chipIds) : keepsIds (.next t) := fun _ hu => by
  cases hu
  exact ht

theorem keepsIds_same {s t : State} (h : s.ids = chipIds) (ht : t.ids = s.ids) : keepsIds (.next t) :=
  keepsIds_next (ht.trans h)

/-- A meaning that refuses one kind of operand and answers a next state for every other. -/
theorem keepsIds_refused_or_same {s t : State} {c : Prop} [Decidable c] (r : Refusal) (h : s.ids = chipIds)
    (ht : t.ids = s.ids) : keepsIds (if c then .refused r else .next t) := by
  split
  · exact keepsIds_refused r
  · exact keepsIds_same h ht

section Arms

variable {s : State} (h : s.ids = chipIds)
include h

theorem execVote_ids (c : CellId) (f : VoteForm) : keepsIds (execVote c f s) := by
  refine keepsIds_same h ?_
  cases f with
  | code p imm => simp
  | library =>
    dsimp only
    repeat' split
    all_goals simp

theorem execWaitEntryComplete_ids (c : CellId) : keepsIds (execWaitEntryComplete c s) := by
  refine keepsIds_same h ?_
  repeat' split
  all_goals simp

theorem execChannelPairComplete_ids (c : CellId) (dir : Dir) : keepsIds (execChannelPairComplete c dir s) := by
  refine keepsIds_same h ?_
  dsimp only
  split <;> simp

theorem execDpllUnlock_ids (c : UnlockCause) : keepsIds (execDpllUnlock c s) := by
  refine keepsIds_same h ?_
  cases c <;> simp

theorem execAonSelfCheck_ids (parityOk ringOk : Bool) : keepsIds (execAonSelfCheck parityOk ringOk s) := by
  refine keepsIds_same h ?_
  dsimp only
  repeat' split
  all_goals simp

theorem execScrubWord_ids (m : MemId) (addr : Nat) : keepsIds (execScrubWord m addr s) := by
  refine keepsIds_same h ?_
  repeat' split
  all_goals simp

theorem execStreamRead_ids (p : StreamPort) (n : Nat) : keepsIds (execStreamRead p n s) := by
  refine keepsIds_next ?_
  cases p with
  | spi rd hdr => simp [h]
  | i2c a => exact State.inI2c_ids h fun t ht => by simp [ht]
  | more =>
    dsimp only
    split
    · exact State.inI2c_ids h fun t ht => by simp [ht]
    · exact State.inSpi_ids h fun t ht => by simp [ht]

theorem execI2cDataRead_ids (r : I2cFetch) : keepsIds (execI2cDataRead r s) := by
  refine keepsIds_next (State.inI2c_ids h fun t ht => ?_)
  repeat' split
  all_goals simp [ht]

theorem execI2cStop_ids (e : I2cEnd) : keepsIds (execI2cStop e s) :=
  keepsIds_next (State.inI2c_ids h fun t ht => by simp [ht])

theorem execI2cStretchRelease_ids : keepsIds (execI2cStretchRelease s) := by
  refine keepsIds_next (State.inI2c_ids h fun t ht => ?_)
  split <;> simp [ht]

theorem execI2cStretchTimeout_ids : keepsIds (execI2cStretchTimeout s) := by
  refine keepsIds_next (State.inI2c_ids h fun t ht => ?_)
  split <;> simp [ht]

end Arms

/-- Every command keeps the identification words: the resets restore them, a host write leaves them whatever register it
names, and every other meaning writes other registers only. -/
theorem exec_ids (i : Instr) {s : State} (h : s.ids = chipIds) : keepsIds (exec i s) := by
  cases i
  -- Instructions that change only their cell
  case nop | sort => exact keepsIds_same h (State.cellOp_ids ..)
  case add | sub | addi | adds | subs | min | max | abs | and | or | xor | shl | shr | sar | shli | sari | mov |
      movi | racc | getr | getw | med3 =>
    exact keepsIds_same h (State.cellReg_ids ..)
  case plt | ple | peq | pne | pand | pnot => exact keepsIds_same h (State.cellPred_ids ..)
  case clra | mul | mac | msu => exact keepsIds_same h (State.cellAcc_ids ..)
  -- Operations that MAIN alone does
  case funcResetLanes | funcResetFilters | funcResetSeq | funcResetCaldera | funcResetTrack | funcResetQueue |
      funcResetRing | funcResetNvmctl | funcResetHostport | funcResetGeyser | funcResetGoertzel | funcEnLanes |
      funcEnFilters | funcEnSeq | funcEnCaldera | funcEnTrack | funcEnQueue | funcEnRing | funcEnNvmctl |
      funcEnGeyser | funcEnGoertzel | nvmProgramA | nvmProgramB | nvmSaveCal | nvmCaptureSig | nvmEraseA |
      nvmEraseB | calSelf | calRecal | debugNonce | advDevelop | advSecured | relock | authChalRead | authChalWrite |
      tapAttach | tapDetach | rptDataRead | rptFlush | rptClrgap | insertPush | ringMark | ringRewind | ringClear |
      ringRdWrite | winDataAccess =>
    exact keepsIds_same h (State.inMain_ids _ _ (by simp))
  -- Operands that the model refuses
  case intake | intakes | wht | waitEntry => exact keepsIds_refused_or_same _ h (by simp)
  -- Resets
  case vioLow | rstNReset | sysReset => exact keepsIds_next (by simp [h])
  case powerOnReset | fuseProgramDone =>
    refine keepsIds_next ?_
    split <;> simp [h]
  -- Accesses that may write SYS_RESET
  case registerWrite | dbgAccess | spiRegisterRead | spiRegisterWrite | spiWindowRead | spiWindowWrite | spiStatus |
      spiWake => exact keepsIds_next (by simp [h])
  case hcsNRise => exact keepsIds_next (State.inSpi_ids h fun t ht => by simp [ht])
  case i2cPointerWrite | i2cDataWrite => exact keepsIds_next (State.inI2c_ids h fun t ht => by simp [ht])
  case i2cDataRead r => exact execI2cDataRead_ids h r
  case i2cStop e => exact execI2cStop_ids h e
  case i2cStretchRelease => exact execI2cStretchRelease_ids h
  case i2cStretchTimeout => exact execI2cStretchTimeout_ids h
  case streamRead p n => exact execStreamRead_ids h p n
  -- Meanings that branch more than once
  case vote c f => exact execVote_ids h c f
  case waitEntryComplete c => exact execWaitEntryComplete_ids h c
  case channelPairComplete c dir => exact execChannelPairComplete_ids h c dir
  case dpllUnlock c => exact execDpllUnlock_ids h c
  case aonSelfCheck p r => exact execAonSelfCheck_ids h p r
  case scrubWord m a => exact execScrubWord_ids h m a
  -- Meanings of one match
  case resamplerOutput | rowWrite | calderaFrameOpen | ld | pub | emit | ering | takeoverCopyDone | cellSelfTestDone |
      handshakeBlockAnswer | handshakeDelayExpiry | wakeStepTimeout | laneCalDone | nvmPageDone | authCompareDone |
      returnEraseDone | otpProgramDone | singleFault =>
    refine keepsIds_same h ?_
    split <;> simp
  -- Every other meaning: operations under a guard, or the state as it stands
  all_goals exact keepsIds_same h (by simp)

/-! ### Steps and reads -/

/-- A register without view fields reads as it is stored. -/
theorem view_of_empty_mask (w : Word) : (w &&& ~~~(word 0)) ||| (word 0 &&& word 0) = w := by
  have h1 : w &&& ~~~(word 0) = w := BitVec.and_allOnes
  rw [h1]
  exact BitVec.or_zero

/-- A read of an identification register delivers the stored word and changes nothing (R439). -/
theorem State.readReg_chipId (s : State) : s.readReg 0x00 = (s.reg Reg.CHIP_ID, s) :=
  congrArg (·, s) (view_of_empty_mask _)

theorem State.readReg_chipRev (s : State) : s.readReg 0x01 = (s.reg Reg.CHIP_REV, s) :=
  congrArg (·, s) (view_of_empty_mask _)

@[simp] theorem slowTick_ids (s : State) : (slowTick s).ids = s.ids := by simp [slowTick]

theorem step_keepsIds {s t : State} (h : s.ids = chipIds) (ht : step s = .next t) : t.ids = chipIds := by
  unfold step at ht
  split at ht
  case h_1 => exact keepsIds_same h (slowTick_ids s) t ht
  case h_2 c rest _ => exact exec_ids c (s := { s with pending := rest }) h t ht

/-- Settles O6: every command keeps the two words (`exec_ids`), and a read delivers them as stored. -/
theorem stepKeepsIds : Obligations.StepKeepsIds := by
  unfold Obligations.StepKeepsIds
  intro s t hs ht
  have hi : t.IdsFixed := t.idsFixed_iff.2 (step_keepsIds (s.idsFixed_iff.1 hs) ht)
  refine ⟨hi, ?_, ?_⟩
  · rw [t.readReg_chipId, hi.id]
  · rw [t.readReg_chipRev, hi.rev]

end Sys2Proof.Machine
end

section
/-! PROOFS. What the sizes and the memories of a state are, and which operations leave them: the parts of a state that the
invariants of a step speak of. -/

namespace Sys2Proof.Machine

/-! ### Sizes and canonical memories, part by part -/

/-- The queue within its sizes (R278, R284, R286). -/
def Queue.fits (q : Queue) : Bool := q.occupancy ≤ 64 && q.ins.length ≤ 4 && q.word < 8

/-- The ring within its sizes (R298, R303). -/
def Ring.fits (r : Ring) : Bool := r.u ≤ 4096 && r.count ≤ 4096

/-- A table image, a flash and the Caldera's memories in canonical form. -/
def tabWf (t : List (Nat × Word)) : Bool := Memory.wf tabDefault t
def flashWf (f : List Host.Cell) : Bool := Memory.wf flashDefault f
def imemWf (m : List (Nat × Code)) : Bool := Memory.wf imemDefault m
def dmemWf (m : List (Nat × Data)) : Bool := Memory.wf dmemDefault m

/-! ### What an operation leaves -/

@[simp] abbrev State.SameRest (t s : State) : Prop := t.pending = s.pending ∧ t.sec.otp = s.sec.otp
@[simp] abbrev State.SameMems (t s : State) : Prop :=
  t.tables = s.tables ∧ t.flash = s.flash ∧ t.snap = s.snap ∧ t.cald.snap = s.cald.snap ∧ t.cald.owed = s.cald.owed ∧
    t.cald.imem = s.cald.imem ∧ t.cald.dmem = s.cald.dmem
@[simp] abbrev State.SameCore (t s : State) : Prop :=
  t.SameRest s ∧ t.SameMems s ∧ t.ring = s.ring ∧ t.queue = s.queue

@[simp] theorem State.ite_core (c : Prop) [Decidable c] (s t : State) :
    (if c then s else t).pending = (if c then s.pending else t.pending) ∧
    (if c then s else t).sec.otp = (if c then s.sec.otp else t.sec.otp) ∧
    (if c then s else t).queue = (if c then s.queue else t.queue) ∧
    (if c then s else t).ring = (if c then s.ring else t.ring) ∧
    (if c then s else t).tables = (if c then s.tables else t.tables) ∧
    (if c then s else t).flash = (if c then s.flash else t.flash) ∧
    (if c then s else t).snap = (if c then s.snap else t.snap) ∧
    (if c then s else t).cald.snap = (if c then s.cald.snap else t.cald.snap) ∧
    (if c then s else t).cald.owed = (if c then s.cald.owed else t.cald.owed) ∧
    (if c then s else t).cald.imem = (if c then s.cald.imem else t.cald.imem) ∧
    (if c then s else t).cald.dmem = (if c then s.cald.dmem else t.cald.dmem) := by
  split <;> simp

@[simp] theorem State.snd_ite_core {α : Type} (c : Prop) [Decidable c] (p q : α × State) :
    (if c then p else q).2.pending = (if c then p.2.pending else q.2.pending) ∧
    (if c then p else q).2.sec.otp = (if c then p.2.sec.otp else q.2.sec.otp) ∧
    (if c then p else q).2.queue = (if c then p.2.queue else q.2.queue) ∧
    (if c then p else q).2.ring = (if c then p.2.ring else q.2.ring) ∧
    (if c then p else q).2.tables = (if c then p.2.tables else q.2.tables) ∧
    (if c then p else q).2.flash = (if c then p.2.flash else q.2.flash) ∧
    (if c then p else q).2.snap = (if c then p.2.snap else q.2.snap) ∧
    (if c then p else q).2.cald.snap = (if c then p.2.cald.snap else q.2.cald.snap) ∧
    (if c then p else q).2.cald.owed = (if c then p.2.cald.owed else q.2.cald.owed) ∧
    (if c then p else q).2.cald.imem = (if c then p.2.cald.imem else q.2.cald.imem) ∧
    (if c then p else q).2.cald.dmem = (if c then p.2.cald.dmem else q.2.cald.dmem) := by
  split <;> simp

end Sys2Proof.Machine
end

section
namespace Sys2Proof.Machine

/-! ### Folds -/

theorem foldl_leaves {σ α β : Type} (p : σ → β) (l : List α) (f : σ → α → σ) (s : σ) (hf : ∀ t a, p (f t a) = p t) :
    p (l.foldl f s) = p s := by
  induction l generalizing s with
  | nil => rfl
  | cons a l ih => exact (ih _).trans (hf s a)

theorem foldl_keeps {σ α : Type} (P : σ → Prop) (l : List α) (f : σ → α → σ) (s : σ) (hf : ∀ t a, P t → P (f t a))
    (h : P s) : P (l.foldl f s) := by
  induction l generalizing s with
  | nil => exact h
  | cons a l ih => exact ih _ (hf s a h)

section Folds

variable {α β : Type} (l : List α) (f : State → α → State) (s : State) (g : β × State → α → β × State) (p : β × State)

@[simp] theorem State.foldl_pending (hf : ∀ t a, (f t a).pending = t.pending) : (l.foldl f s).pending = s.pending :=
  foldl_leaves (fun t : State => t.pending) l f s hf
@[simp] theorem State.foldl_sec_otp (hf : ∀ t a, (f t a).sec.otp = t.sec.otp) : (l.foldl f s).sec.otp = s.sec.otp :=
  foldl_leaves (fun t : State => t.sec.otp) l f s hf
@[simp] theorem State.foldl_queue (hf : ∀ t a, (f t a).queue = t.queue) : (l.foldl f s).queue = s.queue :=
  foldl_leaves (fun t : State => t.queue) l f s hf
@[simp] theorem State.foldl_ring (hf : ∀ t a, (f t a).ring = t.ring) : (l.foldl f s).ring = s.ring :=
  foldl_leaves (fun t : State => t.ring) l f s hf
@[simp] theorem State.foldl_tables (hf : ∀ t a, (f t a).tables = t.tables) : (l.foldl f s).tables = s.tables :=
  foldl_leaves (fun t : State => t.tables) l f s hf
@[simp] theorem State.foldl_flash (hf : ∀ t a, (f t a).flash = t.flash) : (l.foldl f s).flash = s.flash :=
  foldl_leaves (fun t : State => t.flash) l f s hf
@[simp] theorem State.foldl_snap (hf : ∀ t a, (f t a).snap = t.snap) : (l.foldl f s).snap = s.snap :=
  foldl_leaves (fun t : State => t.snap) l f s hf
@[simp] theorem State.foldl_cald_snap (hf : ∀ t a, (f t a).cald.snap = t.cald.snap) : (l.foldl f s).cald.snap = s.cald.snap :=
  foldl_leaves (fun t : State => t.cald.snap) l f s hf
@[simp] theorem State.foldl_cald_owed (hf : ∀ t a, (f t a).cald.owed = t.cald.owed) : (l.foldl f s).cald.owed = s.cald.owed :=
  foldl_leaves (fun t : State => t.cald.owed) l f s hf
@[simp] theorem State.foldl_cald_imem (hf : ∀ t a, (f t a).cald.imem = t.cald.imem) : (l.foldl f s).cald.imem = s.cald.imem :=
  foldl_leaves (fun t : State => t.cald.imem) l f s hf
@[simp] theorem State.foldl_cald_dmem (hf : ∀ t a, (f t a).cald.dmem = t.cald.dmem) : (l.foldl f s).cald.dmem = s.cald.dmem :=
  foldl_leaves (fun t : State => t.cald.dmem) l f s hf
@[simp] theorem State.snd_foldl_pending (hf : ∀ q a, (g q a).2.pending = q.2.pending) : (l.foldl g p).2.pending = p.2.pending :=
  foldl_leaves (fun q : β × State => q.2.pending) l g p hf
@[simp] theorem State.snd_foldl_sec_otp (hf : ∀ q a, (g q a).2.sec.otp = q.2.sec.otp) : (l.foldl g p).2.sec.otp = p.2.sec.otp :=
  foldl_leaves (fun q : β × State => q.2.sec.otp) l g p hf
@[simp] theorem State.snd_foldl_queue (hf : ∀ q a, (g q a).2.queue = q.2.queue) : (l.foldl g p).2.queue = p.2.queue :=
  foldl_leaves (fun q : β × State => q.2.queue) l g p hf
@[simp] theorem State.snd_foldl_ring (hf : ∀ q a, (g q a).2.ring = q.2.ring) : (l.foldl g p).2.ring = p.2.ring :=
  foldl_leaves (fun q : β × State => q.2.ring) l g p hf
@[simp] theorem State.snd_foldl_tables (hf : ∀ q a, (g q a).2.tables = q.2.tables) : (l.foldl g p).2.tables = p.2.tables :=
  foldl_leaves (fun q : β × State => q.2.tables) l g p hf
@[simp] theorem State.snd_foldl_flash (hf : ∀ q a, (g q a).2.flash = q.2.flash) : (l.foldl g p).2.flash = p.2.flash :=
  foldl_leaves (fun q : β × State => q.2.flash) l g p hf
@[simp] theorem State.snd_foldl_snap (hf : ∀ q a, (g q a).2.snap = q.2.snap) : (l.foldl g p).2.snap = p.2.snap :=
  foldl_leaves (fun q : β × State => q.2.snap) l g p hf
@[simp] theorem State.snd_foldl_cald_snap (hf : ∀ q a, (g q a).2.cald.snap = q.2.cald.snap) : (l.foldl g p).2.cald.snap = p.2.cald.snap :=
  foldl_leaves (fun q : β × State => q.2.cald.snap) l g p hf
@[simp] theorem State.snd_foldl_cald_owed (hf : ∀ q a, (g q a).2.cald.owed = q.2.cald.owed) : (l.foldl g p).2.cald.owed = p.2.cald.owed :=
  foldl_leaves (fun q : β × State => q.2.cald.owed) l g p hf
@[simp] theorem State.snd_foldl_cald_imem (hf : ∀ q a, (g q a).2.cald.imem = q.2.cald.imem) : (l.foldl g p).2.cald.imem = p.2.cald.imem :=
  foldl_leaves (fun q : β × State => q.2.cald.imem) l g p hf
@[simp] theorem State.snd_foldl_cald_dmem (hf : ∀ q a, (g q a).2.cald.dmem = q.2.cald.dmem) : (l.foldl g p).2.cald.dmem = p.2.cald.dmem :=
  foldl_leaves (fun q : β × State => q.2.cald.dmem) l g p hf

@[simp] theorem State.foldl_fits (hf : ∀ t a, t.queue.fits = true → (f t a).queue.fits = true) (h : s.queue.fits = true) :
    (l.foldl f s).queue.fits = true :=
  foldl_keeps (fun t : State => t.queue.fits = true) l f s hf h
@[simp] theorem State.snd_foldl_fits (hf : ∀ q a, q.2.queue.fits = true → (g q a).2.queue.fits = true) (h : p.2.queue.fits = true) :
    (l.foldl g p).2.queue.fits = true :=
  foldl_keeps (fun q : β × State => q.2.queue.fits = true) l g p hf h
@[simp] theorem State.foldl_tabWf (hf : ∀ t a, tabWf t.tables = true → tabWf (f t a).tables = true) (h : tabWf s.tables = true) :
    tabWf (l.foldl f s).tables = true :=
  foldl_keeps (fun t : State => tabWf t.tables = true) l f s hf h
@[simp] theorem State.snd_foldl_tabWf (hf : ∀ q a, tabWf q.2.tables = true → tabWf (g q a).2.tables = true) (h : tabWf p.2.tables = true) :
    tabWf (l.foldl g p).2.tables = true :=
  foldl_keeps (fun q : β × State => tabWf q.2.tables = true) l g p hf h

end Folds

/-! ### Branches -/

section Branches

variable (c : Prop) [Decidable c]

@[simp] theorem ite_fits (p q : Queue) : (if c then p else q).fits = if c then p.fits else q.fits := apply_ite ..
@[simp] theorem ite_ringFits (p q : Ring) : (if c then p else q).fits = if c then p.fits else q.fits := apply_ite ..
@[simp] theorem ite_tabWf (p q : List (Nat × Word)) : tabWf (if c then p else q) = if c then tabWf p else tabWf q :=
  apply_ite ..
@[simp] theorem ite_flashWf (p q : List Host.Cell) : flashWf (if c then p else q) = if c then flashWf p else flashWf q :=
  apply_ite ..
@[simp] theorem ite_imemWf (p q : List (Nat × Code)) : imemWf (if c then p else q) = if c then imemWf p else imemWf q :=
  apply_ite ..
@[simp] theorem ite_dmemWf (p q : List (Nat × Data)) : dmemWf (if c then p else q) = if c then dmemWf p else dmemWf q :=
  apply_ite ..

end Branches

/-! ### Memories -/

@[simp] theorem setTab_tabWf (s : State) (c a : Nat) (v : Word) (h : tabWf s.tables = true) : tabWf (s.setTab c a v).tables = true :=
  memWrite_wf h
@[simp] theorem setTabs_tabWf (s : State) (c a : Nat) (l : List Word) (h : tabWf s.tables = true) :
    tabWf (s.setTabs c a l).tables = true :=
  memWriteAll_wf h
@[simp] theorem clearTab_tabWf (s : State) (c : Nat) (h : tabWf s.tables = true) : tabWf (s.clearTab c).tables = true := memClear_wf h
@[simp] theorem flashErase_flashWf (s : State) (lo hi : Nat) (h : flashWf s.flash = true) : flashWf (s.flashErase lo hi).flash = true :=
  memClear_wf h
@[simp] theorem flashProgram_flashWf (s : State) (a : Nat) (l : List Byte) (h : flashWf s.flash = true) :
    flashWf (s.flashProgram a l).flash = true :=
  memWriteAll_wf h
@[simp] theorem flashCut_flashWf (s : State) (h : flashWf s.flash = true) : flashWf s.flashCut.flash = true := s.flashCut_wf h
@[simp] theorem tabWf_memWrite (t : List (Nat × Word)) (a : Nat) (v : Word) (h : tabWf t = true) :
    tabWf (memWrite tabDefault t a v) = true := memWrite_wf h
@[simp] theorem dmemWf_memWrite (m : List (Nat × Data)) (a : Nat) (v : Data) (h : dmemWf m = true) :
    dmemWf (memWrite dmemDefault m a v) = true := memWrite_wf h
@[simp] theorem imemWf_memWriteAll (m : List (Nat × Code)) (a : Nat) (l : List Code) (h : imemWf m = true) :
    imemWf (memWriteAll imemDefault m a l) = true := memWriteAll_wf h
@[simp] theorem dmemWf_memWriteAll (m : List (Nat × Data)) (a : Nat) (l : List Data) (h : dmemWf m = true) :
    dmemWf (memWriteAll dmemDefault m a l) = true := memWriteAll_wf h
@[simp] theorem dmemWf_memClear (m : List (Nat × Data)) (lo hi : Nat) (h : dmemWf m = true) : dmemWf (memClear m lo hi) = true :=
  memClear_wf h
@[simp] theorem imemWf_memCopy (m : List (Nat × Code)) (a b n : Nat) (h : imemWf m = true) :
    imemWf (memCopy imemDefault m a b n) = true := memCopy_wf h
@[simp] theorem dmemWf_memCopy (m : List (Nat × Data)) (a b n : Nat) (h : dmemWf m = true) :
    dmemWf (memCopy dmemDefault m a b n) = true := memCopy_wf h
@[simp] theorem dmemWrite_dmemWf (s : State) (c a : Nat) (v : Data) (h : dmemWf s.cald.dmem = true) :
    dmemWf (s.dmemWrite c a v).cald.dmem = true := memWrite_wf h
@[simp] theorem dmemWrite_cald (s : State) (c a : Nat) (v : Data) :
    (s.dmemWrite c a v).cald.snap = s.cald.snap ∧ (s.dmemWrite c a v).cald.owed = s.cald.owed ∧
      (s.dmemWrite c a v).cald.imem = s.cald.imem := ⟨rfl, rfl, rfl⟩

/-! ### The Caldera's cells, and resets -/

@[simp] theorem setCell_cald (s : State) (c : CellId) (y : Cell) :
    (s.setCell c y).cald.snap = s.cald.snap ∧ (s.setCell c y).cald.owed = s.cald.owed ∧
      (s.setCell c y).cald.imem = s.cald.imem ∧ (s.setCell c y).cald.dmem = s.cald.dmem := ⟨rfl, rfl, rfl, rfl⟩

@[simp] theorem setDiscard_cald (s : State) :
    (s.setDiscard).cald.snap = s.cald.snap ∧ (s.setDiscard).cald.owed = s.cald.owed ∧
      (s.setDiscard).cald.imem = s.cald.imem ∧ (s.setDiscard).cald.dmem = s.cald.dmem := ⟨rfl, rfl, rfl, rfl⟩

@[simp] theorem cellRead_calMems (s : State) (m : MemId) (a : Nat) :
    (s.cellRead m a).2.cald.snap = s.cald.snap ∧ (s.cellRead m a).2.cald.owed = s.cald.owed ∧
      (s.cellRead m a).2.cald.imem = s.cald.imem ∧ (s.cellRead m a).2.cald.dmem = s.cald.dmem := by
  simp [s.cellRead_cald]

@[simp] theorem flashCut_rest (s : State) : s.flashCut.SameRest s := by
  obtain ⟨f, k, h⟩ := s.flashCut_frame
  simp [h]

@[simp] theorem State.cellAdvance_core (s : State) (c : CellId) : (s.cellAdvance c).SameCore s := by simp [State.cellAdvance]
@[simp] theorem State.cellBlock_core (s : State) (c : CellId) (w : CellState) : (s.cellBlock c w).SameCore s := by
  simp [State.cellBlock]
@[simp] theorem State.frameRow_core (s : State) (r : Nat) : (s.frameRow r).SameCore s := by simp [State.frameRow]

@[simp] theorem rebooted_rest (s : State) (cause : Nat) (hsel hsdo : Bool) : (s.rebooted cause hsel hsdo).SameRest s := by
  simp [State.rebooted, State.secBooted]
@[simp] theorem mainReset_rest (s : State) : s.mainReset.SameRest s := by simp [State.mainReset]

end Sys2Proof.Machine
end

section
/-! PROOFS. Which of these parts each operation of the model leaves as they are. -/

namespace Sys2Proof.Machine
@[simp] abbrev State.SameCaldMems (t s : State) : Prop :=
  t.cald.snap = s.cald.snap ∧ t.cald.owed = s.cald.owed ∧ t.cald.imem = s.cald.imem ∧ t.cald.dmem = s.cald.dmem
@[simp] abbrev State.SameStores (t s : State) : Prop := t.flash = s.flash ∧ t.snap = s.snap ∧ t.SameCaldMems s
@[simp] abbrev State.SameButQueue (t s : State) : Prop := t.SameRest s ∧ t.SameMems s ∧ t.ring = s.ring

@[simp] abbrev State.SameButTables (t s : State) : Prop := t.SameRest s ∧ t.SameStores s ∧ t.ring = s.ring ∧ t.queue = s.queue

theorem foldl_rel {σ α : Type} (R : σ → σ → Prop) (hr : ∀ s, R s s) (ht : ∀ s t u, R t s → R u t → R u s) (l : List α)
    (f : σ → α → σ) (s : σ) (hf : ∀ t a, R (f t a) t) : R (l.foldl f s) s := by
  induction l generalizing s with
  | nil => exact hr s
  | cons a l ih => exact ht _ _ _ (hf s a) (ih _)
theorem State.SameCore.trans {s t u : State} (h : u.SameCore t) (g : t.SameCore s) : u.SameCore s := by simp_all
theorem State.SameButQueue.trans {s t u : State} (h : u.SameButQueue t) (g : t.SameButQueue s) : u.SameButQueue s := by
  simp_all
theorem State.foldl_core {α : Type} (l : List α) (f : State → α → State) (s : State) (hf : ∀ t a, (f t a).SameCore t) :
    (l.foldl f s).SameCore s :=
  foldl_rel State.SameCore (by simp) (by simp_all) l f s hf
theorem State.snd_foldl_core {α β : Type} (l : List α) (f : β × State → α → β × State) (p : β × State)
    (hf : ∀ q a, (f q a).2.SameCore q.2) : (l.foldl f p).2.SameCore p.2 :=
  foldl_rel (fun q p : β × State => q.2.SameCore p.2) (by simp) (by simp_all) l f p hf
theorem State.foldl_butQueue {α : Type} (l : List α) (f : State → α → State) (s : State)
    (hf : ∀ t a, (f t a).SameButQueue t) : (l.foldl f s).SameButQueue s :=
  foldl_rel State.SameButQueue (by simp) (by simp_all) l f s hf

@[simp] theorem State.drawWord_core (s : State) : s.drawWord.2.SameCore s := by simp [State.drawWord]
@[simp] theorem State.drawInt_core (s : State) : s.drawInt.2.SameCore s := by simp [State.drawInt]
@[simp] theorem State.raise_core (s : State) (b : Nat) : (s.raise b).SameCore s := by simp [State.raise]
@[simp] theorem State.hostErr_core (s : State) (b : Nat) : (s.hostErr b).SameCore s := by simp [State.hostErr]
@[simp] theorem State.crcErr_core (s : State) : s.crcErr.SameCore s := by simp [State.crcErr]
@[simp] theorem State.winErr_core (s : State) (b : Nat) : (s.winErr b).SameCore s := by simp [State.winErr]
@[simp] theorem State.quiesceCheck_core (s : State) : s.quiesceCheck.SameCore s := by simp [State.quiesceCheck]
@[simp] theorem State.beginQuiesce_core (s : State) : s.beginQuiesce.SameCore s := by simp [State.beginQuiesce]
@[simp] theorem State.dueIfStopped_core (s : State) : s.dueIfStopped.SameCore s := by simp [State.dueIfStopped]
@[simp] theorem State.settle_core (s t : State) : (s.settle t).SameCore t := by simp [State.settle]

@[simp] theorem State.passFaults_core (s : State) (k : FaultSpec → Bool) :
    (s.passFaults k).SameCore s := by
  simp [State.passFaults]

@[simp] theorem State.detAbort_core (s : State) (flag : Bool) (k : Fin 4) :
    (s.detAbort flag k).SameCore s := by
  simp [State.detAbort]

@[simp] theorem State.detAbortAll_core (s : State) (flag : Bool) :
    (s.detAbortAll flag).SameCore s := by
  simp [State.detAbortAll]

@[simp] theorem State.detSample_core (s : State) (ys : List Int) (inv : List Bool) (k : Fin 4) :
    (s.detSample ys inv k).SameCore s := by
  simp [State.detSample]

@[simp] theorem State.detDone_core (s : State) (k : Fin 4) : (s.detDone k).SameButTables s := by simp [State.detDone]

@[simp] theorem State.detAttach_core (s : State) (gz : Nat) (k : Fin 4) : (s.detAttach gz k).SameCore s := by
  unfold State.detAttach
  split <;> simp [State.detStart]

@[simp] theorem State.trackChip_core (s : State) (prof : List Word) (first : Bool) (u : BitVec 32) :
    (s.trackChip prof first u).SameCore s := by
  simp [State.trackChip]

@[simp] theorem State.fadeEnd_core (s : State) (next : Nat) : (s.fadeEnd next).SameCore s := by
  simp only [State.fadeEnd]
  repeat' split
  all_goals simp

@[simp] theorem State.bankRequest_core (s : State) (bank xfade : Bool) : (s.bankRequest bank xfade).2.SameCore s := by
  simp only [State.bankRequest]
  repeat' split
  all_goals simp

@[simp] theorem State.blendOf_core (s : State) (c : Chip) : (s.blendOf c).2.SameCore s := by
  simp only [State.blendOf]
  repeat' split
  all_goals simp

@[simp] theorem State.fixBlend_core (s : State) (c : Chip) : (s.fixBlend c).2.SameCore s := by simp [State.fixBlend]

@[simp] theorem State.applyParam_core (s : State) (p : Nat × Word) : (s.applyParam p).SameCore s := by
  unfold State.applyParam
  split <;> simp

@[simp] theorem State.winRewrite_core (s : State) (code a n : Nat) :
    (s.winRewrite code a n).SameCore s := by
  simp [State.winRewrite]

@[simp] theorem State.installWin_core (s : State) (l : Option (List Byte)) (code : Nat) :
    (s.installWin l code).SameButTables s := by
  unfold State.installWin
  split <;> simp

@[simp] theorem State.installCell_core (s : State) (code : List Byte) (data : Option (List Byte)) (k : Nat) :
    (s.installCell code data k).SameRest s ∧ (s.installCell code data k).tables = s.tables ∧
      (s.installCell code data k).flash = s.flash ∧ (s.installCell code data k).snap = s.snap ∧
      (s.installCell code data k).cald.snap = s.cald.snap ∧ (s.installCell code data k).cald.owed = s.cald.owed ∧
      (s.installCell code data k).ring = s.ring ∧ (s.installCell code data k).queue = s.queue := by
  simp [State.installCell]

@[simp] theorem State.installImage_core (s : State) (img : List Byte) :
    (s.installImage img).SameRest s ∧ (s.installImage img).flash = s.flash ∧ (s.installImage img).snap = s.snap ∧
      (s.installImage img).cald.snap = s.cald.snap ∧ (s.installImage img).cald.owed = s.cald.owed ∧
      (s.installImage img).ring = s.ring ∧ (s.installImage img).queue = s.queue := by
  simp [State.installImage]

@[simp] theorem State.pushRec_core (s : State) (r : Rec) : (s.pushRec r).SameButQueue s := by simp [State.pushRec]

@[simp] theorem State.countDrops_core (s : State) (n : Nat) :
    (s.countDrops n).SameCore s := by
  simp [State.countDrops]

@[simp] theorem State.commitQueue_core (s : State) : s.commitQueue.SameButQueue s := by simp [State.commitQueue]

@[simp] theorem State.insertRec_core (s : State) (r : Rec) :
    (s.insertRec r).SameButQueue s := by
  simp [State.insertRec]

@[simp] theorem State.pushInserted_core (s : State) : s.pushInserted.SameButQueue s := by
  unfold State.pushInserted
  split <;> simp [State.commitInserted]

@[simp] theorem State.drainInserted_core (s : State) : s.drainInserted.SameButQueue s := by simp [State.drainInserted]
@[simp] theorem State.queueSync_core (s : State) : s.queueSync.SameButQueue s := by simp [State.queueSync]
@[simp] theorem State.flushQueue_core (s : State) : s.flushQueue.SameButQueue s := by simp [State.flushQueue]

@[simp] theorem State.recordFault_core (s : State) (e : FaultEvent) :
    (s.recordFault e).SameButQueue s := by
  simp [State.recordFault]

@[simp] theorem State.faultEvent_core (s : State) (e : FaultEvent) : (s.faultEvent e).SameButQueue s := by
  simp only [State.faultEvent]
  repeat' split
  all_goals simp

@[simp] theorem State.recordLater_core (s : State) : s.recordLater.SameButQueue s := by simp [State.recordLater]

@[simp] theorem State.mainFault_core (s : State) (flag cls outcome elem : Nat) (detail subst : Word) :
    (s.mainFault flag cls outcome elem detail subst).SameButQueue s := by
  simp [State.mainFault]

@[simp] theorem State.aonFault_core (s : State) (flag elem : Nat) (detail : Word) (outcome : Nat) :
    (s.aonFault flag elem detail outcome).SameButQueue s := by
  simp [State.aonFault]

@[simp] theorem State.scrubRewrite_core (s : State) (e : MemErr) :
    (s.scrubRewrite e).SameButQueue s := by
  simp [State.scrubRewrite]

@[simp] theorem State.readErr_core (s : State) (m : MemId) (addr : Nat) : (s.readErr m addr).2.SameButQueue s := by
  unfold State.readErr
  split <;> simp

@[simp] theorem State.plainWrite_core (s : State) (r : RegId) (v : Word) :
    (s.plainWrite r v).SameCore s := by
  simp [State.plainWrite]

@[simp] theorem State.sigCheck_core (s : State) :
    s.sigCheck.SameRest s ∧ s.sigCheck.tables = s.tables ∧ s.sigCheck.flash = s.flash ∧ s.sigCheck.snap = s.snap ∧
      s.sigCheck.cald.snap = s.cald.snap ∧ s.sigCheck.cald.owed = s.cald.owed ∧ s.sigCheck.cald.imem = s.cald.imem ∧
      s.sigCheck.ring = s.ring ∧ s.sigCheck.queue = s.queue := by
  simp [State.sigCheck]

@[simp] theorem State.nvmViews_core (s : State) : s.nvmViews.SameCore s := by simp [State.nvmViews]

@[simp] theorem State.nvmBegin_core (s : State) (op : NvmOp) (todo : List FlashStep) :
    (s.nvmBegin op todo).SameCore s := by
  simp [State.nvmBegin]

@[simp] theorem State.nvmEnd_core (s : State) : s.nvmEnd.SameCore s := by simp [State.nvmEnd]

@[simp] theorem State.nvmRefuse_core (s : State) (code : Nat) :
    (s.nvmRefuse code).SameCore s := by
  simp [State.nvmRefuse]

@[simp] theorem State.flashStep_core (s : State) (x : FlashStep) :
    (s.flashStep x).SameRest s ∧ (s.flashStep x).SameCaldMems s ∧ (s.flashStep x).tables = s.tables ∧
      (s.flashStep x).snap = s.snap ∧ (s.flashStep x).ring = s.ring ∧ (s.flashStep x).queue = s.queue := by
  unfold State.flashStep
  split <;> simp

@[simp] theorem State.calGain_core (s : State) (m : Meas) (off : Int) :
    (s.calGain m off).2.SameCore s := by
  simp [State.calGain]

@[simp] theorem State.calFactors_core (s : State) (off : Int) (gain : Meas) :
    (s.calFactors off gain).2.SameCore s := by
  simp [State.calFactors]

@[simp] theorem State.calPass_core (s : State) (n : Nat) (o g : Word) :
    (s.calPass n o g).SameButTables s := by
  simp [State.calPass]

@[simp] theorem State.calFailLane_core (s : State) (n : Nat) :
    (s.calFailLane n).SameButQueue s := by
  simp [State.calFailLane]

@[simp] theorem State.calFinish_core (s : State) (failed : Bool) :
    (s.calFinish failed).SameCore s := by
  simp [State.calFinish, State.autoSave]

@[simp] theorem State.calTrigger_core (s : State) : s.calTrigger.SameCore s := by simp [State.calTrigger]

@[simp] theorem State.tempUpdate_core (s : State) (v : Word) :
    (s.tempUpdate v).SameCore s := by
  simp [State.tempUpdate]

@[simp] theorem State.setReserve_core (s : State) (g : Nat) (u : ReserveUse) :
    (s.setReserve g u).SameCore s := by
  simp [State.setReserve]

@[simp] theorem State.endStandIns_core (s : State) : s.endStandIns.SameCore s := by simp [State.endStandIns]
@[simp] theorem State.dropRound_core (s : State) : s.dropRound.SameCore s := by simp [State.dropRound]

@[simp] theorem State.roundStart_core (s : State) (r : Round) :
    (s.roundStart r).SameCore s := by
  simp [State.roundStart]

@[simp] theorem State.groupBegin_core (s : State) (r : Round) (g : Nat) :
    (s.groupBegin r g).SameCore s := by
  simp [State.groupBegin]

@[simp] theorem State.calSlot_core (s : State) : s.calSlot.SameCore s := by
  unfold State.calSlot
  split <;> simp [State.roundNext]

@[simp] theorem State.roundApply_core (s : State) :
    s.roundApply.SameRest s ∧ s.roundApply.SameStores s ∧ s.roundApply.ring = s.ring := by
  unfold State.roundApply
  split <;> simp

@[simp] theorem State.roundHold_core (s : State) (r : Round) (off gain : List Meas) : (s.roundHold r off gain).SameCore s := by
  refine (State.snd_foldl_core _ _ (r, s) fun q i => ?_)
  dsimp only
  split <;> simp

@[simp] theorem State.takeReserve_core (s : State) (g pin : Nat) : (s.takeReserve g pin).SameCore s := by
  simp only [State.takeReserve]
  repeat' split
  all_goals simp

@[simp] theorem State.substFrame_core (s : State) : s.substFrame.SameCore s := by simp [State.substFrame]
@[simp] theorem State.syncClear_core (s : State) : s.syncClear.SameCore s := by simp [State.syncClear]
@[simp] theorem State.showApplied_core (s : State) : s.showApplied.SameCore s := by simp [State.showApplied]

@[simp] theorem State.frameStart_core (s : State) :
    s.frameStart.SameRest s ∧ s.frameStart.flash = s.flash ∧ s.frameStart.cald.snap = s.cald.snap ∧
      s.frameStart.cald.imem = s.cald.imem ∧ s.frameStart.cald.dmem = s.cald.dmem ∧ s.frameStart.ring = s.ring := by
  simp [State.frameStart, State.hopFrame, State.oweFrame, State.pumpFrame, State.readTables, State.syncFrame, State.trkFrame]

@[simp] theorem State.fetchEntry_core (s : State) (e : Nat) : (s.fetchEntry e).2.2.SameButQueue s := by
  simp [State.fetchEntry, List.range_succ]

@[simp] theorem State.becomeReady_core (s : State) : s.becomeReady.SameCore s := by simp [State.becomeReady]

@[simp] theorem State.entryBoundary_core (s : State) :
    s.entryBoundary.SameCore s := by
  simp [State.entryBoundary, State.lanesBoundary, State.moveTimebase]

@[simp] theorem State.syncStart_core (s : State) :
    s.syncStart.2.SameCore s := by
  simp [State.syncStart, State.syncReset]

@[simp] theorem State.fixChips_core (s : State) : s.fixChips.SameCore s := by simp [State.fixChips]

@[simp] theorem State.fadeSettle_core (s : State) : s.fadeSettle.SameCore s := by
  unfold State.fadeSettle
  split <;> simp

@[simp] theorem State.entryStart_core (s : State) (anchor : Bool) :
    (s.entryStart anchor).SameButQueue s := by
  simp [State.entryStart, State.markInvalid, State.setOrder]

@[simp] theorem State.captureFrame_core (s : State) : s.captureFrame.SameCore s := by simp [State.captureFrame]

@[simp] theorem State.frameDone_core (s : State) (completed : Bool) :
    (s.frameDone completed).SameCore s := by
  simp [State.frameDone]

@[simp] theorem State.frameCheck_core (s : State) : s.frameCheck.SameCore s := by
  simp only [State.frameCheck]
  repeat' split
  all_goals simp

@[simp] theorem State.cutFrame_core (s : State) :
    s.cutFrame.SameRest s ∧ s.cutFrame.tables = s.tables ∧ s.cutFrame.flash = s.flash ∧ s.cutFrame.snap = s.snap ∧
      s.cutFrame.cald.snap = s.cald.snap ∧ s.cutFrame.cald.imem = s.cald.imem ∧ s.cutFrame.cald.dmem = s.cald.dmem ∧
      s.cutFrame.ring = s.ring ∧ s.cutFrame.queue = s.queue := by
  simp [State.cutFrame, State.releaseCut]

@[simp] theorem State.entryChip_core (s : State) (r : EntryRun) (u : BitVec 32) :
    (s.entryChip r u).SameCore s := by
  simp [State.entryChip]

@[simp] theorem State.driveChip_core (s : State) (u : BitVec 32) : (s.driveChip u).SameCore s := by
  unfold State.driveChip
  split <;> simp [State.holdChip]

@[simp] theorem State.clip_core (s : State) (n : Nat) (high : Bool) :
    (s.clip n high).SameCore s := by
  simp [State.clip, State.detDirty]

@[simp] theorem State.laneTransients_core (s : State) : s.laneTransients.SameCore s := by simp [State.laneTransients]
@[simp] theorem State.cadence_core (s : State) (h : Half) (edge : Option Half) (q : List Int) :
    (s.cadence h edge q).SameCore s := by
  unfold State.cadence
  dsimp only
  generalize List.range 164 = l
  refine (State.foldl_core l _ _ fun t n => ?_).trans ⟨⟨rfl, rfl⟩, ⟨rfl, rfl, rfl, rfl, rfl, rfl, rfl⟩, rfl, rfl⟩
  split <;> simp


@[simp] theorem State.cicOutput_core (s : State) : s.cicOutput.SameCore s := by
  simp only [State.cicOutput]
  repeat' split
  all_goals simp

@[simp] theorem State.laneResample_core (s : State) (n : LaneId) (c : Chip) :
    (s.laneResample n c).SameCore s := by
  simp [State.laneResample, State.pruneChips]

@[simp] theorem State.hkDone_core (s : State) (ch : Nat) (v : Word) : (s.hkDone ch v).SameCore s := by
  unfold State.hkDone
  split <;> simp

@[simp] theorem State.laneFails_core (s : State) (r : EntryRun) (n : Nat) : (s.laneFails r n).SameButQueue s := by
  simp only [State.laneFails]
  repeat' split
  all_goals simp

@[simp] theorem State.captureRow_core (s : State) (r : EntryRun) (bad : Bool) (overs : List Bool) :
    (s.captureRow r bad overs).SameCore s := by
  simp [State.captureRow]

@[simp] theorem State.putRow_core (s : State) (r : EntryRun) (overrun : Bool) :
    (s.putRow r overrun).SameRest s ∧ (s.putRow r overrun).SameStores s ∧ (s.putRow r overrun).ring = s.ring := by
  simp [State.putRow, State.internalCheck]

@[simp] theorem State.raceMark_core (s : State) (k : Nat) : (s.raceMark k).SameCore s := by
  unfold State.raceMark
  split <;> simp

@[simp] theorem State.rowWrite_core (s : State) (r : EntryRun) (rest : List EntryRun) (overrun : Bool) :
    (s.rowWrite r rest overrun).SameRest s ∧ (s.rowWrite r rest overrun).SameStores s ∧
      (s.rowWrite r rest overrun).ring = s.ring := by
  simp [State.rowWrite, State.rowForget]

@[simp] theorem State.overrunSeen_core (s : State) (row : Nat) (racing : Bool) :
    (s.overrunSeen row racing).2.SameCore s := by
  simp [State.overrunSeen]

@[simp] theorem State.cellRead_core (s : State) (m : MemId) (addr : Nat) :
    (s.cellRead m addr).2.SameButQueue s := by
  simp [State.cellRead]

@[simp] theorem State.fetchErr_core (s : State) (c : CellId) :
    (s.fetchErr c).SameButQueue s := by
  simp [State.fetchErr]

@[simp] theorem State.loadData_core (s : State) (c : CellId) (a : Nat) :
    (s.loadData c a).2.SameButQueue s := by
  simp [State.loadData]

@[simp] theorem State.loadWords_core (s : State) (c : CellId) (a n : Nat) : (s.loadWords c a n).2.SameButQueue s := by
  induction n with
  | zero => simp [State.loadWords]
  | succ n ih => simp [State.loadWords, ih]

@[simp] theorem State.mismatch_core (s : State) (c : CellId) : (s.mismatch c).SameCore s := by simp [State.mismatch]

@[simp] theorem State.token_core (s : State) (c : CellId) (ws : List (Data × Data)) :
    (s.token c ws).2.SameCore s := by
  unfold State.token
  split <;> simp [State.spareCompares, State.spareLags]

@[simp] theorem State.takenIn_core (s : State) (c : CellId) (v : Word) :
    (s.takenIn c v).2.SameCore s := by
  simp [State.takenIn]

@[simp] theorem State.cellOp_core (s : State) (c : CellId) (i : Instr) (p : Pred) (f : Cell → Cell) :
    (s.cellOp c i p f).SameButQueue s := by
  simp [State.cellOp]

@[simp] theorem State.cellReg_core (s : State) (c : CellId) (i : Instr) (p : Pred) (d : XReg) (f : Cell → Data) :
    (s.cellReg c i p d f).SameButQueue s := by
  simp [State.cellReg]

@[simp] theorem State.cellPred_core (s : State) (c : CellId) (i : Instr) (p : Pred) (d : XReg) (f : Cell → Bool) :
    (s.cellPred c i p d f).SameButQueue s := by
  simp [State.cellPred]

@[simp] theorem State.cellAcc_core (s : State) (c : CellId) (i : Instr) (p : Pred) (d : XReg) (f : Cell → Acc) :
    (s.cellAcc c i p d f).SameButQueue s := by
  simp [State.cellAcc]

@[simp] theorem State.ringWrite_core (s : State) (e : Vector Word 4) :
    (s.ringWrite e).SameRest s ∧ (s.ringWrite e).SameStores s ∧ (s.ringWrite e).queue = s.queue := by
  simp [State.ringWrite]

@[simp] theorem State.ringSetRd_core (s : State) (v : Word) :
    (s.ringSetRd v).SameRest s ∧ (s.ringSetRd v).SameMems s ∧ (s.ringSetRd v).queue = s.queue := by
  simp [State.ringSetRd]

@[simp] theorem State.ringMark_core (s : State) :
    s.ringMark.SameRest s ∧ s.ringMark.SameMems s ∧ s.ringMark.queue = s.queue := by
  simp [State.ringMark]

@[simp] theorem State.ringRewind_core (s : State) :
    s.ringRewind.SameRest s ∧ s.ringRewind.SameMems s ∧ s.ringRewind.queue = s.queue := by
  simp only [State.ringRewind]
  repeat' split
  all_goals simp

@[simp] theorem State.ringClear_core (s : State) :
    s.ringClear.SameRest s ∧ s.ringClear.SameMems s ∧ s.ringClear.queue = s.queue := by
  simp [State.ringClear]

@[simp] theorem State.setVset_core (s : State) (v : Nat) : (s.setVset v).SameCore s := by simp [State.setVset]
@[simp] theorem State.vstart_core (s : State) : s.vstart.SameCore s := by simp [State.vstart]
@[simp] theorem State.raiseVcore_core (s : State) : s.raiseVcore.SameCore s := by simp [State.raiseVcore]

@[simp] theorem State.climb_core (s : State) : s.climb.SameCore s := by
  unfold State.climb
  split <;> simp

@[simp] theorem State.publish_core (s : State) (target : Nat) (v : Word) : (s.publish target v).SameCore s := by
  unfold State.publish
  split <;> simp [State.gwake]

@[simp] theorem State.publishAll_core (s : State) : s.publishAll.SameCore s := by
  refine State.foldl_core _ _ s fun t k => ?_
  split <;> simp

@[simp] theorem State.voteClose_core (s : State) : s.voteClose.SameCore s := by
  unfold State.voteClose
  split <;> simp

@[simp] theorem State.frameOver_core (s : State) :
    s.frameOver.SameCore s := by
  simp [State.frameOver, State.releaseRows]

@[simp] theorem State.abandonFrame_core (s : State) : s.abandonFrame.SameButQueue s := by simp [State.abandonFrame]

@[simp] theorem State.restartSchedule_core (s : State) :
    s.restartSchedule.SameCore s := by
  simp [State.restartSchedule]

@[simp] theorem State.beginTakeover_core (s : State) (c : CellId) (q : PhysId) :
    (s.beginTakeover c q).SameCore s := by
  simp [State.beginTakeover]

@[simp] theorem State.afterMismatch_core (s : State) : s.afterMismatch.SameButQueue s := by
  unfold State.afterMismatch
  split <;> simp

@[simp] theorem State.afterStalls_core (s : State) (stalls : List CellId) :
    (s.afterStalls stalls).SameButQueue s := by
  simp only [State.afterStalls]
  repeat' split
  all_goals simp

@[simp] theorem State.afterClose_core (s : State) :
    s.afterClose.SameButQueue s := by
  simp [State.afterClose, State.dueAtClose]

@[simp] theorem State.closeFrame_core (s : State) :
    s.closeFrame.SameRest s ∧ s.closeFrame.SameStores s := by
  simp [State.closeFrame, State.commitFrame]

@[simp] theorem State.takeOver_core (s : State) : s.takeOver.SameButQueue s := by
  unfold State.takeOver
  split <;> simp

@[simp] theorem State.openFrame_core (s : State) (o : Owed) (rest : List Owed) :
    (s.openFrame o rest).SameRest s ∧ (s.openFrame o rest).tables = s.tables ∧ (s.openFrame o rest).flash = s.flash ∧
      (s.openFrame o rest).snap = s.snap ∧ (s.openFrame o rest).cald.imem = s.cald.imem ∧
      (s.openFrame o rest).cald.dmem = s.cald.dmem ∧ (s.openFrame o rest).ring = s.ring := by
  simp [State.openFrame, State.libOpen, State.scrubFound, State.servoOpen]

@[simp] theorem State.intakeDone_core (s : State) (c : CellId) (row w : Nat) (d : XReg) (rel signed : Bool) :
    (s.intakeDone c row w d rel signed).SameButQueue s := by
  simp [State.intakeDone]

@[simp] theorem State.intake_core (s : State) (c : CellId) (i : Instr) (d b : XReg) (rel idx : Bool) (row : Nat) (word : Byte) (signed : Bool) :
    (s.intake c i d b rel idx row word signed).SameRest s ∧
      (s.intake c i d b rel idx row word signed).tables = s.tables ∧
      (s.intake c i d b rel idx row word signed).flash = s.flash ∧
      (s.intake c i d b rel idx row word signed).snap = s.snap ∧
      (s.intake c i d b rel idx row word signed).ring = s.ring := by
  simp [State.intake]

@[simp] theorem State.deadline_core (s : State) : s.deadline.SameButQueue s := by simp [State.deadline]

@[simp] theorem State.wordTaken_core (s : State) (w : Word) (rest : List Rec) :
    (s.wordTaken w rest).SameButQueue s := by
  simp [State.wordTaken]

@[simp] theorem State.takeWord_core (s : State) : s.takeWord.2.SameButQueue s := by
  simp only [State.takeWord]
  repeat' split
  all_goals simp

@[simp] theorem State.readRptData_core (s : State) : s.readRptData.2.SameButQueue s := by simp [State.readRptData]
@[simp] theorem State.streamWord_core (s : State) : s.streamWord.2.SameButQueue s := by simp [State.streamWord]

@[simp] theorem State.streamStallOver_core (s : State) :
    s.streamStallOver.SameButQueue s := by
  simp [State.streamStallOver]

@[simp] theorem State.winNext_core (s : State) : s.winNext.SameCore s := by simp [State.winNext]

@[simp] theorem State.winRefuse_core (s : State) (refused range : Bool) :
    (s.winRefuse refused range).SameCore s := by
  simp [State.winRefuse]

@[simp] theorem State.goertzelRead_core (s : State) (a : Nat) :
    (s.goertzelRead a).2.SameCore s := by
  simp [State.goertzelRead]

@[simp] theorem State.raceRead_core (s : State) (k : Nat) : (s.raceRead k).SameCore s := by
  unfold State.raceRead
  split <;> simp

@[simp] theorem State.winWord_core (s : State) (code a : Nat) : (s.winWord code a).2.SameButQueue s := by
  unfold State.winWord
  split <;> simp [State.nvmRead, State.tableRead]

@[simp] theorem State.winRead_core (s : State) : s.winRead.2.SameButQueue s := by simp [State.winRead]
@[simp] theorem State.noImage_core (s : State) : s.noImage.SameCore s := by simp [State.noImage]
@[simp] theorem State.imageDisorder_core (s : State) : s.imageDisorder.SameCore s := by simp [State.imageDisorder]

@[simp] theorem State.winWrite_core (s : State) (v : Word) : (s.winWrite v).SameButTables s := by
  simp only [State.winWrite, State.imageWrite, State.winPut]
  repeat' split
  all_goals simp

@[simp] theorem State.schedLoad_core (s : State) : s.schedLoad.SameCore s := by simp [State.schedLoad]
@[simp] theorem State.loadEnter_core (s : State) : s.loadEnter.SameCore s := by simp [State.loadEnter]
@[simp] theorem State.schedCommit_core (s : State) : s.schedCommit.SameCore s := by simp [State.schedCommit]

@[simp] theorem State.loadEnd_core (s : State) (st : SchedState) :
    (s.loadEnd st).SameCore s := by
  simp [State.loadEnd]

@[simp] theorem State.firstFrame_core (s : State) :
    s.firstFrame.SameRest s ∧ s.firstFrame.flash = s.flash ∧ s.firstFrame.cald.snap = s.cald.snap ∧
      s.firstFrame.cald.imem = s.cald.imem ∧ s.firstFrame.cald.dmem = s.cald.dmem ∧ s.firstFrame.ring = s.ring := by
  simp [State.firstFrame]

@[simp] theorem State.schedStart_core (s : State) (sub : Nat) (w : Word) :
    (s.schedStart sub w).SameRest s ∧ (s.schedStart sub w).flash = s.flash ∧
      (s.schedStart sub w).cald.snap = s.cald.snap ∧ (s.schedStart sub w).cald.imem = s.cald.imem ∧
      (s.schedStart sub w).ring = s.ring := by
  simp [State.schedStart]

@[simp] theorem State.libInstalled_core (s : State) : s.libInstalled.SameCore s := by simp [State.libInstalled]

@[simp] theorem State.commitDone_core (s : State) :
    s.commitDone.SameRest s ∧ s.commitDone.flash = s.flash ∧ s.commitDone.cald.snap = s.cald.snap ∧
      s.commitDone.ring = s.ring := by
  simp [State.commitDone]

@[simp] theorem State.schedAbort_core (s : State) :
    s.schedAbort.SameRest s ∧ s.schedAbort.flash = s.flash ∧ s.schedAbort.cald.snap = s.cald.snap ∧
      s.schedAbort.cald.imem = s.cald.imem ∧ s.schedAbort.ring = s.ring := by
  simp [State.schedAbort]

@[simp] theorem State.resetLanes_core (s : State) : s.resetLanes.SameCore s := by simp [State.resetLanes]
@[simp] theorem State.resetFilters_core (s : State) : s.resetFilters.SameCore s := by simp [State.resetFilters]

@[simp] theorem State.resetSeq_core (s : State) :
    s.resetSeq.SameRest s ∧ s.resetSeq.tables = s.tables ∧ s.resetSeq.flash = s.flash ∧ s.resetSeq.snap = s.snap ∧
      s.resetSeq.cald.snap = s.cald.snap ∧ s.resetSeq.cald.imem = s.cald.imem ∧ s.resetSeq.cald.dmem = s.cald.dmem ∧
      s.resetSeq.ring = s.ring ∧ s.resetSeq.queue = s.queue := by
  simp [State.resetSeq]

@[simp] theorem State.resetCaldera_core (s : State) :
    s.resetCaldera.SameButQueue s := by
  simp [State.resetCaldera, State.abandonNow]

@[simp] theorem State.resetTrack_core (s : State) : s.resetTrack.SameCore s := by simp [State.resetTrack]

@[simp] theorem State.queueReset_core (s : State) :
    s.queueReset.SameButQueue s := by
  simp [State.queueReset, State.resetQueue]

@[simp] theorem State.resetQueueFn_core (s : State) : s.resetQueueFn.SameButQueue s := by simp [State.resetQueueFn]

@[simp] theorem State.resetRing_core (s : State) :
    s.resetRing.SameRest s ∧ s.resetRing.SameStores s ∧ s.resetRing.queue = s.queue := by
  simp [State.resetRing, State.ringReset]

@[simp] theorem State.resetNvmctl_core (s : State) : s.resetNvmctl.SameCore s := by simp [State.resetNvmctl]
@[simp] theorem State.relock_core (s : State) : s.relock.SameCore s := by simp [State.relock]
@[simp] theorem State.hostReset_core (s : State) : s.hostReset.SameCore s := by simp [State.hostReset]
@[simp] theorem State.resetHostport_core (s : State) : s.resetHostport.SameCore s := by simp [State.resetHostport]
@[simp] theorem State.resetGeyser_core (s : State) : s.resetGeyser.SameCore s := by simp [State.resetGeyser]
@[simp] theorem State.resetGoertzel_core (s : State) : s.resetGoertzel.SameCore s := by simp [State.resetGoertzel]
@[simp] theorem State.enLanes_core (s : State) (on : Bool) : (s.enLanes on).SameCore s := by simp [State.enLanes]

@[simp] theorem State.enFilters_core (s : State) (on : Bool) :
    (s.enFilters on).SameCore s := by
  simp [State.enFilters]

@[simp] theorem State.enSeq_core (s : State) (on : Bool) : (s.enSeq on).SameCore s := by simp [State.enSeq]

@[simp] theorem State.dropOwed_core (s : State) :
    s.dropOwed.SameRest s ∧ s.dropOwed.tables = s.tables ∧ s.dropOwed.flash = s.flash ∧ s.dropOwed.snap = s.snap ∧
      s.dropOwed.cald.snap = s.cald.snap ∧ s.dropOwed.cald.imem = s.cald.imem ∧ s.dropOwed.cald.dmem = s.cald.dmem ∧
      s.dropOwed.ring = s.ring ∧ s.dropOwed.queue = s.queue := by
  simp [State.dropOwed]

@[simp] theorem State.enCaldera_core (s : State) (on : Bool) :
    (s.enCaldera on).SameRest s ∧ (s.enCaldera on).tables = s.tables ∧ (s.enCaldera on).flash = s.flash ∧
      (s.enCaldera on).snap = s.snap ∧ (s.enCaldera on).cald.snap = s.cald.snap ∧
      (s.enCaldera on).cald.imem = s.cald.imem ∧ (s.enCaldera on).cald.dmem = s.cald.dmem ∧
      (s.enCaldera on).ring = s.ring ∧ (s.enCaldera on).queue = s.queue := by
  simp [State.enCaldera]

@[simp] theorem State.enTrack_core (s : State) (on : Bool) : (s.enTrack on).SameCore s := by simp [State.enTrack]
@[simp] theorem State.enQueue_core (s : State) (on : Bool) : (s.enQueue on).SameCore s := by simp [State.enQueue]
@[simp] theorem State.enRing_core (s : State) (on : Bool) : (s.enRing on).SameCore s := by simp [State.enRing]
@[simp] theorem State.enNvmctl_core (s : State) (on : Bool) : (s.enNvmctl on).SameCore s := by simp [State.enNvmctl]
@[simp] theorem State.enGeyser_core (s : State) (on : Bool) : (s.enGeyser on).SameCore s := by simp [State.enGeyser]

@[simp] theorem State.enGoertzel_core (s : State) (on : Bool) :
    (s.enGoertzel on).SameCore s := by
  simp [State.enGoertzel]

@[simp] theorem State.nvmGoing_core (s : State) (op : NvmOp) (todo : List FlashStep) :
    (s.nvmGoing op todo).SameCore s := by
  simp [State.nvmGoing]

@[simp] theorem State.nvmProgram_core (s : State) (op : NvmOp) (slot : Nat) :
    (s.nvmProgram op slot).SameCore s := by
  simp [State.nvmProgram]

@[simp] theorem State.nvmStart_core (s : State) (op : Nat) (key : Byte) : (s.nvmStart op key).SameCore s := by
  simp only [State.nvmStart, State.nvmCapture, State.nvmErase]
  repeat' split
  all_goals simp

@[simp] theorem State.nvmGo_core (s : State) (op : Nat) (key : Byte) :
    (s.nvmGo op key).SameCore s := by
  simp [State.nvmGo]

@[simp] theorem State.nvmRelease_core (s : State) : s.nvmRelease.SameCore s := by
  unfold State.nvmRelease
  split <;> simp

@[simp] theorem State.pageDone_core (s : State) (p : FlashStep) (rest : List FlashStep) :
    (s.pageDone p rest).SameRest s ∧ (s.pageDone p rest).SameCaldMems s ∧ (s.pageDone p rest).tables = s.tables ∧
      (s.pageDone p rest).snap = s.snap ∧ (s.pageDone p rest).ring = s.ring ∧
      (s.pageDone p rest).queue = s.queue := by
  simp [State.pageDone]

@[simp] theorem State.nvmDone_core (s : State) :
    s.nvmDone.SameRest s ∧ s.nvmDone.tables = s.tables ∧ s.nvmDone.flash = s.flash ∧ s.nvmDone.snap = s.snap ∧
      s.nvmDone.cald.snap = s.cald.snap ∧ s.nvmDone.cald.owed = s.cald.owed ∧ s.nvmDone.cald.imem = s.cald.imem ∧
      s.nvmDone.ring = s.ring ∧ s.nvmDone.queue = s.queue := by
  simp [State.nvmDone]

@[simp] theorem State.hsRefuse_core (s : State) (block reason : Nat) : (s.hsRefuse block reason).SameButQueue s := by
  simp only [State.hsRefuse, State.restartBlocks]
  repeat' split
  all_goals simp

@[simp] theorem State.stopBlock_core (s : State) (block : Nat) :
    (s.stopBlock block).SameRest s ∧ (s.stopBlock block).tables = s.tables ∧ (s.stopBlock block).flash = s.flash ∧
      (s.stopBlock block).snap = s.snap ∧ (s.stopBlock block).cald.snap = s.cald.snap ∧
      (s.stopBlock block).cald.imem = s.cald.imem ∧ (s.stopBlock block).cald.dmem = s.cald.dmem ∧
      (s.stopBlock block).ring = s.ring := by
  unfold State.stopBlock
  split <;> simp [State.groundLanes]

@[simp] theorem State.hsAnswer_core (s : State) (h : Handshake) :
    (s.hsAnswer h).SameRest s ∧ (s.hsAnswer h).tables = s.tables ∧ (s.hsAnswer h).flash = s.flash ∧
      (s.hsAnswer h).snap = s.snap ∧ (s.hsAnswer h).cald.snap = s.cald.snap ∧
      (s.hsAnswer h).cald.imem = s.cald.imem ∧ (s.hsAnswer h).cald.dmem = s.cald.dmem ∧
      (s.hsAnswer h).ring = s.ring := by
  simp [State.hsAnswer, State.hsAgree]

@[simp] theorem State.sleepReq_core (s : State) : s.sleepReq.SameCore s := by simp [State.sleepReq]
@[simp] theorem State.sleepAsk_core (s : State) : s.sleepAsk.SameButQueue s := by simp [State.sleepAsk]

@[simp] theorem State.hsAskAgain_core (s : State) (h : Handshake) :
    (s.hsAskAgain h).SameRest s ∧ (s.hsAskAgain h).tables = s.tables ∧ (s.hsAskAgain h).flash = s.flash ∧
      (s.hsAskAgain h).snap = s.snap ∧ (s.hsAskAgain h).cald.snap = s.cald.snap ∧
      (s.hsAskAgain h).cald.imem = s.cald.imem ∧ (s.hsAskAgain h).cald.dmem = s.cald.dmem ∧
      (s.hsAskAgain h).ring = s.ring := by
  simp [State.hsAskAgain]

@[simp] theorem State.geyserLatch_core (s : State) : s.geyserLatch.SameCore s := by simp [State.geyserLatch]
@[simp] theorem State.timerStart_core (s : State) : s.timerStart.SameCore s := by simp [State.timerStart]
@[simp] theorem State.enginesOff_core (s : State) : s.enginesOff.SameCore s := by simp [State.enginesOff]

@[simp] theorem State.sleepEntry_core (s : State) :
    s.sleepEntry.SameCore s := by
  simp [State.sleepEntry, State.geyserRejection, State.secAsleep, State.sleepPins]

@[simp] theorem State.zeroScan_core (s : State) (k : Nat) (rs : List BusScan) :
    (s.zeroScan k rs).SameButQueue s := by
  simp [State.zeroScan]

@[simp] theorem State.wakeRequest_core (s : State) (w : WakeSource) :
    (s.wakeRequest w).SameCore s := by
  simp [State.wakeRequest]

@[simp] theorem State.watchBuses_core (s : State) (rs : List BusScan) :
    (s.watchBuses rs).1.SameCore s := by
  simp [State.watchBuses]

@[simp] theorem State.watchScan_core (s : State) (rs : List BusScan) : (s.watchScan rs).SameCore s := by
  simp only [State.watchScan, State.candidate]
  repeat' split
  all_goals simp

@[simp] theorem State.cutEntry_core (s : State) : s.cutEntry.SameCore s := by simp [State.cutEntry]
@[simp] theorem State.toFio2_core (s : State) : s.toFio2.SameCore s := by simp [State.toFio2]

@[simp] theorem State.fioEvent_core (s : State) (why : Word) :
    (s.fioEvent why).SameButQueue s := by
  simp [State.fioEvent]

@[simp] theorem State.wakeEvent_core (s : State) : s.wakeEvent.SameCore s := by simp [State.wakeEvent]

@[simp] theorem State.stepFailed_core (s : State) (w : WakeStep) :
    (s.stepFailed w).SameCore s := by
  simp [State.stepFailed]

@[simp] theorem State.wakeDone_core (s : State) :
    s.wakeDone.SameRest s ∧ s.wakeDone.flash = s.flash ∧ s.wakeDone.cald.snap = s.cald.snap ∧
      s.wakeDone.cald.imem = s.cald.imem ∧ s.wakeDone.cald.dmem = s.cald.dmem ∧ s.wakeDone.ring = s.ring := by
  simp [State.wakeDone, State.wakeAfresh, State.wakeFrame]

@[simp] theorem State.wakeTimerWrite_core (s : State) (v : Word) : (s.wakeTimerWrite v).SameCore s := by
  simp only [State.wakeTimerWrite]
  repeat' split
  all_goals simp

@[simp] theorem State.cellBist_core (s : State) : s.cellBist.SameCore s := by simp [State.cellBist]

@[simp] theorem State.calLoad_core (s : State) : s.calLoad.SameButTables s := by
  unfold State.calLoad
  split <;> simp

@[simp] theorem State.bootFinish_core (s : State) :
    s.bootFinish.SameRest s ∧ s.bootFinish.flash = s.flash ∧ s.bootFinish.cald.snap = s.cald.snap ∧
      s.bootFinish.cald.imem = s.cald.imem ∧ s.bootFinish.cald.dmem = s.cald.dmem ∧ s.bootFinish.ring = s.ring := by
  simp [State.bootFinish]

@[simp] theorem State.bootCal_core (s : State) :
    s.bootCal.SameRest s ∧ s.bootCal.flash = s.flash ∧ s.bootCal.cald.snap = s.cald.snap ∧
      s.bootCal.cald.imem = s.cald.imem ∧ s.bootCal.cald.dmem = s.cald.dmem ∧ s.bootCal.ring = s.ring := by
  simp [State.bootCal]

@[simp] theorem State.bootGoertzel_core (s : State) (img : List Byte) :
    (s.bootGoertzel img).SameRest s ∧ (s.bootGoertzel img).SameStores s ∧ (s.bootGoertzel img).ring = s.ring ∧ (s.bootGoertzel img).queue = s.queue := by
  exact foldl_rel State.SameButTables (by simp) (by simp_all) _ _ s fun t k => by simp

@[simp] theorem State.bootSlot_core (s : State) (b : Bool) :
    (s.bootSlot b).SameRest s ∧ (s.bootSlot b).flash = s.flash ∧ (s.bootSlot b).snap = s.snap ∧
      (s.bootSlot b).cald.snap = s.cald.snap ∧ (s.bootSlot b).cald.owed = s.cald.owed ∧
      (s.bootSlot b).ring = s.ring ∧ (s.bootSlot b).queue = s.queue := by
  simp [State.bootSlot]

@[simp] theorem State.bootStream_core (s : State) :
    s.bootStream.SameRest s ∧ s.bootStream.flash = s.flash ∧ s.bootStream.cald.snap = s.cald.snap ∧
      s.bootStream.ring = s.ring := by
  unfold State.bootStream
  split <;> simp

@[simp] theorem State.fioReady_core (s : State) :
    s.fioReady.SameRest s ∧ s.fioReady.flash = s.flash ∧ s.fioReady.cald.snap = s.cald.snap ∧
      s.fioReady.cald.imem = s.cald.imem ∧ s.fioReady.cald.dmem = s.cald.dmem ∧ s.fioReady.ring = s.ring := by
  simp [State.fioReady, State.bootInit]

@[simp] theorem State.wakeOnFio2_core (s : State) :
    s.wakeOnFio2.SameRest s ∧ s.wakeOnFio2.flash = s.flash ∧ s.wakeOnFio2.cald.snap = s.cald.snap ∧
      s.wakeOnFio2.cald.imem = s.cald.imem ∧ s.wakeOnFio2.cald.dmem = s.cald.dmem ∧ s.wakeOnFio2.ring = s.ring := by
  simp [State.wakeOnFio2]

@[simp] theorem State.calSelf_core (s : State) : s.calSelf.SameCore s := by simp [State.calSelf]
@[simp] theorem State.calStart_core (s : State) : s.calStart.SameCore s := by simp [State.calStart]

@[simp] theorem State.calJudge_core (m : List Meas) (acc : Bool × State) (n : Nat) :
    (State.calJudge m acc n).2.SameRest acc.2 ∧ (State.calJudge m acc n).2.SameStores acc.2 ∧
      (State.calJudge m acc n).2.ring = acc.2.ring := by
  simp only [State.calJudge]
  repeat' split
  all_goals simp

@[simp] theorem State.calEnd_core (s : State) (m : List Meas) :
    (s.calEnd m).SameRest s ∧ (s.calEnd m).flash = s.flash ∧ (s.calEnd m).cald.snap = s.cald.snap ∧
      (s.calEnd m).cald.imem = s.cald.imem ∧ (s.calEnd m).cald.dmem = s.cald.dmem ∧ (s.calEnd m).ring = s.ring := by
  simp [State.calEnd]

@[simp] theorem State.calRecal_core (s : State) : s.calRecal.SameCore s := by simp [State.calRecal]

@[simp] theorem State.secondStall_core (s : State) (c : CellId) :
    (s.secondStall c).SameButQueue s := by
  simp [State.secondStall]

@[simp] theorem State.noteStall_core (s : State) (c : CellId) :
    (s.noteStall c).SameCore s := by
  simp [State.noteStall]

@[simp] theorem State.aonFaultFree_core (s : State) (flag elem outcome : Nat) :
    (s.aonFaultFree flag elem outcome).SameButQueue s := by
  simp [State.aonFaultFree]

@[simp] theorem State.memFault_core (s : State) (m : MemId) (addr bits : Nat) (stuck : Bool) :
    (s.memFault m addr bits stuck).SameCore s := by
  simp [State.memFault]

@[simp] theorem State.secRefuse_core (s : State) : s.secRefuse.SameCore s := by simp [State.secRefuse]
@[simp] theorem State.nonceDrop_core (s : State) : s.nonceDrop.SameCore s := by simp [State.nonceDrop]

@[simp] theorem State.transBegin_core (s : State) (t : Transition) :
    (s.transBegin t).SameCore s := by
  simp [State.transBegin]

@[simp] theorem State.debugCtl_core (s : State) (v : Word) : (s.debugCtl v).SameCore s := by
  simp only [State.debugCtl, State.advDevelop, State.advSecured, State.nonceRequest, State.reqRelock]
  repeat' split
  all_goals simp

@[simp] theorem State.readChal_core (s : State) : s.readChal.2.SameCore s := by
  unfold State.readChal
  split <;> simp

@[simp] theorem State.writeChal_core (s : State) (w : Word) :
    (s.writeChal w).SameCore s := by
  simp [State.writeChal]

@[simp] theorem State.otpBegin_core (s : State) (a : Nat) (d : BitVec 32) (refused : Bool) :
    (s.otpBegin a d refused).SameCore s := by
  simp [State.otpBegin]

@[simp] theorem State.authAct_core (s : State) : s.authAct.SameCore s := by
  unfold State.authAct
  split <;> simp [State.returnBegin]

@[simp] theorem State.authDone_core (s : State) (nonce : BitVec 128) :
    (s.authDone nonce).SameCore s := by
  simp [State.authDone]

@[simp] theorem State.otpProgram_core (s : State) (a : Nat) (d : BitVec 32) :
    (s.otpProgram a d).SameMems s ∧ (s.otpProgram a d).pending = s.pending ∧ (s.otpProgram a d).ring = s.ring ∧
      (s.otpProgram a d).queue = s.queue := by
  unfold State.otpProgram
  split <;> simp

@[simp] theorem State.tapIr_core (s : State) (ir : BitVec 5) : (s.tapIr ir).SameCore s := by simp [State.tapIr]

@[simp] theorem State.otpUpdate_core (s : State) (op : BitVec 2) (addr : BitVec 6) (data : BitVec 32) :
    (s.otpUpdate op addr data).SameMems s ∧ (s.otpUpdate op addr data).pending = s.pending ∧
      (s.otpUpdate op addr data).ring = s.ring ∧ (s.otpUpdate op addr data).queue = s.queue := by
  unfold State.otpUpdate
  split <;> simp

@[simp] theorem State.otpShift_core (s : State) (dr : BitVec 40) :
    (s.otpShift dr).SameMems s ∧ (s.otpShift dr).pending = s.pending ∧ (s.otpShift dr).ring = s.ring ∧
      (s.otpShift dr).queue = s.queue := by
  simp [State.otpShift]

@[simp] theorem State.deferForCal_core (s : State) : s.deferForCal.SameCore s := by simp [State.deferForCal]

@[simp] theorem State.syncInterval_core (s : State) (i : Nat) :
    (s.syncInterval i).SameCore s := by
  simp [State.syncInterval]

@[simp] theorem State.syncLost_core (s : State) : s.syncLost.SameCore s := by simp [State.syncLost]
@[simp] theorem State.leaveDpll_core (s : State) : s.leaveDpll.SameCore s := by simp [State.leaveDpll]

@[simp] theorem State.clkCtlWrite_core (s : State) (v : Word) :
    (s.clkCtlWrite v).SameCore s := by
  simp [State.clkCtlWrite]

@[simp] theorem State.readReg_core (s : State) (a : Nat) : (s.readReg a).2.SameButQueue s := by
  simp only [State.readReg, State.readCalH, State.readCalL, State.readTimeH, State.readTimeL]
  repeat' split
  all_goals simp

@[simp] theorem State.writeSleepCtl_core (s : State) (v : Word) :
    (s.writeSleepCtl v).SameButQueue s := by
  simp [State.writeSleepCtl, onBit]

@[simp] theorem State.writePwrVote_core (s : State) (v : Word) :
    (s.writePwrVote v).SameCore s := by
  simp [State.writePwrVote, State.hostVoteSet, onBit]

@[simp] theorem State.writeGeyserCfg_core (s : State) (v : Word) :
    (s.writeGeyserCfg v).SameCore s := by
  simp [State.writeGeyserCfg]

@[simp] theorem State.writeFuncReset_core (s : State) (v : Word) :
    (s.writeFuncReset v).SameRest s ∧ (s.writeFuncReset v).flash = s.flash ∧ (s.writeFuncReset v).snap = s.snap ∧
      (s.writeFuncReset v).cald.snap = s.cald.snap ∧ (s.writeFuncReset v).cald.imem = s.cald.imem ∧
      (s.writeFuncReset v).cald.dmem = s.cald.dmem := by
  simp [State.writeFuncReset, onBit, applyAll]

@[simp] theorem State.writeFuncEn_core (s : State) (v : Word) :
    (s.writeFuncEn v).SameRest s ∧ (s.writeFuncEn v).tables = s.tables ∧ (s.writeFuncEn v).flash = s.flash ∧
      (s.writeFuncEn v).snap = s.snap ∧ (s.writeFuncEn v).cald.snap = s.cald.snap ∧
      (s.writeFuncEn v).cald.imem = s.cald.imem ∧ (s.writeFuncEn v).cald.dmem = s.cald.dmem ∧
      (s.writeFuncEn v).ring = s.ring ∧ (s.writeFuncEn v).queue = s.queue := by
  simp [State.writeFuncEn, applyAll]

@[simp] theorem State.writeSchedCtl_core (s : State) (v : Word) :
    (s.writeSchedCtl v).SameRest s ∧ (s.writeSchedCtl v).flash = s.flash ∧
      (s.writeSchedCtl v).cald.snap = s.cald.snap ∧ (s.writeSchedCtl v).cald.imem = s.cald.imem ∧
      (s.writeSchedCtl v).ring = s.ring := by
  simp [State.writeSchedCtl, onBit, applyAll]

@[simp] theorem State.writeFiltCtl_core (s : State) (v : Word) :
    (s.writeFiltCtl v).SameCore s := by
  simp [State.writeFiltCtl, onBit]

@[simp] theorem State.writeCalCmd_core (s : State) (v : Word) :
    (s.writeCalCmd v).SameCore s := by
  simp [State.writeCalCmd, onBit]

@[simp] theorem State.writeBaseCtl_core (s : State) (v : Word) : (s.writeBaseCtl v).SameCore s := by
  simp [State.writeBaseCtl, onBit]
@[simp] theorem State.clrGap_core (s : State) : s.clrGap.SameCore s := by simp [State.clrGap]

@[simp] theorem State.writeRptCtl_core (s : State) (v : Word) :
    (s.writeRptCtl v).SameButQueue s := by
  simp [State.writeRptCtl, onBit]

@[simp] theorem State.writeRingCtl_core (s : State) (v : Word) :
    (s.writeRingCtl v).SameRest s ∧ (s.writeRingCtl v).SameMems s ∧ (s.writeRingCtl v).queue = s.queue := by
  simp [State.writeRingCtl, onBit, applyAll]

@[simp] theorem State.writeWinSel_core (s : State) (v : Word) :
    (s.writeWinSel v).SameCore s := by
  simp [State.writeWinSel]

@[simp] theorem State.writeNvmCtl_core (s : State) (v : Word) :
    (s.writeNvmCtl v).SameCore s := by
  simp [State.writeNvmCtl]

@[simp] theorem State.writeHostCtl_core (s : State) (v : Word) :
    (s.writeHostCtl v).SameCore s := by
  simp [State.writeHostCtl]

@[simp] theorem State.drives_core (s : State) (l : List Byte) : (s.drives l).SameCore s := by simp [State.drives]
@[simp] theorem State.quiet_core (s : State) : s.quiet.SameCore s := by simp [State.quiet]
@[simp] theorem State.clocked_core (s : State) : s.clocked.SameButQueue s := by simp [State.clocked]
@[simp] theorem State.nacks_core (s : State) : s.nacks.SameCore s := by simp [State.nacks]
@[simp] theorem State.onTxn_core (s : State) (f : Txn → Txn) : (s.onTxn f).SameCore s := by simp [State.onTxn]

@[simp] theorem State.txnOpen_core (s : State) (rd : Bool) (kind addr : Nat) (crcOn dead : Bool) :
    (s.txnOpen rd kind addr crcOn dead).SameCore s := by
  simp [State.txnOpen]

@[simp] theorem State.txnDies_core (s : State) : s.txnDies.SameCore s := by simp [State.txnDies]
@[simp] theorem State.touchMain_core (s : State) : s.touchMain.SameCore s := by simp [State.touchMain]
@[simp] theorem State.pinTransients_core (s : State) : s.pinTransients.SameCore s := by simp [State.pinTransients]
@[simp] theorem State.txnOver_core (s : State) : s.txnOver.SameButQueue s := by simp [State.txnOver]
@[simp] theorem State.txnEnd_core (s : State) : s.txnEnd.SameButQueue s := by simp [State.txnEnd]
@[simp] theorem State.txnVoid_core (s : State) : s.txnVoid.SameCore s := by simp [State.txnVoid]

@[simp] theorem State.txnSelect_core (s : State) : s.txnSelect.SameCore s := by
  unfold State.txnSelect
  split <;> simp [State.winSelect]

@[simp] theorem State.status_core (s t : State) (resp : Nat) :
    (s.status t resp).2.SameCore t := by
  simp [State.status]

@[simp] theorem State.statusWord_core (s : State) (k : Nat) :
    (s.statusWord k).2.SameCore s := by
  simp [State.statusWord]

@[simp] theorem State.portWord_core (s : State) (t : Txn) : (s.portWord t).2.SameButQueue s := by
  unfold State.portWord
  split <;> simp

@[simp] theorem State.capture_core (s : State) (t : Txn) : (s.capture t).2.SameButQueue s := by simp [State.capture]

@[simp] theorem State.wordOut_core (s : State) (t : Txn) (w : Word) :
    (s.wordOut t w).2.SameCore s := by
  simp [State.wordOut]

@[simp] theorem State.spiCapture_core (s : State) (t : Txn) :
    (s.spiCapture t).2.SameButQueue s := by
  simp [State.spiCapture]

@[simp] theorem State.spiRead_core (n : Nat) (s : State) : (State.spiRead n s).2.SameButQueue s := by
  induction n generalizing s with
  | zero => simp [State.spiRead]
  | succ n ih =>
    unfold State.spiRead
    split
    · simp
    · simp [ih]

@[simp] theorem State.spiDead_core (s t : State) (rd crcOn : Bool) (resp n : Nat) :
    (s.spiDead t rd crcOn resp n).SameCore t := by
  simp [State.spiDead]

@[simp] theorem State.spiServe_core (s : State) (crcOn : Bool) (n : Nat) :
    (s.spiServe crcOn n).SameButQueue s := by
  simp [State.spiServe]

@[simp] theorem State.i2cHold_core (s : State) (st : Stretch) : (s.i2cHold st).SameCore s := by simp [State.i2cHold]

@[simp] theorem State.i2cCapture_core (s : State) (t : Txn) :
    (s.i2cCapture t).2.SameButQueue s := by
  simp [State.i2cCapture]

@[simp] theorem State.i2cRead_core (n : Nat) (s : State) : (State.i2cRead n s).2.SameButQueue s := by
  induction n generalizing s with
  | zero => simp [State.i2cRead]
  | succ n ih =>
    unfold State.i2cRead
    split
    · simp
    · simp [ih]

@[simp] theorem State.i2cReadOnly_core (s : State) : s.i2cReadOnly.SameCore s := by simp [State.i2cReadOnly]

@[simp] theorem State.i2cPointer_core (s : State) (ptr : Byte) (crc : Option Byte) :
    (s.i2cPointer ptr crc).SameCore s := by
  simp [State.i2cPointer]

@[simp] theorem State.i2cMore_core (s : State) (n : Nat) : (s.i2cMore n).SameButQueue s := by
  unfold State.i2cMore
  split <;> simp

@[simp] theorem State.i2cReads_core (s : State) (n : Nat) :
    (s.i2cReads n).SameButQueue s := by
  simp [State.i2cReads]

@[simp] theorem State.streamOn_core (s : State) (n : Nat) : (s.streamOn n).SameButQueue s := by simp [State.streamOn]

@[simp] theorem State.i2cOdd_core (s : State) : s.i2cOdd.SameCore s := by
  unfold State.i2cOdd
  split <;> simp

@[simp] theorem State.i2cEnds_core (s : State) (e : I2cEnd) : (s.i2cEnds e).SameButQueue s := by simp [State.i2cEnds]

@[simp] theorem State.dbgNoData_core (s : State) (code : Nat) :
    (s.dbgNoData code).SameCore s := by
  simp [State.dbgNoData]

@[simp] theorem State.drawInts_core (s : State) (n : Nat) : (s.drawInts n).2.SameCore s := by
  induction n generalizing s with
  | zero => simp [State.drawInts]
  | succ n ih => simp [State.drawInts, ih]

@[simp] theorem State.libDecode_core (s : State) (g : Grid) :
    (s.libDecode g).SameCore s := by
  simp [State.libDecode, State.mutualImage]

@[simp] theorem State.libStrengths_core (s : State) (g : Grid) :
    (s.libStrengths g).SameCore s := by
  simp [State.libStrengths]

@[simp] theorem State.libTrack_core (s : State) (g : Grid) : (s.libTrack g).SameCore s := by simp [State.libTrack]

@[simp] theorem State.captureEnd_core (s : State) (g : Grid) :
    (s.captureEnd g).SameCore s := by
  simp [State.captureEnd]

@[simp] theorem State.capRequest_core (s : State) : s.capRequest.SameCore s := by simp [State.capRequest]
@[simp] theorem State.puCheck_core (s : State) (g : Grid) : (s.puCheck g).SameCore s := by simp [State.puCheck]
@[simp] theorem State.libAnti_core (s : State) (g : Grid) : (s.libAnti g).SameCore s := by simp [State.libAnti]

@[simp] theorem State.elecJudge_core (s : State) (p other slot code : Nat) (bad : Bool) :
    (s.elecJudge p other slot code bad).SameButQueue s := by
  simp [State.elecJudge, State.elecFault]

@[simp] theorem State.elecAxis_core (s : State) (pins : List Nat) (line : Nat → Nat) : (s.elecAxis pins line).SameButQueue s := by
  refine (State.foldl_butQueue _ _ _ fun t i => ?_).trans (State.foldl_butQueue _ _ s fun t p => ?_)
  all_goals
    dsimp only
    split <;> simp

@[simp] theorem State.centroid_core (s : State) (i n : Nat) (lo mid hi : Int) :
    (s.centroid i n lo mid hi).2.SameCore s := by
  simp [State.centroid]

@[simp] theorem State.regionPos_core (s : State) (g : Grid) (peak : Nat) :
    (s.regionPos g peak).2.2.SameCore s := by
  simp [State.regionPos]

@[simp] theorem State.selfPos_core (s : State) (pins : List Nat) (i : Nat) :
    (s.selfPos pins i).2.SameCore s := by
  simp [State.selfPos]

@[simp] theorem State.findHover_core (s : State) (g : Grid) (rs : List Region) : (s.findHover g rs).2.SameCore s := by
  unfold State.findHover
  split <;> simp

@[simp] theorem State.libRegions_core (s : State) (g : Grid) :
    (s.libRegions g).SameCore s := by
  simp [State.libRegions, State.makeRegion]

@[simp] theorem State.libTime_core (s : State) : s.libTime.SameCore s := by simp [State.libTime]

@[simp] theorem State.libLoad_core (s : State) :
    s.libLoad.SameButQueue s := by
  simp [State.libLoad, State.libElec, State.libRestart, State.rebaseFrame]

@[simp] theorem State.setLib_core (s : State) (f : Lib → Lib) : (s.setLib f).SameCore s := by simp [State.setLib]

@[simp] theorem State.noteEnd_core (s : State) (c : Contact) (code : Nat) (plain stale : Bool) :
    (s.noteEnd c code plain stale).SameCore s := by
  simp [State.noteEnd]

@[simp] theorem State.endContact_core (s : State) (c : Contact) (code : Nat) (plain stale : Bool) :
    (s.endContact c code plain stale).SameCore s := by
  simp [State.endContact]

@[simp] theorem State.putContact_core (s : State) (c : Contact) :
    (s.putContact c).SameCore s := by
  simp [State.putContact]

@[simp] theorem State.endAll_core (s : State) (stale : Bool) : (s.endAll stale).SameCore s := by simp [State.endAll]

@[simp] theorem State.missContact_core (s : State) (c : Contact) :
    (s.missContact c).SameCore s := by
  simp [State.missContact]

@[simp] theorem State.absorbNodes_core (s : State) (g : Grid) (c : Contact) :
    (s.absorbNodes g c).SameCore s := by
  simp [State.absorbNodes]

@[simp] theorem State.addStatus_core (s : State) (r : Rec) : (s.addStatus r).SameCore s := by simp [State.addStatus]

@[simp] theorem State.orAbsorb_core (s : State) (g : Grid) (old c : Contact) :
    (s.orAbsorb g old c).SameCore s := by
  simp [State.orAbsorb]

@[simp] theorem State.gloveSeen_core (s : State) (k : Kind) : (s.gloveSeen k).SameCore s := by simp [State.gloveSeen]

@[simp] theorem State.turnContact_core (s : State) (g : Grid) (c : Contact) (k : Kind) (r : Region) :
    (s.turnContact g c k r).SameCore s := by
  simp [State.turnContact]

@[simp] theorem State.trackContact_core (s : State) (g : Grid) (c : Contact) (r : Region) (cls : Class) :
    (s.trackContact g c r cls).SameCore s := by
  unfold State.trackContact
  split <;> simp

@[simp] theorem State.trackSuspect_core (s : State) (g : Grid) (c : Contact) :
    (s.trackSuspect g c).SameCore s := by
  simp [State.trackSuspect]

@[simp] theorem State.trackAll_core (s : State) (g : Grid) (ps : List (Nat × Nat)) (cl : List Class) :
    (s.trackAll g ps cl).SameCore s := by
  refine State.foldl_core _ _ s fun t c => ?_
  repeat' split
  all_goals simp

@[simp] theorem State.beginContact_core (s : State) (g : Grid) (c : Cand) : (s.beginContact g c).SameCore s := by
  simp only [State.beginContact]
  repeat' split
  all_goals simp

@[simp] theorem State.puContact_core (s : State) (g : Grid) (cx cy : List Nat) :
    (s.puContact g cx cy).SameCore s := by
  unfold State.puContact
  split <;> simp [State.puLeft]

@[simp] theorem State.puForm_core (s : State) (g : Grid) (all : Bool) :
    (s.puForm g all).SameCore s := by
  simp [State.puForm]

@[simp] theorem State.libWet_core (s : State) (g : Grid) (cl : List Class) :
    (s.libWet g cl).SameCore s := by
  simp [State.libWet]

@[simp] theorem State.libGlove_core (s : State) (was : Bool) : (s.libGlove was).SameCore s := by simp [State.libGlove]

@[simp] theorem State.libContacts_core (s : State) (g : Grid) :
    (s.libContacts g).SameCore s := by
  simp [State.libContacts, State.beginAll, State.libLock, State.puAnnounce, State.puTell]

@[simp] theorem State.keyRec_core (s : State) (g : Grid) (k ev cause : Nat) :
    (s.keyRec g k ev cause).SameCore s := by
  simp [State.keyRec]

@[simp] theorem State.keyEvent_core (s : State) (g : Grid) (k : Nat) (on : Bool) (cause : Nat) :
    (s.keyEvent g k on cause).SameCore s := by
  simp [State.keyEvent]

@[simp] theorem State.debounce_core (s : State) (g : Grid) (k : Nat) :
    (s.debounce g k).SameCore s := by
  simp [State.debounce]

@[simp] theorem State.keyFrame_core (s : State) (g : Grid) (old : List Word) (k : Nat) :
    (s.keyFrame g old k).SameCore s := by
  simp [State.keyFrame]

@[simp] theorem State.gestureAt_core (s : State) (bit sub : Nat) (p : Nat × Nat) (a b dur extra : Nat) :
    (s.gestureAt bit sub p a b dur extra).SameCore s := by
  simp [State.gestureAt]

@[simp] theorem State.gesture_core (s : State) (g : Grid) (bit sub : Nat) (x y : Int) (a b dur extra : Nat) :
    (s.gesture g bit sub x y a b dur extra).SameCore s := by
  simp [State.gesture]

@[simp] theorem State.gestureDuo_core (s : State) (g : Grid) (bit sub : Nat) (d : Duo) (extra : Nat) :
    (s.gestureDuo g bit sub d extra).SameCore s := by
  simp [State.gestureDuo]

@[simp] theorem State.swipe_core (s : State) (g : Grid) (c : Contact) :
    (s.swipe g c).SameCore s := by
  simp [State.swipe]

@[simp] theorem State.tapMade_core (s : State) (g : Grid) (c : Contact) : (s.tapMade g c).SameCore s := by
  unfold State.tapMade
  split <;> simp

@[simp] theorem State.duoUp_core (s : State) (g : Grid) (u : Ended) (d : Duo) :
    (s.duoUp g u d).SameCore s := by
  simp [State.duoUp]

@[simp] theorem State.keepGone_core (s : State) (u : Ended) : (s.keepGone u).SameCore s := by simp [State.keepGone]

@[simp] theorem State.upGesture_core (s : State) (g : Grid) (u : Ended) : (s.upGesture g u).SameCore s := by
  simp only [State.upGesture]
  repeat' split
  all_goals simp

@[simp] theorem State.downGesture_core (s : State) (c : Contact) : (s.downGesture c).SameCore s := by
  simp only [State.downGesture]
  repeat' split
  all_goals simp

@[simp] theorem State.libDuos_core (s : State) : s.libDuos.SameCore s := by simp [State.libDuos]

@[simp] theorem State.pinchGesture_core (s : State) (g : Grid) : (s.pinchGesture g).SameCore s := by
  simp only [State.pinchGesture]
  repeat' split
  all_goals simp

@[simp] theorem State.palmRegion_core (s : State) (g : Grid) (old : List Palm) (r : Region) :
    (s.palmRegion g old r).2.SameCore s := by
  unfold State.palmRegion
  split <;> simp

@[simp] theorem State.markAlone_core (s : State) : s.markAlone.SameCore s := by simp [State.markAlone]
@[simp] theorem State.dropGestures_core (s : State) : s.dropGestures.SameCore s := by simp [State.dropGestures]

@[simp] theorem State.libGestures_core (s : State) (g : Grid) (cl : List Class) :
    (s.libGestures g cl).SameCore s := by
  simp [State.libGestures, State.longGesture, State.palmGesture, State.tapExpiry]

@[simp] theorem State.wakeResult_core (s : State) (r : WakeRes) :
    (s.wakeResult r).SameCore s := by
  simp [State.wakeResult]

@[simp] theorem State.judgeWake_core (s : State) (g : Grid) (cl : List Class) :
    (s.judgeWake g cl).SameCore s := by
  simp [State.judgeWake]

@[simp] theorem State.libWake_core (s : State) (g : Grid) (cl : List Class) : (s.libWake g cl).SameCore s := by
  simp only [State.libWake]
  repeat' split
  all_goals simp

@[simp] theorem State.libHop_core (s : State) : s.libHop.SameCore s := by simp [State.libHop]

@[simp] theorem State.libTrackEnd_core (s : State) (g : Grid) (reset : Bool) :
    (s.libTrackEnd g reset).SameCore s := by
  simp [State.libTrackEnd, State.releaseKeys]

@[simp] theorem State.libFrame_core (s : State) (g : Grid) :
    (s.libFrame g).SameCore s := by
  simp [State.libFrame, State.libFreeze, State.libKeys, State.libPowerup]

@[simp] theorem State.libCounted_core (s : State) : s.libCounted.SameCore s := by simp [State.libCounted]
@[simp] theorem State.libVote_core (s : State) : s.libVote.2.SameCore s := by simp [State.libVote]
@[simp] theorem State.libRead_core (s : State) : s.libRead.SameButQueue s := by simp [State.libRead]

@[simp] theorem State.stagePub_core (s : State) (c : CellId) (target : Nat) (v : Word) :
    (s.stagePub c target v).SameCore s := by
  simp [State.stagePub]

@[simp] theorem State.stageVote_core (s : State) (c : CellId) (v : Bool) :
    (s.stageVote c v).SameCore s := by
  simp [State.stageVote]

@[simp] theorem State.emitWords_core (s : State) (c : CellId) (ws : List Word) :
    (s.emitWords c ws).2.SameCore s := by
  simp [State.emitWords]

@[simp] theorem State.emitRec_core (s : State) (c : CellId) (ws : List Word) :
    (s.emitRec c ws).SameButQueue s := by
  simp [State.emitRec]

@[simp] theorem State.emitRing_core (s : State) (c : CellId) (ws : List Word) :
    (s.emitRing c ws).SameCore s := by
  simp [State.emitRing]

end Sys2Proof.Machine
end

section
/-! PROOFS. The operations of the queue keep it within its sizes. -/

namespace Sys2Proof.Machine

/-! ### The queue within its sizes -/

theorem Queue.fits_iff (q : Queue) : q.fits = true ↔ q.occupancy ≤ 64 ∧ q.ins.length ≤ 4 ∧ q.word < 8 := by
  simp [Queue.fits, and_assoc]

theorem Queue.fits_intro {q : Queue} (h : q.occupancy ≤ 64) (hi : q.ins.length ≤ 4) (hw : q.word < 8) : q.fits = true :=
  q.fits_iff.2 ⟨h, hi, hw⟩

/-- A change of anything but items, staged items, inserted records and the word index leaves the sizes. -/
@[simp] theorem Queue.fits_mk (q : Queue) (g sv : Option Gap) (d : Nat) (l : Word) (c st : Bool) (str : Stream) (v : Bool)
    (rd : BitVec 6) (n : Nat) : Queue.fits ⟨q.items, q.staged, g, sv, d, q.ins, q.word, l, c, st, str, v, rd, n⟩ = q.fits :=
  rfl

@[simp] theorem State.queueVote_fits {s : State} (h : s.queue.fits = true) : s.queueVote.queue.fits = true := by
  simp [State.queueVote, h]

@[simp] theorem State.pushRec_fits {s : State} (r : Rec) (h : s.queue.fits = true) : (s.pushRec r).queue.fits = true := by
  by_cases hd : s.flag Reg.FUNC_EN 5 = false ∨ 63 ≤ s.queue.occupancy
  · simpa [State.pushRec_of_dropped r hd] using h
  · simp only [not_or, Bool.not_eq_false, Nat.not_le] at hd
    obtain ⟨-, hi, hw⟩ := s.queue.fits_iff.1 h
    refine (Queue.fits_iff _).2 ⟨State.pushRec_occupancy_of_accepted r hd.1 hd.2, ?_⟩
    rw [State.pushRec_queue_of_accepted r hd.1 hd.2]
    exact ⟨hi, hw⟩

@[simp] theorem State.commitQueue_fits {s : State} (h : s.queue.fits = true) : s.commitQueue.queue.fits = true := by
  obtain ⟨ho, hi, hw⟩ := s.queue.fits_iff.1 h
  simp only [Queue.occupancy] at ho
  unfold State.commitQueue
  dsimp only
  split <;> simp [Queue.fits, Queue.occupancy, hi, hw, ho]

@[simp] theorem State.abandonQueue_fits {s : State} (h : s.queue.fits = true) : s.abandonQueue.queue.fits = true := by
  obtain ⟨ho, hi, hw⟩ := s.queue.fits_iff.1 h
  refine State.queueVote_fits (Queue.fits_intro ?_ hi hw)
  simp only [Queue.occupancy] at ho ⊢
  simp
  omega

@[simp] theorem State.insertRec_fits {s : State} (r : Rec) (h : s.queue.fits = true) : (s.insertRec r).queue.fits = true := by
  obtain ⟨ho, hi, hw⟩ := s.queue.fits_iff.1 h
  unfold State.insertRec
  split
  · exact Queue.fits_intro ho (by simp; omega) hw
  · simpa using h

@[simp] theorem State.commitInserted_fits {s : State} (h : s.queue.fits = true) : s.commitInserted.queue.fits = true := by
  simp [State.commitInserted, h]

@[simp] theorem State.pushInserted_fits {s : State} (h : s.queue.fits = true) : s.pushInserted.queue.fits = true := by
  obtain ⟨ho, hi, hw⟩ := s.queue.fits_iff.1 h
  unfold State.pushInserted
  split
  case h_1 => exact h
  case h_2 r rest hins =>
    have hr : rest.length ≤ 4 := by
      simp only [hins, List.length_cons] at hi
      omega
    split
    · exact h
    · exact State.commitInserted_fits (State.pushRec_fits _ (Queue.fits_intro ho hr hw))

@[simp] theorem State.drainInserted_fits {s : State} (h : s.queue.fits = true) : s.drainInserted.queue.fits = true :=
  State.pushInserted_fits (State.pushInserted_fits (State.pushInserted_fits (State.pushInserted_fits h)))

@[simp] theorem State.queueSync_fits {s : State} (h : s.queue.fits = true) : s.queueSync.queue.fits = true := h

@[simp] theorem State.flushQueue_fits {s : State} (h : s.queue.fits = true) : s.flushQueue.queue.fits = true := by
  obtain ⟨ho, hi, hw⟩ := s.queue.fits_iff.1 h
  refine State.queueVote_fits (Queue.fits_intro ?_ hi hw)
  simp only [Queue.occupancy] at ho ⊢
  simp
  omega

@[simp] theorem State.resetQueue_fits {s : State} (h : s.queue.fits = true) : s.resetQueue.queue.fits = true := by
  obtain ⟨ho, -, hw⟩ := (Queue.fits_iff _).1 (State.flushQueue_fits h)
  unfold State.resetQueue
  apply State.insertRec_fits
  simp only [State.setFlag_queue, State.setReg_queue]
  exact Queue.fits_intro (le_trans (by simp [Queue.occupancy]) ho) (by simp) hw

@[simp] theorem State.wordTaken_fits {s : State} {r : Rec} (w : Word) (rest : List Rec) (h : s.queue.fits = true)
    (hr : s.queue.items = r :: rest) : (s.wordTaken w rest).queue.fits = true := by
  obtain ⟨ho, hi, hw⟩ := s.queue.fits_iff.1 h
  refine State.queueVote_fits (Queue.fits_intro ?_ hi (Nat.mod_lt _ (by omega)))
  simp only [Queue.occupancy, hr, List.length_cons] at ho ⊢
  split
  · omega
  · simp; omega

end Sys2Proof.Machine
end

section
/-! PROOFS. What a command keeps: the pending commands, the OTP bits, the sizes and the memories' form; one rule per operation
that changes any of them. -/

namespace Sys2Proof.Machine

/-! ### What a command keeps -/

/-- From `s` to `t` no command is queued or dropped, no OTP bit is lost, and the sizes and the memories' canonical form
are kept. -/
structure State.Keeps (s t : State) : Prop where
  pending : t.pending = s.pending
  otp     : otpRises s t
  sized   : s.Sized → t.Sized
  mems    : s.MemWf → t.MemWf

theorem State.sized_iff (s : State) : s.Sized ↔ s.queue.fits = true ∧ s.ring.fits = true := by
  simp [State.Sized, Queue.fits, Ring.fits, and_assoc]

theorem otpRises_of_eq {s t : State} (h : t.sec.otp = s.sec.otp) : otpRises s t := by
  intro w i hb
  simpa [State.otpWord, h] using hb

namespace State.Keeps

variable {s t u : State}

protected theorem refl (s : State) : s.Keeps s := ⟨rfl, fun _ _ h => h, id, id⟩

protected theorem trans (h : s.Keeps t) (g : t.Keeps u) : s.Keeps u :=
  ⟨g.pending.trans h.pending, fun w i hb => g.otp w i (h.otp w i hb), g.sized ∘ h.sized, g.mems ∘ h.mems⟩

/-- A further operation that leaves pending commands and OTP, and keeps sizes and memories. -/
theorem next (h : s.Keeps t) (hr : u.SameRest t) (hs : t.Sized → u.Sized) (hm : t.MemWf → u.MemWf) : s.Keeps u :=
  h.trans ⟨hr.1, otpRises_of_eq hr.2, hs, hm⟩

/-- A further operation that changes nothing of what counts here. -/
theorem core (h : s.Keeps t) (hc : u.SameCore t) : s.Keeps u := by
  obtain ⟨hr, ⟨h1, h2, h3, h4, h5, h6, h7⟩, hg, hq⟩ := hc
  refine h.next hr (fun hs => ?_) (fun hm => ?_)
  · simpa only [State.Sized, hg, hq] using hs
  · exact ⟨by rw [h1]; exact hm.tables, by rw [h3]; exact hm.snap, by rw [h4]; exact hm.csnap, by rw [h5]; exact hm.owed,
      by rw [h2]; exact hm.flash, by rw [h6]; exact hm.imem, by rw [h7]; exact hm.dmem⟩

/-- A further operation on the queue. -/
theorem queue (h : s.Keeps t) (hc : u.SameButQueue t) (hq : t.queue.fits = true → u.queue.fits = true) : s.Keeps u := by
  obtain ⟨hr, hm, hg⟩ := hc
  have hk : s.Keeps { u with queue := t.queue } := h.core ⟨hr, hm, hg, rfl⟩
  refine hk.next ⟨rfl, rfl⟩ (fun hs => ?_) (fun hm => ⟨hm.1, hm.2, hm.3, hm.4, hm.5, hm.6, hm.7⟩)
  obtain ⟨hf, hg⟩ := (sized_iff _).1 hs
  exact u.sized_iff.2 ⟨hq hf, hg⟩

/-- A further operation on the window tables. -/
theorem tables (h : s.Keeps t) (hc : u.SameButTables t) (ht : tabWf t.tables = true → tabWf u.tables = true) :
    s.Keeps u := by
  obtain ⟨hr, ⟨h2, h3, h4, h5, h6, h7⟩, hg, hq⟩ := hc
  have hk : s.Keeps { u with tables := t.tables } := h.core ⟨hr, ⟨rfl, h2, h3, h4, h5, h6, h7⟩, hg, hq⟩
  exact hk.next ⟨rfl, rfl⟩ id (fun hm => ⟨ht hm.1, hm.2, hm.3, hm.4, hm.5, hm.6, hm.7⟩)

protected theorem ite {c : Prop} [Decidable c] (h : s.Keeps t) (g : s.Keeps u) : s.Keeps (if c then t else u) := by
  split
  · exact h
  · exact g

protected theorem foldl {α : Type} {f : State → α → State} (l : List α) (hf : ∀ (t : State) a, t.Keeps (f t a)) (h : s.Keeps t) :
    s.Keeps (l.foldl f t) :=
  foldl_keeps s.Keeps l f t (fun t a ht => ht.trans (hf t a)) h

protected theorem snd_foldl {α β : Type} {f : β × State → α → β × State} (l : List α)
    (hf : ∀ (p : β × State) a, p.2.Keeps (f p a).2) {p : β × State} (h : s.Keeps p.2) : s.Keeps (l.foldl f p).2 :=
  foldl_keeps (fun q : β × State => s.Keeps q.2) l f p (fun q a hq => hq.trans (hf q a)) h

/-! Register writes change nothing of what counts here. -/

theorem setReg (h : s.Keeps t) (r : RegId) (v : Word) : s.Keeps (t.setReg r v) := h.core (by simp)
theorem setFlag (h : s.Keeps t) (r : RegId) (i : Nat) (b : Bool) : s.Keeps (t.setFlag r i b) := h.core (by simp)
theorem setFld (h : s.Keeps t) (r : RegId) (i n v : Nat) : s.Keeps (t.setFld r i n v) := h.core (by simp)

end State.Keeps

end Sys2Proof.Machine
end

section
namespace Sys2Proof.Machine

@[simp] theorem State.insertRec_items (s : State) (r : Rec) : (s.insertRec r).queue.items = s.queue.items := by
  unfold State.insertRec
  split <;> simp

@[simp] theorem State.recordFault_items (s : State) (e : FaultEvent) : (s.recordFault e).queue.items = s.queue.items := by
  unfold State.recordFault
  dsimp only
  repeat' split
  all_goals simp

@[simp] theorem State.mainFault_items (s : State) (flag cls outcome elem : Nat) (detail subst : Word) :
    (s.mainFault flag cls outcome elem detail subst).queue.items = s.queue.items := by
  unfold State.mainFault State.faultEvent
  dsimp only
  split <;> simp

@[simp] theorem State.readErr_items (s : State) (m : MemId) (a : Nat) : (s.readErr m a).2.queue.items = s.queue.items := by
  unfold State.readErr
  repeat' split
  all_goals simp

theorem Ring.fits_iff (r : Ring) : r.fits = true ↔ r.u ≤ 4096 ∧ r.count ≤ 4096 := by simp [Ring.fits]

namespace State.Keeps

variable {s t : State}

/-! ### Faults, memory errors and the queue -/

theorem queueVote (h : s.Keeps t) : s.Keeps t.queueVote := h.queue (by simp) queueVote_fits
theorem pushRec (h : s.Keeps t) (r : Rec) : s.Keeps (t.pushRec r) := h.queue (by simp) (pushRec_fits r)
theorem commitQueue (h : s.Keeps t) : s.Keeps t.commitQueue := h.queue (by simp) commitQueue_fits
theorem abandonQueue (h : s.Keeps t) : s.Keeps t.abandonQueue := h.queue (by simp) abandonQueue_fits
theorem insertRec (h : s.Keeps t) (r : Rec) : s.Keeps (t.insertRec r) := h.queue (by simp) (insertRec_fits r)
theorem pushInserted (h : s.Keeps t) : s.Keeps t.pushInserted := h.queue (by simp) pushInserted_fits
theorem drainInserted (h : s.Keeps t) : s.Keeps t.drainInserted := h.queue (by simp) drainInserted_fits
theorem queueSync (h : s.Keeps t) : s.Keeps t.queueSync := h.queue (by simp) queueSync_fits
theorem flushQueue (h : s.Keeps t) : s.Keeps t.flushQueue := h.queue (by simp) flushQueue_fits

theorem recordFault (h : s.Keeps t) (e : FaultEvent) : s.Keeps (t.recordFault e) := by
  refine h.queue (by simp) (fun hf => ?_)
  simp [State.recordFault, hf]

theorem faultEvent (h : s.Keeps t) (e : FaultEvent) : s.Keeps (t.faultEvent e) := by
  unfold State.faultEvent
  dsimp only
  split
  · exact (h.core (by simp)).recordFault e
  · exact h.core (by simp)

theorem recordLater (h : s.Keeps t) : s.Keeps t.recordLater :=
  .foldl _ (fun t e => (Keeps.refl t).recordFault e) (h.core (by simp))

theorem mainFault (h : s.Keeps t) (flag cls outcome elem : Nat) (detail subst : Word) :
    s.Keeps (t.mainFault flag cls outcome elem detail subst) :=
  (h.core (by simp)).faultEvent _

theorem aonFault (h : s.Keeps t) (flag elem : Nat) (detail : Word) (outcome : Nat) :
    s.Keeps (t.aonFault flag elem detail outcome) :=
  (h.core (by simp)).faultEvent _

theorem aonFaultFree (h : s.Keeps t) (flag elem outcome : Nat) : s.Keeps (t.aonFaultFree flag elem outcome) :=
  (h.core (by simp)).aonFault ..

theorem scrubRewrite (h : s.Keeps t) (e : MemErr) : s.Keeps (t.scrubRewrite e) := by
  unfold State.scrubRewrite
  dsimp only
  split
  · exact (h.core (by simp)).mainFault ..
  · exact h.core (by simp)

theorem readErr (h : s.Keeps t) (m : MemId) (a : Nat) : s.Keeps (t.readErr m a).2 := by
  unfold State.readErr
  repeat' split
  · exact h
  · exact h
  · exact h.core (by simp)
  · exact h.mainFault ..

/-! ### Cells -/

theorem cellRead (h : s.Keeps t) (m : MemId) (a : Nat) : s.Keeps (t.cellRead m a).2 := by
  unfold State.cellRead
  dsimp only
  split
  · exact h.readErr m a
  · exact (h.readErr m a).core (by simp)

theorem fetchErr (h : s.Keeps t) (c : CellId) : s.Keeps (t.fetchErr c) := h.cellRead ..

theorem loadData (h : s.Keeps t) (c : CellId) (a : Nat) : s.Keeps (t.loadData c a).2 := h.cellRead ..

theorem loadWords (h : s.Keeps t) (c : CellId) (a n : Nat) : s.Keeps (t.loadWords c a n).2 := by
  induction n with
  | zero => exact h
  | succ n ih => exact ih.loadData c (a + n)

theorem cellOp (h : s.Keeps t) (c : CellId) (i : Instr) (p : Pred) (f : Cell → Cell) : s.Keeps (t.cellOp c i p f) := by
  unfold State.cellOp
  split
  · exact (h.fetchErr c).core (by simp)
  · exact h

/-- An instruction that acts on its condition: enough that its action keeps. -/
theorem cellAct (h : s.Keeps t) (c : CellId) (i : Instr) (p : Pred) {f : State → State}
    (hf : ∀ u : State, u.Keeps (f u)) : s.Keeps (t.cellAct c i p f) := by
  unfold State.cellAct
  split
  · exact Keeps.core (.ite ((h.fetchErr c).trans (hf _)) (h.fetchErr c)) (cellAdvance_core ..)
  · exact h

theorem cellEmit (h : s.Keeps t) (c : CellId) (i : Instr) (p : Pred) {f : State → State}
    (hf : ∀ u : State, u.Keeps (f u)) : s.Keeps (t.cellEmit c i p f) := by
  unfold State.cellEmit
  split
  · exact Keeps.core (.ite ((h.fetchErr c).trans (hf _)) ((h.fetchErr c).core (token_core ..))) (cellAdvance_core ..)
  · exact h

theorem intakeDone (h : s.Keeps t) (c : CellId) (row w : Nat) (d : XReg) (rel signed : Bool) :
    s.Keeps (t.intakeDone c row w d rel signed) := by
  unfold State.intakeDone
  dsimp only
  refine Keeps.core (t := (if w ≤ 160 then
    (if t.rowPasses row then t else t.setDiscard).cellRead .result (161 * row + w)
    else (0, if t.rowPasses row then t else t.setDiscard)).2) ?_ (by split <;> simp)
  have hd : s.Keeps (if t.rowPasses row then t else t.setDiscard) := .ite h (h.core (by simp))
  split
  · exact hd.cellRead ..
  · exact hd

theorem intake (h : s.Keeps t) (c : CellId) (i : Instr) (d b : XReg) (rel idx : Bool) (row : Nat) (w : Byte)
    (signed : Bool) : s.Keeps (t.intake c i d b rel idx row w signed) := by
  unfold State.intake
  split
  · have hf := (h.fetchErr c).core (u := (t.fetchErr c).frameRow row) (by simp)
    exact .ite (hf.intakeDone ..) (hf.core (by simp))
  · exact h

/-! ### The queue's read side -/

theorem wordTaken (h : s.Keeps t) {r : Rec} (w : Word) (rest : List Rec) (hr : t.queue.items = r :: rest) :
    s.Keeps (t.wordTaken w rest) :=
  h.queue (by simp) (wordTaken_fits w rest · hr)

theorem takeWord (h : s.Keeps t) : s.Keeps t.takeWord.2 := by
  unfold State.takeWord
  dsimp only
  split
  · refine h.queue (by simp) (fun hf => ?_)
    obtain ⟨ho, hi, hw⟩ := (Queue.fits_iff _).1 hf
    exact Queue.fits_intro ho hi (Nat.mod_lt _ (by omega))
  · split
    · exact h
    case h_2 r rest hr => exact (h.readErr ..).wordTaken (r := r) _ _ (by simpa using hr)

theorem readRptData (h : s.Keeps t) : s.Keeps t.readRptData.2 := by
  unfold State.readRptData
  dsimp only
  split
  · exact h.takeWord.core (by simp)
  · exact h.core (by simp)

theorem streamWord (h : s.Keeps t) : s.Keeps t.streamWord.2 := by
  unfold State.streamWord
  dsimp only
  repeat' split
  · exact h
  · exact h.queue (by simp) id
  · exact (h.takeWord.queue (u := { t.takeWord.2 with queue := { t.takeWord.2.queue with stream := .running } })
      (by simp) id).core (by simp)
  · exact h.queue (by simp) (by simp)
  · exact h.queue (by simp) id

theorem streamStallOver (h : s.Keeps t) : s.Keeps t.streamStallOver := h.queue (by simp) (by simp [State.streamStallOver])

/-! ### Windows -/

theorem tableRead (h : s.Keeps t) (code a : Nat) : s.Keeps (t.tableRead code a).2 := h.readErr ..

theorem winWord (h : s.Keeps t) (code a : Nat) : s.Keeps (t.winWord code a).2 := by
  unfold State.winWord
  split
  · exact (h.core (raceRead_core ..)).tableRead ..
  · exact h.core (by simp [State.nvmRead])
  · exact (h.core (raceRead_core ..)).tableRead ..
  · exact h.core (by simp)
  · exact h.tableRead ..

theorem winRead (h : s.Keeps t) : s.Keeps t.winRead.2 := by
  unfold State.winRead
  dsimp only
  split
  · exact h.core (by simp)
  · exact (h.winWord t.winCode t.winAddr).core (by simp)

theorem setTab (h : s.Keeps t) (code a : Nat) (v : Word) : s.Keeps (t.setTab code a v) :=
  h.tables (by simp) (setTab_tabWf t code a v)

theorem setTabs (h : s.Keeps t) (code a : Nat) (l : List Word) : s.Keeps (t.setTabs code a l) :=
  h.tables (by simp) (setTabs_tabWf t code a l)

theorem clearTab (h : s.Keeps t) (code : Nat) : s.Keeps (t.clearTab code) := h.tables (by simp) (clearTab_tabWf t code)

theorem imageWrite (h : s.Keeps t) (a : Nat) (v : Word) : s.Keeps (t.imageWrite a v) := by
  unfold State.imageWrite
  split
  · dsimp only
    split <;> exact (h.setTab Win.RESULT a v).core (by simp)
  · exact h.core (by simp)

theorem winPut (h : s.Keeps t) (code a : Nat) (v : Word) : s.Keeps (t.winPut code a v) := by
  unfold State.winPut
  split
  · exact h.imageWrite a v
  · exact (h.setTab code a (v &&& winMask code a)).core (by simp)

theorem winWrite (h : s.Keeps t) (v : Word) : s.Keeps (t.winWrite v) := by
  unfold State.winWrite
  dsimp only
  repeat' split
  · exact h.core (by simp)
  · exact h.core (by simp)
  · exact (h.winPut t.winCode t.winAddr v).core (by simp)

/-! ### The ring -/

theorem ring (h : s.Keeps t) {u : State} (hr : u.SameRest t) (hm : u.SameMems t) (hq : u.queue = t.queue)
    (hg : t.ring.fits = true → u.ring.fits = true) : s.Keeps u := by
  have hk : s.Keeps { u with ring := t.ring } := h.core ⟨hr, hm, rfl, hq⟩
  refine hk.next ⟨rfl, rfl⟩ (fun hs => ?_) (fun hm => ⟨hm.1, hm.2, hm.3, hm.4, hm.5, hm.6, hm.7⟩)
  obtain ⟨hf, hr⟩ := (sized_iff _).1 hs
  exact u.sized_iff.2 ⟨hf, hg hr⟩

theorem ringWrite (h : s.Keeps t) (e : Vector Word 4) : s.Keeps (t.ringWrite e) := by
  refine (h.setTabs Win.RING (4 * t.ring.wr.toNat) e.toList).ring (by simp) (by simp [State.ringWrite]) (by simp)
    (fun hf => ?_)
  obtain ⟨hu, -⟩ := t.ring.fits_iff.1 hf
  refine (Ring.fits_iff _).2 ⟨?_, Nat.min_le_left ..⟩
  dsimp only [State.ringWrite]
  split
  · exact le_rfl
  case isFalse hne => exact Nat.lt_of_le_of_ne hu (by simpa using hne)

theorem ringSetRd (h : s.Keeps t) (v : Word) : s.Keeps (t.ringSetRd v) := by
  refine h.ring (by simp) (by simp) (by simp) (fun hf => ?_)
  obtain ⟨-, hc⟩ := t.ring.fits_iff.1 hf
  exact (Ring.fits_iff _).2 ⟨(BitVec.isLt _).le, hc⟩

theorem ringMark (h : s.Keeps t) : s.Keeps t.ringMark := h.ring (by simp) (by simp) (by simp) id

theorem ringRewind (h : s.Keeps t) : s.Keeps t.ringRewind := by
  refine h.ring (by simp) (by simp) (by simp) (fun hf => ?_)
  obtain ⟨-, hc⟩ := t.ring.fits_iff.1 hf
  unfold State.ringRewind
  dsimp only
  split
  · exact (Ring.fits_iff _).2 ⟨Nat.min_le_left .., hc⟩
  · exact (Ring.fits_iff _).2 ⟨hc, hc⟩

theorem ringClear (h : s.Keeps t) : s.Keeps t.ringClear :=
  h.ring (by simp) (by simp) (by simp) (fun _ => by simp [State.ringClear, Ring.fits])

theorem resetRing (h : s.Keeps t) : s.Keeps t.resetRing :=
  (h.ringClear.clearTab Win.RING).ring (by simp) (by simp [State.resetRing, State.ringReset])
    (by simp [State.resetRing, State.ringReset]) id

end State.Keeps

end Sys2Proof.Machine
end

section
namespace Sys2Proof.Machine

@[simp] theorem State.pumpFrame_core (s : State) (old : Snap) : (s.pumpFrame old).SameCore s := by simp [State.pumpFrame]
@[simp] theorem State.syncFrame_core (s : State) (was : Bool) : (s.syncFrame was).SameCore s := by simp [State.syncFrame]
@[simp] theorem State.hopFrame_core (s : State) : s.hopFrame.SameCore s := by simp [State.hopFrame]
@[simp] theorem State.trkFrame_core (s : State) : s.trkFrame.SameCore s := by simp [State.trkFrame]

namespace State.Keeps

variable {s t : State}

/-! ### Memories other than the window tables -/

theorem flash (h : s.Keeps t) {u : State} (hu : u.SameCore { t with flash := u.flash })
    (hf : flashWf t.flash = true → flashWf u.flash = true) : s.Keeps u := by
  refine (Keeps.core (t := { t with flash := u.flash }) ?_ hu)
  exact h.next ⟨rfl, rfl⟩ id (fun hm => ⟨hm.1, hm.2, hm.3, hm.4, hf hm.5, hm.6, hm.7⟩)

theorem snap (h : s.Keeps t) {u : State} (hu : u.SameCore { t with snap := u.snap })
    (hf : tabWf t.tables = true → tabWf t.snap.tables = true → tabWf u.snap.tables = true) : s.Keeps u := by
  refine (Keeps.core (t := { t with snap := u.snap }) ?_ hu)
  exact h.next ⟨rfl, rfl⟩ id (fun hm => ⟨hm.1, hf hm.1 hm.2, hm.3, hm.4, hm.5, hm.6, hm.7⟩)

/-- A further operation on the cells' memories. -/
theorem cells (h : s.Keeps t) {u : State}
    (hu : u.SameCore { t with cald := { t.cald with imem := u.cald.imem, dmem := u.cald.dmem } })
    (hi : imemWf t.cald.imem = true → imemWf u.cald.imem = true)
    (hd : dmemWf t.cald.dmem = true → dmemWf u.cald.dmem = true) : s.Keeps u := by
  refine (Keeps.core (t := { t with cald := { t.cald with imem := u.cald.imem, dmem := u.cald.dmem } }) ?_ hu)
  exact h.next ⟨rfl, rfl⟩ id (fun hm => ⟨hm.1, hm.2, hm.3, hm.4, hm.5, hi hm.6, hd hm.7⟩)

theorem dmemWrite (h : s.Keeps t) (c : PhysId) (a : Nat) (v : Data) : s.Keeps (t.dmemWrite c.val a v) :=
  h.cells (by simp [State.dmemWrite]) (by simp) (dmemWrite_dmemWf t c a v)

/-- The snapshots that a frame takes and owes are those of the tables as they stand. -/
theorem snapNow (h : s.Keeps t) : s.Keeps { t with snap := t.snapNow } := h.snap (by simp) (fun ht _ => ht)

theorem oweFrame (h : s.Keeps t) : s.Keeps t.oweFrame := by
  unfold State.oweFrame
  split
  · refine h.next ⟨rfl, rfl⟩ id (fun hm => ⟨hm.1, hm.2, hm.3, fun o ho => ?_, hm.5, hm.6, hm.7⟩)
    rcases List.mem_append.1 ho with ho | ho
    · exact hm.owed o ho
    · rw [List.mem_singleton.1 ho]
      exact hm.snap
  · exact h

theorem dropOwed (h : s.Keeps t) : s.Keeps t.dropOwed :=
  h.next ⟨rfl, rfl⟩ id (fun hm => ⟨hm.1, hm.2, hm.3, by simp [State.dropOwed], hm.5, hm.6, hm.7⟩)

/-! ### Images -/

theorem installWin (h : s.Keeps t) (l : Option (List Byte)) (code : Nat) : s.Keeps (t.installWin l code) := by
  unfold State.installWin
  split
  · exact (h.setTabs ..).core (winRewrite_core ..)
  · exact h

theorem installCell (h : s.Keeps t) (code : List Byte) (data : Option (List Byte)) (k : Nat) :
    s.Keeps (t.installCell code data k) :=
  h.cells (by simp [State.installCell]) (by simp +contextual [State.installCell]) (by simp +contextual [State.installCell])

theorem installImage (h : s.Keeps t) (img : List Byte) : s.Keeps (t.installImage img) := by
  have hc : s.Keeps _ := .foldl (List.range 7) (fun u k => (Keeps.refl u).installCell
    ((sectBytes img (directory img) (0x10 + k)).getD []) (sectBytes img (directory img) (0x20 + k)) k) h
  have hw {u : State} (hu : s.Keeps u) (k code : Nat) :
      s.Keeps (u.installWin (sectBytes img (directory img) k) code) := hu.installWin _ _
  exact (hw (hw (hw (hw (hw (hw (hw (hw hc 0x30 Win.SEQ) 0x31 Win.COEF_A) 0x32 Win.COEF_B) 0x33 Win.RS_PROFILE)
    0x34 Win.LANE_MASK) 0x35 Win.PANEL) 0x36 Win.KEYS) 0x38 Win.PHASE).core (by simp [State.installImage])

theorem sigCheck (h : s.Keeps t) : s.Keeps t.sigCheck := by
  unfold State.sigCheck
  dsimp only
  split
  · exact h.cells (by simp) (by simp) (by simp +contextual)
  · exact (h.setFlag ..).dmemWrite ..

/-! ### Flash -/

theorem flashStep (h : s.Keeps t) (x : FlashStep) : s.Keeps (t.flashStep x) := by
  cases x with
  | erase b n => exact h.flash (by simp [State.flashStep]) (flashErase_flashWf t b (b + n))
  | program a l => exact h.flash (by simp [State.flashStep]) (flashProgram_flashWf t a l)

theorem pageDone (h : s.Keeps t) (p : FlashStep) (rest : List FlashStep) : s.Keeps (t.pageDone p rest) :=
  (h.flashStep p).core (by simp [State.pageDone])

theorem nvmDone (h : s.Keeps t) : s.Keeps t.nvmDone := by
  unfold State.nvmDone
  dsimp only
  have hc : s.Keeps (if t.nvm.op = some .captureSig then t.nvmEnd.sigCheck else t.nvmEnd) :=
    .ite (h.core (nvmEnd_core t)).sigCheck (h.core (nvmEnd_core t))
  refine hc.core ?_
  split <;> simp

/-! ### Calibration -/

theorem calPass (h : s.Keeps t) (n : Nat) (o g : Word) : s.Keeps (t.calPass n o g) :=
  (h.setTabs Win.CALF (2 * n) [o, g]).core (by simp [State.calPass])

theorem calFailLane (h : s.Keeps t) (n : Nat) : s.Keeps (t.calFailLane n) := (h.core (by simp)).mainFault ..

theorem calJudge (m : List Meas) {p : Bool × State} (h : s.Keeps p.2) (n : Nat) :
    s.Keeps (State.calJudge m p n).2 := by
  unfold State.calJudge
  dsimp only
  split
  · exact Keeps.calPass (h.core (by simp)) ..
  · exact Keeps.calFailLane (h.core (by simp)) ..

theorem roundApply (h : s.Keeps t) : s.Keeps t.roundApply := by
  unfold State.roundApply
  split
  case h_2 => exact h
  case h_1 r _ =>
    split
    · have hp : s.Keeps _ := .foldl r.held (fun u f => (Keeps.refl u).calPass f.1 f.2.1 f.2.2) h
      have hf : s.Keeps _ := .foldl r.failed (fun u n => (Keeps.refl u).calFailLane n) hp
      exact hf.core (by simp)
    · exact h

/-! ### Sensing frames -/

theorem readTables (h : s.Keeps t) : s.Keeps t.readTables :=
  .foldl _ (fun u e => ((Keeps.refl u).readErr e.mem e.addr).snap (by simp) (fun _ hw => tabWf_memWrite _ _ _ (by simpa using hw))) h

theorem frameStart (h : s.Keeps t) : s.Keeps t.frameStart := by
  refine Keeps.oweFrame (Keeps.readTables (Keeps.snapNow ?_))
  refine h.roundApply.snap ?_ (fun ht _ => ?_)
  · simp
  · simpa [State.snapNow] using ht

end State.Keeps

end Sys2Proof.Machine
end

section
namespace Sys2Proof.Machine

@[simp] theorem State.faultEvent_fits {s : State} (e : FaultEvent) (h : s.queue.fits = true) :
    (s.faultEvent e).queue.fits = true := by
  unfold State.faultEvent
  dsimp only
  split <;> simp [State.recordFault, h]

namespace State.Keeps

variable {s t : State}

/-- A further operation that owes some of the frames owed before. -/
theorem owed (h : s.Keeps t) {u : State} (hu : u.SameCore { t with cald := { t.cald with owed := u.cald.owed } })
    (ho : ∀ o ∈ u.cald.owed, o ∈ t.cald.owed) : s.Keeps u := by
  refine Keeps.core (t := { t with cald := { t.cald with owed := u.cald.owed } }) ?_ hu
  exact h.next ⟨rfl, rfl⟩ id (fun hm => ⟨hm.1, hm.2, hm.3, fun o hmem => hm.owed o (ho o hmem), hm.5, hm.6, hm.7⟩)

theorem fetchEntry (h : s.Keeps t) (e : Nat) : s.Keeps (t.fetchEntry e).2.2 :=
  foldl_keeps (fun p : List Word × Bool × State => s.Keeps p.2.2) (List.range 4) _ _ (fun _ _ hp => hp.readErr ..) h

theorem entryStart (h : s.Keeps t) (anchor : Bool) : s.Keeps (t.entryStart anchor) :=
  (h.fetchEntry t.seq.entry).core (by simp [State.entryStart, State.markInvalid, State.setOrder])

theorem releaseCut (h : s.Keeps t) : s.Keeps t.releaseCut := by
  unfold State.releaseCut
  split
  · exact h.owed (by simp) (fun o ho => List.mem_of_mem_filter ho)
  · exact h

theorem cutFrame (h : s.Keeps t) : s.Keeps t.cutFrame := by
  unfold State.cutFrame
  split
  · exact h.releaseCut.core (by simp)
  · exact h

theorem resetSeq (h : s.Keeps t) : s.Keeps t.resetSeq := by
  unfold State.resetSeq
  have hd : s.Keeps { t with seq := { t.seq with due := false } } := h.core (by simp)
  exact .ite (hd.setFlag Reg.FUNC_RESET 2 true).cutFrame hd

/-! ### Rows -/

theorem laneFails (h : s.Keeps t) (r : EntryRun) (n : Nat) : s.Keeps (t.laneFails r n) := by
  refine h.queue (by simp) (fun hf => ?_)
  simp only [State.laneFails]
  repeat' split
  all_goals simp [hf]

theorem internalCheck (h : s.Keeps t) (r : EntryRun) : s.Keeps (t.internalCheck r) := by
  unfold State.internalCheck
  split
  · exact .foldl _ (fun u n => (Keeps.refl u).laneFails r n) (h.core (by simp))
  · exact h

theorem putRow (h : s.Keeps t) (r : EntryRun) (overrun : Bool) : s.Keeps (t.putRow r overrun) := by
  exact (h.internalCheck r).tables (by simp [State.putRow]) (by simp +contextual [State.putRow])

theorem rowWrite (h : s.Keeps t) (r : EntryRun) (rest : List EntryRun) (overrun : Bool) :
    s.Keeps (t.rowWrite r rest overrun) :=
  (Keeps.putRow (h.core (raceMark_core t r.idx)) r overrun).core (by simp [State.rowWrite, State.rowForget])

theorem detDone (h : s.Keeps t) (k : Fin 4) : s.Keeps (t.detDone k) := by
  exact h.tables (by simp) (by simp +contextual [State.detDone])

/-! ### The close of a Caldera frame -/

theorem abandonFrame (h : s.Keeps t) : s.Keeps t.abandonFrame := h.abandonQueue.core (by simp [State.abandonFrame])

theorem commitFrame (h : s.Keeps t) : s.Keeps t.commitFrame := by
  have hc : s.Keeps { t.commitQueue with lib := t.commitQueue.lib.commit t.commitQueue.seq.fc } :=
    h.commitQueue.core (by simp)
  have hr : s.Keeps _ := .foldl t.commitQueue.cald.ring
    (fun u e => ((Keeps.refl u).core (raceMark_core u (384 + u.ring.wr.toNat))).ringWrite e) hc
  exact hr.core (by simp [State.commitFrame])

theorem afterMismatch (h : s.Keeps t) : s.Keeps t.afterMismatch := by
  unfold State.afterMismatch
  split
  · exact Keeps.faultEvent (h.core (beginTakeover_core ..)) _
  · exact h.core (by simp)

theorem afterStalls (h : s.Keeps t) (stalls : List CellId) : s.Keeps (t.afterStalls stalls) := by
  refine h.queue (by simp) (fun hf => ?_)
  simp only [State.afterStalls]
  repeat' split
  all_goals simp [hf]

theorem afterClose (h : s.Keeps t) : s.Keeps t.afterClose := h.drainInserted.core (by simp [State.afterClose, State.dueAtClose])

theorem frameOver (h : s.Keeps t) : s.Keeps t.frameOver := h.core (frameOver_core t)

theorem closeFrame (h : s.Keeps t) : s.Keeps t.closeFrame := by
  have hc : s.Keeps (if t.cald.discard then t.abandonFrame.incFld Reg.SCHED_STAT 5 5 else t.commitFrame) :=
    .ite (h.abandonFrame.core (by simp)) h.commitFrame
  exact ((hc.frameOver.afterMismatch).afterStalls _).afterClose

theorem deadline (h : s.Keeps t) : s.Keeps t.deadline := by
  refine Keeps.afterClose (Keeps.afterStalls (Keeps.afterMismatch ?_) _)
  exact h.abandonFrame.core (by simp)

theorem takeOver (h : s.Keeps t) : s.Keeps t.takeOver := by
  unfold State.takeOver
  split
  · exact Keeps.insertRec (h.core (by simp)) _
  · exact h

theorem scrubFound (h : s.Keeps t) : s.Keeps t.scrubFound := by
  unfold State.scrubFound
  split
  · exact .foldl _ (fun u e => (Keeps.refl u).scrubRewrite e) h
  · exact h

/-- A frame that the Caldera owes opens over the snapshot that it is owed. -/
theorem openFrame (h : s.Keeps t) {o : Owed} {rest : List Owed} (ho : t.cald.owed = o :: rest) :
    s.Keeps (t.openFrame o rest) := by
  have hd : s.Keeps t.servoOpen.takeOver.scrubFound.drainInserted :=
    (((h.core (by simp [State.servoOpen])).takeOver).scrubFound).drainInserted
  refine hd.next (by simp [State.openFrame, State.libOpen]) (fun hs => ?_) (fun hm => ?_)
  · simpa [State.Sized, State.openFrame, State.libOpen] using hs
  · have hr : t.servoOpen.takeOver.scrubFound.drainInserted.cald.owed = o :: rest := by
      simp [State.servoOpen, State.scrubFound, ho]
    obtain ⟨ht, hw, -, how, hf, hi, hd⟩ := hm
    rw [hr] at how
    constructor
    · simpa [State.openFrame, State.libOpen] using ht
    · simpa [State.openFrame, State.libOpen] using hw
    · exact how o List.mem_cons_self
    · exact fun p hp => how p (List.mem_cons_of_mem o hp)
    · simpa [State.openFrame, State.libOpen] using hf
    · simpa [State.openFrame, State.libOpen] using hi
    · simpa [State.openFrame, State.libOpen] using hd

theorem firstFrame (h : s.Keeps t) : s.Keeps t.firstFrame := by
  unfold State.firstFrame
  repeat' split
  · exact h
  · exact h.core (by simp)
  · exact h.frameStart

theorem schedStart (h : s.Keeps t) (sub : Nat) (w : Word) : s.Keeps (t.schedStart sub w) :=
  Keeps.firstFrame (Keeps.drainInserted (Keeps.insertRec (h.sigCheck.core (by simp)) _))

theorem settle (h : s.Keeps t) (u : State) : s.Keeps (u.settle t) := h.core (settle_core u t)

theorem commitDone (h : s.Keeps t) : s.Keeps t.commitDone := by
  unfold State.commitDone
  dsimp only
  split
  · exact (Keeps.schedStart ((h.takeOver.installImage t.loadBuffer).core (by simp)) ..).settle t
  · exact h.core (by simp)

theorem schedAbort (h : s.Keeps t) : s.Keeps t.schedAbort := by
  unfold State.schedAbort
  dsimp only
  repeat' split
  · exact (Keeps.schedStart (h.takeOver.core (by simp)) ..).settle t
  · exact h.core (by simp)
  · exact h

/-! ### Functions -/

theorem resetCaldera (h : s.Keeps t) : s.Keeps t.resetCaldera := by
  have ha : s.Keeps t.abandonNow := by
    unfold State.abandonNow
    split
    · exact h.abandonFrame.core (by simp)
    · exact h
  exact Keeps.afterClose (Keeps.insertRec (ha.core (by simp)) _)

theorem resetQueue (h : s.Keeps t) : s.Keeps t.resetQueue := h.queue (by simp [State.resetQueue]) resetQueue_fits

theorem queueReset (h : s.Keeps t) : s.Keeps t.queueReset := (h.resetQueue.setFlag ..).drainInserted

theorem resetQueueFn (h : s.Keeps t) : s.Keeps t.resetQueueFn := .ite (h.setFlag ..) (h.queueReset.settle t)

theorem enCaldera (h : s.Keeps t) (on : Bool) : s.Keeps (t.enCaldera on) := by
  unfold State.enCaldera
  have hf := h.setFlag Reg.FUNC_EN 3 on
  exact .ite hf (hf.dropOwed.core (quiesceCheck_core _))

/-! ### Sleep -/

theorem hsRefuse (h : s.Keeps t) (block reason : Nat) : s.Keeps (t.hsRefuse block reason) := by
  refine h.queue (by simp) (fun hf => ?_)
  simp only [State.hsRefuse, State.restartBlocks]
  repeat' split
  all_goals simp [hf]

theorem stopBlock (h : s.Keeps t) (block : Nat) : s.Keeps (t.stopBlock block) := by
  unfold State.stopBlock
  split
  · exact h.queue (by simp) id
  · exact h.dropOwed
  · exact h.cutFrame.core (by simp)
  · exact h.core (by simp)
  · exact h.core (by simp [State.groundLanes])
  · exact h

theorem hsAnswer (h : s.Keeps t) (hs : Handshake) : s.Keeps (t.hsAnswer hs) := by
  unfold State.hsAnswer
  repeat' split
  · exact h
  · exact h.hsRefuse ..
  · exact (h.stopBlock hs.block).core (by simp [State.hsAgree])

theorem hsAskAgain (h : s.Keeps t) (hs : Handshake) : s.Keeps (t.hsAskAgain hs) := by
  unfold State.hsAskAgain
  repeat' split
  · exact h.hsRefuse ..
  · exact h.core (by simp)
  · exact h.hsAnswer hs

theorem sleepAsk (h : s.Keeps t) : s.Keeps t.sleepAsk := by
  unfold State.sleepAsk
  dsimp only
  repeat' split
  · exact Keeps.hsRefuse (h.core (by simp)) ..
  · exact Keeps.hsRefuse (h.core (by simp)) ..
  · exact h.core (by simp)
  · exact h

theorem zeroScan (h : s.Keeps t) (k : Nat) (rs : List BusScan) : s.Keeps (t.zeroScan k rs) :=
  .foldl _ (fun u i => (Keeps.refl u).aonFault 11 2 (word i) 1) (h.core (by simp))

/-! ### Wake and boot -/

theorem wakeFrame (h : s.Keeps t) : s.Keeps t.wakeFrame := by
  have hp : s.Keeps { t with seq := { t.seq with
      noWait := t.flag Reg.WAKE_SRC 15, pins := Vector.replicate 160 .ground } } := h.core (by simp)
  unfold State.wakeFrame
  dsimp only
  split
  · exact hp.frameStart.core (by simp)
  · exact hp

theorem wakeAfresh (h : s.Keeps t) : s.Keeps t.wakeAfresh :=
  h.queue (by simp [State.wakeAfresh]) (by simp [State.wakeAfresh])

theorem nvmRelease (h : s.Keeps t) : s.Keeps t.nvmRelease := h.core (by simp)

theorem wakeDone (h : s.Keeps t) : s.Keeps t.wakeDone := by
  have hp : s.Keeps { t with pwr := { t.pwr with
    ready := true, step := 0, pstate := .active, hs := none, retried := false } } := h.core (by simp)
  exact Keeps.wakeFrame (Keeps.drainInserted (Keeps.nvmRelease (Keeps.recordLater (hp.wakeAfresh.core (by simp)))))

theorem calLoad (h : s.Keeps t) : s.Keeps t.calLoad := by
  refine h.tables (by simp) (fun ht => ?_)
  unfold State.calLoad
  split <;> simp [ht]

theorem bootFinish (h : s.Keeps t) : s.Keeps t.bootFinish := by
  refine Keeps.core (Keeps.firstFrame (Keeps.drainInserted (Keeps.recordLater (Keeps.drainInserted
    (Keeps.insertRec ?_ _))))) (dueIfStopped_core _)
  exact h.core (by simp)

theorem bootCal (h : s.Keeps t) : s.Keeps t.bootCal := by
  unfold State.bootCal
  dsimp only
  have hf : s.Keeps (if t.sched.valid then t else t.setFld Reg.SYS_STAT 5 2 3) := .ite h (h.setFld ..)
  exact .ite (hf.calLoad.snap (by simp) (fun ht _ => by simpa [State.snapNow] using ht))
    (Keeps.bootFinish (Keeps.snapNow (hf.calLoad.core (by simp))))

theorem bootGoertzel (h : s.Keeps t) (img : List Byte) : s.Keeps (t.bootGoertzel img) :=
  .foldl _ (fun u _ => (Keeps.refl u).setTabs ..) h

theorem bootSlot (h : s.Keeps t) (b : Bool) : s.Keeps (t.bootSlot b) := by
  unfold State.bootSlot
  dsimp only
  split
  · exact Keeps.sigCheck (Keeps.bootGoertzel ((h.installImage (t.slotImage b.toNat)).core (by simp)) _)
  · exact h.setFld ..

theorem bootStream (h : s.Keeps t) : s.Keeps t.bootStream := by
  unfold State.bootStream
  dsimp only
  split
  case h_1 b rest _ =>
    have hb : s.Keeps { t.bootSlot b with pwr := { (t.bootSlot b).pwr with slots := rest } } :=
      (h.bootSlot b).core (by simp)
    exact .ite hb.bootCal hb
  case h_2 => exact h.bootCal

theorem bootInit (h : s.Keeps t) : s.Keeps t.bootInit := by
  unfold State.bootInit
  dsimp only
  split
  · exact Keeps.bootCal (h.core (by simp))
  · exact h.core (by simp)

theorem fioReady (h : s.Keeps t) : s.Keeps t.fioReady := by
  unfold State.fioReady
  dsimp only
  split
  · exact Keeps.bootInit (h.core (by simp))
  · exact h.core (by simp)

theorem fioEvent (h : s.Keeps t) (why : Word) : s.Keeps (t.fioEvent why) := h.mainFault ..

theorem wakeOnFio2 (h : s.Keeps t) : s.Keeps t.wakeOnFio2 :=
  Keeps.fioReady (Keeps.fioEvent (h.core (by simp)) _)

theorem calEnd (h : s.Keeps t) (m : List Meas) : s.Keeps (t.calEnd m) := by
  unfold State.calEnd
  dsimp only
  have hj : s.Keeps ((List.range 164).foldl (State.calJudge m) (false, t)).2 :=
    .snd_foldl (List.range 164) (fun p n => (Keeps.refl p.2).calJudge m n) h
  repeat' split
  · exact Keeps.bootFinish (Keeps.settle (hj.core (by simp)) t)
  · exact Keeps.frameStart (Keeps.settle (hj.core (by simp)) t)
  · exact Keeps.settle (hj.core (by simp)) t

theorem secondStall (h : s.Keeps t) (c : CellId) : s.Keeps (t.secondStall c) := h.mainFault ..

end State.Keeps

end Sys2Proof.Machine
end

section
namespace Sys2Proof.Machine

namespace State.Keeps

variable {s t : State}

/-! ### Resets -/

theorem reset_sized : State.reset.Sized := by
  unfold State.Sized
  decide

theorem flashCut (h : s.Keeps t) : s.Keeps t.flashCut := by
  obtain ⟨f, k, hfk⟩ := t.flashCut_frame
  refine h.flash ?_ (flashCut_flashWf t)
  simp [hfk]

/-- A reset keeps the OTP memory, the commands that wait and the flash, and empties every other memory. -/
theorem rebooted (h : s.Keeps t) (cause : Nat) (hsel hsdo : Bool) : s.Keeps (t.rebooted cause hsel hsdo) := by
  refine h.flashCut.next (by simp) (fun _ => reset_sized) (fun hm => ?_)
  exact ⟨rfl, rfl, rfl, fun o ho => absurd ho List.not_mem_nil, hm.flash, rfl, rfl⟩

theorem systemReset (h : s.Keeps t) (st : Straps) : s.Keeps (t.systemReset st) := h.rebooted ..

theorem mainReset (h : s.Keeps t) : s.Keeps t.mainReset :=
  (h.rebooted 4 t.aon.hsel t.aon.hsdo).core (by simp [State.mainReset, State.rebooted, State.secBooted])

theorem sysReset (h : s.Keeps t) (v : Word) (st : Straps) : s.Keeps (t.sysReset v st) := .ite (h.systemReset st) h

theorem sysResetFree (h : s.Keeps t) (v : Word) : s.Keeps (t.sysResetFree v) :=
  .ite (Keeps.systemReset (h.core (by simp)) _) h

theorem supplyFault (h : s.Keeps t) (p : Supply) : s.Keeps (t.supplyFault p) := by
  unfold State.supplyFault
  exact Keeps.faultEvent (h.mainReset.core (by simp)) _

/-! ### Registers -/

theorem readReg (h : s.Keeps t) (a : Nat) : s.Keeps (t.readReg a).2 := by
  unfold State.readReg
  split
  · exact h.core (by simp [State.readTimeH])
  · exact h.core (by simp [State.readTimeL])
  · exact h.core (by simp [State.readCalH])
  · exact h.core (by simp [State.readCalL])
  · exact h.readRptData
  · exact h.winRead
  · exact h.core (by simp)
  · split <;> exact h

theorem onBit (h : s.Keeps t) (v : Word) (b : Nat) {f : State → State} (hf : ∀ u : State, u.Keeps (f u)) :
    s.Keeps (onBit v b f t) :=
  .ite (h.trans (hf t)) h

theorem applyAll (h : s.Keeps t) (l : List (State → State)) (hl : ∀ f ∈ l, ∀ u : State, u.Keeps (f u)) :
    s.Keeps (applyAll l t) := by
  induction l generalizing t with
  | nil => exact h
  | cons f l ih => exact ih (h.trans (hl f List.mem_cons_self t)) (fun g hg => hl g (List.mem_cons_of_mem f hg))

theorem writeSleepCtl (h : s.Keeps t) (v : Word) : s.Keeps (t.writeSleepCtl v) := by
  have hr := (h.core (plainWrite_core t Reg.SLEEP_CTL v)).onBit v 15 (fun u => (Keeps.refl u).core (sleepReq_core u))
  exact (hr.onBit v 14 (fun u => (Keeps.refl u).sleepAsk)).core (dueIfStopped_core _)

theorem writeFuncReset (h : s.Keeps t) (v : Word) : s.Keeps (t.writeFuncReset v) := by
  refine h.applyAll _ (fun f hf u => ?_)
  simp only [List.mem_cons, List.not_mem_nil, or_false] at hf
  obtain rfl | rfl | rfl | rfl | rfl | rfl | rfl | rfl | rfl | rfl | rfl := hf
  case inr.inr.inl => exact (Keeps.refl u).onBit v 2 (fun u => (Keeps.refl u).resetSeq)
  case inr.inr.inr.inl => exact (Keeps.refl u).onBit v 3 (fun u => (Keeps.refl u).resetCaldera)
  case inr.inr.inr.inr.inr.inl => exact (Keeps.refl u).onBit v 5 (fun u => (Keeps.refl u).resetQueueFn)
  case inr.inr.inr.inr.inr.inr.inl => exact (Keeps.refl u).onBit v 6 (fun u => (Keeps.refl u).resetRing)
  all_goals exact (Keeps.refl u).onBit v _ (fun u => (Keeps.refl u).core (by simp))

theorem writeFuncEn (h : s.Keeps t) (v : Word) : s.Keeps (t.writeFuncEn v) := by
  refine h.applyAll _ (fun f hf u => ?_)
  simp only [List.mem_cons, List.not_mem_nil, or_false] at hf
  obtain rfl | rfl | rfl | rfl | rfl | rfl | rfl | rfl | rfl | rfl := hf
  case inr.inr.inr.inl => exact (Keeps.refl u).enCaldera _
  all_goals exact (Keeps.refl u).core (by simp)

theorem writeSchedCtl (h : s.Keeps t) (v : Word) : s.Keeps (t.writeSchedCtl v) := by
  refine Keeps.applyAll (h.core (plainWrite_core ..)) _ (fun f hf u => ?_)
  simp only [List.mem_cons, List.not_mem_nil, or_false] at hf
  obtain rfl | rfl | rfl := hf
  · exact (Keeps.refl u).onBit v 15 (fun u => (Keeps.refl u).core (by simp))
  · exact (Keeps.refl u).onBit v 14 (fun u => (Keeps.refl u).core (by simp))
  · exact (Keeps.refl u).onBit v 13 (fun u => (Keeps.refl u).schedAbort)

theorem writeRptCtl (h : s.Keeps t) (v : Word) : s.Keeps (t.writeRptCtl v) := by
  have hf := (h.core (plainWrite_core t Reg.RPT_CTL v)).onBit v 15 (fun u => (Keeps.refl u).flushQueue)
  exact (hf.onBit v 14 (fun u => (Keeps.refl u).core (by simp))).settle t

theorem writeRingCtl (h : s.Keeps t) (v : Word) : s.Keeps (t.writeRingCtl v) := by
  refine Keeps.applyAll (h.core (plainWrite_core ..)) _ (fun f hf u => ?_)
  simp only [List.mem_cons, List.not_mem_nil, or_false] at hf
  obtain rfl | rfl | rfl := hf
  · exact (Keeps.refl u).onBit v 14 (fun u => (Keeps.refl u).ringMark)
  · exact (Keeps.refl u).onBit v 13 (fun u => (Keeps.refl u).ringRewind)
  · exact (Keeps.refl u).onBit v 12 (fun u => (Keeps.refl u).ringClear)

theorem commitReg (h : s.Keeps t) (a : Nat) (v : Word) : s.Keeps (t.commitReg a v) := by
  unfold State.commitReg
  split
  case h_1 => exact h.writeSleepCtl v
  case h_5 => exact h.sysResetFree v
  case h_6 => exact h.writeFuncReset v
  case h_7 => exact h.writeFuncEn v
  case h_9 => exact h.writeSchedCtl v
  case h_13 => exact h.writeRptCtl v
  case h_14 => exact h.writeRingCtl v
  case h_15 => exact h.ringSetRd v
  case h_17 => exact h.winWrite v
  case h_22 => split <;> exact h.core (by simp)
  all_goals exact h.core (by simp)

/-! ### Transactions -/

theorem clocked (h : s.Keeps t) : s.Keeps t.clocked := Keeps.queueSync (h.core (quiet_core t))

theorem txnOver (h : s.Keeps t) : s.Keeps t.txnOver := by
  have ho : s.Keeps { t.pinTransients with
      port := { t.pinTransients.port with txn := none, stretch := none },
      queue := { t.pinTransients.queue with stream := .off } } :=
    h.queue (by simp) (fun hf => by simpa using hf)
  exact .ite (.ite (ho.queueReset.settle _) ho) h

theorem txnEnd (h : s.Keeps t) : s.Keeps t.txnEnd := .ite (h.txnOver.core (hostReset_core _)) h.txnOver

theorem portWord (h : s.Keeps t) (x : Txn) : s.Keeps (t.portWord x).2 := by
  unfold State.portWord
  split
  · exact h.readReg _
  · exact h.winRead
  · exact h.streamWord
  · exact h.core (by simp)

theorem touchMain (h : s.Keeps t) : s.Keeps t.touchMain := h.core (touchMain_core t)
theorem txnSelect (h : s.Keeps t) : s.Keeps t.txnSelect := h.core (txnSelect_core t)
theorem onTxn (h : s.Keeps t) (f : Txn → Txn) : s.Keeps (t.onTxn f) := h.core (onTxn_core t f)
theorem drives (h : s.Keeps t) (l : List Byte) : s.Keeps (t.drives l) := h.core (drives_core t l)
theorem wordOut (h : s.Keeps t) (x : Txn) (w : Word) : s.Keeps (t.wordOut x w).2 := h.onTxn _
theorem i2cHold (h : s.Keeps t) (st : Stretch) : s.Keeps (t.i2cHold st) := h.core (i2cHold_core t st)

theorem capture (h : s.Keeps t) (x : Txn) : s.Keeps (t.capture x).2 :=
  Keeps.onTxn (Keeps.queueSync (Keeps.portWord (Keeps.txnSelect (.ite h.touchMain h)) x)) _

theorem commitWord (h : s.Keeps t) (x : Txn) (v : Word) : s.Keeps (t.commitWord x v) := by
  refine Keeps.onTxn (Keeps.queueSync ?_) _
  have ht : s.Keeps (if x.needsMain then t.touchMain else t) := .ite h.touchMain h
  split
  · exact ht.commitReg _ v
  · exact ht.winWrite v
  · exact ht

theorem takeWire (h : s.Keeps t) (x : Txn) (w : WireWord) {f : State → Txn → Word → State}
    (hf : ∀ (u : State) (y : Txn) (v : Word), u.Keeps (f u y v)) : s.Keeps (t.takeWire x w f) := by
  unfold State.takeWire
  dsimp only
  repeat' split
  · exact Keeps.trans (h.txnSelect.onTxn _) (hf ..)
  · exact h.core (by simp)
  · exact h.txnSelect.onTxn _
  · exact Keeps.trans (h.txnSelect.onTxn _) (hf ..)

theorem spiCapture (h : s.Keeps t) (x : Txn) : s.Keeps (t.spiCapture x).2 := by
  unfold State.spiCapture
  split
  · exact h.core (by simp)
  · exact h.capture x

theorem spiRead (h : s.Keeps t) (n : Nat) : s.Keeps (State.spiRead n t).2 := by
  induction n generalizing t with
  | zero => exact h
  | succ n ih =>
    unfold State.spiRead
    split
    · exact h
    · dsimp only
      split
      · exact ih h
      · exact ih ((h.spiCapture _).wordOut ..)

theorem spiCommit (h : s.Keeps t) (x : Txn) (v : Word) : s.Keeps (t.spiCommit x v) := by
  unfold State.spiCommit
  split
  · exact h.core (by simp)
  · exact h.commitWord x v

theorem spiWrite (h : s.Keeps t) (ws : List WireWord) : s.Keeps (t.spiWrite ws) := by
  refine .foldl ws (fun u w => ?_) h
  repeat' split
  · exact .refl u
  · exact (Keeps.refl u).takeWire _ w (fun u y v => (Keeps.refl u).spiCommit y v)
  · exact .refl u

theorem spiMore (h : s.Keeps t) (ws : List WireWord) (n : Nat) : s.Keeps (t.spiMore ws n) := by
  unfold State.spiMore
  split
  · exact h
  · exact .ite ((h.spiRead n).drives _) ((h.spiWrite ws).drives _)

theorem spiServe (h : s.Keeps t) (crcOn : Bool) (n : Nat) : s.Keeps (t.spiServe crcOn n) :=
  Keeps.drives (Keeps.spiRead ((h.core (status_core t t 4)).onTxn _) n) _

theorem spiDead (h : s.Keeps t) (u : State) (rd crcOn : Bool) (resp n : Nat) : s.Keeps (u.spiDead t rd crcOn resp n) :=
  h.core (by simp)

theorem spiGo (h : s.Keeps t) (rd : Bool) (kind : Nat) (addr : Byte) (crcOn : Bool) (ws : List WireWord) (n : Nat) :
    s.Keeps (t.spiGo rd kind addr crcOn ws n) := by
  unfold State.spiGo
  dsimp only
  have ht : s.Keeps (if firstNeedsMain rd kind addr then t.touchMain else t) := .ite h.touchMain h
  exact .ite (.ite (Keeps.spiDead (ht.core (hostErr_core ..)) ..) (ht.txnSelect.spiServe ..))
    ((ht.txnSelect.spiWrite ws).drives _)

theorem spiStart (h : s.Keeps t) (rd : Bool) (kind : Nat) (hd : SpiHeader) (ws : List WireWord) (n : Nat) :
    s.Keeps (t.spiStart rd kind hd ws n) := by
  have ho (a b : Nat) (r d e : Bool) : s.Keeps (t.txnEnd.txnOpen r a b d e) := h.txnEnd.core (txnOpen_core ..)
  refine .ite (Keeps.spiDead ((ho ..).core (crcErr_core _)) ..) (.ite (Keeps.spiDead ((ho ..).core (hostErr_core ..)) ..) ?_)
  exact (ho ..).spiGo ..

theorem inSpi (h : s.Keeps t) {f : State → State} (hf : ∀ u : State, u.Keeps (f u)) : s.Keeps (t.inSpi f) :=
  .ite ((h.core (quiet_core t)).trans (hf _)) h

theorem inI2c (h : s.Keeps t) {f : State → State} (hf : ∀ u : State, u.Keeps (f u)) : s.Keeps (t.inI2c f) :=
  .ite ((h.core (quiet_core t)).trans (hf _)) h

theorem inMain (h : s.Keeps t) {f : State → State} (hf : ∀ u : State, u.Keeps (f u)) : s.Keeps (t.inMain f) :=
  .ite (h.trans (hf _)) h

theorem spiRow (h : s.Keeps t) (rd : Bool) (kind : Nat) (hd : Option SpiHeader) (ws : List WireWord) (n : Nat) :
    s.Keeps (t.spiRow rd kind hd ws n) := by
  refine h.inSpi (fun u => ?_)
  cases hd with
  | none => exact (Keeps.refl u).spiMore ws n
  | some hd => exact (Keeps.refl u).clocked.spiStart rd kind hd ws n

/-! ### I2C -/

theorem i2cCapture (h : s.Keeps t) (x : Txn) : s.Keeps (t.i2cCapture x).2 := by
  unfold State.i2cCapture
  split
  · exact h
  · split
    · exact h.core (by simp)
    · exact .ite ((h.capture x).core (by simp)) (h.capture x)

theorem i2cRead (h : s.Keeps t) (n : Nat) : s.Keeps (State.i2cRead n t).2 := by
  induction n generalizing t with
  | zero => exact h
  | succ n ih =>
    unfold State.i2cRead
    dsimp only
    repeat' split
    · exact h
    · exact h.i2cHold _
    · exact ih ((h.i2cHold _).wordOut ..)
    · exact h.queue (by simp) id
    · exact ih ((h.i2cCapture _).wordOut ..)

theorem i2cWrite (h : s.Keeps t) (ws : List WireWord) : s.Keeps (t.i2cWrite ws) := by
  induction ws generalizing t with
  | nil => exact h
  | cons w ws ih =>
    unfold State.i2cWrite
    repeat' split
    · exact h
    · exact h
    · exact h.core (by simp)
    · exact h.i2cHold _
    · exact ih (h.takeWire _ w (fun u y v => (Keeps.refl u).commitWord y v))

theorem i2cStart (h : s.Keeps t) (rd : Bool) (a : Byte) {f : State → State} (hf : ∀ u : State, u.Keeps (f u)) :
    s.Keeps (t.i2cStart rd a f) :=
  .ite (h.txnOver.clocked.trans (hf _)) (h.txnOver.clocked.core (by simp))

theorem i2cMore (h : s.Keeps t) (n : Nat) : s.Keeps (t.i2cMore n) := by
  unfold State.i2cMore
  repeat' split
  · exact (h.i2cRead n).drives _
  · exact h
  · exact h

theorem i2cReads (h : s.Keeps t) (n : Nat) : s.Keeps (t.i2cReads n) := by
  unfold State.i2cReads
  have ho (a b : Nat) (c : Bool) : s.Keeps (t.txnOpen true a b c false) := h.core (txnOpen_core ..)
  exact Keeps.i2cMore (.ite ((ho ..).core (hostErr_core ..)) (ho ..).txnSelect) n

theorem streamOn (h : s.Keeps t) (n : Nat) : s.Keeps (t.streamOn n) := by
  unfold State.streamOn
  dsimp only
  split
  · exact (h.i2cRead n).drives _
  · exact (h.spiRead n).drives _

theorem i2cEnds (h : s.Keeps t) (e : I2cEnd) : s.Keeps (t.i2cEnds e) := by
  have ho : s.Keeps (if e.odd then t.i2cOdd else t) := .ite (h.core (i2cOdd_core t)) h
  exact .ite ho.txnEnd ho.txnOver

theorem stretchOver (h : s.Keeps t) (st : Stretch) : s.Keeps (t.stretchOver st) := by
  have hn : s.Keeps ({ t with port := { t.port with stretch := none } } : State).txnSelect :=
    Keeps.txnSelect (h.core (by simp))
  unfold State.stretchOver
  cases st with
  | read n => exact (hn.i2cRead n).drives _
  | write ws => exact hn.i2cWrite ws
  | ends e => exact hn.i2cEnds e

/-! ### The TAP -/

theorem apart (h : s.Keeps t) {f : State → Word × State} (hf : ∀ u : State, u.Keeps (f u).2) : s.Keeps (t.apart f).2 := by
  have hn : s.Keeps { t with port := { t.port with txn := none } } := h.core (by simp)
  exact (hn.trans (hf _)).core (by simp [State.apart])

theorem dbgNoData (h : s.Keeps t) (code : Nat) : s.Keeps (t.dbgNoData code) := h.core (dbgNoData_core t code)

theorem dbgAccess (h : s.Keeps t) (dr : BitVec 40) : s.Keeps (t.dbgAccess dr) := by
  unfold State.dbgAccess
  refine .ite (h.dbgNoData 2) (.ite (h.dbgNoData 4) (.ite ?_ ?_))
  · have hr (u : State) :
        u.Keeps (if dr.getLsbD 38 then u.winRead else u.readReg (dr.toNat / 2 ^ 31 % 128)).2 := by
      split
      · exact (Keeps.refl u).winRead
      · exact (Keeps.refl u).readReg _
    exact (h.apart hr).core (by simp)
  · exact Keeps.dbgNoData (.ite (h.winWrite _) (h.commitReg ..)) 1

end State.Keeps

end Sys2Proof.Machine
end

section
namespace Sys2Proof.Machine

@[simp] theorem State.elecJudge_fits {s : State} (p other slot code : Nat) (bad : Bool) (h : s.queue.fits = true) :
    (s.elecJudge p other slot code bad).queue.fits = true := by
  unfold State.elecJudge State.elecFault
  dsimp only
  repeat' split
  all_goals simp [State.mainFault, h]

@[simp] theorem State.libElec_fits {s : State} (g : Grid) (h : s.queue.fits = true) : (s.libElec g).queue.fits = true := by
  have ha {t : State} (pins : List Nat) (line : Nat → Nat) (ht : t.queue.fits = true) :
      (t.elecAxis pins line).queue.fits = true := by
    unfold State.elecAxis
    dsimp only
    refine State.foldl_fits _ _ _ (fun u i hu => ?_) (State.foldl_fits _ _ _ (fun u p hu => ?_) ht)
    · repeat' split
      · exact hu
      · exact State.elecJudge_fits _ _ _ _ _ (State.elecJudge_fits _ _ _ _ _ hu)
      · exact hu
    · split
      · exact State.elecJudge_fits _ _ _ _ _ (State.elecJudge_fits _ _ _ _ _ hu)
      · exact hu
  unfold State.libElec
  split
  · exact ha _ _ (ha _ _ h)
  · exact h

namespace State.Keeps

variable {s t : State}

/-! ### The default library's frame and values out of a cell -/

theorem libLoad (h : s.Keeps t) : s.Keeps t.libLoad := by
  refine h.queue (by simp) (fun hf => ?_)
  simp [State.libLoad, State.libRestart, State.rebaseFrame, hf]

theorem libRead (h : s.Keeps t) : s.Keeps t.libRead := by
  have hd : s.Keeps (if t.libRows.all t.rowPasses then t else t.setDiscard) := .ite h (h.core (by simp))
  exact Keeps.core (Keeps.libLoad (.foldl _ (fun u (e : MemErr) => (Keeps.refl u).cellRead .result e.addr) hd))
    ⟨⟨rfl, rfl⟩, ⟨rfl, rfl, rfl, rfl, rfl, rfl, rfl⟩, rfl, rfl⟩

theorem emitRec (h : s.Keeps t) (c : CellId) (ws : List Word) : s.Keeps (t.emitRec c ws) :=
  Keeps.pushRec (h.core (by simp)) _

end State.Keeps
end Sys2Proof.Machine
end

section
/-! PROOFS. Every command and every step keeps them. -/

namespace Sys2Proof.Machine

namespace State.Keeps

variable {s t : State}

/-! ### The OTP memory, and the copy of a takeover -/

/-- Programming an OTP word takes no bit from 1 to 0. -/
theorem otpProgram (h : s.Keeps t) (a : Nat) (d : BitVec 32) : s.Keeps (t.otpProgram a d) := by
  refine h.trans ⟨by simp, fun w i hb => ?_, fun hs => ?_, fun hm => ?_⟩
  · unfold State.otpProgram
    split
    case isTrue ha =>
      simp only [State.otpWord, Vector.toList_set, List.getD_eq_getElem?_getD, List.getElem?_set] at hb ⊢
      by_cases hw : a = w
      · subst hw
        simp_all
      · simpa [hw] using hb
    case isFalse => exact hb
  · simpa [State.Sized] using hs
  · exact ⟨by simpa using hm.1, by simpa using hm.2, by simpa using hm.3, by simpa using hm.4, by simpa using hm.5,
      by simpa using hm.6, by simpa using hm.7⟩

theorem otpDr (h : s.Keeps t) (x : BitVec 40) : s.Keeps { t with sec := { t.sec with otpDr := x } } := h.core (by simp)

theorem otpUpdate (h : s.Keeps t) (op : BitVec 2) (a : BitVec 6) (d : BitVec 32) : s.Keeps (t.otpUpdate op a d) := by
  unfold State.otpUpdate
  split
  · exact .ite (h.core (otpBegin_core ..)) (h.otpDr _)
  · exact h.otpDr _
  · exact h

theorem otpShift (h : s.Keeps t) (dr : BitVec 40) : s.Keeps (t.otpShift dr) := by
  unfold State.otpShift
  exact Keeps.otpUpdate (h.core (tapIr_core ..)) ..

end State.Keeps

/-! ### Commands -/

/-- Any state that `o` goes on to keeps what `s` holds. -/
def keepsOn (s : State) (o : Host.Outcome State Fault Refusal) : Prop := ∀ t, o = .next t → s.Keeps t

theorem keepsOn_refused (s : State) (r : Refusal) : keepsOn s (.refused r) := fun _ hu => nomatch hu

theorem keepsOn_next {s t : State} (ht : s.Keeps t) : keepsOn s (.next t) := fun _ hu => by
  cases hu
  exact ht

theorem keepsOn_core {s t : State} (hc : t.SameCore s) : keepsOn s (.next t) := keepsOn_next ((State.Keeps.refl s).core hc)

/-- A meaning that refuses one kind of operand and answers a next state for every other. -/
theorem keepsOn_refused_or {s t : State} {c : Prop} [Decidable c] (r : Refusal) (ht : s.Keeps t) :
    keepsOn s (if c then .refused r else .next t) := by
  split
  · exact keepsOn_refused s r
  · exact keepsOn_next ht

/-- A meaning that acts under a guard. -/
theorem keepsOn_guarded {s t : State} {c : Prop} [Decidable c] (ht : s.Keeps t) : keepsOn s (.next (if c then t else s)) :=
  keepsOn_next (.ite ht (.refl s))

/-- A meaning that MAIN alone has. -/
theorem keepsOn_inMain {s : State} {f : State → State} (hf : ∀ u : State, u.Keeps (f u)) : keepsOn s (.next (s.inMain f)) :=
  keepsOn_next ((State.Keeps.refl s).inMain hf)

theorem keepsOn_inI2c {s : State} {f : State → State} (hf : ∀ u : State, u.Keeps (f u)) : keepsOn s (.next (s.inI2c f)) :=
  keepsOn_next ((State.Keeps.refl s).inI2c hf)

section Arms

variable (s : State)

/-! Resets. -/

theorem execPowerOnReset_keeps (e : SupplyEdge) (st : Straps) : keepsOn s (execPowerOnReset e st s) := by
  have h := State.Keeps.refl s
  refine keepsOn_next ?_
  cases e with
  | falls => exact (h.rebooted 0 false false).core (by simp)
  | rises => exact .ite (h.core (by simp)) h

theorem execVioLow_keeps : keepsOn s (execVioLow s) := by
  have h := State.Keeps.refl s
  exact keepsOn_next (.ite (h.core (by simp)) ((h.rebooted 2 s.aon.hsel s.aon.hsdo).core (by simp)))

theorem execRstNReset_keeps (lowNs : Nat) (st : Straps) : keepsOn s (execRstNReset lowNs st s) := by
  have h := State.Keeps.refl s
  have hd : s.Keeps s.drawBit.2 := h.core (by simp)
  exact keepsOn_next (.ite h (.ite (h.rebooted ..) (.ite (hd.rebooted ..) hd)))

theorem execFuseProgramDone_keeps (st : Straps) : keepsOn s (execFuseProgramDone st s) := by
  have h := State.Keeps.refl s
  refine keepsOn_next ?_
  split
  · exact (h.otpProgram ..).systemReset st
  · exact (h.otpProgram ..).systemReset st
  · exact (h.otpProgram ..).systemReset st
  · exact h

/-! Sensing frames. -/

theorem execDsyncEdge_keeps (e : SyncPulse) : keepsOn s (execDsyncEdge e s) := by
  have h := State.Keeps.refl s
  refine keepsOn_guarded ?_
  exact .ite (State.Keeps.entryStart (h.core (by simp)) true) (h.core (by simp))

theorem execFrameTimerExpiry_keeps : keepsOn s (execFrameTimerExpiry s) := by
  have h := State.Keeps.refl s
  exact keepsOn_next (.ite h (.ite (h.core (by simp)) (.ite (h.core (by simp)) h.frameStart)))

theorem execSlipFrameStart_keeps : keepsOn s (execSlipFrameStart s) := by
  have h := State.Keeps.refl s
  exact keepsOn_next (.ite h (.ite (h.core (by simp)) (h.setFlag ..).frameStart))

theorem execResamplerOutput_keeps (n : LaneId) : keepsOn s (execResamplerOutput n s) := by
  refine keepsOn_core ?_
  split <;> simp

theorem execRowWrite_keeps (racing : Bool) : keepsOn s (execRowWrite racing s) := by
  have h := State.Keeps.refl s
  refine keepsOn_next ?_
  split
  · exact .ite (State.Keeps.rowWrite (h.core (by simp)) ..) h
  · exact h

theorem execLaneCalDone_keeps (off gain : List Meas) : keepsOn s (execLaneCalDone off gain s) := by
  refine keepsOn_core ?_
  split <;> simp

theorem execDpllUnlock_keeps (c : UnlockCause) : keepsOn s (execDpllUnlock c s) := by
  refine keepsOn_core ?_
  cases c <;> simp

/-! Caldera. -/

theorem execCalderaFrameOpen_keeps : keepsOn s (execCalderaFrameOpen s) := by
  have h := State.Keeps.refl s
  refine keepsOn_next ?_
  split
  case h_1 o rest ho => exact .ite (h.openFrame ho) h
  case h_2 => exact h

theorem execFrameEnd_keeps (c : CellId) : keepsOn s (execFrameEnd c s) := by
  have hb : s.Keeps ((s.fetchErr c).cellBlock c .done) := ((State.Keeps.refl s).fetchErr c).core (by simp)
  exact keepsOn_guarded (.ite hb.closeFrame hb)

theorem execLd_keeps (c : CellId) (f : LdForm) : keepsOn s (execLd c f s) := by
  have h := State.Keeps.refl s
  refine keepsOn_next ?_
  cases f with
  | code p d b idx addr =>
    exact .ite (.ite (((h.fetchErr c).loadData c (effAddr ((s.fetchErr c).cell c) b idx addr)).core (by simp))
      ((h.fetchErr c).core (by simp))) h
  | library => exact .ite (.ite h.libRead (h.core (by simp))) h

theorem execSt_keeps (c : CellId) (p : Pred) (a b : XReg) (idx : Bool) (addr : BitVec 12) :
    keepsOn s (execSt c p a b idx addr s) :=
  keepsOn_next ((State.Keeps.refl s).cellAct c _ p (fun u =>
    State.Keeps.dmemWrite ((State.Keeps.refl u).core (by simp)) ..))

theorem execPub_keeps (c : CellId) (f : PubForm) : keepsOn s (execPub c f s) := by
  have h := State.Keeps.refl s
  refine keepsOn_next ?_
  cases f with
  | code p a imm => exact h.cellAct c _ p (fun u => (State.Keeps.refl u).core (by simp))
  | library => exact .ite (h.core (by simp)) h

theorem execVote_keeps (c : CellId) (f : VoteForm) : keepsOn s (execVote c f s) := by
  have h := State.Keeps.refl s
  refine keepsOn_next ?_
  cases f with
  | code p imm => exact h.cellAct c _ p (fun u => (State.Keeps.refl u).core (by simp))
  | library =>
    refine .ite ?_ h
    dsimp only
    split <;> exact h.core (by simp)

theorem execEmit_keeps (c : CellId) (f : EmitForm) : keepsOn s (execEmit c f s) := by
  have h := State.Keeps.refl s
  refine keepsOn_next ?_
  cases f with
  | code p addr => exact h.cellEmit c _ p (fun u => ((State.Keeps.refl u).loadWords c addr.toNat 8).emitRec ..)
  | library =>
    have hf : s.Keeps (s.libFrame s.fsn.grid) := h.core (by simp)
    have he : s.Keeps _ := .foldl ((s.libFrame s.fsn.grid).libRecords s.fsn.grid)
      (fun u r => (State.Keeps.refl u).emitRec c r.toList) hf
    exact .ite (he.core (by simp)) h

theorem execEring_keeps (c : CellId) (f : EmitForm) : keepsOn s (execEring c f s) := by
  have h := State.Keeps.refl s
  refine keepsOn_next ?_
  cases f with
  | code p addr =>
    exact h.cellEmit c _ p (fun u => ((State.Keeps.refl u).loadWords c addr.toNat 4).core (by simp))
  | library => exact .ite (h.core (by simp)) h

theorem execChannelPairComplete_keeps (c : CellId) (dir : Dir) : keepsOn s (execChannelPairComplete c dir s) := by
  refine keepsOn_core ?_
  dsimp only
  split <;> simp

theorem execWaitEntryComplete_keeps (c : CellId) : keepsOn s (execWaitEntryComplete c s) := by
  have h := State.Keeps.refl s
  refine keepsOn_guarded ?_
  split
  · exact .ite (h.core (by simp)) h
  · exact .ite (h.intakeDone ..) h
  · exact .ite (h.libRead.core (by simp)) h
  · exact h

theorem execStallTimeout_keeps (c : CellId) : keepsOn s (execStallTimeout c s) := by
  have ht : s.Keeps (((s.setFlag Reg.SCHED_STAT 13 true).raise Irq.SCHED).noteStall c) :=
    (State.Keeps.refl s).core (by simp)
  exact keepsOn_guarded (.ite ht (.ite (State.Keeps.secondStall (ht.core (by simp)) c) (ht.core (by simp))))

/-- The copy of a takeover moves the old cell's memories to the new one. -/
theorem execTakeoverCopyDone_keeps : keepsOn s (execTakeoverCopyDone s) := by
  have h := State.Keeps.refl s
  refine keepsOn_next ?_
  split
  · exact .ite (h.cells (by simp) (imemWf_memCopy _ _ _ _ ·) (dmemWf_memCopy _ _ _ _ ·)) h
  · exact h

theorem execCellSelfTestDone_keeps : keepsOn s (execCellSelfTestDone s) := by
  have h := State.Keeps.refl s
  refine keepsOn_next ?_
  split
  · exact .ite (.ite (State.Keeps.faultEvent (h.core (by simp)) _) (State.Keeps.faultEvent (h.core (by simp)) _)) h
  · exact h

/-! The port. -/

theorem execRptDataRead_keeps : keepsOn s (execRptDataRead s) :=
  keepsOn_inMain (fun u => (State.Keeps.refl u).queueSync.readRptData.core (by simp))

theorem execWinDataAccess_keeps (rd : Bool) (v : Word) : keepsOn s (execWinDataAccess rd v s) :=
  keepsOn_inMain (fun u => .ite ((State.Keeps.refl u).winRead.core (by simp)) ((State.Keeps.refl u).winWrite v))

theorem execHcsNRise_keeps (cut : Cut) : keepsOn s (execHcsNRise cut s) :=
  keepsOn_next ((State.Keeps.refl s).inSpi (fun u =>
    State.Keeps.txnEnd (.ite ((State.Keeps.refl u).core (by simp)) (.refl u))))

theorem execStreamRead_keeps (p : StreamPort) (n : Nat) : keepsOn s (execStreamRead p n s) := by
  have h := State.Keeps.refl s
  refine keepsOn_next ?_
  cases p with
  | spi rd hd => exact h.spiRow ..
  | i2c a =>
    exact h.inI2c (fun u => .ite (.refl u) ((State.Keeps.refl u).i2cStart true a (fun w => (State.Keeps.refl w).i2cReads n)))
  | more =>
    exact .ite (h.inI2c (fun u => .ite (.refl u) ((State.Keeps.refl u).i2cMore n)))
      (h.inSpi (fun u => (State.Keeps.refl u).spiMore [] n))

theorem execStreamResume_keeps (n : Nat) : keepsOn s (execStreamResume n s) :=
  keepsOn_guarded ((State.Keeps.refl s).clocked.streamOn n)

theorem execStreamStallTimeout_keeps (n : Nat) : keepsOn s (execStreamStallTimeout n s) :=
  keepsOn_guarded (State.Keeps.streamOn (State.Keeps.streamStallOver ((State.Keeps.refl s).core (by simp))) n)

theorem execI2cPointerWrite_keeps (hd : I2cHead) (crc : Option Byte) : keepsOn s (execI2cPointerWrite hd crc s) :=
  keepsOn_inI2c (fun u => .ite (.refl u) ((State.Keeps.refl u).i2cStart false hd.addr
    (fun w => (State.Keeps.refl w).core (by simp))))

theorem execI2cDataWrite_keeps (ws : List WireWord) : keepsOn s (execI2cDataWrite ws s) :=
  keepsOn_inI2c (fun u => .ite (.refl u) ((State.Keeps.refl u).i2cWrite ws))

theorem execI2cDataRead_keeps (r : I2cFetch) : keepsOn s (execI2cDataRead r s) := by
  refine keepsOn_inI2c (fun u => .ite (.refl u) ?_)
  split
  · exact (State.Keeps.refl u).i2cStart true _ (fun w => (State.Keeps.refl w).i2cReads r.n)
  · exact (State.Keeps.refl u).i2cMore r.n

theorem execI2cStop_keeps (e : I2cEnd) : keepsOn s (execI2cStop e s) := by
  refine keepsOn_inI2c (fun u => ?_)
  have hw : u.Keeps (u.i2cHold (.ends e)) := (State.Keeps.refl u).i2cHold _
  exact .ite (.ite hw (hw.i2cEnds e)) ((State.Keeps.refl u).i2cEnds e)

theorem execI2cStretchRelease_keeps : keepsOn s (execI2cStretchRelease s) := by
  refine keepsOn_inI2c (fun u => ?_)
  split
  · exact .ite ((State.Keeps.refl u).stretchOver _) (.refl u)
  · exact .refl u

theorem execI2cStretchTimeout_keeps : keepsOn s (execI2cStretchTimeout s) := by
  refine keepsOn_inI2c (fun u => ?_)
  split
  · exact .ite (.refl u) (State.Keeps.stretchOver ((State.Keeps.refl u).core (by simp)) _)
  · exact .refl u

/-! Power, non-volatile memory and security. -/

theorem execHandshakeBlockAnswer_keeps : keepsOn s (execHandshakeBlockAnswer s) := by
  refine keepsOn_next ?_
  split
  · exact .ite ((State.Keeps.refl s).hsAnswer _) (.refl s)
  · exact .refl s

theorem execHandshakeDelayExpiry_keeps : keepsOn s (execHandshakeDelayExpiry s) := by
  refine keepsOn_next ?_
  split
  · exact .ite ((State.Keeps.refl s).hsAskAgain _) (.refl s)
  · exact .refl s

theorem execWakeStepTimeout_keeps (w : WakeStep) (fio2Ready : Bool) : keepsOn s (execWakeStepTimeout w fio2Ready s) := by
  have h := State.Keeps.refl s
  refine keepsOn_next ?_
  cases w with
  | oscillators => exact .ite (.ite h.wakeOnFio2 (h.core (by simp))) h
  | vcore => exact .ite (h.core (by simp)) h
  | vana => exact .ite (h.core (by simp)) h

theorem execGeyserScan_keeps (bs : List BusScan) : keepsOn s (execGeyserScan bs s) :=
  keepsOn_guarded (.ite ((State.Keeps.refl s).zeroScan ..) ((State.Keeps.refl s).core (by simp)))

theorem execImageInstallDone_keeps : keepsOn s (execImageInstallDone s) := by
  have h := State.Keeps.refl s
  exact keepsOn_next (.ite h (.ite h.bootStream (.ite (h.commitDone.settle s) h)))

theorem execNvmPageDone_keeps : keepsOn s (execNvmPageDone s) := by
  refine keepsOn_next ?_
  split
  · exact .ite ((State.Keeps.refl s).pageDone ..) (.refl s)
  · exact .refl s

theorem execReturnEraseDone_keeps (st : Straps) : keepsOn s (execReturnEraseDone st s) := by
  refine keepsOn_next ?_
  split
  · exact .ite ((State.Keeps.refl s).flash (by simp) (flashErase_flashWf s 0 0x3D000)) (.refl s)
  · exact .refl s

theorem execNonceReady_keeps (nonce : BitVec 128) (healthy : Bool) : keepsOn s (execNonceReady nonce healthy s) := by
  have h := State.Keeps.refl s
  exact keepsOn_guarded (.ite (h.core (by simp)) (State.Keeps.mainFault (h.core (by simp)) ..))

theorem execAuthCompareDone_keeps : keepsOn s (execAuthCompareDone s) := by
  refine keepsOn_core ?_
  split <;> simp

theorem execOtpProgramDone_keeps : keepsOn s (execOtpProgramDone s) := by
  refine keepsOn_next ?_
  split
  case h_1 a d _ => exact ((State.Keeps.refl s).otpProgram a d).core (by simp)
  case h_2 => exact .refl s

/-! The fault monitor. -/

theorem execAonSelfCheck_keeps (parityOk ringOk : Bool) : keepsOn s (execAonSelfCheck parityOk ringOk s) := by
  have rest {t : State} (h : s.Keeps t) : s.Keeps (
      let u := if parityOk then t else t.drawWord.2.aonFaultFree 10 (bits t.drawWord.1 0 8) 1
      if ringOk then u else u.aonFaultFree 13 4 1) := by
    have hp := State.Keeps.ite (c := parityOk = true) h
      (State.Keeps.aonFaultFree (h.core (State.drawWord_core t)) 10 (bits t.drawWord.1 0 8) 1)
    exact .ite hp (hp.aonFaultFree 13 4 1)
  refine keepsOn_guarded (rest ?_)
  split
  · exact (State.Keeps.refl s).aonFault ..
  · exact .refl s

theorem execOscMonitorWindow_keeps (fio fio2 : Nat) : keepsOn s (execOscMonitorWindow fio fio2 s) := by
  have h := State.Keeps.refl s
  have hb : s.Keeps { s with fmon := { s.fmon with
      fioBad := badWindows s.fmon.fioBad (offFrequency fio 93750),
      fio2Bad := badWindows s.fmon.fio2Bad (offFrequency fio2 46875) } } := h.core (by simp)
  have hf := State.Keeps.fioEvent (hb.core (State.toFio2_core _)) 2
  exact keepsOn_guarded (.ite (State.Keeps.mainFault (.ite hf hb) ..) (.ite hf hb))

theorem execIrqReadback_keeps (level : Bool) : keepsOn s (execIrqReadback level s) := by
  have h := State.Keeps.refl s
  exact keepsOn_guarded (.ite (State.Keeps.mainFault (h.core (by simp)) ..) (h.core (by simp)))

theorem execScrubWord_keeps (m : MemId) (addr : Nat) : keepsOn s (execScrubWord m addr s) := by
  have h := State.Keeps.refl s
  refine keepsOn_guarded ?_
  split
  · exact .ite ((h.readErr m addr).scrubRewrite _) (h.readErr m addr)
  · exact h.core (by simp)

theorem execSingleFault_keeps (f : FaultSpec) (transient : Bool) : keepsOn s (execSingleFault f transient s) := by
  refine keepsOn_core ?_
  split <;> simp

end Arms

/-- Every command keeps the pending commands, the OTP bits, the sizes and the memories' form: the resets empty the
memories, the fuse commands add OTP bits, the queue and the ring are written by their own operations only. -/
theorem exec_keeps (i : Instr) (s : State) : keepsOn s (exec i s) := by
  have h := State.Keeps.refl s
  cases i
  -- Instructions that change only their cell
  case nop | sort | add | sub | addi | adds | subs | min | max | abs | and | or | xor | shl | shr | sar | shli | sari |
      mov | movi | racc | getr | getw | med3 | plt | ple | peq | pne | pand | pnot | clra | mul | mac | msu =>
    exact keepsOn_next (h.cellOp ..)
  case loop c _ _ | send c _ _ | recv c _ _ => exact keepsOn_guarded ((h.fetchErr c).core (by simp))
  -- Operands that the model refuses
  case intake | intakes => exact keepsOn_refused_or _ (h.intake ..)
  case wht => exact keepsOn_refused_or _ (h.cellOp ..)
  case waitEntry c e =>
    have hf : s.Keeps ((s.fetchErr c).frameRow e) := (h.fetchErr c).core (by simp)
    exact keepsOn_refused_or _ (.ite (.ite (hf.core (by simp)) (hf.core (by simp))) h)
  -- Resets
  case powerOnReset e st => exact execPowerOnReset_keeps s e st
  case vioLow => exact execVioLow_keeps s
  case rstNReset lowNs st => exact execRstNReset_keeps s lowNs st
  case sysReset v st => exact keepsOn_guarded (h.sysReset v st)
  case fuseProgramDone st => exact execFuseProgramDone_keeps s st
  case supplyFault p => exact keepsOn_guarded (h.supplyFault p)
  -- Sensing frames
  case frameTimerExpiry => exact execFrameTimerExpiry_keeps s
  case slipFrameStart => exact execSlipFrameStart_keeps s
  case entryStart => exact keepsOn_guarded (h.entryStart false)
  case dsyncEdge e => exact execDsyncEdge_keeps s e
  case syncTimeoutExpiry => exact keepsOn_guarded (State.Keeps.entryStart (h.core (by simp)) true)
  case resamplerOutput n => exact execResamplerOutput_keeps s n
  case goertzelBlockDone k => exact keepsOn_guarded (h.detDone k)
  case rowWrite r => exact execRowWrite_keeps s r
  case laneCalDone off gain => exact execLaneCalDone_keeps s off gain
  case selfCalEnd m => exact keepsOn_guarded (h.calEnd m)
  case dpllUnlock c => exact execDpllUnlock_keeps s c
  -- Caldera
  case calderaFrameOpen => exact execCalderaFrameOpen_keeps s
  case ld c f => exact execLd_keeps s c f
  case st c p a b idx addr => exact execSt_keeps s c p a b idx addr
  case pub c f => exact execPub_keeps s c f
  case vote c f => exact execVote_keeps s c f
  case emit c f => exact execEmit_keeps s c f
  case ering c f => exact execEring_keeps s c f
  case channelPairComplete c dir => exact execChannelPairComplete_keeps s c dir
  case waitEntryComplete c => exact execWaitEntryComplete_keeps s c
  case frameEnd c => exact execFrameEnd_keeps s c
  case frameDeadline => exact keepsOn_guarded h.deadline
  case stallTimeout c => exact execStallTimeout_keeps s c
  case takeoverCopyDone => exact execTakeoverCopyDone_keeps s
  case cellSelfTestDone => exact execCellSelfTestDone_keeps s
  case schedAbort => exact keepsOn_guarded h.schedAbort
  case imageInstallDone => exact execImageInstallDone_keeps s
  -- The queue, the ring and the port
  case insertPush => exact keepsOn_inMain (fun u => (State.Keeps.refl u).pushInserted)
  case rptDataRead => exact execRptDataRead_keeps s
  case rptFlush => exact keepsOn_inMain (fun u => (State.Keeps.refl u).flushQueue.settle u)
  case ringMark => exact keepsOn_inMain (fun u => (State.Keeps.refl u).ringMark)
  case ringRewind => exact keepsOn_inMain (fun u => (State.Keeps.refl u).ringRewind)
  case ringClear => exact keepsOn_inMain (fun u => (State.Keeps.refl u).ringClear)
  case ringRdWrite v => exact keepsOn_inMain (fun u => (State.Keeps.refl u).ringSetRd v)
  case winDataAccess rd v => exact execWinDataAccess_keeps s rd v
  case registerWrite a v => exact keepsOn_guarded (h.commitReg ..)
  case spiRegisterRead | spiRegisterWrite | spiWindowRead | spiWindowWrite | spiStatus | spiWake =>
    exact keepsOn_next (h.spiRow ..)
  case hcsNRise cut => exact execHcsNRise_keeps s cut
  case streamRead p n => exact execStreamRead_keeps s p n
  case streamResume n => exact execStreamResume_keeps s n
  case streamStallTimeout n => exact execStreamStallTimeout_keeps s n
  case i2cPointerWrite hd crc => exact execI2cPointerWrite_keeps s hd crc
  case i2cDataWrite ws => exact execI2cDataWrite_keeps s ws
  case i2cDataRead r => exact execI2cDataRead_keeps s r
  case i2cStop e => exact execI2cStop_keeps s e
  case i2cStretchRelease => exact execI2cStretchRelease_keeps s
  case i2cStretchTimeout => exact execI2cStretchTimeout_keeps s
  -- Functions and power
  case funcResetSeq => exact keepsOn_inMain (fun u => (State.Keeps.refl u).resetSeq)
  case funcResetCaldera => exact keepsOn_inMain (fun u => (State.Keeps.refl u).resetCaldera)
  case funcResetQueue => exact keepsOn_inMain (fun u => (State.Keeps.refl u).resetQueueFn)
  case funcResetRing => exact keepsOn_inMain (fun u => (State.Keeps.refl u).resetRing)
  case funcEnCaldera on => exact keepsOn_inMain (fun u => (State.Keeps.refl u).enCaldera on)
  case sleepAsk => exact keepsOn_guarded h.sleepAsk
  case handshakeBlockAnswer => exact execHandshakeBlockAnswer_keeps s
  case handshakeDelayExpiry => exact execHandshakeDelayExpiry_keeps s
  case geyserScan bs => exact execGeyserScan_keeps s bs
  case fioReady => exact keepsOn_guarded h.fioReady
  case retentionRestored => exact keepsOn_guarded h.wakeDone
  case wakeStepTimeout w f => exact execWakeStepTimeout_keeps s w f
  -- Non-volatile storage, security, the TAP
  case nvmPageDone => exact execNvmPageDone_keeps s
  case nvmOpComplete => exact keepsOn_guarded h.nvmDone
  case nonceReady nonce healthy => exact execNonceReady_keeps s nonce healthy
  case authCompareDone => exact execAuthCompareDone_keeps s
  case returnEraseDone st => exact execReturnEraseDone_keeps s st
  case dbgAccess dr => exact keepsOn_guarded (State.Keeps.dbgAccess (h.core (State.tapIr_core ..)) dr)
  case otpProgProgram | otpProgRead => exact keepsOn_guarded (h.otpShift _)
  case otpProgramDone => exact execOtpProgramDone_keeps s
  -- The fault monitor
  case aonSelfCheck p r => exact execAonSelfCheck_keeps s p r
  case oscMonitorWindow a b => exact execOscMonitorWindow_keeps s a b
  case fioStopDetect => exact keepsOn_guarded (State.Keeps.fioEvent (h.core (State.toFio2_core s)) 1)
  case xtalFail | slowOscFail => exact keepsOn_guarded (State.Keeps.aonFaultFree (h.core (by simp)) ..)
  case irqReadback level => exact execIrqReadback_keeps s level
  case scrubWord m a => exact execScrubWord_keeps s m a
  case singleFault f transient => exact execSingleFault_keeps s f transient
  -- Operations that MAIN alone does, and that leave what counts here
  case funcResetLanes | funcResetFilters | funcResetTrack | funcResetNvmctl | funcResetHostport | funcResetGeyser |
      funcResetGoertzel | funcEnLanes | funcEnFilters | funcEnSeq | funcEnTrack | funcEnQueue | funcEnRing | funcEnNvmctl |
      funcEnGeyser | funcEnGoertzel | nvmProgramA | nvmProgramB | nvmSaveCal | nvmCaptureSig | nvmEraseA | nvmEraseB |
      calSelf | calRecal | debugNonce | advDevelop | advSecured | relock | authChalRead | authChalWrite | tapAttach |
      tapDetach | rptClrgap =>
    exact keepsOn_inMain (fun u => (State.Keeps.refl u).core (by simp))
  case nvmReservedOp op => exact keepsOn_next (.ite h (h.inMain (fun u => (State.Keeps.refl u).core (by simp))))
  -- Every other meaning leaves what counts here
  all_goals exact keepsOn_core (by simp)

/-- Every well-formed command answers a next state: only operands that `Instr.wf` excludes are refused. -/
theorem exec_answers (i : Instr) (s : State) (hw : i.wf = true) : ∃ t, exec i s = .next t := by
  cases i
  case wht c p d a b => exact ⟨_, if_neg (by simpa [Instr.wf] using hw)⟩
  case intake c d b rel idx row w => exact ⟨_, if_neg (by simpa [Instr.wf, Nat.lt_succ_iff] using hw)⟩
  case intakes c d b rel idx row w => exact ⟨_, if_neg (by simpa [Instr.wf, Nat.lt_succ_iff] using hw)⟩
  case waitEntry c e => exact ⟨_, if_neg (by simpa [Instr.wf, Nat.lt_succ_iff] using hw)⟩
  all_goals exact ⟨_, rfl⟩

/-! ### Steps -/

theorem slowTick_core (s : State) : (slowTick s).SameCore s := by simp [slowTick]

/-- A step keeps the OTP bits, the sizes and the memories' form; it takes one command off the queue of commands. -/
theorem step_keeps {s t : State} (ht : step s = .next t) : otpRises s t ∧ (s.Sized → t.Sized) ∧ (s.MemWf → t.MemWf) := by
  unfold step at ht
  split at ht
  case h_1 =>
    obtain ⟨-, ho, hs, hm⟩ := keepsOn_core (slowTick_core s) t ht
    exact ⟨ho, hs, hm⟩
  case h_2 c rest _ =>
    obtain ⟨-, ho, hs, hm⟩ := exec_keeps c { s with pending := rest } t ht
    exact ⟨ho, hs, fun h => hm ⟨h.1, h.2, h.3, h.4, h.5, h.6, h.7⟩⟩

/-- Settles O4: every command keeps the memories' form (`exec_keeps`). -/
theorem stepKeepsMemories : Obligations.StepKeepsMemories := by
  unfold Obligations.StepKeepsMemories
  intro s t hm ht
  exact (step_keeps ht).2.2 hm

/-- Settles O5: only the fuse commands write the OTP memory, and they add bits (`exec_keeps`). -/
theorem stepKeepsOtpBits : Obligations.StepKeepsOtpBits := by
  unfold Obligations.StepKeepsOtpBits
  intro s t ht
  exact (step_keeps ht).1

/-- Settles O7: every operation of the queue and of the ring keeps its sizes (`exec_keeps`). -/
theorem stepKeepsSizes : Obligations.StepKeepsSizes := by
  unfold Obligations.StepKeepsSizes
  exact ⟨State.Keeps.reset_sized, fun s t hs ht => (step_keeps ht).2.1 hs⟩

/-- Settles O2: no command writes the queue of commands (`exec_keeps`), and only operands that are not well formed are
refused (`exec_answers`). -/
theorem execLeavesPending : Obligations.ExecLeavesPending := by
  unfold Obligations.ExecLeavesPending
  intro i s
  have hp : ∀ t, exec i s = .next t → t.pending = s.pending := fun t ht => (exec_keeps i s t ht).pending
  refine ⟨fun hw => ?_, hp⟩
  obtain ⟨t, ht⟩ := exec_answers i s hw
  exact ⟨t, ht, hp t ht⟩

end Sys2Proof.Machine
end

section
/-! PROOFS. The Caldera instructions that change only their cell (06, Table 6.4): what a step of one of them leaves, and
the value that each writes. -/

namespace Sys2Proof.Machine

/-! ### Steps of a cell -/

/-- An instruction that changes only its cell takes the step that its function gives. -/
theorem cellStep_of_cellOp {i : Instr} {s : State} {c : CellId} {p : Pred} {f : Cell → Cell} {P : Cell → Cell → Prop}
    (hx : exec i s = .next (s.cellOp c i p f)) (hp : (s.cell c).holds p = true)
    (hpc : (f (s.cell c)).pc = (s.cell c).pc) (hl : (f (s.cell c)).loops = (s.cell c).loops)
    (hP : P (s.cell c) (f (s.cell c)).advance) : cellStep i s c P := by
  intro hr
  refine ⟨(f (s.cell c)).advance, ?_, rfl, ?_, hP⟩
  · rw [hx, State.cellOp_runs hr, if_pos hp]
  · rw [Cell.advance_flow, hpc, hl]

theorem Cell.onlyReg_put (x : Cell) (d : XReg) (v : Data) : x.onlyReg d v (x.put d v).advance :=
  ⟨fun r => by simp [Cell.get_put], by simp [Cell.accPredSame]⟩

theorem regStep_of_cellReg {i : Instr} {s : State} {c : CellId} {p : Pred} {d : XReg} {f : Cell → Data}
    {P : Cell → Data → Prop} (hx : exec i s = .next (s.cellReg c i p d f)) (hp : (s.cell c).holds p = true)
    (hP : P (s.cell c) (f (s.cell c))) : regStep i s c d P :=
  cellStep_of_cellOp hx hp (by simp) (by simp) ⟨_, hP, Cell.onlyReg_put ..⟩

theorem Cell.onlyPred_setPred (x : Cell) (d : XReg) (v : Bool) : x.onlyPred d v (x.setPred d v).advance := by
  have h4 : d.val % 4 < 4 := Nat.mod_lt _ (by omega)
  refine ⟨fun r => by simp, ?_⟩
  unfold Cell.setPred
  split <;> simp_all

@[simp] theorem Cell.setPred_pc (x : Cell) (d : XReg) (v : Bool) : (x.setPred d v).pc = x.pc := by
  unfold Cell.setPred
  split <;> rfl
@[simp] theorem Cell.setPred_loops (x : Cell) (d : XReg) (v : Bool) : (x.setPred d v).loops = x.loops := by
  unfold Cell.setPred
  split <;> rfl

theorem predStep_of_cellPred {i : Instr} {s : State} {c : CellId} {p : Pred} {d : XReg} {f : Cell → Bool}
    {P : Cell → Prop} (hx : exec i s = .next (s.cellPred c i p d f)) (hp : (s.cell c).holds p = true)
    (hP : f (s.cell c) = true ↔ P (s.cell c)) : predStep i s c d P :=
  cellStep_of_cellOp hx hp (by simp) (by simp) ⟨_, hP, Cell.onlyPred_setPred ..⟩

theorem Cell.onlyAcc_setAcc (x : Cell) (d : XReg) (v : Acc) : x.onlyAcc d v (x.setAcc d v).advance := by
  refine ⟨fun r => by simp, ?_⟩
  unfold Cell.setAcc
  split <;> simp_all

@[simp] theorem Cell.setAcc_pc (x : Cell) (d : XReg) (v : Acc) : (x.setAcc d v).pc = x.pc := by
  unfold Cell.setAcc
  split <;> rfl
@[simp] theorem Cell.setAcc_loops (x : Cell) (d : XReg) (v : Acc) : (x.setAcc d v).loops = x.loops := by
  unfold Cell.setAcc
  split <;> rfl

theorem accStep_of_cellAcc {i : Instr} {s : State} {c : CellId} {p : Pred} {d : XReg} {f g : Cell → Acc}
    (hx : exec i s = .next (s.cellAcc c i p d f)) (hp : (s.cell c).holds p = true)
    (hg : f (s.cell c) = g (s.cell c)) : accStep i s c d g :=
  cellStep_of_cellOp hx hp (by simp) (by simp) (hg ▸ Cell.onlyAcc_setAcc ..)

/-! ### Values -/

theorem clampI_eq_sat (x : Int) : clampI x (-0x800000) 0x7FFFFF = sat x := by
  unfold clampI sat
  omega

theorem sat_mem (x : Int) : -0x800000 ≤ sat x ∧ sat x ≤ 0x7FFFFF := by
  unfold sat
  omega

theorem toInt_sat24 (x : Int) : (sat24 x).toInt = sat x := by
  obtain ⟨hl, hu⟩ := sat_mem x
  rw [sat24, clampI_eq_sat, BitVec.toInt_ofInt_eq_self (by decide) (by omega) (by omega)]

theorem toInt_minS (a b : Data) : (minS a b).toInt = min a.toInt b.toInt := by
  unfold minS signedLt
  simp only [decide_eq_true_eq]
  split <;> omega

theorem toInt_maxS (a b : Data) : (maxS a b).toInt = max a.toInt b.toInt := by
  unfold maxS signedLt
  simp only [decide_eq_true_eq]
  split <;> omega

theorem sat_natAbs (a : Data) : sat a.toInt.natAbs = min 0x7FFFFF a.toInt.natAbs := by
  unfold sat
  omega

theorem toInt_raccValue (a : Acc) (k : Nat) :
    (raccValue a k).toInt = sat (if k = 0 then a.toInt else (a.toInt + 2 ^ (k - 1)) / 2 ^ k) := by
  unfold raccValue asr
  split <;> rw [toInt_sat24]

theorem add_mulAcc (v : Acc) (a b : Data) : v + mulAcc a b = BitVec.ofInt 56 (v.toInt + a.toInt * b.toInt) := by
  rw [mulAcc, BitVec.ofInt_add, BitVec.ofInt_toInt]

theorem sub_mulAcc (v : Acc) (a b : Data) : v - mulAcc a b = BitVec.ofInt 56 (v.toInt - a.toInt * b.toInt) := by
  rw [mulAcc, sub_eq_add_neg, ← BitVec.ofInt_neg, Int.sub_eq_add_neg, BitVec.ofInt_add, BitVec.ofInt_toInt]

theorem toInt_sshiftRight_div (a : Data) (k : Nat) : (a.sshiftRight k).toInt = a.toInt / 2 ^ k := by
  rw [BitVec.toInt_sshiftRight, Int.shiftRight_eq_div_pow]
  norm_cast

/-! ### The statements -/

/-- Settles O8: each instruction is a `cellReg`, with the value that Table 6.4 gives. -/
theorem cellArithmetic : Obligations.CellArithmetic := by
  unfold Obligations.CellArithmetic
  intro s c p d a b imm hp
  refine ⟨regStep_of_cellReg rfl hp rfl, regStep_of_cellReg rfl hp rfl, regStep_of_cellReg rfl hp rfl,
    regStep_of_cellReg rfl hp (toInt_sat24 _), regStep_of_cellReg rfl hp (toInt_sat24 _),
    regStep_of_cellReg rfl hp (toInt_minS ..), regStep_of_cellReg rfl hp (toInt_maxS ..),
    regStep_of_cellReg rfl hp ?_⟩
  rw [toInt_sat24, sat_natAbs]

/-- Settles O9: each instruction is a `cellReg` or a `cellPred`, with the value that Table 6.4 gives. -/
theorem cellLogicAndPredicates : Obligations.CellLogicAndPredicates := by
  unfold Obligations.CellLogicAndPredicates
  constructor
  · intro s c p d a b imm hp
    refine ⟨regStep_of_cellReg rfl hp (fun i => BitVec.getLsbD_and), regStep_of_cellReg rfl hp (fun i => BitVec.getLsbD_or),
      regStep_of_cellReg rfl hp (fun i => BitVec.getLsbD_xor), regStep_of_cellReg rfl hp ?_, regStep_of_cellReg rfl hp ?_,
      regStep_of_cellReg rfl hp (toInt_sshiftRight_div ..), regStep_of_cellReg rfl hp ?_,
      regStep_of_cellReg rfl hp (toInt_sshiftRight_div ..), regStep_of_cellReg rfl hp rfl, regStep_of_cellReg rfl hp rfl⟩
    · rw [BitVec.toNat_shiftLeft, Nat.shiftLeft_eq]
    · rw [BitVec.toNat_ushiftRight, Nat.shiftRight_eq_div_pow]
    · rw [BitVec.toNat_shiftLeft, Nat.shiftLeft_eq]
  · intro s c p d a b hp
    refine ⟨predStep_of_cellPred rfl hp ?_, predStep_of_cellPred rfl hp ?_, predStep_of_cellPred rfl hp ?_,
      predStep_of_cellPred rfl hp ?_, predStep_of_cellPred rfl hp ?_, predStep_of_cellPred rfl hp ?_⟩
    · simp [signedLt]
    · simp [signedLt]
    · simp
    · simp
    · simp
    · simp

/-- Settles O10: CLRA, MUL, MAC and MSU are `cellAcc`s and RACC and MED3 `cellReg`s; WHT and SORT write two registers one
after the other, from operands read before. -/
theorem cellAccumulatorsAndPairs : Obligations.CellAccumulatorsAndPairs := by
  unfold Obligations.CellAccumulatorsAndPairs
  constructor
  · intro s c p d a b imm hp
    exact ⟨accStep_of_cellAcc rfl hp rfl, accStep_of_cellAcc rfl hp rfl, accStep_of_cellAcc rfl hp (add_mulAcc ..),
      accStep_of_cellAcc rfl hp (sub_mulAcc ..), regStep_of_cellReg rfl hp (toInt_raccValue ..)⟩
  · intro s c p d a b hp
    refine ⟨fun hd => ?_, ?_, regStep_of_cellReg rfl hp ?_⟩
    · have hv : (d + 1).val = d.val + 1 := by
        rw [Fin.val_add]
        exact Nat.mod_eq_of_lt (by simp; omega)
      have hne : d ≠ d + 1 := fun h => by simp [← h] at hv
      have h0 : d + 1 ≠ 0 := fun h => by simp [h] at hv
      refine cellStep_of_cellOp (if_neg hd) hp (by simp) (by simp) ⟨by simp [Cell.accPredSame], fun hd0 => ?_, ?_, fun r h1 h2 => ?_⟩
      · simp [Cell.get_put, hne, hd0, toInt_sat24]
      · simp [Cell.get_put, h0, toInt_sat24]
      · simp [Cell.get_put, h1, h2]
    · refine cellStep_of_cellOp rfl hp (by simp) (by simp)
        ⟨by simp [Cell.accPredSame], fun ha => ?_, fun hb => ?_, fun r h1 h2 => ?_⟩
      · by_cases hab : a = b
        · subst hab
          simp [Cell.get_put, ha, toInt_maxS]
        · simp [Cell.get_put, ha, hab, toInt_minS]
      · simp [Cell.get_put, hb, toInt_maxS]
      · simp [Cell.get_put, h1, h2]
    · rw [med3, toInt_maxS, toInt_minS, toInt_minS, toInt_maxS]

end Sys2Proof.Machine
end

section
/-! PROOFS. Tokens and false conditions, the flow of a cell's program, the channels and the snapshot (06; R178, R181,
R198), and the step of the machine. -/

namespace Sys2Proof.Machine

/-! ### What a fetch leaves of the fault monitor -/

@[simp] theorem State.fetchErr_faults (s : State) (c : CellId) : (s.fetchErr c).fmon.faults = s.fmon.faults := by
  unfold State.fetchErr State.cellRead State.readErr State.mainFault State.faultEvent State.markFound
  dsimp only
  repeat' split
  all_goals simp

theorem State.cellsSound_fetchErr {s : State} (h : s.cellsSound) (c : CellId) : (s.fetchErr c).cellsSound := by
  obtain ⟨b, hb⟩ := s.fetchErr_cald c
  simpa [State.cellsSound, hb] using h

/-! ### Tokens of sound cells -/

theorem State.cellMask_of_sound {s : State} (h : s.cellsSound) (p : PhysId) : s.cellMask p = 0 := by
  obtain ⟨hf, -, -⟩ := h
  unfold State.cellMask
  generalize s.fmon.faults = l at hf
  induction l with
  | nil => rfl
  | cons f l ih =>
    have hc := hf f List.mem_cons_self
    rw [List.foldl_cons]
    split
    case h_1 q k he => exact absurd he (hc q k).1
    case h_2 => exact ih fun g hg => hf g (List.mem_cons_of_mem _ hg)

theorem State.mute_of_sound {s : State} (h : s.cellsSound) (p : PhysId) : s.mute p = false := by
  rw [State.mute, List.any_eq_false]
  intro f hf
  split
  case h_1 c he => exact absurd he (h.1 f hf c 0).2
  case h_2 => simp

/-- A fault of no kind that `k` counts stays. -/
theorem State.passFaults_eq_self {s : State} {k : FaultSpec → Bool} (h : ∀ f ∈ s.fmon.faults, k f.1 = false) :
    s.passFaults k = s := by
  have hl : s.fmon.faults.filter (fun f => !(f.2 && k f.1)) = s.fmon.faults :=
    List.filter_eq_self.2 fun f hf => by simp [h f hf]
  unfold State.passFaults
  rw [hl]

theorem State.cellTransients_of_sound {s : State} (h : s.cellsSound) (p : PhysId) (full : Bool) :
    s.cellTransients p full = s := by
  refine State.passFaults_eq_self fun f hf => ?_
  split
  case h_1 c k he => exact absurd he (h.1 f hf c k).1
  case h_2 c he => exact absurd he (h.1 f hf c 0).2
  case h_3 => rfl

theorem State.spareCompares_of_sound {s : State} (h : s.cellsSound) (c : CellId) (q : PhysId) (t : Token)
    (ht : ∀ w ∈ t, w.altered = 0) : s.spareCompares c q t = s := by
  obtain ⟨-, hlag, hastray⟩ := id h
  have hs : { s with cald := { s.cald with lag := [] } } = s := by rw [← hlag]
  have ha : ([] ++ [t]).all (s.altersAs q) = true := by
    simpa [State.altersAs, State.cellMask_of_sound h] using ht
  unfold State.spareCompares
  dsimp only
  rw [hs, hlag, hastray, ha]
  rfl

/-- Where nothing alters or stops a cell, a token is what the cell gives, and the spare agrees with it. -/
theorem State.token_of_sound {s : State} (h : s.cellsSound) (c : CellId) (ws : List (Data × Data)) :
    s.token c ws = (ws.map Prod.snd, s) := by
  have hz (x : Data) : (0 : Data) &&& x = 0 := BitVec.zero_and
  have hx (x : Data) : x ^^^ (0 : Data) = x := BitVec.xor_zero
  have hsp (q : PhysId) : s.spareCompares c q (ws.map fun w => ⟨w.1, 0⟩) = s :=
    by
    refine State.spareCompares_of_sound h c q _ fun w hw => ?_
    obtain ⟨x, -, rfl⟩ := List.mem_map.1 hw
    rfl
  unfold State.token
  simp only [State.cellMask_of_sound h, State.mute_of_sound h, hz, hx, Bool.false_eq_true, if_false]
  refine Prod.ext rfl ?_
  split
  case h_1 =>
    dsimp only
    rw [hsp]
    split <;> simp only [State.cellTransients_of_sound h]
  case h_2 => exact State.cellTransients_of_sound h ..

/-! ### False conditions -/

@[simp] theorem State.setCell_setCell (s : State) (c : CellId) (x y : Cell) : (s.setCell c x).setCell c y = s.setCell c y := by
  simp [State.setCell]

/-- What a load does as an action beyond its cell. -/
def State.loadAct (c : CellId) (d b : XReg) (idx : Bool) (addr : BitVec 12) (t : State) : State :=
  let r := t.loadData c (effAddr (t.cell c) b idx addr)
  r.2.setCell c ((r.2.cell c).put d r.1)

theorem execLd_code (c : CellId) (p : Pred) (d b : XReg) (idx : Bool) (addr : BitVec 12) (s : State) :
    execLd c (.code p d b idx addr) s =
      .next (s.cellAct c (.ld c (.code p d b idx addr)) p (State.loadAct c d b idx addr)) := by
  unfold execLd State.cellAct State.loadAct State.cellAdvance
  dsimp only
  congr 1
  repeat' split
  all_goals simp

/-- A predicated instruction changes only its cell, acts beyond it, or gives a token to the emit port. -/
theorem exec_predicated {i : Instr} {c : CellId} {p : Pred} (hw : i.wf = true) (hi : i.predicated = some (c, p))
    (s : State) :
    i.givesNull = false ∧ (∃ f, exec i s = .next (s.cellOp c i p f)) ∨
    i.givesNull = false ∧ (∃ f, exec i s = .next (s.cellAct c i p f)) ∨
    i.givesNull = true ∧ (∃ f, exec i s = .next (s.cellEmit c i p f)) := by
  cases i
  case ld c f =>
    cases f with
    | code p d b idx addr => cases hi; exact .inr (.inl ⟨rfl, _, execLd_code ..⟩)
    | library => cases hi
  case pub c f =>
    cases f with
    | code p a imm => cases hi; exact .inr (.inl ⟨rfl, _, rfl⟩)
    | library => cases hi
  case vote c f =>
    cases f with
    | code p imm => cases hi; exact .inr (.inl ⟨rfl, _, rfl⟩)
    | library => cases hi
  case emit c f =>
    cases f with
    | code p addr => cases hi; exact .inr (.inr ⟨rfl, _, rfl⟩)
    | library => cases hi
  case ering c f =>
    cases f with
    | code p addr => cases hi; exact .inr (.inr ⟨rfl, _, rfl⟩)
    | library => cases hi
  case st => cases hi; exact .inr (.inl ⟨rfl, _, rfl⟩)
  case wht c p d a b => cases hi; exact .inl ⟨rfl, _, if_neg (by simpa [Instr.wf] using hw)⟩
  case nop | add | sub | addi | adds | subs | min | max | abs | and | or | xor | shl | shr | sar | shli | sari | mov | movi |
      plt | ple | peq | pne | pand | pnot | clra | mul | mac | msu | racc | getr | getw | sort | med3 =>
    cases hi
    exact .inl ⟨rfl, _, rfl⟩
  all_goals cases hi

/-- A step that only moves a cell's address on. -/
theorem cellStep_of_advance {i : Instr} {s : State} {c : CellId}
    (hx : s.runs c i = true → exec i s = .next ((s.fetchErr c).cellAdvance c)) :
    cellStep i s c (fun x y => y.x = x.x ∧ x.accPredSame y) := by
  intro hr
  refine ⟨(s.cell c).advance, ?_, rfl, Cell.advance_flow _, rfl, rfl, rfl, rfl, rfl, rfl⟩
  rw [hx hr, State.cellAdvance, State.cell_fetchErr]

/-- A muted spare that shadows the cell falls behind by one token. -/
theorem State.token_of_mute {s : State} {c : CellId} {q : PhysId} (hsh : s.cald.shadow = some c)
    (hsp : s.cald.spare = some q) (hm : s.mute q = true) (hl : s.cald.lag.length < 64) :
    ∃ f, (s.token c []).2 = { s with cald := { s.cald with lag := s.cald.lag ++ [[]] }, fmon := f } := by
  have h64 : ¬ 64 < (s.cald.lag ++ [[]]).length := by
    rw [List.length_append, List.length_singleton]
    omega
  unfold State.token
  simp only [hsh, hsp, hm, if_true, List.map_nil, State.spareLags, if_neg h64]
  exact ⟨_, rfl⟩

/-- Settles O11. -/
theorem falsePredicateChangesNothing : Obligations.FalsePredicateChangesNothing := by
  unfold Obligations.FalsePredicateChangesNothing
  intro i s c p hw hi
  have hf : ((s.fetchErr c).cell c) = s.cell c := s.cell_fetchErr c c
  refine ⟨fun hp hsound => cellStep_of_advance fun hr => ?_, fun q hp hn hr herr hsh hsp hm hl => ?_, fun hr => ?_⟩
  · obtain ⟨-, f, hx⟩ | ⟨-, f, hx⟩ | ⟨hn, f, hx⟩ := exec_predicated hw hi s
    · rw [hx, State.cellOp_runs hr, hp]
      simp [State.cellAdvance]
    · simp [hx, State.cellAct, hr, hf, hp]
    · have htok := State.token_of_sound (State.cellsSound_fetchErr (hsound hn) c) c []
      simp [hx, State.cellEmit, hr, hf, hp, htok]
  · obtain ⟨hn', -⟩ | ⟨hn', -⟩ | ⟨-, f, hx⟩ := exec_predicated hw hi s
    · simp [hn] at hn'
    · simp [hn] at hn'
    · have hfe : s.fetchErr c = s := State.fetchErr_none (by simp [State.memErr, herr])
      obtain ⟨g, hg⟩ := State.token_of_mute hsh hsp hm hl
      refine ⟨_, hx, ?_⟩
      have he : s.cellEmit c i p f =
          { s with cald := { s.cald with lag := s.cald.lag ++ [[]] }, fmon := g }.setCell c (s.cell c).advance := by
        simp only [State.cellEmit, hr, hfe, hp, hg, if_true, Bool.false_eq_true, if_false]
        rfl
      rw [he]
      refine ⟨rfl, State.cell_setCell_same .., fun k hk => State.cell_setCell_ne _ _ hk, rfl⟩
  · obtain ⟨-, f, hx⟩ | ⟨-, f, hx⟩ | ⟨-, f, hx⟩ := exec_predicated hw hi s
    · rw [hx, State.cellOp_idle hr]
    · simp [hx, State.cellAct, hr]
    · simp [hx, State.cellEmit, hr]

/-! ### Loops -/

theorem State.st_of_runs {s : State} {c : CellId} {i : Instr} (h : s.runs c i = true) : (s.cell c).st = .run := by
  have hi := (State.runs_iff.1 h).1
  simp only [State.issues, Bool.and_eq_true, decide_eq_true_eq] at hi
  exact hi.1.2

/-- The passes of a loop body by induction on their number. -/
theorem flow_body (first last n k : Nat) (outer : List LoopFrame) (hk : first + k ≤ last) :
    (fun f : Nat × List LoopFrame => flow f.1 f.2)^[k] (first, ⟨first, last, n⟩ :: outer) =
      (first + k, ⟨first, last, n⟩ :: outer) := by
  induction k with
  | zero => rfl
  | succ k ih =>
    rw [Function.iterate_succ_apply', ih (by omega)]
    simp only [flow]
    rw [if_neg (by omega)]
    rfl

/-- One pass of a loop body goes back to its first instruction, or, the last one, leaves the loop. -/
theorem flow_pass (first last n : Nat) (outer : List LoopFrame) (h : first ≤ last) :
    (fun f : Nat × List LoopFrame => flow f.1 f.2)^[last + 1 - first] (first, ⟨first, last, n⟩ :: outer) =
      if 1 < n then (first, ⟨first, last, n - 1⟩ :: outer) else flow last outer := by
  obtain ⟨k, rfl⟩ := Nat.exists_eq_add_of_le h
  rw [show first + k + 1 - first = k + 1 by omega, Function.iterate_succ_apply', flow_body first _ n k outer le_rfl]
  simp [flow]

theorem flow_loop (first last n : Nat) (outer : List LoopFrame) (h : first ≤ last) (hn : 1 ≤ n) :
    (fun f : Nat × List LoopFrame => flow f.1 f.2)^[n * (last + 1 - first)] (first, ⟨first, last, n⟩ :: outer) =
      flow last outer := by
  induction n with
  | zero => omega
  | succ n ih =>
    rw [Nat.succ_mul, Function.iterate_add_apply, flow_pass first last _ outer h]
    by_cases h1 : n = 0
    · simp [h1]
    · rw [if_pos (by omega), Nat.add_sub_cancel, ih (by omega)]

/-- Settles O12: NOP and LOOP by what they leave of the cell, the passes of a body by `flow_loop`. -/
theorem cellFlow : Obligations.CellFlow := by
  unfold Obligations.CellFlow
  refine ⟨fun s c p count last => ⟨cellStep_of_advance fun hr => ?_, fun hr => ?_⟩, flow_loop⟩
  · refine congrArg _ ((State.cellOp_runs hr p id).trans ?_)
    simp [State.cellAdvance]
  · refine ⟨_, (congrArg _ (if_pos hr)), ?_⟩
    simp [Cell.accPredSame, BitVec.toNat_eq, State.st_of_runs hr]

/-! ### Reads of the snapshot -/

theorem getwWindow_iff (k : Nat) : getwWindow k = true ↔ k ∈ [1, 3, 4, 5, 6, 7, 8, 12, 13, 14] := by
  simp [getwWindow]
  omega

theorem winEff_eq (x : Cell) (b : XReg) (idx : Bool) (addr : Word) :
    winEff x b idx addr = (addr.toNat + if idx then (x.get b).toNat else 0) % 2 ^ 24 := by
  unfold winEff
  split <;> omega

/-- Settles O13. -/
theorem cellSnapshotReads : Obligations.CellSnapshotReads := by
  unfold Obligations.CellSnapshotReads
  intro s c p d b imm code idx addr hp
  refine ⟨regStep_of_cellReg rfl hp ⟨fun r hr => ?_, fun h => if_neg (by omega)⟩, regStep_of_cellReg rfl hp ?_⟩
  · have hr80 : imm.toNat % 256 < 80 := hr ▸ r.isLt
    have hid : regId (imm.toNat % 256) = r := Fin.ext (by simp [regId, hr])
    rw [if_pos hr80, hid, BitVec.toNat_setWidth_of_le (by omega)]
  · simp only [winEff_eq, ← getwWindow_iff, Bool.and_eq_true, decide_eq_true_eq]
    generalize (addr.toNat + if idx then ((s.cell c).get b).toNat else 0) % 2 ^ 24 = e
    split
    · exact BitVec.toNat_setWidth_of_le (by omega)
    · rfl

/-! ### Channels -/

theorem peer_ne (c : CellId) (dir : Dir) : peer c dir ≠ c := by
  revert c
  cases dir <;> decide

/-- Settles O19. -/
theorem cellChannels : Obligations.CellChannels := by
  unfold Obligations.CellChannels
  intro s c a d dir v
  refine ⟨fun hr => ?_, fun hr => ?_, fun hmain hopen hsound hsend hrecv => ?_⟩
  · refine congrArg _ ((if_pos hr).trans ?_)
    simp [State.cellBlock]
  · refine congrArg _ ((if_pos hr).trans ?_)
    simp [State.cellBlock]
  · have hne := peer_ne c dir
    refine ⟨(s.cellAdvance c).setCell (peer c dir) (((s.cell (peer c dir)).put d v).advance), ?_, ?_, ?_, ?_, ?_, ?_⟩
    · simp [exec, execChannelPairComplete, hsend, hrecv, hmain, hopen, State.token_of_sound hsound, State.cellAdvance,
        State.cell_setCell_ne _ _ hne, nth]
    · rw [State.cell_setCell_same]
      exact Cell.onlyReg_put ..
    · simp
    · rw [State.cell_setCell_ne _ _ hne.symm, State.cellAdvance, State.cell_setCell_same]
    · intro k hk hkp
      rw [State.cell_setCell_ne _ _ hkp, State.cellAdvance, State.cell_setCell_ne _ _ hk]
    · exact ⟨_, rfl⟩

/-! ### The machine as a whole -/

/-- Settles O1. -/
theorem stepRunsFront : Obligations.StepRunsFront := by
  unfold Obligations.StepRunsFront
  intro s
  refine ⟨fun i rest h => by simp [step, h], fun h => ⟨slowTick s, by simp [step, h], ?_, ?_, ?_⟩⟩
  · unfold slowTick
    split <;> rfl
  · have hu : s.aonUp = !(s.aon.por || s.aon.vioLow) := by simp [State.aonUp]
    unfold slowTick
    rw [hu]
    by_cases hb : s.aon.por || s.aon.vioLow
    · rw [if_pos hb, if_neg (by simp [hb])]
    · rw [if_neg hb, if_pos (by simp [hb])]
  · intro ha ht
    have hb : ¬ (s.aon.por || s.aon.vioLow) = true := by simpa [State.aonUp] using ha
    simp only [slowTick, if_neg hb, if_pos ht]
    omega

end Sys2Proof.Machine
end

section
/-! PROOFS. The state after the power-on reset, and the words of the Caldera's instructions (15, 06). -/

namespace Sys2Proof.Machine

/-! ### The reset state -/

theorem reset_memWf : State.reset.MemWf := ⟨rfl, rfl, rfl, fun o ho => absurd ho List.not_mem_nil, rfl, rfl, rfl⟩

theorem reset_readReg : ∀ p ∈ resetColumn, (State.reset.readReg p.1).1 = p.2 := by decide

theorem tabDefault_ring (a : Nat) (h : a < 16384) : tabDefault (winKey Win.RING a) = 0 := by
  have hd : winKey Win.RING a / 131072 = 11 := by
    simp only [winKey, Win.RING]
    omega
  have h0 : winKey Win.RING a ≠ winKey Win.SEQ 0 := by
    simp only [winKey, Win.RING, Win.SEQ]
    omega
  unfold tabDefault
  rw [hd, if_neg h0]
  rfl

/-- Settles O3. -/
theorem resetState : Obligations.ResetState := by
  unfold Obligations.ResetState
  refine ⟨reset_readReg, reset_memWf, ⟨rfl, rfl⟩, rfl, rfl, rfl, fun a => rfl, fun w => ?_, tabDefault_ring, rfl⟩
  have hr : (Vector.replicate 64 (0 : BitVec 32)).toList = List.replicate 64 0 := Vector.toList_replicate
  change (Vector.replicate 64 (0 : BitVec 32)).toList.getD w 0 = 0
  rw [hr, List.getD_eq_getElem?_getD, List.getElem?_replicate]
  split <;> rfl

/-! ### The fields of an instruction word -/

theorem toNat_append_add {n m : Nat} (x : BitVec n) (y : BitVec m) : (x ++ y).toNat = x.toNat * 2 ^ m + y.toNat := by
  rw [BitVec.toNat_append, ← Nat.shiftLeft_add_eq_or_of_lt y.isLt, Nat.shiftLeft_eq]

theorem mul_pow_add_mod (x y : Nat) {m n : Nat} (h : n ≤ m) : (x * 2 ^ m + y) % 2 ^ n = y % 2 ^ n := by
  obtain ⟨k, rfl⟩ := Nat.exists_eq_add_of_le h
  rw [pow_add, mul_comm (2 ^ n), ← mul_assoc, Nat.mul_add_mod']

theorem toNat_ofNat_fin (d : XReg) : (BitVec.ofNat 5 d.val).toNat = d.val := by
  rw [BitVec.toNat_ofNat, Nat.mod_eq_of_lt d.isLt]

theorem toNat_wordOf (op : BitVec 6) (d a b : XReg) (low : BitVec 27) :
    (wordOf op d a b low).toNat = (((op.toNat * 2 ^ 5 + d.val) * 2 ^ 5 + a.val) * 2 ^ 5 + b.val) * 2 ^ 27 + low.toNat := by
  simp only [wordOf, toNat_append_add, toNat_ofNat_fin]

section Fields

variable (op : BitVec 6) (p : Pred) (d a b : XReg) (low : BitVec 27) (imm : Data)

theorem codeBits_op : codeBits (wordOf op d a b low) 42 6 = op.toNat := by
  have hl := low.isLt
  have ho := op.isLt
  rw [codeBits, toNat_wordOf]
  omega

theorem codeReg_d : codeReg (wordOf op d a b low) 37 = d := by
  have hl := low.isLt
  refine Fin.ext ?_
  rw [codeReg, Fin.val_ofNat, codeBits, toNat_wordOf]
  omega

theorem codeReg_a : codeReg (wordOf op d a b low) 32 = a := by
  have hl := low.isLt
  refine Fin.ext ?_
  rw [codeReg, Fin.val_ofNat, codeBits, toNat_wordOf]
  omega

theorem codeReg_b : codeReg (wordOf op d a b low) 27 = b := by
  have hl := low.isLt
  refine Fin.ext ?_
  rw [codeReg, Fin.val_ofNat, codeBits, toNat_wordOf]
  omega

theorem setWidth_wordOf {n : Nat} (hn : n ≤ 27) : (wordOf op d a b low).setWidth n = low.setWidth n := by
  refine BitVec.eq_of_toNat_eq ?_
  rw [BitVec.toNat_setWidth, BitVec.toNat_setWidth, toNat_wordOf, mul_pow_add_mod _ _ hn]

theorem getLsbD_wordOf {i : Nat} (hi : i < 27) : (wordOf op d a b low).getLsbD i = low.getLsbD i := by
  have h := congrArg (fun w => w.getLsbD i) (setWidth_wordOf op d a b low le_rfl)
  simpa [hi] using h

theorem codeBits_wordOf {lo n : Nat} (h : lo + n ≤ 27) :
    codeBits (wordOf op d a b low) lo n = low.toNat / 2 ^ lo % 2 ^ n := by
  have h2 := congrArg BitVec.toNat (setWidth_wordOf op d a b low h)
  rw [BitVec.toNat_setWidth, BitVec.toNat_setWidth, pow_add] at h2
  rw [codeBits, ← Nat.mod_mul_right_div_self, h2, Nat.mod_mul_right_div_self]

theorem codePred_wordOf : codePred (wordOf op d a b (p.code ++ imm)) = some p := by
  have hc : codeBits (wordOf op d a b (p.code ++ imm)) 24 3 = p.code.toNat := by
    have hi := imm.isLt
    rw [codeBits_wordOf _ _ _ _ _ (by omega), toNat_append_add]
    omega
  rw [codePred, hc]
  cases p <;> rfl

theorem setWidth_wordOf_imm {n : Nat} (hn : n ≤ 24) : (wordOf op d a b (p.code ++ imm)).setWidth n = imm.setWidth n := by
  rw [setWidth_wordOf _ _ _ _ _ (by omega)]
  refine BitVec.eq_of_toNat_eq ?_
  rw [BitVec.toNat_setWidth, BitVec.toNat_setWidth, toNat_append_add, mul_pow_add_mod _ _ hn]

end Fields

theorem getLsbD_append_of_le {n m i : Nat} (x : BitVec n) (y : BitVec m) (h : m ≤ i) :
    (x ++ y).getLsbD i = x.getLsbD (i - m) := by
  rw [BitVec.getLsbD_append, if_neg (by omega)]

theorem getLsbD_append_of_lt {n m i : Nat} (x : BitVec n) (y : BitVec m) (h : i < m) :
    (x ++ y).getLsbD i = y.getLsbD i := by
  rw [BitVec.getLsbD_append, if_pos h]

theorem toNat_zero {n : Nat} : (0 : BitVec n).toNat = 0 := rfl

theorem getLsbD_ofBool (x : Bool) : (BitVec.ofBool x).getLsbD 0 = x := by cases x <;> rfl

section Formats

variable (op : BitVec 6) (p : Pred) (d a b : XReg) (idx rel : Bool) (addr : BitVec 12) (row : Nat) (w : Byte) (dir : Dir)

theorem getLsbD_wordM : (wordM op p d a b idx addr).getLsbD 23 = idx := by
  rw [wordM, wordI, getLsbD_wordOf _ _ _ _ _ (by omega), getLsbD_append_of_lt _ _ (by omega),
    getLsbD_append_of_le _ _ (by omega), getLsbD_append_of_le _ _ (by omega)]
  exact getLsbD_ofBool idx

theorem setWidth_wordM : (wordM op p d a b idx addr).setWidth 12 = addr := by
  rw [wordM, wordI, setWidth_wordOf_imm _ _ _ _ _ _ (by omega)]
  refine BitVec.eq_of_toNat_eq ?_
  rw [BitVec.toNat_setWidth, toNat_append_add, Nat.mul_add_mod', Nat.mod_eq_of_lt addr.isLt]

theorem getLsbD_wordP_rel : (wordP op d b rel idx row w).getLsbD 26 = rel := by
  rw [wordP, getLsbD_wordOf _ _ _ _ _ (by omega), getLsbD_append_of_le _ _ (by omega),
    getLsbD_append_of_le _ _ (by omega), getLsbD_append_of_le _ _ (by omega), getLsbD_append_of_le _ _ (by omega)]
  exact getLsbD_ofBool rel

theorem getLsbD_wordP_idx : (wordP op d b rel idx row w).getLsbD 25 = idx := by
  rw [wordP, getLsbD_wordOf _ _ _ _ _ (by omega), getLsbD_append_of_le _ _ (by omega),
    getLsbD_append_of_le _ _ (by omega), getLsbD_append_of_le _ _ (by omega), getLsbD_append_of_lt _ _ (by omega)]
  exact getLsbD_ofBool idx

theorem codeBits_wordP_row (h : row < 384) : codeBits (wordP op d b rel idx row w) 16 9 = row := by
  have hw := w.isLt
  rw [wordP, codeBits_wordOf _ _ _ _ _ (by omega)]
  simp only [toNat_append_add, BitVec.toNat_ofNat]
  omega

theorem codeBits_wordP_word : codeBits (wordP op d b rel idx row w) 8 8 = w.toNat := by
  have hw := w.isLt
  rw [wordP, codeBits_wordOf _ _ _ _ _ (by omega)]
  simp only [toNat_append_add, BitVec.toNat_ofNat]
  omega

theorem getLsbD_wordC : (wordC op d a dir).getLsbD 24 = (dir == .prev) := by
  rw [wordC, getLsbD_wordOf _ _ _ _ _ (by omega), getLsbD_append_of_le _ _ (by omega), getLsbD_append_of_lt _ _ (by omega)]
  exact getLsbD_ofBool _

theorem getLsbD_wordI {i : Nat} (hi : i < 24) (imm : Data) : (wordI op p d a b imm).getLsbD i = imm.getLsbD i := by
  rw [wordI, getLsbD_wordOf _ _ _ _ _ (by omega), BitVec.getLsbD_append, if_pos hi]

theorem codeBits_wordI {lo n : Nat} (h : lo + n ≤ 24) (imm : Data) :
    codeBits (wordI op p d a b imm) lo n = imm.toNat / 2 ^ lo % 2 ^ n := by
  have hm := setWidth_wordOf_imm op p d a b imm h
  have h2 := congrArg BitVec.toNat hm
  rw [BitVec.toNat_setWidth, BitVec.toNat_setWidth, pow_add] at h2
  rw [codeBits, ← Nat.mod_mul_right_div_self, wordI, h2, Nat.mod_mul_right_div_self]

/-! The fields of each format, by the word's own name. -/

theorem codeBits_wordI_op (imm : Data) : codeBits (wordI op p d a b imm) 42 6 = op.toNat := codeBits_op ..
theorem codeBits_wordM_op : codeBits (wordM op p d a b idx addr) 42 6 = op.toNat := codeBits_op ..
theorem codeBits_wordP_op : codeBits (wordP op d b rel idx row w) 42 6 = op.toNat := codeBits_op ..
theorem codeBits_wordC_op : codeBits (wordC op d a dir) 42 6 = op.toNat := codeBits_op ..

theorem codeReg_wordI_d (imm : Data) : codeReg (wordI op p d a b imm) 37 = d := codeReg_d ..
theorem codeReg_wordI_a (imm : Data) : codeReg (wordI op p d a b imm) 32 = a := codeReg_a ..
theorem codeReg_wordI_b (imm : Data) : codeReg (wordI op p d a b imm) 27 = b := codeReg_b ..
theorem codeReg_wordM_d : codeReg (wordM op p d a b idx addr) 37 = d := codeReg_d ..
theorem codeReg_wordM_a : codeReg (wordM op p d a b idx addr) 32 = a := codeReg_a ..
theorem codeReg_wordM_b : codeReg (wordM op p d a b idx addr) 27 = b := codeReg_b ..
theorem codeReg_wordP_d : codeReg (wordP op d b rel idx row w) 37 = d := codeReg_d ..
theorem codeReg_wordP_b : codeReg (wordP op d b rel idx row w) 27 = b := codeReg_b ..
theorem codeReg_wordC_d : codeReg (wordC op d a dir) 37 = d := codeReg_d ..
theorem codeReg_wordC_a : codeReg (wordC op d a dir) 32 = a := codeReg_a ..

theorem codePred_wordI (imm : Data) : codePred (wordI op p d a b imm) = some p := codePred_wordOf ..
theorem codePred_wordM : codePred (wordM op p d a b idx addr) = some p := codePred_wordOf ..

theorem setWidth_wordI (imm : Data) : (wordI op p d a b imm).setWidth 24 = imm :=
  (setWidth_wordOf_imm op p d a b imm le_rfl).trans imm.setWidth_eq

/-- The direction that a word's bit 24 gives. -/
theorem dir_of_beq : (if (dir == .prev) = true then Dir.prev else Dir.next) = dir := by cases dir <;> rfl

theorem setWidth_wordI_of_le {n : Nat} (hn : n ≤ 24) (imm : Data) : (wordI op p d a b imm).setWidth n = imm.setWidth n :=
  setWidth_wordOf_imm op p d a b imm hn

/-- GETW's format: code, IDX and address in the immediate. -/
theorem wordI_getwFields (code : BitVec 4) (ad : Word) :
    let w := wordI op p d a b (code ++ BitVec.ofBool idx ++ (0 : BitVec 3) ++ ad)
    codeBits w 20 4 = code.toNat ∧ w.getLsbD 19 = idx ∧ w.setWidth 16 = ad := by
  have ha := ad.isLt
  have hc := code.isLt
  have hb := (BitVec.ofBool idx).isLt
  refine ⟨?_, ?_, ?_⟩
  · rw [codeBits_wordI _ _ _ _ _ (by omega)]
    simp only [toNat_append_add, toNat_zero]
    omega
  · rw [getLsbD_wordI _ _ _ _ _ (by omega), getLsbD_append_of_le _ _ (by omega), getLsbD_append_of_le _ _ (by omega),
      getLsbD_append_of_lt _ _ (by omega)]
    exact getLsbD_ofBool idx
  · refine (setWidth_wordI_of_le _ _ _ _ _ (by omega) _).trans (BitVec.eq_of_toNat_eq ?_)
    rw [BitVec.toNat_setWidth, toNat_append_add, Nat.mul_add_mod', Nat.mod_eq_of_lt ha]

/-- LOOP's format: COUNT and LAST in the low bits. -/
theorem wordOf_loopFields (count last : BitVec 11) :
    let w := wordOf op d a b (count ++ (0 : BitVec 5) ++ last)
    codeBits w 16 11 = count.toNat ∧ w.setWidth 11 = last := by
  have hc := count.isLt
  have hl := last.isLt
  refine ⟨?_, ?_⟩
  · rw [codeBits_wordOf _ _ _ _ _ (by omega)]
    simp only [toNat_append_add, toNat_zero]
    omega
  · refine (setWidth_wordOf _ _ _ _ _ (by omega)).trans (BitVec.eq_of_toNat_eq ?_)
    rw [BitVec.toNat_setWidth, toNat_append_add, Nat.mul_add_mod', Nat.mod_eq_of_lt hl]

theorem codeBits_wordOf_entry {entry : Nat} (h : entry < 384) :
    codeBits (wordOf op d a b ((0 : BitVec 18) ++ BitVec.ofNat 9 entry)) 0 9 = entry := by
  rw [codeBits_wordOf _ _ _ _ _ (by omega), toNat_append_add, BitVec.toNat_ofNat, toNat_zero]
  omega

end Formats

/-- The word of an instruction's opcode and fields spells that instruction. -/
theorem decodeCell_coded {i : Instr} {k : CellId} {w : Code} (hw : i.wf = true) (hi : i.coded = some (k, w)) :
    decodeCell k w = some i := by
  cases i
  case nop | add | sub | addi | adds | subs | min | max | abs | and | or | xor | shl | shr | sar | shli | sari | mov | movi
      | plt | ple | peq | pne | pand | pnot | clra | mul | mac | msu | racc | getr | wht | sort | med3 =>
    cases hi
    unfold decodeCell
    dsimp only
    rw [codeBits_wordI_op, codeReg_wordI_d, codeReg_wordI_a, codeReg_wordI_b, codePred_wordI, setWidth_wordI]
    rfl
  case getw c p d b code idx addr =>
    cases hi
    obtain ⟨hcode, hidx, haddr⟩ := wordI_getwFields 0x23 p d 0 b idx code addr
    unfold decodeCell
    dsimp only
    rw [codeBits_wordI_op, codeReg_wordI_d, codeReg_wordI_b, codePred_wordI, hcode, hidx, haddr, BitVec.ofNat_toNat,
      BitVec.setWidth_eq]
    rfl
  case ld c f =>
    cases f with
    | library => cases hi
    | code p d b idx addr =>
      cases hi
      unfold decodeCell
      dsimp only
      rw [codeBits_wordM_op, codeReg_wordM_d, codeReg_wordM_b, codePred_wordM, getLsbD_wordM, setWidth_wordM]
      rfl
  case st =>
    cases hi
    unfold decodeCell
    dsimp only
    rw [codeBits_wordM_op, codeReg_wordM_a, codeReg_wordM_b, codePred_wordM, getLsbD_wordM, setWidth_wordM]
    rfl
  case emit c f | ering c f =>
    cases f with
    | library => cases hi
    | code p addr =>
      cases hi
      unfold decodeCell
      dsimp only
      rw [codeBits_wordM_op, codePred_wordM, setWidth_wordM]
      rfl
  case pub c f | vote c f =>
    cases f with
    | library => cases hi
    | code =>
      cases hi
      unfold decodeCell
      dsimp only
      rw [codeBits_wordI_op, codeReg_wordI_a, codePred_wordI, setWidth_wordI]
      rfl
  case intake | intakes =>
    cases hi
    unfold decodeCell
    dsimp only
    rw [codeBits_wordP_op, codeReg_wordP_d, codeReg_wordP_b, getLsbD_wordP_rel, getLsbD_wordP_idx,
      codeBits_wordP_row _ _ _ _ _ _ _ (of_decide_eq_true hw), codeBits_wordP_word, BitVec.ofNat_toNat, BitVec.setWidth_eq]
    rfl
  case send | recv =>
    cases hi
    unfold decodeCell
    dsimp only
    rw [codeBits_wordC_op, codeReg_wordC_d, codeReg_wordC_a, getLsbD_wordC, dir_of_beq]
    rfl
  case loop c count last =>
    cases hi
    obtain ⟨hcount, hlast⟩ := wordOf_loopFields 0x38 0 0 0 count last
    unfold decodeCell
    dsimp only
    rw [codeBits_op, hcount, hlast, BitVec.ofNat_toNat, BitVec.setWidth_eq]
    rfl
  case waitEntry c entry =>
    cases hi
    unfold decodeCell
    dsimp only
    rw [codeBits_op, codeBits_wordOf_entry _ _ _ _ (of_decide_eq_true hw)]
    rfl
  case frameEnd =>
    cases hi
    unfold decodeCell
    dsimp only
    rw [codeBits_op]
    rfl
  all_goals cases hi

theorem decodeCell_none {k : CellId} {w : Code} (hp : codePred w = none) (hop : codeBits w 42 6 < 0x28) :
    decodeCell k w = none := by
  unfold decodeCell
  dsimp only
  rw [hp]
  split <;> simp_all

/-- Settles O14. -/
theorem forbiddenOperandsRefused : Obligations.ForbiddenOperandsRefused := by
  unfold Obligations.ForbiddenOperandsRefused
  intro s c p a b d rel idx row w hrow
  exact ⟨rfl, if_pos hrow, if_pos hrow, if_pos hrow, fun i k w' hw hi => decodeCell_coded hw hi,
    fun w' hp hop => decodeCell_none (by rw [codePred, hp]; rfl) hop⟩

end Sys2Proof.Machine
end

section
/-! PROOFS. What registers, fields and flags read after an update of a register, a field or a flag: one rule for each pair
of update and reading. -/

namespace Sys2Proof.Machine

theorem bits_putBits_same (v : Word) {lo w : Nat} (x : Nat) (h : lo + w ≤ 16) : bits (putBits v lo w x) lo w = x % 2 ^ w := by
  refine Nat.eq_of_testBit_eq fun i => ?_
  have hb := getLsbD_putBits v lo w x (lo + i)
  rw [bits, Nat.testBit_mod_two_pow, Nat.testBit_shiftRight, Nat.testBit_mod_two_pow]
  by_cases hi : i < w
  · have := hb (by omega)
    rw [if_pos (by omega)] at this
    simpa [hi, BitVec.getLsbD] using this
  · simp [hi]

theorem bits_putBits_of_disjoint (v : Word) {lo w lo' w' : Nat} (x : Nat) (h : lo' + w' ≤ 16)
    (hd : lo' + w' ≤ lo ∨ lo + w ≤ lo') : bits (putBits v lo w x) lo' w' = bits v lo' w' := by
  refine Nat.eq_of_testBit_eq fun i => ?_
  rw [bits, bits, Nat.testBit_mod_two_pow, Nat.testBit_shiftRight, Nat.testBit_mod_two_pow, Nat.testBit_shiftRight]
  by_cases hi : i < w'
  · have hb := getLsbD_putBits v lo w x (lo' + i) (by omega)
    rw [if_neg (by omega)] at hb
    exact congrArg _ hb
  · simp [hi]

/-- Words that agree in the bits of a field agree in the field. -/
theorem bits_congr {a b : Word} {lo w : Nat} (h : ∀ i, lo ≤ i → i < lo + w → a.getLsbD i = b.getLsbD i) :
    bits a lo w = bits b lo w := by
  refine Nat.eq_of_testBit_eq fun i => ?_
  rw [bits, bits, Nat.testBit_mod_two_pow, Nat.testBit_shiftRight, Nat.testBit_mod_two_pow, Nat.testBit_shiftRight]
  by_cases hi : i < w
  · exact congrArg _ (h (lo + i) (by omega) (by omega))
  · simp [hi]

namespace State

variable (s : State) {r q : RegId}

theorem flag_setReg_ne (v : Word) (i : Nat) (h : q ≠ r) : (s.setReg r v).flag q i = s.flag q i := by
  rw [flag, s.reg_setReg_ne v h, flag]

theorem fld_setReg_ne (v : Word) (lo w : Nat) (h : q ≠ r) : (s.setReg r v).fld q lo w = s.fld q lo w := by
  rw [fld, s.reg_setReg_ne v h, fld]

theorem flag_setFld_ne (lo w x i : Nat) (h : q ≠ r) : (s.setFld r lo w x).flag q i = s.flag q i := s.flag_setReg_ne _ i h

theorem fld_setFld_ne (lo w x lo' w' : Nat) (h : q ≠ r) : (s.setFld r lo w x).fld q lo' w' = s.fld q lo' w' :=
  s.fld_setReg_ne _ lo' w' h

theorem flag_setFlag_ne (b i : Nat) (v : Bool) (h : q ≠ r) : (s.setFlag r b v).flag q i = s.flag q i :=
  s.flag_setReg_ne _ i h

theorem fld_setFlag_ne (b lo w : Nat) (v : Bool) (h : q ≠ r) : (s.setFlag r b v).fld q lo w = s.fld q lo w :=
  s.fld_setReg_ne _ lo w h

theorem flag_setFlag_other {b i : Nat} (v : Bool) (hi : i < 16) (h : i ≠ b) : (s.setFlag r b v).flag r i = s.flag r i := by
  rw [s.flag_setFlag r r b i v hi, if_neg (fun c => h c.2)]

theorem fld_setFld_same {lo w : Nat} (x : Nat) (h : lo + w ≤ 16) : (s.setFld r lo w x).fld r lo w = x % 2 ^ w := by
  rw [setFld, fld, reg_setReg_same, bits_putBits_same _ _ h]

theorem fld_setFld_disjoint {lo w lo' w' : Nat} (x : Nat) (h : lo' + w' ≤ 16) (hd : lo' + w' ≤ lo ∨ lo + w ≤ lo') :
    (s.setFld r lo w x).fld r lo' w' = s.fld r lo' w' := by
  rw [setFld, fld, reg_setReg_same, bits_putBits_of_disjoint _ _ h hd, fld]

theorem fld_setFlag_disjoint {b lo w : Nat} (v : Bool) (h : lo + w ≤ 16) (hd : lo + w ≤ b ∨ b + 1 ≤ lo) :
    (s.setFlag r b v).fld r lo w = s.fld r lo w := s.fld_setFld_disjoint _ h hd

theorem flag_setFld_out {lo w i : Nat} (x : Nat) (hi : i < 16) (h : i < lo ∨ lo + w ≤ i) :
    (s.setFld r lo w x).flag r i = s.flag r i := by
  rw [setFld, flag, reg_setReg_same, getLsbD_putBits _ _ _ _ _ hi, if_neg (by omega), flag]

theorem flag_setFld_in {lo w i : Nat} (x : Nat) (hi : i < 16) (h : lo ≤ i ∧ i < lo + w) :
    (s.setFld r lo w x).flag r i = x.testBit (i - lo) := by
  rw [setFld, flag, reg_setReg_same, getLsbD_putBits _ _ _ _ _ hi, if_pos h]

theorem flag_raise_same {b : Nat} (h : b < 16) : (s.raise b).flag Reg.INT_STAT b = true := s.flag_setFlag_same _ _ _ h

theorem flag_raise_ne (b i : Nat) (h : q ≠ Reg.INT_STAT) : (s.raise b).flag q i = s.flag q i := s.flag_setReg_ne _ i h

theorem fld_raise_ne (b lo w : Nat) (h : q ≠ Reg.INT_STAT) : (s.raise b).fld q lo w = s.fld q lo w := s.fld_setReg_ne _ lo w h

theorem flag_raise_other {b i : Nat} (hi : i < 16) (h : i ≠ b) : (s.raise b).flag Reg.INT_STAT i = s.flag Reg.INT_STAT i :=
  s.flag_setFlag_other _ hi h

theorem fld_lt (lo w : Nat) : s.fld r lo w < 2 ^ w := Nat.mod_lt _ (by positivity)

theorem fld_incFld_same {lo w : Nat} (h : lo + w ≤ 16) : (s.incFld r lo w).fld r lo w = (s.fld r lo w + 1) % 2 ^ w :=
  s.fld_setFld_same _ h

theorem fld_satFld_same {lo w : Nat} (h : lo + w ≤ 16) :
    (s.satFld r lo w).fld r lo w = min (s.fld r lo w + 1) (2 ^ w - 1) := by
  rw [satFld, s.fld_setFld_same _ h]
  exact Nat.mod_eq_of_lt (lt_of_le_of_lt (min_le_right _ _) (Nat.sub_lt (by positivity) one_pos))

theorem reg_incFld_ne (lo w : Nat) (h : q ≠ r) : (s.incFld r lo w).reg q = s.reg q := s.reg_setReg_ne _ h
theorem flag_incFld_ne (lo w i : Nat) (h : q ≠ r) : (s.incFld r lo w).flag q i = s.flag q i := s.flag_setReg_ne _ i h
theorem fld_incFld_ne (lo w lo' w' : Nat) (h : q ≠ r) : (s.incFld r lo w).fld q lo' w' = s.fld q lo' w' :=
  s.fld_setReg_ne _ lo' w' h
theorem fld_incFld_disjoint {lo w lo' w' : Nat} (h : lo' + w' ≤ 16) (hd : lo' + w' ≤ lo ∨ lo + w ≤ lo') :
    (s.incFld r lo w).fld r lo' w' = s.fld r lo' w' := s.fld_setFld_disjoint _ h hd
theorem flag_incFld_out {lo w i : Nat} (hi : i < 16) (h : i < lo ∨ lo + w ≤ i) :
    (s.incFld r lo w).flag r i = s.flag r i := s.flag_setFld_out _ hi h
theorem reg_satFld_ne (lo w : Nat) (h : q ≠ r) : (s.satFld r lo w).reg q = s.reg q := s.reg_setReg_ne _ h
theorem flag_satFld_ne (lo w i : Nat) (h : q ≠ r) : (s.satFld r lo w).flag q i = s.flag q i := s.flag_setReg_ne _ i h
theorem fld_satFld_ne (lo w lo' w' : Nat) (h : q ≠ r) : (s.satFld r lo w).fld q lo' w' = s.fld q lo' w' :=
  s.fld_setReg_ne _ lo' w' h
theorem flag_satFld_out {lo w i : Nat} (hi : i < 16) (h : i < lo ∨ lo + w ≤ i) :
    (s.satFld r lo w).flag r i = s.flag r i := s.flag_setFld_out _ hi h

end State

/-! ### IRQ_N -/

theorem word_eq_zero_iff (v : Word) : v = 0 ↔ ∀ b < 16, v.getLsbD b = false := by
  refine ⟨fun h b _ => by simp [h], fun h => BitVec.eq_of_getLsbD_eq fun b hb => ?_⟩
  rw [h b hb]
  exact (BitVec.getLsbD_zero).symm

/-- Settles O43. -/
theorem irqLevel : Obligations.IrqLevel := by
  unfold Obligations.IrqLevel
  intro s
  have he : (s.reg Reg.INT_STAT &&& s.reg Reg.INT_EN) ≠ 0 ↔
      ∃ b < 16, s.flag Reg.INT_STAT b = true ∧ s.flag Reg.INT_EN b = true := by
    rw [Ne, word_eq_zero_iff]
    simp [State.flag]
  rw [State.irqAsserted, Bool.and_eq_true, Bool.or_eq_true, Bool.or_eq_true, bne_iff_ne, he, decide_eq_true_iff, or_assoc]

end Sys2Proof.Machine
end

section
/-! PROOFS. Wake sources, the charge pump and the DPLL (03, 05, 11). -/

namespace Sys2Proof.Machine

theorem completes_of_eq {i : Instr} {s t : State} {P : State → Prop} (hx : exec i s = .next t) (hP : P t) : completes i s P :=
  ⟨t, hx, hP⟩

section Guarded

variable {i : Instr} {s t e : State} {P : State → Prop} {c : Prop} [Decidable c]

/-- A command that its condition lets act. -/
theorem completes_of_guard (hx : exec i s = .next (if c then t else e)) (hc : c) (hP : P t) : completes i s P :=
  ⟨t, hx.trans (congrArg _ (if_pos hc)), hP⟩

/-- A command that its condition stops. -/
theorem exec_of_not_guard (hx : exec i s = .next (if c then t else e)) (hc : ¬ c) : exec i s = .next e :=
  hx.trans (congrArg _ (if_neg hc))

/-- A command that does nothing where its condition lets it act. -/
theorem exec_of_guard_same (hx : exec i s = .next (if c then t else s)) (ht : t = s) : exec i s = .next s :=
  hx.trans (congrArg _ (ite_eq_right_iff.2 fun _ => ht))

end Guarded

theorem ite_of_pos {c P Q : Prop} [Decidable c] (hc : c) (h : P) : if c then P else Q := (if_pos hc).mpr h

theorem ite_of_neg {c P Q : Prop} [Decidable c] (hc : ¬ c) (h : Q) : if c then P else Q := (if_neg hc).mpr h

theorem State.mainUp_aonUp {s : State} (h : s.mainUp = true) : s.aonUp = true := by
  simp only [State.mainUp, Bool.and_eq_true] at h
  rw [State.aonUp, h.1.2, h.2]
  rfl

/-! ### Wake sources -/

theorem State.wakeRequest_frame (s : State) (w : WakeSource) :
    s.wakeRequest w = { s with pwr := { s.pwr with reqs := (s.wakeRequest w).pwr.reqs } } := by
  unfold State.wakeRequest
  split <;> rfl

theorem State.wakeRequest_of_awake {s : State} (h : s.pwr.pstate ≠ .sleep) (w : WakeSource) : s.wakeRequest w = s := by
  simp [State.wakeRequest, h]

theorem State.mem_wakeRequest {s : State} (h : s.pwr.pstate = .sleep) (w : WakeSource) : w ∈ (s.wakeRequest w).pwr.reqs := by
  by_cases hc : w ∈ s.pwr.reqs
  · rwa [State.wakeRequest, if_neg (by simp [hc])]
  · rw [State.wakeRequest, if_pos (by simp [h, hc])]
    exact List.mem_append_right _ (List.mem_singleton.2 rfl)

theorem getLsbD_word (n : Nat) {b : Nat} (h : b < 16) : (word n).getLsbD b = decide (n / 2 ^ b % 2 = 1) := by
  rw [word, BitVec.getLsbD_ofNat, Nat.testBit_eq_decide_div_mod_eq]
  simp [h]

/-- The flags of WAKE_SRC above its count (Table 11.19). -/
theorem wakeBits_flags (l : List WakeSource) {n : Nat} (h : n < 256) :
    (word (wakeBits l + n)).getLsbD 15 = l.contains .geyser ∧ (word (wakeBits l + n)).getLsbD 14 = l.contains .host ∧
      (word (wakeBits l + n)).getLsbD 13 = l.contains .timer ∧ (word (wakeBits l + n)).getLsbD 12 = l.contains .dsync ∧
      (word (wakeBits l + n)).getLsbD 11 = l.contains .tck := by
  unfold wakeBits
  generalize l.contains .geyser = g, l.contains .host = o, l.contains .timer = m, l.contains .dsync = y,
    l.contains .tck = k
  have hb (x : Bool) : x.toNat ≤ 1 ∧ decide (x.toNat = 1) = x := by cases x <;> decide
  obtain ⟨hg, hg'⟩ := hb g
  obtain ⟨ho, ho'⟩ := hb o
  obtain ⟨hm, hm'⟩ := hb m
  obtain ⟨hy, hy'⟩ := hb y
  obtain ⟨hk, hk'⟩ := hb k
  simp only [bitAt]
  rw [getLsbD_word _ (by omega), getLsbD_word _ (by omega), getLsbD_word _ (by omega), getLsbD_word _ (by omega),
    getLsbD_word _ (by omega)]
  refine ⟨.trans (decide_eq_decide.2 ?_) hg', .trans (decide_eq_decide.2 ?_) ho', .trans (decide_eq_decide.2 ?_) hm',
    .trans (decide_eq_decide.2 ?_) hy', .trans (decide_eq_decide.2 ?_) hk'⟩ <;> omega

theorem State.timerStart_frame (s : State) :
    s.timerStart = { s with pwr := { s.pwr with timerLeft := s.timerStart.pwr.timerLeft } } := rfl

/-- Settles O50. -/
theorem wakeSources : Obligations.WakeSources := by
  unfold Obligations.WakeSources
  intro s falling v ha
  refine ⟨fun hs => ⟨fun ht => ?_, fun hd hp => ?_, fun hl => ?_, fun hr => ?_⟩, fun hs => ?_, fun hl => ?_, ?_⟩
  · refine completes_of_guard rfl (by simp [ha, hs, ht]) ⟨State.mem_wakeRequest (s := { s with pwr := { s.pwr with timerLeft := 0 } }) hs .timer, ?_, ?_⟩ <;>
      rw [State.wakeRequest_frame]
  · refine completes_of_guard rfl (by simp [ha, hd, hp]) ⟨State.mem_wakeRequest hs .dsync, ?_⟩
    rw [State.wakeRequest_frame]
  · refine completes_of_guard rfl (by simp [ha, hl]) ⟨State.mem_wakeRequest hs .tck, ?_⟩
    rw [State.wakeRequest_frame]
  · obtain ⟨h15, h14, h13, h12, h11⟩ := wakeBits_flags s.pwr.reqs (s.fld_lt (r := Reg.WAKE_SRC) 0 8)
    refine completes_of_guard rfl (by simp [ha, hs, hr]) ⟨rfl, rfl, rfl, rfl, rfl, fun q hq => s.reg_setReg_ne _ hq, ?_⟩
    have hw : s.wakeEvent.reg Reg.WAKE_SRC = word (wakeBits s.pwr.reqs + s.fld Reg.WAKE_SRC 0 8) := s.reg_setReg_same _ _
    simp only [State.flag, hw]
    exact ⟨h15, h14, h13, h12, h11⟩
  · exact ⟨exec_of_not_guard rfl (by simp [hs]), exec_of_guard_same rfl (s.wakeRequest_of_awake hs _),
      exec_of_guard_same rfl (s.wakeRequest_of_awake hs _), exec_of_not_guard rfl (by simp [hs])⟩
  · exact exec_of_not_guard rfl (by simp [hl])
  · have hw : (s.setReg Reg.WAKE_TIMER v).reg Reg.WAKE_TIMER = v := s.reg_setReg_same _ _
    by_cases hs : s.pwr.pstate = .sleep
    · have ht : s.wakeTimerWrite v = (s.setReg Reg.WAKE_TIMER v).timerStart := if_pos hs
      refine completes_of_guard rfl ha (ht ▸ ⟨hw, fun q hq => s.reg_setReg_ne _ hq, rfl, ?_⟩)
      rw [if_pos hs, State.timerStart, State.fld, State.fld, hw]
    · have ht : s.wakeTimerWrite v = s.setReg Reg.WAKE_TIMER v := if_neg hs
      exact completes_of_guard rfl ha (ht ▸ ⟨hw, fun q hq => s.reg_setReg_ne _ hq, rfl, (if_neg hs).symm⟩)

/-! ### Charge pump and DPLL -/

/-- A register written by its RW fields only, without W1C fields. -/
theorem State.plainWrite_reg (s : State) (r : RegId) (v : Word) : (s.plainWrite r v).reg r = writtenWord r (s.reg r) v :=
  s.reg_setReg_same _ _

theorem State.plainWrite_reg_ne (s : State) {r q : RegId} (v : Word) (h : q ≠ r) : (s.plainWrite r v).reg q = s.reg q :=
  s.reg_setReg_ne _ h

theorem State.reg_setFlag2_ne (s : State) {r q : RegId} (a b : Nat) (v w : Bool) (h : q ≠ r) :
    ((s.setFlag r a v).setFlag r b w).reg q = s.reg q := by
  rw [State.reg_setFlag_ne _ _ _ h, State.reg_setFlag_ne _ _ _ h]

theorem writtenWord_clkCtl (old v : Word) : writtenWord Reg.CLK_CTL old v = (old &&& 0x8000) ||| (v &&& 0x7FFF) := by
  have hr : rwMask (Reg.CLK_CTL).val = 0x7FFF := rfl
  have hw : w1cMask (Reg.CLK_CTL).val = 0 := rfl
  have h0 : ~~~(v &&& 0) = BitVec.allOnes 16 := congrArg (~~~ ·) BitVec.and_zero
  rw [writtenWord, hr, hw, h0, BitVec.and_allOnes]
  rfl

/-- CLK_CTL takes the written TB. -/
theorem State.plainWrite_clkCtl_tb (s : State) (v : Word) : (s.plainWrite Reg.CLK_CTL v).fld Reg.CLK_CTL 13 2 = bits v 13 2 := by
  rw [State.fld, s.plainWrite_reg, writtenWord_clkCtl]
  refine bits_congr fun i h1 h2 => ?_
  obtain rfl | rfl : i = 13 ∨ i = 14 := by omega
  all_goals simp

theorem State.leaveDpll_frame (s : State) : s.leaveDpll = { s with drive := s.leaveDpll.drive } := by
  unfold State.leaveDpll
  split <;> rfl

@[simp] theorem State.reg_leaveDpll (s : State) (r : RegId) : s.leaveDpll.reg r = s.reg r := by rw [State.leaveDpll_frame]; rfl

/-- What `t` shows of a DPLL that has lost its lock in `s` (R162, R163). -/
def dpllLost (s t : State) : Prop :=
  t.flag Reg.CLK_STAT 14 = false ∧ t = { s with regs := t.regs, drive := t.drive } ∧
    (∀ q, q ≠ Reg.CLK_STAT → t.reg q = s.reg q) ∧
    (s.flag Reg.CLK_STAT 15 = true → t.flag Reg.CLK_STAT 13 = true ∧ t.drive.toFio = true) ∧
    (s.flag Reg.CLK_STAT 15 = false → t.flag Reg.CLK_STAT 13 = s.flag Reg.CLK_STAT 13 ∧ t.drive = s.drive)

theorem dpllLost_setFlag10 {s t : State} (h : dpllLost s t) : dpllLost s (t.setFlag Reg.CLK_STAT 10 true) := by
  obtain ⟨h14, hf, hr, hd, hn⟩ := h
  have hk {b : Nat} (hb : b < 16) (hne : b ≠ 10) := t.flag_setFlag_other (r := Reg.CLK_STAT) true hb hne
  refine ⟨(hk (by omega) (by omega)).trans h14, ?_, fun q hq => (t.reg_setFlag_ne _ _ hq).trans (hr q hq),
    fun h => ⟨(hk (by omega) (by omega)).trans (hd h).1, (hd h).2⟩,
    fun h => ⟨(hk (by omega) (by omega)).trans (hn h).1, (hn h).2⟩⟩
  rw [hf]
  rfl

/-- A DPLL that drives leaves the timebase to FIO when it loses lock, and another one does not. -/
theorem dpllLost_unlock (s : State) :
    let u := (s.setFlag Reg.CLK_STAT 14 false).leaveDpll
    dpllLost s (if s.flag Reg.CLK_STAT 15 then u.setFlag Reg.CLK_STAT 13 true else u) := by
  have h15 : (s.setFlag Reg.CLK_STAT 14 false).flag Reg.CLK_STAT 15 = s.flag Reg.CLK_STAT 15 :=
    s.flag_setFlag_other _ (by omega) (by omega)
  have h13 := s.flag_setFlag_other (r := Reg.CLK_STAT) (b := 14) (i := 13) false (by omega) (by omega)
  have h14 := s.flag_setFlag_same Reg.CLK_STAT 14 false (by omega)
  dsimp only
  by_cases hd : s.flag Reg.CLK_STAT 15 = true
  · rw [State.leaveDpll, if_pos (h15.trans hd), if_pos hd]
    exact ⟨(State.flag_setFlag_other _ _ (by omega) (by omega)).trans h14, rfl, fun q hq => s.reg_setFlag2_ne _ _ _ _ hq,
      fun _ => ⟨State.flag_setFlag_same _ _ _ _ (by omega), rfl⟩, fun hf => absurd hd (by simp [hf])⟩
  · rw [State.leaveDpll, if_neg (fun h => hd (h15.symm.trans h)), if_neg hd]
    exact ⟨h14, rfl, fun q hq => s.reg_setFlag_ne _ _ hq, fun h => absurd h hd, fun _ => ⟨h13, rfl⟩⟩

/-- Settles O33. -/
theorem pumpAndDpll : Obligations.PumpAndDpll := by
  unfold Obligations.PumpAndDpll
  refine ⟨fun s hm => ⟨fun hp => ⟨?_, ?_⟩, fun hp => ⟨?_, ?_⟩⟩, fun s refHz c v hm => ⟨fun hb => ?_, fun hb ht hl => ?_, fun hl => ?_, ?_⟩⟩
  · refine completes_of_guard rfl (by simp [hm, hp]) ⟨?_, ?_, fun q hq => s.reg_setFlag2_ne _ _ _ _ hq, rfl⟩
    · rw [State.flag_setFlag_other _ _ (by omega) (by omega), State.flag_setFlag_same _ _ _ _ (by omega)]
    · rw [State.flag_setFlag_same _ _ _ _ (by omega)]
  · refine completes_of_guard rfl (by simp [hm, hp]) ⟨?_, ?_, fun q hq => s.reg_setFlag2_ne _ _ _ _ hq, rfl⟩
    · rw [State.flag_setFlag_other _ _ (by omega) (by omega), State.flag_setFlag_same _ _ _ _ (by omega)]
    · rw [State.flag_setFlag_same _ _ _ _ (by omega)]
  · exact exec_of_not_guard rfl (by simp [hp])
  · exact exec_of_not_guard rfl (by simp [hp])
  · exact exec_of_not_guard rfl (by simp [hb])
  · have hc : (s.mainUp && decide (s.pwr.boot = .done) && s.tb != 0) = true := by simp [hm, hb, ht]
    refine completes_of_guard rfl hc ?_
    by_cases hr : dpllInRange (s.dpllOut refHz) = true
    · have hf := hr
      rw [dpllInRange, Bool.and_eq_true, decide_eq_true_iff, decide_eq_true_iff] at hf
      rw [if_pos hr]
      exact ⟨rfl, fun q hq => s.reg_setFlag_ne _ _ hq, ite_of_pos hf ⟨s.flag_setFlag_same _ _ _ (by omega), rfl⟩⟩
    · have hf : ¬ (24000000 ≤ s.dpllOut refHz ∧ s.dpllOut refHz ≤ 96000000) := by simpa [dpllInRange] using hr
      rw [if_neg hr, if_neg (by simp [hl])]
      exact ⟨rfl, fun q hq => s.reg_setFlag_ne _ _ hq, ite_of_neg hf ⟨(s.flag_setFlag_other _ (by omega) (by omega)).trans hl,
        s.flag_setFlag_same _ _ _ (by omega), rfl⟩⟩
  · refine completes_of_guard rfl (by simp [hm, hl]) ?_
    have hu := dpllLost_unlock s
    cases c with
    | reference | phaseError =>
      obtain ⟨h14, hf, hr, hd, hn⟩ := hu
      exact ⟨h14, hf, hr, hd, hn, fun h => nomatch h⟩
    | range =>
      obtain ⟨h14, hf, hr, hd, hn⟩ := dpllLost_setFlag10 hu
      exact ⟨h14, hf, hr, hd, hn, fun _ => State.flag_setFlag_same _ _ _ _ (by omega)⟩
  · have hw := (s.plainWrite_reg Reg.CLK_CTL v).trans (writtenWord_clkCtl _ v)
    have hn : Reg.CLK_CTL ≠ Reg.CLK_STAT := by decide
    refine completes_of_guard rfl hm ?_
    by_cases h0 : (s.plainWrite Reg.CLK_CTL v).fld Reg.CLK_CTL 13 2 = 0
    · have ht : s.clkCtlWrite v = (s.plainWrite Reg.CLK_CTL v).setFlag Reg.CLK_STAT 14 false := if_pos h0
      rw [ht]
      exact ⟨(State.reg_setFlag_ne _ _ _ hn).trans hw, fun _ => State.flag_setFlag_same _ _ _ _ (by omega), rfl,
        fun q h1 h2 => (State.reg_setFlag_ne _ _ _ h2).trans (s.plainWrite_reg_ne v h1)⟩
    · have hb : bits v 13 2 ≠ 0 := fun hb => h0 ((s.plainWrite_clkCtl_tb v).trans hb)
      have hx : s.clkCtlWrite v = (if s.fld Reg.CLK_CTL 13 2 ≠ 0 ∧
          (s.plainWrite Reg.CLK_CTL v).fld Reg.CLK_CTL 0 13 ≠ s.fld Reg.CLK_CTL 0 13 then
          ((s.plainWrite Reg.CLK_CTL v).setFlag Reg.CLK_STAT 14 false).leaveDpll else s.plainWrite Reg.CLK_CTL v) := if_neg h0
      rw [hx]
      split
      · refine ⟨?_, fun h => absurd h hb, ?_, fun q h1 h2 => ?_⟩
        · rw [State.reg_leaveDpll, State.reg_setFlag_ne _ _ _ hn, hw]
        · rw [State.leaveDpll_frame]
          rfl
        · rw [State.reg_leaveDpll, State.reg_setFlag_ne _ _ _ h2, s.plainWrite_reg_ne v h1]
      · exact ⟨hw, fun h => absurd h hb, rfl, fun q h1 _ => s.plainWrite_reg_ne v h1⟩

end Sys2Proof.Machine
end

section
/-! PROOFS. The checks of sleep by vote leave everything but the power state and the sequencer's due frame; the read side
of the queue, inserted records (11, 09). -/

namespace Sys2Proof.Machine

/-! ### The checks of sleep by vote -/

theorem State.quiesceCheck_frame (s : State) : s.quiesceCheck = { s with pwr := s.quiesceCheck.pwr } := by
  unfold State.quiesceCheck
  split
  · split <;> rfl
  · rfl

theorem State.beginQuiesce_frame (s : State) :
    s.beginQuiesce = { s with pwr := s.beginQuiesce.pwr, seq := s.beginQuiesce.seq } := by
  rw [State.beginQuiesce, State.quiesceCheck_frame]

theorem State.dueIfStopped_frame (s : State) :
    s.dueIfStopped = { s with pwr := s.dueIfStopped.pwr, seq := s.dueIfStopped.seq } := by
  unfold State.dueIfStopped
  split
  · exact s.beginQuiesce_frame
  · rfl

theorem State.settle_frame (s t : State) : s.settle t = { t with pwr := (s.settle t).pwr, seq := (s.settle t).seq } := by
  unfold State.settle
  split
  · rfl
  · exact t.dueIfStopped_frame

@[simp] theorem State.quiesceCheck_aon (s : State) : (s.quiesceCheck).aon = s.aon := by rw [State.quiesceCheck_frame]
@[simp] theorem State.quiesceCheck_regs (s : State) : (s.quiesceCheck).regs = s.regs := by rw [State.quiesceCheck_frame]
@[simp] theorem State.quiesceCheck_tables (s : State) : (s.quiesceCheck).tables = s.tables := by rw [State.quiesceCheck_frame]
@[simp] theorem State.quiesceCheck_flash (s : State) : (s.quiesceCheck).flash = s.flash := by rw [State.quiesceCheck_frame]
@[simp] theorem State.quiesceCheck_snap (s : State) : (s.quiesceCheck).snap = s.snap := by rw [State.quiesceCheck_frame]
@[simp] theorem State.quiesceCheck_effGz (s : State) : (s.quiesceCheck).effGz = s.effGz := by rw [State.quiesceCheck_frame]
@[simp] theorem State.quiesceCheck_rowDone (s : State) : (s.quiesceCheck).rowDone = s.rowDone := by rw [State.quiesceCheck_frame]
@[simp] theorem State.quiesceCheck_rowHeld (s : State) : (s.quiesceCheck).rowHeld = s.rowHeld := by rw [State.quiesceCheck_frame]
@[simp] theorem State.quiesceCheck_sync (s : State) : (s.quiesceCheck).sync = s.sync := by rw [State.quiesceCheck_frame]
@[simp] theorem State.quiesceCheck_drive (s : State) : (s.quiesceCheck).drive = s.drive := by rw [State.quiesceCheck_frame]
@[simp] theorem State.quiesceCheck_filt (s : State) : (s.quiesceCheck).filt = s.filt := by rw [State.quiesceCheck_frame]
@[simp] theorem State.quiesceCheck_lanes (s : State) : (s.quiesceCheck).lanes = s.lanes := by rw [State.quiesceCheck_frame]
@[simp] theorem State.quiesceCheck_dets (s : State) : (s.quiesceCheck).dets = s.dets := by rw [State.quiesceCheck_frame]
@[simp] theorem State.quiesceCheck_reserve (s : State) : (s.quiesceCheck).reserve = s.reserve := by rw [State.quiesceCheck_frame]
@[simp] theorem State.quiesceCheck_cal (s : State) : (s.quiesceCheck).cal = s.cal := by rw [State.quiesceCheck_frame]
@[simp] theorem State.quiesceCheck_cald (s : State) : (s.quiesceCheck).cald = s.cald := by rw [State.quiesceCheck_frame]
@[simp] theorem State.quiesceCheck_pace (s : State) : (s.quiesceCheck).pace = s.pace := by rw [State.quiesceCheck_frame]
@[simp] theorem State.quiesceCheck_sched (s : State) : (s.quiesceCheck).sched = s.sched := by rw [State.quiesceCheck_frame]
@[simp] theorem State.quiesceCheck_queue (s : State) : (s.quiesceCheck).queue = s.queue := by rw [State.quiesceCheck_frame]
@[simp] theorem State.quiesceCheck_ring (s : State) : (s.quiesceCheck).ring = s.ring := by rw [State.quiesceCheck_frame]
@[simp] theorem State.quiesceCheck_port (s : State) : (s.quiesceCheck).port = s.port := by rw [State.quiesceCheck_frame]
@[simp] theorem State.quiesceCheck_nvm (s : State) : (s.quiesceCheck).nvm = s.nvm := by rw [State.quiesceCheck_frame]
@[simp] theorem State.quiesceCheck_sec (s : State) : (s.quiesceCheck).sec = s.sec := by rw [State.quiesceCheck_frame]
@[simp] theorem State.quiesceCheck_geyser (s : State) : (s.quiesceCheck).geyser = s.geyser := by rw [State.quiesceCheck_frame]
@[simp] theorem State.quiesceCheck_fmon (s : State) : (s.quiesceCheck).fmon = s.fmon := by rw [State.quiesceCheck_frame]
@[simp] theorem State.quiesceCheck_lib (s : State) : (s.quiesceCheck).lib = s.lib := by rw [State.quiesceCheck_frame]
@[simp] theorem State.quiesceCheck_freeCtr (s : State) : (s.quiesceCheck).freeCtr = s.freeCtr := by rw [State.quiesceCheck_frame]
@[simp] theorem State.quiesceCheck_pending (s : State) : (s.quiesceCheck).pending = s.pending := by rw [State.quiesceCheck_frame]
@[simp] theorem State.quiesceCheck_seq (s : State) : (s.quiesceCheck).seq = s.seq := by rw [State.quiesceCheck_frame]
@[simp] theorem State.reg_quiesceCheck (s : State) (r : RegId) : (s.quiesceCheck).reg r = s.reg r := by rw [State.quiesceCheck_frame]; rfl
@[simp] theorem State.flag_quiesceCheck (s : State) (r : RegId) (b : Nat) : (s.quiesceCheck).flag r b = s.flag r b := by rw [State.quiesceCheck_frame]; rfl
@[simp] theorem State.fld_quiesceCheck (s : State) (r : RegId) (lo w : Nat) : (s.quiesceCheck).fld r lo w = s.fld r lo w := by rw [State.quiesceCheck_frame]; rfl

@[simp] theorem State.dueIfStopped_aon (s : State) : (s.dueIfStopped).aon = s.aon := by rw [State.dueIfStopped_frame]
@[simp] theorem State.dueIfStopped_regs (s : State) : (s.dueIfStopped).regs = s.regs := by rw [State.dueIfStopped_frame]
@[simp] theorem State.dueIfStopped_tables (s : State) : (s.dueIfStopped).tables = s.tables := by rw [State.dueIfStopped_frame]
@[simp] theorem State.dueIfStopped_flash (s : State) : (s.dueIfStopped).flash = s.flash := by rw [State.dueIfStopped_frame]
@[simp] theorem State.dueIfStopped_snap (s : State) : (s.dueIfStopped).snap = s.snap := by rw [State.dueIfStopped_frame]
@[simp] theorem State.dueIfStopped_effGz (s : State) : (s.dueIfStopped).effGz = s.effGz := by rw [State.dueIfStopped_frame]
@[simp] theorem State.dueIfStopped_rowDone (s : State) : (s.dueIfStopped).rowDone = s.rowDone := by rw [State.dueIfStopped_frame]
@[simp] theorem State.dueIfStopped_rowHeld (s : State) : (s.dueIfStopped).rowHeld = s.rowHeld := by rw [State.dueIfStopped_frame]
@[simp] theorem State.dueIfStopped_sync (s : State) : (s.dueIfStopped).sync = s.sync := by rw [State.dueIfStopped_frame]
@[simp] theorem State.dueIfStopped_drive (s : State) : (s.dueIfStopped).drive = s.drive := by rw [State.dueIfStopped_frame]
@[simp] theorem State.dueIfStopped_filt (s : State) : (s.dueIfStopped).filt = s.filt := by rw [State.dueIfStopped_frame]
@[simp] theorem State.dueIfStopped_lanes (s : State) : (s.dueIfStopped).lanes = s.lanes := by rw [State.dueIfStopped_frame]
@[simp] theorem State.dueIfStopped_dets (s : State) : (s.dueIfStopped).dets = s.dets := by rw [State.dueIfStopped_frame]
@[simp] theorem State.dueIfStopped_reserve (s : State) : (s.dueIfStopped).reserve = s.reserve := by rw [State.dueIfStopped_frame]
@[simp] theorem State.dueIfStopped_cal (s : State) : (s.dueIfStopped).cal = s.cal := by rw [State.dueIfStopped_frame]
@[simp] theorem State.dueIfStopped_cald (s : State) : (s.dueIfStopped).cald = s.cald := by rw [State.dueIfStopped_frame]
@[simp] theorem State.dueIfStopped_pace (s : State) : (s.dueIfStopped).pace = s.pace := by rw [State.dueIfStopped_frame]
@[simp] theorem State.dueIfStopped_sched (s : State) : (s.dueIfStopped).sched = s.sched := by rw [State.dueIfStopped_frame]
@[simp] theorem State.dueIfStopped_queue (s : State) : (s.dueIfStopped).queue = s.queue := by rw [State.dueIfStopped_frame]
@[simp] theorem State.dueIfStopped_ring (s : State) : (s.dueIfStopped).ring = s.ring := by rw [State.dueIfStopped_frame]
@[simp] theorem State.dueIfStopped_port (s : State) : (s.dueIfStopped).port = s.port := by rw [State.dueIfStopped_frame]
@[simp] theorem State.dueIfStopped_nvm (s : State) : (s.dueIfStopped).nvm = s.nvm := by rw [State.dueIfStopped_frame]
@[simp] theorem State.dueIfStopped_sec (s : State) : (s.dueIfStopped).sec = s.sec := by rw [State.dueIfStopped_frame]
@[simp] theorem State.dueIfStopped_geyser (s : State) : (s.dueIfStopped).geyser = s.geyser := by rw [State.dueIfStopped_frame]
@[simp] theorem State.dueIfStopped_fmon (s : State) : (s.dueIfStopped).fmon = s.fmon := by rw [State.dueIfStopped_frame]
@[simp] theorem State.dueIfStopped_lib (s : State) : (s.dueIfStopped).lib = s.lib := by rw [State.dueIfStopped_frame]
@[simp] theorem State.dueIfStopped_freeCtr (s : State) : (s.dueIfStopped).freeCtr = s.freeCtr := by rw [State.dueIfStopped_frame]
@[simp] theorem State.dueIfStopped_pending (s : State) : (s.dueIfStopped).pending = s.pending := by rw [State.dueIfStopped_frame]
@[simp] theorem State.reg_dueIfStopped (s : State) (r : RegId) : (s.dueIfStopped).reg r = s.reg r := by rw [State.dueIfStopped_frame]; rfl
@[simp] theorem State.flag_dueIfStopped (s : State) (r : RegId) (b : Nat) : (s.dueIfStopped).flag r b = s.flag r b := by rw [State.dueIfStopped_frame]; rfl
@[simp] theorem State.fld_dueIfStopped (s : State) (r : RegId) (lo w : Nat) : (s.dueIfStopped).fld r lo w = s.fld r lo w := by rw [State.dueIfStopped_frame]; rfl

@[simp] theorem State.settle_aon (s t : State) : (s.settle t).aon = t.aon := by rw [State.settle_frame]
@[simp] theorem State.settle_regs (s t : State) : (s.settle t).regs = t.regs := by rw [State.settle_frame]
@[simp] theorem State.settle_tables (s t : State) : (s.settle t).tables = t.tables := by rw [State.settle_frame]
@[simp] theorem State.settle_flash (s t : State) : (s.settle t).flash = t.flash := by rw [State.settle_frame]
@[simp] theorem State.settle_snap (s t : State) : (s.settle t).snap = t.snap := by rw [State.settle_frame]
@[simp] theorem State.settle_effGz (s t : State) : (s.settle t).effGz = t.effGz := by rw [State.settle_frame]
@[simp] theorem State.settle_rowDone (s t : State) : (s.settle t).rowDone = t.rowDone := by rw [State.settle_frame]
@[simp] theorem State.settle_rowHeld (s t : State) : (s.settle t).rowHeld = t.rowHeld := by rw [State.settle_frame]
@[simp] theorem State.settle_sync (s t : State) : (s.settle t).sync = t.sync := by rw [State.settle_frame]
@[simp] theorem State.settle_drive (s t : State) : (s.settle t).drive = t.drive := by rw [State.settle_frame]
@[simp] theorem State.settle_filt (s t : State) : (s.settle t).filt = t.filt := by rw [State.settle_frame]
@[simp] theorem State.settle_lanes (s t : State) : (s.settle t).lanes = t.lanes := by rw [State.settle_frame]
@[simp] theorem State.settle_dets (s t : State) : (s.settle t).dets = t.dets := by rw [State.settle_frame]
@[simp] theorem State.settle_reserve (s t : State) : (s.settle t).reserve = t.reserve := by rw [State.settle_frame]
@[simp] theorem State.settle_cal (s t : State) : (s.settle t).cal = t.cal := by rw [State.settle_frame]
@[simp] theorem State.settle_cald (s t : State) : (s.settle t).cald = t.cald := by rw [State.settle_frame]
@[simp] theorem State.settle_pace (s t : State) : (s.settle t).pace = t.pace := by rw [State.settle_frame]
@[simp] theorem State.settle_sched (s t : State) : (s.settle t).sched = t.sched := by rw [State.settle_frame]
@[simp] theorem State.settle_queue (s t : State) : (s.settle t).queue = t.queue := by rw [State.settle_frame]
@[simp] theorem State.settle_ring (s t : State) : (s.settle t).ring = t.ring := by rw [State.settle_frame]
@[simp] theorem State.settle_port (s t : State) : (s.settle t).port = t.port := by rw [State.settle_frame]
@[simp] theorem State.settle_nvm (s t : State) : (s.settle t).nvm = t.nvm := by rw [State.settle_frame]
@[simp] theorem State.settle_sec (s t : State) : (s.settle t).sec = t.sec := by rw [State.settle_frame]
@[simp] theorem State.settle_geyser (s t : State) : (s.settle t).geyser = t.geyser := by rw [State.settle_frame]
@[simp] theorem State.settle_fmon (s t : State) : (s.settle t).fmon = t.fmon := by rw [State.settle_frame]
@[simp] theorem State.settle_lib (s t : State) : (s.settle t).lib = t.lib := by rw [State.settle_frame]
@[simp] theorem State.settle_freeCtr (s t : State) : (s.settle t).freeCtr = t.freeCtr := by rw [State.settle_frame]
@[simp] theorem State.settle_pending (s t : State) : (s.settle t).pending = t.pending := by rw [State.settle_frame]
@[simp] theorem State.reg_settle (s t : State) (r : RegId) : (s.settle t).reg r = t.reg r := by rw [State.settle_frame]; rfl
@[simp] theorem State.flag_settle (s t : State) (r : RegId) (b : Nat) : (s.settle t).flag r b = t.flag r b := by rw [State.settle_frame]; rfl
@[simp] theorem State.fld_settle (s t : State) (r : RegId) (lo w : Nat) : (s.settle t).fld r lo w = t.fld r lo w := by rw [State.settle_frame]; rfl

end Sys2Proof.Machine
end

section
/-! PROOFS. The flush of the queue and the inserted records (09). -/

namespace Sys2Proof.Machine

/-! ### Flush -/

theorem State.queueVote_frame (s : State) : s.queueVote = { s with queue := { s.queue with vote := s.queueVote.queue.vote } } := by
  unfold State.queueVote
  split <;> rfl

theorem State.flushQueue_frame (s : State) :
    s.flushQueue = { s with regs := s.flushQueue.regs, queue := { s.queue with
      items := [], seen := 0, gap := none, saved := none, last := 0xFFFF, cut := s.queue.word != 0,
      rd := s.queue.rd + BitVec.ofNat 6 s.queue.items.length, vote := s.flushQueue.queue.vote } } := by
  unfold State.flushQueue
  dsimp only
  rw [State.queueVote_frame]
  split <;> rfl

theorem State.flushQueue_regs (s : State) :
    s.flushQueue.regs = (if s.queue.word = 0 then s else s.setFlag Reg.RPT_STAT 12 true).regs := by
  unfold State.flushQueue
  rw [State.queueVote_frame]

theorem State.reg_flushQueue_ne (s : State) {q : RegId} (h : q ≠ Reg.RPT_STAT) : s.flushQueue.reg q = s.reg q := by
  rw [State.reg, State.flushQueue_regs]
  split
  · rfl
  · exact s.reg_setFlag_ne _ _ h

theorem State.flushQueue_cut (s : State) (h : s.queue.word ≠ 0) : s.flushQueue.flag Reg.RPT_STAT 12 = true := by
  rw [State.flag, State.reg, State.flushQueue_regs, if_neg h]
  exact s.flag_setFlag_same _ _ _ (by omega)

/-! ### Inserted records -/

theorem State.countDrops_frame (s : State) (n : Nat) : s.countDrops n = { s with regs := (s.countDrops n).regs } := rfl

/-- A commit puts what is staged behind the committed items (R284). -/
theorem State.commitQueue_frame (s : State) :
    s.commitQueue = { s with regs := s.commitQueue.regs, queue := { s.queue with
      items := s.queue.items ++ s.queue.staged, staged := [], saved := s.queue.gap, drops := 0,
      vote := s.queue.vote || !(s.queue.items ++ s.queue.staged).isEmpty } } := by
  unfold State.commitQueue
  dsimp only
  split <;> rfl

theorem State.fld_countDrops_ne (s : State) (n : Nat) {q : RegId} (lo w : Nat) (h : q ≠ Reg.RPT_GAPS) :
    (s.countDrops n).fld q lo w = s.fld q lo w := s.fld_setReg_ne _ lo w h

/-- A commit that reaches the level of RPT_CTL sets INT_STAT.RPT (R295). -/
theorem State.commitQueue_raises (s : State)
    (h : max 1 (s.fld Reg.RPT_CTL 8 6) ≤ (s.queue.items ++ s.queue.staged).length) :
    s.commitQueue.flag Reg.INT_STAT Irq.RPT = true := by
  have hf := s.fld_countDrops_ne s.queue.drops 8 6 (by decide : Reg.RPT_CTL ≠ Reg.RPT_GAPS)
  unfold State.commitQueue
  refine (congrArg (fun t : State => t.flag Reg.INT_STAT Irq.RPT) (if_pos ?_)).trans (State.flag_raise_same _ (by decide))
  exact hf.symm ▸ h

/-- What an accepted record leaves of the state. -/
theorem State.pushRec_frame_of_accepted {s : State} (r : Rec) (hen : s.flag Reg.FUNC_EN 5 = true)
    (hocc : s.queue.occupancy < 63) (hgap : s.queue.gap = none) :
    s.pushRec r = { s with
      queue := { s.queue with staged := s.queue.staged ++ [r], gap := none },
      fmon := (s.pushRec r).fmon } := by
  have hacc : ¬ (!s.flag Reg.FUNC_EN 5 || decide (63 ≤ s.queue.occupancy)) = true := by simp [hen]; omega
  unfold State.pushRec
  rw [if_neg hacc, hgap]
  simp

theorem State.pushInserted_of_free {s : State} {r : Rec} {rest : List Rec} (hi : s.queue.ins = r :: rest)
    (hopen : s.cald.isOpen = false) (hready : s.pwr.ready = true) (hstop : s.queue.stopped = false) :
    s.pushInserted =
      ({ s with queue := { s.queue with ins := rest } }.pushRec ((r.set 1 s.seq.fc).set 2 s.time16)).commitInserted := by
  unfold State.pushInserted
  rw [hi]
  exact if_neg (by simp [hopen, hready, hstop])

theorem State.mainUp_ready {s : State} (h : s.mainUp = true) : s.pwr.ready = true := by
  simp only [State.mainUp, Bool.and_eq_true] at h
  exact h.1.1

/-- Settles O34. -/
theorem flushAndInsert : Obligations.FlushAndInsert := by
  unfold Obligations.FlushAndInsert
  refine ⟨fun s hm => ⟨?_, ?_⟩, fun s r rest hm hi => ⟨fun ho => ?_, fun ho hs hen hocc hgap => ?_⟩⟩
  · have hf := s.flushQueue_frame
    refine completes_of_guard (t := s.settle s.flushQueue) rfl hm ?_
    have hq : (s.settle s.flushQueue).queue = s.flushQueue.queue := State.settle_queue ..
    refine ⟨?_, ?_, ?_, ?_, ?_, fun h => ?_, fun q hq => ?_, ?_⟩
    iterate 5 rw [hq, hf]
    · rw [State.flag_settle, s.flushQueue_cut h]
    · rw [State.reg_settle, s.reg_flushQueue_ne hq]
    · rw [State.settle_frame, hf]
  · exact completes_of_guard (t := s.clrGap) rfl hm ⟨s.reg_setReg_same _ _, fun q hq => s.reg_setReg_ne _ hq, rfl⟩
  · refine exec_of_guard_same (c := s.mainUp = true) rfl ?_
    unfold State.pushInserted
    rw [hi]
    exact if_pos (by simp [ho])
  · have ht := State.pushInserted_of_free hi ho (State.mainUp_ready hm) hs
    have hp := State.pushRec_frame_of_accepted (s := { s with queue := { s.queue with ins := rest } })
      ((r.set 1 s.seq.fc).set 2 s.time16) hen hocc hgap
    generalize hu : State.pushRec { s with queue := { s.queue with ins := rest } } ((r.set 1 s.seq.fc).set 2 s.time16) = u
      at ht hp
    have hc : u.commitInserted = u.commitQueue := if_neg (by rw [hp]; simp)
    rw [hc] at ht
    have hf := u.commitQueue_frame
    have hqu : u.commitQueue.queue.items = s.queue.items ++ s.queue.staged ++ [(r.set 1 s.seq.fc).set 2 s.time16] := by
      rw [hf, hp]
      simp
    refine completes_of_guard (t := s.pushInserted) rfl hm (ht ▸ ⟨?_, ?_, hqu, fun hl => u.commitQueue_raises ?_, ?_⟩)
    · rw [hf, hp]
    · rw [hf]
    · have hfld : u.fld Reg.RPT_CTL 8 6 = s.fld Reg.RPT_CTL 8 6 := by rw [hp]; rfl
      have hitems : u.queue.items ++ u.queue.staged = u.commitQueue.queue.items := by rw [hf]
      rwa [hfld, hitems]
    · rw [hf, hp]

end Sys2Proof.Machine
end

section
/-! PROOFS. What a canonical memory reads after several writes, a clear or a copy; the Sinter ring (15, 09). -/

namespace Sys2Proof.Machine

section Reads

variable {α : Type} [DecidableEq α] {d : Nat → α} {m : List (Nat × α)}

theorem memRead_memWriteAll {l : List α} {a b : Nat} (h : Memory.wf d m = true) :
    memRead d (memWriteAll d m a l) b =
      if a ≤ b ∧ b < a + l.length then (l[b - a]?).getD (d b) else memRead d m b := by
  induction l generalizing m a with
  | nil => exact (if_neg (by simp)).symm
  | cons v t ih =>
    rw [memWriteAll, ih (memWrite_wf h), memRead_memWrite h]
    by_cases hb : b = a
    · subst hb
      rw [if_neg (by omega), if_pos rfl, if_pos (by simp)]
      simp
    · rw [if_neg hb]
      by_cases hi : a + 1 ≤ b ∧ b < a + 1 + t.length
      · have hs : b - a = (b - (a + 1)) + 1 := by omega
        rw [if_pos hi, if_pos (by simp; omega), hs, List.getElem?_cons_succ]
      · rw [if_neg hi, if_neg (by simp; omega)]

theorem memRead_cons_of_ne {k b : Nat} {v : α} {t : List (Nat × α)} (h : memWfFrom d (k + 1) t = true) (hb : b ≠ k) :
    memRead d ((k, v) :: t) b = memRead d t b := by
  by_cases hlt : b < k
  · rw [memRead, if_pos hlt, memRead_below h (by omega)]
  · rw [memRead, if_neg hlt, if_neg hb]

theorem memRead_filter_from {lo b : Nat} {p : Nat → Bool} (h : memWfFrom d lo m = true) :
    memRead d (m.filter (fun c => p c.1)) b = if p b then memRead d m b else d b := by
  induction m generalizing lo with
  | nil => simp [memRead]
  | cons c t ih =>
    obtain ⟨k, v⟩ := c
    simp only [memWfFrom, Bool.and_eq_true] at h
    have hf : memWfFrom d (k + 1) (t.filter (fun c => p c.1)) = true := filter_wfFrom h.2
    by_cases hb : b = k
    · subst hb
      by_cases hp : p b
      · rw [List.filter_cons, if_pos hp, if_pos hp]
        simp [memRead]
      · rw [List.filter_cons, if_neg hp, if_neg hp, memRead_below hf (by omega)]
    · rw [memRead_cons_of_ne h.2 hb, ← ih h.2]
      by_cases hp : p k
      · rw [List.filter_cons, if_pos hp, memRead_cons_of_ne hf hb]
      · rw [List.filter_cons, if_neg hp]

theorem memRead_memClear {lo hi b : Nat} (h : Memory.wf d m = true) :
    memRead d (memClear m lo hi) b = if lo ≤ b ∧ b < hi then d b else memRead d m b := by
  rw [memClear, memRead_filter_from (p := fun a => decide (a < lo) || decide (hi ≤ a)) h]
  by_cases hb : lo ≤ b ∧ b < hi
  · rw [if_pos hb, if_neg (by simp; omega)]
  · rw [if_neg hb, if_pos (by simp; omega)]

theorem memRead_foldl_memWrite {src dst lo b : Nat} {l acc : List (Nat × α)} (hl : memWfFrom d lo l = true) (hs : src ≤ lo)
    (ha : Memory.wf d acc = true) :
    memRead d (l.foldl (fun acc c => memWrite d acc (c.1 - src + dst) c.2) acc) b =
      if dst ≤ b ∧ memRead d l (b - dst + src) ≠ d (b - dst + src) then memRead d l (b - dst + src) else memRead d acc b := by
  induction l generalizing lo acc with
  | nil => exact (if_neg (by simp [memRead])).symm
  | cons c t ih =>
    obtain ⟨k, v⟩ := c
    simp only [memWfFrom, Bool.and_eq_true, decide_eq_true_eq] at hl
    obtain ⟨⟨hk, hv⟩, ht⟩ := hl
    rw [List.foldl_cons, ih ht (by omega) (memWrite_wf ha), memRead_memWrite ha]
    by_cases hd : dst ≤ b
    · by_cases hx : b - dst + src = k
      · have hr : memRead d ((k, v) :: t) k = v := by simp [memRead]
        rw [hx, memRead_below ht (by omega), hr, if_neg (by simp), if_pos (by omega), if_pos ⟨hd, hv⟩]
      · rw [memRead_cons_of_ne ht hx, if_neg (by omega : ¬ b = k - src + dst)]
    · rw [if_neg (by simp [hd]), if_neg (by omega), if_neg (by simp [hd])]

theorem memWfFrom_of_le {lo lo' : Nat} (h : memWfFrom d lo m = true) (hl : ∀ c ∈ m, lo' ≤ c.1) : memWfFrom d lo' m = true := by
  cases m with
  | nil => rfl
  | cons c t =>
    simp only [memWfFrom, Bool.and_eq_true, decide_eq_true_eq] at h ⊢
    exact ⟨⟨hl c (List.mem_cons_self ..), h.1.2⟩, h.2⟩

theorem memRead_memCopy {src dst len b : Nat} (h : Memory.wf d m = true) (hd : ∀ i < len, d (src + i) = d (dst + i)) :
    memRead d (memCopy d m src dst len) b =
      if dst ≤ b ∧ b < dst + len then memRead d m (b - dst + src) else memRead d m b := by
  have hf : memWfFrom d src (m.filter (fun c => decide (src ≤ c.1) && decide (c.1 < src + len))) = true := by
    refine memWfFrom_of_le (lo := 0) (filter_wfFrom h) fun c hc => ?_
    simp only [List.mem_filter, Bool.and_eq_true, decide_eq_true_eq] at hc
    exact hc.2.1
  rw [memCopy, memRead_foldl_memWrite hf le_rfl (memClear_wf h), memRead_memClear h,
    memRead_filter_from (p := fun a => decide (src ≤ a) && decide (a < src + len)) h]
  by_cases hb : dst ≤ b ∧ b < dst + len
  · have hx : (decide (src ≤ b - dst + src) && decide (b - dst + src < src + len)) = true := by simp; omega
    rw [if_pos hx, if_pos hb, if_pos hb]
    by_cases hv : memRead d m (b - dst + src) = d (b - dst + src)
    · have hdb := hd (b - dst) (by omega)
      rw [if_neg (by simp [hv]), hv, add_comm (b - dst) src, hdb, Nat.add_sub_cancel' hb.1]
    · rw [if_pos ⟨hb.1, hv⟩]
  · rw [if_neg hb, if_neg hb, if_neg]
    rintro ⟨hle, hne⟩
    exact hne (if_neg (by simp; omega))

end Reads

/-! ### The Sinter ring -/

theorem State.ringWrite_frame (s : State) (e : Vector Word 4) :
    s.ringWrite e = { s with
      tables := memWriteAll tabDefault s.tables (winKey Win.RING (4 * s.ring.wr.toNat)) e.toList
      regs := (s.ringWrite e).regs, fmon := (s.ringWrite e).fmon
      ring := { s.ring with
        wr := s.ring.wr + 1
        rd := if s.ring.u = 4096 then s.ring.rd + 1 else s.ring.rd
        u := if s.ring.u = 4096 then 4096 else s.ring.u + 1
        wrapped := s.ring.wrapped || s.ring.wr = 4095
        mark := if s.ring.mark.isSome && s.ring.since = 4096 then none else s.ring.mark
        since := s.ring.since + 1
        count := min 4096 (s.ring.count + 1) } } := by
  unfold State.ringWrite
  by_cases hu : s.ring.u = 4096 <;> by_cases hm : (s.ring.mark.isSome && decide (s.ring.since = 4096)) = true <;>
    simp only [hu, hm, decide_true, decide_false, if_true, if_false, Bool.false_eq_true] <;> rfl

theorem State.ringRewind_of_mark {s : State} {m : BitVec 12} (h : s.ring.mark = some m) :
    s.ringRewind = { s with ring := { s.ring with rd := m, u := min 4096 s.ring.since } } := by
  simp only [State.ringRewind, h]

theorem State.ringRewind_of_none {s : State} (h : s.ring.mark = none) :
    s.ringRewind = { s with ring := { s.ring with rd := s.ring.oldest, u := s.ring.valid } }.setFlag Reg.RING_STAT 13 true := by
  simp only [State.ringRewind, h]

theorem State.ringSetRd_rd (s : State) (v : Word) :
    (s.ringSetRd v).ring.rd =
      if (s.ring.wr - v.setWidth 12).toNat ≤ s.ring.count then v.setWidth 12 else s.ring.wr - BitVec.ofNat 12 s.ring.count :=
  rfl

theorem State.ringWrite_flag (s : State) (e : Vector Word 4) :
    (s.ringWrite e).flag Reg.RING_WR 15 = (decide (s.ring.u = 4096) || s.flag Reg.RING_WR 15) := by
  have hn : Reg.RING_WR ≠ Reg.RING_STAT := by decide
  have hs (b : Bool) (t : State) :
      (if b = true then t.setFlag Reg.RING_STAT 14 true else t).flag Reg.RING_WR 15 = t.flag Reg.RING_WR 15 := by
    cases b
    · rfl
    · exact t.flag_setFlag_ne _ _ _ hn
  refine (hs _ _).trans ?_
  by_cases hu : s.ring.u = 4096
  · rw [if_pos (decide_eq_true hu), State.flag_setFlag_same _ _ _ _ (by omega), decide_eq_true hu]
    rfl
  · rw [if_neg (by simp [hu]), decide_eq_false hu]
    rfl

/-- The entry at `p` is the one that a write puts at the write position (R298). -/
theorem State.tab_ringWrite {s : State} (e : Vector Word 4) (h : Memory.wf tabDefault s.tables = true) {p i : Nat} (hi : i < 4) :
    (s.ringWrite e).tab Win.RING (4 * p + i) =
      if p = s.ring.wr.toNat then e.toList.getD i 0 else s.tab Win.RING (4 * p + i) := by
  rw [s.ringWrite_frame e, State.tab, tabRead]
  dsimp only
  have hl : e.toList.length = 4 := e.length_toList
  rw [memRead_memWriteAll h, hl]
  by_cases hp : p = s.ring.wr.toNat
  · have hk : winKey Win.RING (4 * p + i) - winKey Win.RING (4 * s.ring.wr.toNat) = i := by
      simp only [winKey, hp]
      omega
    rw [if_pos (by simp only [winKey]; omega), if_pos hp, hk, List.getD_eq_getElem?_getD,
      List.getElem?_eq_getElem (by omega)]
    rfl
  · rw [if_neg (by simp only [winKey]; omega), if_neg hp]
    rfl

/-- Settles O35. -/
theorem ringPointersAndWrites : Obligations.RingPointersAndWrites := by
  unfold Obligations.RingPointersAndWrites
  refine ⟨fun s v hm => ⟨?_, ?_, ?_, ?_⟩, fun s e hw => ?_⟩
  · exact completes_of_guard (t := s.ringMark) rfl hm ⟨rfl, rfl, rfl, rfl, rfl⟩
  · refine completes_of_guard (t := s.ringRewind) rfl hm ?_
    cases hk : s.ring.mark with
    | some m =>
      rw [State.ringRewind_of_mark hk]
      exact ⟨rfl, fun _ _ => rfl, rfl, rfl, rfl, hk, rfl⟩
    | none =>
      rw [State.ringRewind_of_none hk]
      exact ⟨rfl, fun q hq => State.reg_setFlag_ne _ _ _ hq, rfl, rfl, rfl, State.flag_setFlag_same _ _ _ _ (by omega)⟩
  · exact completes_of_guard (t := s.ringClear) rfl hm ⟨rfl, rfl, rfl, rfl, rfl, rfl, rfl⟩
  · refine completes_of_guard (t := s.ringSetRd v) rfl hm ⟨rfl, rfl, ?_, ?_⟩
    · rw [State.ringSetRd_rd]
      split
      · exact BitVec.toNat_setWidth ..
      · rfl
    · have hu : (s.ringSetRd v).ring.u = (s.ring.wr - (s.ringSetRd v).ring.rd).toNat := rfl
      have hr := (s.ringSetRd v).ring.rd.isLt
      rw [hu, BitVec.toNat_sub]
      omega
  · obtain ⟨htab, -⟩ := hw
    have hf := s.ringWrite_frame e
    have hflag := s.ringWrite_flag e
    refine ⟨fun p _ i hi => State.tab_ringWrite e htab hi, ?_, ?_, ?_, ?_, fun hu => ⟨?_, ?_, ?_⟩, fun hu => ⟨?_, ?_, ?_⟩⟩
    · rw [hf]
    · rw [hf]
    · rw [hf]
    · rw [hf]
      cases s.ring.mark <;> simp
    · rw [hf]
      exact if_neg (by omega)
    · rw [hf]
      exact if_neg (by omega)
    · rw [hflag, decide_eq_false (by omega), Bool.false_or]
    · rw [hf]
      exact if_pos hu
    · rw [hf]
      exact if_pos hu
    · rw [hflag, decide_eq_true hu, Bool.true_or]

end Sys2Proof.Machine
end

section
/-! PROOFS. Fault events: the registers that they leave, and the flags that they set (14, R431). -/

namespace Sys2Proof.Machine

/-- The registers in which a fault event shows, beside the flag of its own. -/
def faultRegs : List RegId := [Reg.INT_STAT, Reg.FAULT_INFO, Reg.FAULT_CNT, Reg.RPT_GAPS, Reg.RPT_STAT]

namespace State

variable (s : State) {q : RegId}

theorem reg_insertRec_ne (r : Rec) (h1 : q ≠ Reg.RPT_GAPS) (h2 : q ≠ Reg.RPT_STAT) : (s.insertRec r).reg q = s.reg q := by
  unfold insertRec
  split
  · rfl
  · exact (reg_setFlag_ne _ _ _ h2).trans (reg_setReg_ne _ _ h1)

theorem reg_recordFault_ne (e : FaultEvent) (h : q ∉ faultRegs ∨ q = Reg.INT_STAT) : (s.recordFault e).reg q = s.reg q := by
  have hq : q ≠ Reg.FAULT_INFO ∧ q ≠ Reg.FAULT_CNT ∧ q ≠ Reg.RPT_GAPS ∧ q ≠ Reg.RPT_STAT := by
    rcases h with h | rfl
    · simp only [faultRegs, List.mem_cons, not_or] at h
      exact ⟨h.2.1, h.2.2.1, h.2.2.2.1, h.2.2.2.2.1⟩
    · decide
  obtain ⟨hinfo, hcnt, hgaps, hstat⟩ := hq
  have hcount (t : State) : (if (e.counted && e.outcome == 0) = true then t.satFld Reg.FAULT_CNT 4 4
      else if (e.counted && e.outcome == 1) = true then t.satFld Reg.FAULT_CNT 0 4 else t).reg q = t.reg q := by
    split
    · exact t.reg_satFld_ne _ _ hcnt
    · split
      · exact t.reg_satFld_ne _ _ hcnt
      · rfl
  have hins (c : Bool) (t : State) (r : Rec) : (if c = true then t.insertRec r else t).reg q = t.reg q := by
    split
    · exact t.reg_insertRec_ne _ hgaps hstat
    · rfl
  exact (hins _ _ _).trans ((hcount _).trans (s.reg_setReg_ne _ hinfo))

theorem reg_faultEvent_ne (e : FaultEvent) (h : q ∉ faultRegs) : (s.faultEvent e).reg q = s.reg q := by
  have hi : q ≠ Reg.INT_STAT := fun hq => h (hq ▸ List.mem_cons_self ..)
  unfold faultEvent
  dsimp only
  split
  · rw [reg_recordFault_ne _ _ (.inl h), s.reg_raise_ne _ hi]
  · exact s.reg_raise_ne _ hi

/-- Every fault event sets INT_STAT.FAULT, and of INT_STAT nothing else (R431). -/
theorem reg_faultEvent_intStat (e : FaultEvent) : (s.faultEvent e).reg Reg.INT_STAT = (s.raise Irq.FAULT).reg Reg.INT_STAT := by
  unfold faultEvent
  dsimp only
  split
  · exact reg_recordFault_ne _ _ (.inr rfl)
  · rfl

theorem faultEvent_raises (e : FaultEvent) : (s.faultEvent e).flag Reg.INT_STAT Irq.FAULT = true := by
  rw [flag, reg_faultEvent_intStat]
  exact s.flag_raise_same (by decide)

/-! ### Faults of MAIN and of AON -/

variable (flag cls outcome elem : Nat) (detail subst : Word)

theorem mainFault_raises : (s.mainFault flag cls outcome elem detail subst).flag Reg.INT_STAT Irq.FAULT = true :=
  faultEvent_raises ..

theorem mainFault_flag (h : flag < 16) : (s.mainFault flag cls outcome elem detail subst).flag Reg.FAULT_STAT flag = true := by
  rw [mainFault, State.flag, reg_faultEvent_ne _ _ (by decide)]
  exact s.flag_setFlag_same _ _ _ h

theorem reg_mainFault_ne (h : q ∉ faultRegs) (hq : q ≠ Reg.FAULT_STAT) :
    (s.mainFault flag cls outcome elem detail subst).reg q = s.reg q := by
  rw [mainFault, reg_faultEvent_ne _ _ h, reg_setFlag_ne _ _ _ hq]

theorem mainFault_keeps_flag {b : Nat} (hb : b < 16) (h : s.flag Reg.FAULT_STAT b = true) :
    (s.mainFault flag cls outcome elem detail subst).flag Reg.FAULT_STAT b = true := by
  rw [mainFault, State.flag, reg_faultEvent_ne _ _ (by decide), ← State.flag, flag_setFlag _ _ _ _ _ _ hb]
  split
  · rfl
  · exact h

theorem aonFault_raises : (s.aonFault flag elem detail outcome).flag Reg.INT_STAT Irq.FAULT = true := faultEvent_raises ..

theorem aonFault_flag (h : flag < 16) : (s.aonFault flag elem detail outcome).flag Reg.AON_FAULT flag = true := by
  rw [aonFault, State.flag, reg_faultEvent_ne _ _ (by decide)]
  exact s.flag_setFlag_same _ _ _ h

theorem aonFault_keeps_flag {b : Nat} (hb : b < 16) (h : s.flag Reg.AON_FAULT b = true) :
    (s.aonFault flag elem detail outcome).flag Reg.AON_FAULT b = true := by
  rw [aonFault, State.flag, reg_faultEvent_ne _ _ (by decide), ← State.flag, flag_setFlag _ _ _ _ _ _ hb]
  split
  · rfl
  · exact h

end State

/-! ### Words in error -/

/-- The error that a word shows is one of that word. -/
theorem State.memErr_eq_some {s : State} {m : MemId} {a : Nat} {e : MemErr} (h : s.memErr m a = some e) :
    e ∈ s.fmon.memErrs ∧ e.mem = m ∧ e.addr = a := by
  have hp := List.find?_some h
  simp only [Bool.and_eq_true, decide_eq_true_eq] at hp
  exact ⟨List.mem_of_find?_eq_some h, hp⟩

theorem State.memErr_eq_none {s : State} {m : MemId} {a : Nat} :
    s.memErr m a = none ↔ ∀ e ∈ s.fmon.memErrs, ¬ (e.mem = m ∧ e.addr = a) := by
  simp [State.memErr]

theorem State.readErr_of_none {s : State} {m : MemId} {a : Nat} (h : s.memErr m a = none) : s.readErr m a = (0, s) := by
  simp only [State.readErr, h]

theorem State.readErr_of_single {s : State} {m : MemId} {a : Nat} {e : MemErr} (h : s.memErr m a = some e)
    (h1 : ones e.bits = 1) : s.readErr m a = (0, (s.markFound m a).satFld Reg.FAULT_CNT 8 8) := by
  simp only [State.readErr, h, h1, if_true]
  rfl

theorem State.readErr_of_double {s : State} {m : MemId} {a : Nat} {e : MemErr} (h : s.memErr m a = some e)
    (h2 : 2 ≤ ones e.bits) :
    s.readErr m a = (e.bits, s.mainFault 11 FaultClass.MEM 1 (memElem m) (word (a % 131072)) 0xFFFF) := by
  simp only [State.readErr, h]
  rw [if_neg (by omega), if_neg (by omega)]

theorem ones_zero : ones 0 = 0 := by simp [ones]

/-! ### A fault in a memory -/

/-- What a fault makes of the error that a word holds. -/
def faultOf (old : Option MemErr) (m : MemId) (a b : Nat) (st : Bool) : MemErr := match old with
  | some e => { e with bits := e.bits ||| b, stuck := e.stuck || st }
  | none => { mem := m, addr := a, bits := b, stuck := st, found := false }

theorem State.memFault_eq (s : State) (m : MemId) (a b : Nat) (st : Bool) :
    s.memFault m a b st = { s with fmon := { s.fmon with
      memErrs := s.fmon.memErrs.filter (fun f => f.mem != m || f.addr != a) ++ [faultOf (s.memErr m a) m a b st] } } := rfl

theorem faultOf_place {s : State} {m : MemId} {a : Nat} (b : Nat) (st : Bool) :
    (faultOf (s.memErr m a) m a b st).mem = m ∧ (faultOf (s.memErr m a) m a b st).addr = a := by
  cases h : s.memErr m a with
  | none => exact ⟨rfl, rfl⟩
  | some e => exact (State.memErr_eq_some h).2

theorem State.memErr_memFault_same (s : State) (m : MemId) (a b : Nat) (st : Bool) :
    (s.memFault m a b st).memErr m a = some (faultOf (s.memErr m a) m a b st) := by
  have hrest : (s.fmon.memErrs.filter (fun f => f.mem != m || f.addr != a)).find?
      (fun e => decide (e.mem = m) && decide (e.addr = a)) = none := by
    rw [List.find?_filter, List.find?_eq_none]
    intro x _
    by_cases hx : x.mem = m <;> simp [hx]
  have hp := faultOf_place (s := s) (m := m) (a := a) b st
  rw [s.memFault_eq, State.memErr, List.find?_append, hrest, Option.none_or, List.find?_singleton, if_pos (by simp [hp])]

theorem State.memErr_memFault_ne (s : State) {m m' : MemId} {a a' : Nat} (b : Nat) (st : Bool) (h : (m', a') ≠ (m, a)) :
    (s.memFault m a b st).memErr m' a' = s.memErr m' a' := by
  have hp := faultOf_place (s := s) (m := m) (a := a) b st
  have hne : ¬ (m = m' ∧ a = a') := fun ⟨h1, h2⟩ => h (by rw [h1, h2])
  rw [s.memFault_eq, State.memErr, List.find?_append, List.find?_singleton, if_neg (by rw [hp.1, hp.2]; simpa using hne),
    Option.or_none, List.find?_filter, State.memErr]
  refine congrArg (List.find? · _) (funext fun e => ?_)
  by_cases hx : e.mem = m' ∧ e.addr = a'
  · have hn : ¬ (e.mem = m ∧ e.addr = a) := fun ⟨h1, h2⟩ => hne ⟨h1.symm.trans hx.1, h2.symm.trans hx.2⟩
    rw [hx.1, hx.2] at hn
    simpa [hx] using not_and_or.1 hn
  · rw [decide_eq_false (fun hc => hx (by simpa using hc.2))]
    exact (Bool.eq_false_iff.2 fun hc => hx (by simpa using hc)).symm

theorem State.fetchErr_of_double {s : State} {c : CellId} {e : MemErr}
    (h : s.memErr (.imem (s.cald.map.get c)) ((s.cell c).pc % 2048) = some e) (h2 : 2 ≤ ones e.bits) :
    s.fetchErr c = (s.mainFault 11 FaultClass.MEM 1 (memElem (.imem (s.cald.map.get c)))
      (word ((s.cell c).pc % 2048 % 131072)) 0xFFFF).setDiscard := by
  have h0 : e.bits ≠ 0 := fun h0 => by
    rw [h0, ones_zero] at h2
    omega
  rw [State.fetchErr, State.cellRead, State.readErr_of_double h h2]
  exact if_neg h0

/-! ### The scrubber -/

theorem State.scrubRewrite_frame {s : State} {e : MemErr} (hs : e.stuck = false) (ho : s.scrubOf e.mem e.addr = none) :
    s.scrubRewrite e = { s with fmon := { s.fmon with
      memErrs := s.fmon.memErrs.filter (fun f => !(decide (f.mem = e.mem) && decide (f.addr = e.addr)))
      scrubbed := s.scrubForget e.mem e.addr ++ [⟨e.mem, e.addr, false⟩] } } := by
  simp only [State.scrubRewrite, hs, ho]
  rfl

theorem State.scrubRewrite_stuck {s : State} {e : MemErr} {w : Scrubbed} (hw : s.scrubOf e.mem e.addr = some w)
    (ht : w.told = false) : ∃ u : State,
      s.scrubRewrite e = u.mainFault 12 FaultClass.MEM 0 (memElem e.mem) (word (e.addr % 131072)) 0xFFFF :=
  ⟨_, if_pos (by simp [hw, ht])⟩

/-- Settles O60. -/
theorem memoryErrors : Obligations.MemoryErrors := by
  unfold Obligations.MemoryErrors
  intro s c e m addr bits f i a
  refine ⟨fun h => ?_, fun h h1 => ⟨?_, ?_⟩, fun h h2 => ?_, fun stuck tr => ?_, fun hf tr => ?_,
    fun hm hp hen he h1 => ?_, fun he hx => ?_⟩
  · rw [State.fetchErr, State.cellRead, State.readErr_of_none h]
    rfl
  · rw [State.fetchErr, State.cellRead, State.readErr_of_single h h1]
    rfl
  · rw [State.fetchErr, State.cellRead, State.readErr_of_single h h1]
    exact (State.fld_satFld_same (s.markFound i a) (r := Reg.FAULT_CNT) (lo := 8) (w := 8) (by omega)).trans (min_comm ..)
  · rw [State.fetchErr_of_double h h2]
    refine ⟨by simp [State.setDiscard], ?_, ?_⟩
    · exact s.mainFault_flag _ _ _ _ _ _ (by omega)
    · exact s.mainFault_raises ..
  · refine completes_of_eq (t := s.memFault m addr bits (stuck && !tr)) rfl
      ⟨⟨_, s.memErr_memFault_same .., ?_, fun hn => ?_⟩, fun m' a' h => s.memErr_memFault_ne _ _ h, rfl⟩
    · cases s.memErr m addr <;> rfl
    · rw [hn]
      rfl
  · cases f with
    | memory m' a' b' st => exact absurd rfl (hf m' a' b' st)
    | _ => exact completes_of_eq rfl rfl
  · obtain ⟨-, rfl, rfl⟩ := State.memErr_eq_some he
    have hx : exec (.scrubWord e.mem e.addr) s =
        .next (((s.markFound e.mem e.addr).satFld Reg.FAULT_CNT 8 8).scrubRewrite e) := by
      refine congrArg Host.Outcome.next ((if_pos (by simp [hm, hp, hen])).trans ?_)
      simp only [he, h1, if_true, State.readErr_of_single he h1]
    refine ⟨fun hs hsc hall => ?_, fun w hw ht => ?_⟩
    · refine completes_of_eq (hx.trans (congrArg _ (State.scrubRewrite_frame hs hsc))) ⟨?_, ?_, fun q hq => ?_, rfl⟩
      · rw [State.memErr_eq_none]
        intro x hxm hxe
        have := (List.mem_filter.1 hxm).2
        simp [hxe] at this
      · exact (State.fld_satFld_same (s.markFound _ _) (r := Reg.FAULT_CNT) (lo := 8) (w := 8) (by omega)).trans (min_comm ..)
      · exact State.reg_satFld_ne _ _ _ hq
    · obtain ⟨u, hu⟩ := State.scrubRewrite_stuck (s := (s.markFound e.mem e.addr).satFld Reg.FAULT_CNT 8 8) hw ht
      exact completes_of_eq (hx.trans (congrArg _ hu)) ⟨u.mainFault_flag _ _ _ _ _ _ (by omega), u.mainFault_raises ..⟩
  · rw [State.memErr_eq_none]
    rintro x hxm ⟨rfl, rfl⟩
    obtain ⟨hmem, hkeep⟩ := List.mem_filter.1 hxm
    simp [hx x hmem rfl rfl] at hkeep

end Sys2Proof.Machine
end

section
/-! PROOFS. The fault monitor's detections and reactions (14, R426 to R431). -/

namespace Sys2Proof.Machine

/-! ### The end of a frame leaves all other registers -/

namespace State

variable (s : State) {q : RegId}

/-- The registers that the end of a frame updates. -/
def frameRegs : List RegId := [Reg.SEQ_STAT, Reg.LANE_STAT, Reg.FUNC_RESET]

theorem captureFrame_regs : s.captureFrame.regs = s.regs := by
  unfold captureFrame
  dsimp only
  split
  · split
    · split <;> rfl
    · rfl
  · rfl

theorem reg_captureFrame : s.captureFrame.reg q = s.reg q := by rw [reg, captureFrame_regs, reg]

theorem reg_frameDone_ne (b : Bool) (h : q ∉ frameRegs) : (s.frameDone b).reg q = s.reg q := by
  simp only [frameRegs, List.mem_cons, not_or] at h
  obtain ⟨hseq, hlane, hfunc, -⟩ := h
  unfold frameDone
  dsimp only
  rw [reg_quiesceCheck, reg_captureFrame, reg_setFlag_ne _ _ _ hfunc]
  split
  · rw [reg_setFlag_ne _ _ _ hlane, reg_setFld_ne _ _ _ _ hlane, reg_setFld_ne _ _ _ _ hseq]
    rfl
  · rw [reg_setFld_ne _ _ _ _ hseq]
    rfl

theorem frameCheck_cases : s.frameCheck = s ∨ ∃ b, s.frameCheck = s.frameDone b := by
  unfold frameCheck
  repeat' split
  all_goals simp

theorem reg_frameCheck_ne (h : q ∉ frameRegs) : s.frameCheck.reg q = s.reg q := by
  obtain he | ⟨b, he⟩ := s.frameCheck_cases
  · rw [he]
  · rw [he, s.reg_frameDone_ne b h]

theorem reg_cutEntry_ne (h : q ∉ frameRegs) : s.cutEntry.reg q = s.reg q := by
  unfold cutEntry
  split
  · exact reg_frameCheck_ne _ h
  · rfl

theorem toFio2_fio2 : s.toFio2.fio2 = true := by
  have hn : Reg.CLK_STAT ≠ Reg.SYNC_STAT := by decide
  have hs (t : State) : t.syncClear.reg Reg.CLK_STAT = t.reg Reg.CLK_STAT := by
    rw [syncClear, reg_setFld_ne _ _ _ _ hn, reg_setFlag_ne _ _ _ hn, reg_setFlag_ne _ _ _ hn]
  have hr : s.toFio2.reg Reg.CLK_STAT =
      (((s.setFlag Reg.CLK_STAT 11 true).setFlag Reg.CLK_STAT 15 false).setFlag Reg.CLK_STAT 14 false).reg Reg.CLK_STAT := by
    refine Eq.trans ?_ (hs _)
    exact reg_cutEntry_ne _ (by decide)
  rw [fio2, flag, hr, ← flag, flag_setFlag_other _ _ (by omega) (by omega), flag_setFlag_other _ _ (by omega) (by omega),
    flag_setFlag_same _ _ _ _ (by omega)]

theorem fio2_mainFault (flag cls outcome elem : Nat) (detail subst : Word) :
    (s.mainFault flag cls outcome elem detail subst).fio2 = s.fio2 := by
  rw [fio2, State.flag, reg_mainFault_ne _ _ _ _ _ _ _ (by decide) (by decide), fio2, State.flag]

/-! ### A MAIN reset -/

/-- A MAIN reset keeps the AON registers (Table 11.13). -/
theorem reg_mainReset {r : RegId} (h : r.val < 16) : s.mainReset.reg r = s.reg r := by
  unfold mainReset
  rw [reg, Vector.get_eq_getElem]
  simp [h, reg, Vector.get_eq_getElem]

theorem mainReset_ready : s.mainReset.pwr.ready = false := rfl

theorem mainReset_flash (h : s.nvm.todo = []) (r : s.sec.trans ≠ .returned) : s.mainReset.flash = s.flash := by
  change s.flashCut.flash = s.flash
  rw [s.flashCut_idle h r]

/-! ### The AON self-check -/

theorem fuseWords_get (i : Fin 4) : s.fuseWords.get i = s.otpWord (40 + i.val) := by
  fin_cases i <;> rfl

theorem otpDiffers_eq_none : s.otpDiffers = none ↔ ∀ i : Fin 4, s.otpWord (40 + i.val) = s.sec.shadow.get i := by
  have hget (v : Vector (BitVec 32) 4) (i : Fin 4) : v.toList.getD i.val 0 = v.get i := by
    simp [List.getD_eq_getElem?_getD, Vector.get_eq_getElem]
  rw [otpDiffers, List.find?_eq_none]
  refine ⟨fun h i => ?_, fun h i hi => ?_⟩
  · have := h i.val (List.mem_range.2 i.isLt)
    rw [hget, hget] at this
    simpa [s.fuseWords_get] using this
  · have hi4 := List.mem_range.1 hi
    have := h ⟨i, hi4⟩
    rw [hget _ ⟨i, hi4⟩, hget _ ⟨i, hi4⟩, s.fuseWords_get, this]
    simp

end State

/-! ### Oscillators -/

/-- FIO2 runs, and the fault of the oscillator shows. -/
def fioFaultShown (t : State) : Prop :=
  t.fio2 = true ∧ t.flag Reg.FAULT_STAT 10 = true ∧ t.flag Reg.INT_STAT Irq.FAULT = true

theorem fioFaultShown_toFio2 (s : State) (why : Word) : fioFaultShown (s.toFio2.fioEvent why) :=
  ⟨(State.fio2_mainFault ..).trans s.toFio2_fio2, State.mainFault_flag _ _ _ _ _ _ _ (by omega), State.mainFault_raises ..⟩

theorem fioFaultShown_mainFault {s : State} (h : fioFaultShown s) (cls outcome elem : Nat) (detail subst : Word) :
    fioFaultShown (s.mainFault 10 cls outcome elem detail subst) :=
  ⟨(State.fio2_mainFault ..).trans h.1, State.mainFault_flag _ _ _ _ _ _ _ (by omega), State.mainFault_raises ..⟩

theorem offFrequency_iff (n nom : Nat) : offFrequency n nom = true ↔ nom < 50 * ((n : Int) - nom).natAbs := decide_eq_true_iff

/-! ### The AON self-check shows what it finds -/

theorem State.aonFaultFree_flag (s : State) {b : Nat} (elem outcome : Nat) (h : b < 16) :
    (s.aonFaultFree b elem outcome).flag Reg.AON_FAULT b = true := State.aonFault_flag _ _ _ _ _ h

theorem State.aonFaultFree_keeps_flag (s : State) (flag elem outcome : Nat) {b : Nat} (hb : b < 16)
    (h : s.flag Reg.AON_FAULT b = true) : (s.aonFaultFree flag elem outcome).flag Reg.AON_FAULT b = true :=
  State.aonFault_keeps_flag _ _ _ _ _ hb h

/-- The first part of the self-check: the OTP against its shadow. -/
def State.selfCheckOtp (s : State) : State := match s.otpDiffers with
  | some i => s.aonFault 14 1 (word (40 + i)) 1
  | none => s

/-- The second part: the parity of the AON registers. -/
def State.selfCheckParity (s : State) (ok : Bool) : State :=
  if ok then s else s.drawWord.2.aonFaultFree 10 (bits s.drawWord.1 0 8) 1

/-- The third part: the slow clock's edges. -/
def State.selfCheckRing (s : State) (ok : Bool) : State := if ok then s else s.aonFaultFree 13 4 1

theorem execAonSelfCheck_eq (s : State) (par ring : Bool) (h : s.aonUp = true) :
    exec (.aonSelfCheck par ring) s = .next ((s.selfCheckOtp.selfCheckParity par).selfCheckRing ring) :=
  congrArg _ (if_pos h)

theorem State.selfCheckOtp_spec (s : State) :
    (s.otpDiffers ≠ none → s.selfCheckOtp.flag Reg.AON_FAULT 14 = true) ∧ (s.otpDiffers = none → s.selfCheckOtp = s) := by
  unfold State.selfCheckOtp
  cases h : s.otpDiffers with
  | none => exact ⟨fun hn => absurd rfl hn, fun _ => rfl⟩
  | some i => exact ⟨fun _ => State.aonFault_flag _ _ _ _ _ (by omega), fun hn => nomatch hn⟩

theorem State.selfCheckParity_keeps {s : State} (ok : Bool) {b : Nat} (hb : b < 16) (h : s.flag Reg.AON_FAULT b = true) :
    (s.selfCheckParity ok).flag Reg.AON_FAULT b = true := by
  cases ok
  · exact State.aonFaultFree_keeps_flag _ _ _ _ hb h
  · exact h

theorem State.selfCheckRing_keeps {s : State} (ok : Bool) {b : Nat} (hb : b < 16) (h : s.flag Reg.AON_FAULT b = true) :
    (s.selfCheckRing ok).flag Reg.AON_FAULT b = true := by
  cases ok
  · exact State.aonFaultFree_keeps_flag _ _ _ _ hb h
  · exact h

/-- Settles O59. -/
theorem faultMonitor : Obligations.FaultMonitor := by
  unfold Obligations.FaultMonitor
  intro s a b p
  refine ⟨fun hm hen hf2 => ⟨fun hbad ha => ?_, fun ha hb => ?_, ?_⟩, fun hm hen hp => ?_, fun ha =>
    ⟨fun hx => ?_, fun hw => ?_, fun hen hd => ?_, fun par ring => ?_⟩⟩
  · refine completes_of_guard rfl (by simp [hm, hen]) ?_
    have hA : badWindows s.fmon.fioBad (offFrequency a 93750) = 2 := by
      rw [hbad, (offFrequency_iff a 93750).2 ha]
      rfl
    dsimp only
    rw [hA]
    set u : State := { s with fmon := { s.fmon with
      fioBad := 2, fio2Bad := badWindows s.fmon.fio2Bad (offFrequency b 46875) } } with hu
    have hu2 : (decide (2 = 2) && !u.fio2) = true := by
      have : u.fio2 = s.fio2 := rfl
      simp [this, hf2]
    rw [if_pos hu2]
    have h1 := fioFaultShown_toFio2 u 2
    split
    · exact fioFaultShown_mainFault h1 _ _ _ _ _
    · exact h1
  · have hA : offFrequency a 93750 = false := decide_eq_false (by omega)
    have hB : offFrequency b 46875 = false := decide_eq_false (by omega)
    refine completes_of_guard rfl (by simp [hm, hen]) ?_
    rw [hA, hB]
    exact ⟨rfl, rfl, rfl⟩
  · obtain ⟨h1, h2, -⟩ := fioFaultShown_toFio2 s 1
    exact completes_of_guard rfl (by simp [hm, hen, hf2]) ⟨h1, h2⟩
  · have hn : Reg.AON_FAULT ∉ faultRegs := by decide
    refine completes_of_guard (t := s.supplyFault p) rfl (by simp [hm, hen, hp]) ?_
    unfold State.supplyFault
    refine ⟨by simp; rfl, by simp; rfl, by simp [State.mainUp, s.mainReset_ready], ?_, ?_, by simp; rfl, fun h1 h2 => ?_, ?_⟩
    · rw [State.flag, State.reg_faultEvent_ne _ _ hn]
      exact State.flag_setFlag_same _ _ _ _ (by omega)
    · rw [State.fld, State.reg_faultEvent_ne _ _ hn, ← State.fld, State.fld_setFlag_disjoint _ _ (by omega) (by omega),
        State.satFld, State.fld_setFld_disjoint _ _ (by omega) (by omega), State.fld_setFld_same _ _ (by omega)]
      cases p <;> rfl
    · simpa using s.mainReset_flash h1 h2
    · have hi : Reg.INT_EN ≠ Reg.AON_FAULT := by decide
      rw [State.reg_faultEvent_ne _ _ (by decide), State.reg_setFlag_ne _ _ _ hi, State.reg_satFld_ne _ _ _ hi,
        State.reg_setFld_ne _ _ _ _ hi, s.reg_mainReset (by decide)]
  · exact completes_of_guard rfl (by simp [ha, hx]) ⟨by simp [State.aonFaultFree, State.drawWord], State.aonFaultFree_flag _ _ _ (by omega),
      State.aonFault_raises ..⟩
  · exact completes_of_guard rfl (by simp [ha, hw]) ⟨by simp [State.aonFaultFree, State.drawWord], State.aonFaultFree_flag _ _ _ (by omega)⟩
  · refine completes_of_guard rfl (by simp [ha, hen]) ?_
    have hn : badWindows s.fmon.irqDiff (s.irqAsserted == s.irqAsserted) = 2 := by
      rw [hd, beq_self_eq_true]
      rfl
    dsimp only
    rw [hn, if_pos rfl]
    exact State.mainFault_flag _ _ _ _ _ _ _ (by omega)
  · have hdiff : (∃ i : Fin 4, s.otpWord (40 + i.val) ≠ s.sec.shadow.get i) ↔ s.otpDiffers ≠ none := by
      rw [Ne, s.otpDiffers_eq_none, not_forall]
    obtain ⟨h14, hsame⟩ := s.selfCheckOtp_spec
    refine completes_of_eq (execAonSelfCheck_eq s par ring ha) ⟨fun h => ?_, fun h => ?_, fun h => ?_, fun h1 h2 h => ?_⟩
    · exact State.selfCheckRing_keeps _ (by omega) (State.selfCheckParity_keeps _ (by omega) (h14 (hdiff.1 h)))
    · subst h
      exact State.selfCheckRing_keeps _ (by omega) (State.aonFaultFree_flag _ _ _ (by omega))
    · subst h
      exact State.aonFaultFree_flag _ _ _ (by omega)
    · subst h1 h2
      exact congrArg State.regs (hsame (s.otpDiffers_eq_none.2 h))

end Sys2Proof.Machine
end

section
/-! PROOFS. FUNC_EN, and the operations of the NVM controller (11, 12). -/

namespace Sys2Proof.Machine

/-! ### FUNC_EN -/

theorem State.flag_setFuncEn (s : State) (b : Nat) (on : Bool) :
    ∀ k < 16, (s.setFlag Reg.FUNC_EN b on).flag Reg.FUNC_EN k = if k = b then on else s.flag Reg.FUNC_EN k := by
  intro k hk
  rw [s.flag_setFlag _ _ _ _ _ hk]
  simp

theorem State.frameDone_due (s : State) (b : Bool) : (s.frameDone b).seq.due = s.seq.due := by
  have hc (t : State) : t.captureFrame.seq = t.seq := by
    unfold State.captureFrame
    dsimp only
    repeat' split
    all_goals rfl
  unfold State.frameDone
  dsimp only
  rw [State.quiesceCheck_seq, hc]
  split <;> rfl

theorem State.frameCheck_due (s : State) : s.frameCheck.seq.due = s.seq.due := by
  obtain he | ⟨b, he⟩ := s.frameCheck_cases
  · rw [he]
  · rw [he, s.frameDone_due b]

/-- Settles O46. -/
theorem functionsEnable : Obligations.FunctionsEnable := by
  unfold Obligations.FunctionsEnable
  intro s on hm takes
  have hen (b : Nat) := s.flag_setFuncEn b on
  refine ⟨?_, ?_, ?_, ?_, ?_, ?_, ?_, ?_, ?_, ?_⟩
  · refine completes_of_guard (t := s.enLanes on) rfl hm ⟨hen 0, rfl, fun h1 h2 => ?_⟩
    subst h1
    simp [State.enLanes, h2]
  · refine completes_of_guard (t := s.enFilters on) rfl hm ⟨hen 1, rfl, fun h1 h2 => ?_⟩
    subst h1
    simp [State.enFilters, h2]
  · refine completes_of_guard (t := s.enSeq on) rfl hm ?_
    cases on with
    | true => exact ⟨hen 2, fun h => nomatch h⟩
    | false =>
      refine ⟨fun k hk => ?_, fun _ => State.frameCheck_due _⟩
      refine Eq.trans ?_ (hen 2 k hk)
      exact congrArg (fun w : Word => w.getLsbD k) (State.reg_frameCheck_ne _ (by decide))
  · refine completes_of_guard (t := s.enCaldera on) rfl hm ?_
    cases on with
    | true => exact ⟨hen 3, rfl, rfl⟩
    | false =>
      have he : s.enCaldera false = (s.setFlag Reg.FUNC_EN 3 false).dropOwed.quiesceCheck := rfl
      rw [he, State.quiesceCheck_cald]
      refine ⟨fun k hk => ?_, rfl, rfl⟩
      exact (State.flag_quiesceCheck _ _ _).trans (hen 3 k hk)
  · exact completes_of_guard (t := s.enTrack on) rfl hm ⟨hen 4, rfl⟩
  · exact completes_of_guard (t := s.enQueue on) rfl hm ⟨hen 5, rfl⟩
  · exact completes_of_guard (t := s.enRing on) rfl hm ⟨hen 6, rfl⟩
  · refine completes_of_guard (t := s.enNvmctl on) rfl hm ⟨hen 7, fun h => ?_, rfl⟩
    subst h
    exact Bool.and_false _
  · exact completes_of_guard (t := s.enGeyser on) rfl hm ⟨hen 9, rfl⟩
  · exact completes_of_guard (t := s.enGoertzel on) rfl hm ⟨hen 10, rfl⟩

/-! ### The start of an NVM operation -/

namespace State

variable (s : State)

/-- What a refusal shows, and nothing else (R395). -/
theorem nvmRefuse_spec (code : Nat) :
    s.nvmRefuse code = { s with regs := (s.nvmRefuse code).regs } ∧ (s.nvmRefuse code).flag Reg.NVM_STAT 13 = true ∧
      (s.nvmRefuse code).fld Reg.NVM_STAT 10 3 = code % 8 ∧ (s.nvmRefuse code).flag Reg.INT_STAT Irq.NVM = true ∧
      (s.nvmRefuse code).fld Reg.NVM_CTL 8 4 = s.fld Reg.NVM_CTL 8 4 := by
  have hn : Reg.NVM_STAT ≠ Reg.INT_STAT := by decide
  have hc : Reg.NVM_CTL ≠ Reg.INT_STAT := by decide
  have hd : Reg.NVM_CTL ≠ Reg.NVM_STAT := by decide
  refine ⟨rfl, ?_, ?_, flag_raise_same _ (by decide), ?_⟩
  · rw [nvmRefuse, flag_raise_ne _ _ _ hn, flag_setFld_out _ _ (by omega) (by omega), flag_setFlag_same _ _ _ _ (by omega)]
  · rw [nvmRefuse, fld_raise_ne _ _ _ _ hn, fld_setFld_same _ _ (by omega)]
    rfl
  · rw [nvmRefuse, fld_raise_ne _ _ _ _ hc, fld_setFld_ne _ _ _ _ _ _ hd, fld_setFlag_ne _ _ _ _ _ hd]

theorem nvmBusy_iff : s.nvmBusy = true ↔ s.nvm.op ≠ none ∨ s.sec.trans ≠ .none := by
  unfold nvmBusy nvmVote
  cases s.nvm.op with
  | none => simp
  | some op => simp

/-- A request while the controller is busy is refused with code 6 (R395, R398). -/
theorem nvmGo_of_busy {s : State} (op : Nat) (key : Byte) (h : s.nvm.op ≠ none ∨ s.sec.trans ≠ .none) :
    s.nvmGo op key = (s.setFld Reg.NVM_CTL 8 4 op).nvmRefuse 6 := if_pos (nvmBusy_iff (s.setFld Reg.NVM_CTL 8 4 op) |>.2 h)

/-- A request while the controller is idle starts an operation, or is refused for another reason (R395). -/
theorem nvmGo_of_idle {s : State} (op : Nat) (key : Byte) (hop : s.nvm.op = none) (htr : s.sec.trans = .none)
    (ha : s.agreed 6 = false) : s.nvmGo op key =
      if (decide (op < 1) || decide (6 < op)) = true then (s.setFld Reg.NVM_CTL 8 4 op).nvmRefuse 1
      else if ((decide (op = 1) || decide (op = 2) || decide (op = 5) || decide (op = 6)) && key != 0x5A) = true then
        (s.setFld Reg.NVM_CTL 8 4 op).nvmRefuse 4
      else match op with
        | 1 => (s.setFld Reg.NVM_CTL 8 4 op).nvmProgram .programA 0
        | 2 => (s.setFld Reg.NVM_CTL 8 4 op).nvmProgram .programB 1
        | 3 => (s.setFld Reg.NVM_CTL 8 4 op).nvmGoing .saveCal (s.setFld Reg.NVM_CTL 8 4 op).calSteps
        | 4 => (s.setFld Reg.NVM_CTL 8 4 op).nvmCapture
        | 5 => (s.setFld Reg.NVM_CTL 8 4 op).nvmErase .eraseA 0
        | _ => (s.setFld Reg.NVM_CTL 8 4 op).nvmErase .eraseB 1 := by
  have hb : ¬ (s.setFld Reg.NVM_CTL 8 4 op).nvmBusy = true := by
    rw [nvmBusy_iff]
    simp [hop, htr]
  have ha' : ¬ (s.setFld Reg.NVM_CTL 8 4 op).agreed 6 = true := by
    have : (s.setFld Reg.NVM_CTL 8 4 op).agreed 6 = s.agreed 6 := rfl
    simp [this, ha]
  exact (if_neg hb).trans ((if_neg ha').trans (if_neg hb))

theorem calValid_setFld (r : RegId) (lo w x k : Nat) : (s.setFld r lo w x).calValid k = s.calValid k := by
  have hbytes (a n : Nat) : (s.setFld r lo w x).flashBytes a n = s.flashBytes a n := rfl
  unfold calValid
  rw [hbytes]

theorem calNewest_setFld (r : RegId) (lo w x : Nat) : (s.setFld r lo w x).calNewest = s.calNewest := by
  have hseq (k : Nat) : (s.setFld r lo w x).calSeq k = s.calSeq k := rfl
  unfold calNewest
  rw [calValid_setFld, calValid_setFld, hseq, hseq]

theorem calSteps_setFld (r : RegId) (lo w x : Nat) : (s.setFld r lo w x).calSteps = s.calSteps := by
  have hseq (j : Nat) : (s.setFld r lo w x).calSeq j = s.calSeq j := rfl
  have hrec (q : Nat) : (s.setFld r lo w x).calRecord q = s.calRecord q := rfl
  simp only [calSteps, calNewest_setFld, hseq, hrec]

theorem checkImage_setFld (r : RegId) (lo w x : Nat) (img : List Byte) :
    (s.setFld r lo w x).checkImage img = s.checkImage img := rfl

theorem slotSteps_setFld (r : RegId) (lo w x k : Nat) (img : List Byte) :
    (s.setFld r lo w x).slotSteps k img = s.slotSteps k img := rfl

/-- A program of a slot begins, its image checked (R392). -/
theorem nvmProgram_spec (op : NvmOp) (slot : Nat) (h : s.imageComplete = true) :
    let img := s.loadBuffer.take (field s.loadBuffer 8 4)
    (s.nvmProgram op slot).nvm.op = some op ∧ (s.nvmProgram op slot).flag Reg.NVM_CTL 15 = true ∧
      if s.checkImage img = 0 then (s.nvmProgram op slot).nvm.todo = s.slotSteps slot img
      else (s.nvmProgram op slot).nvm.todo = [] ∧ (s.nvmProgram op slot).nvm.err = 2 := by
  intro img
  unfold nvmProgram
  rw [if_pos h]
  dsimp only
  by_cases hc : s.checkImage img = 0
  · rw [if_pos hc, if_pos hc]
    exact ⟨rfl, flag_setFlag_same _ _ _ _ (by omega), slotSteps_setFld ..⟩
  · rw [if_neg hc, if_neg hc]
    exact ⟨rfl, flag_setFlag_same _ _ _ _ (by omega), rfl, rfl⟩

end State

/-- Settles O54. -/
theorem nvmOperationsBegin : Obligations.NvmOperationsBegin := by
  unfold Obligations.NvmOperationsBegin
  intro s key op hm ha
  refine ⟨fun hop htr => ⟨fun hc => ⟨?_, ?_⟩, ?_, fun hr => ?_, fun hl => ⟨?_, ?_⟩, fun hk i hi => ?_, fun hr => ?_⟩, fun hb => ?_⟩
  · exact completes_of_guard (t := s.nvmGo 1 0x5A) rfl hm ((State.nvmGo_of_idle 1 0x5A hop htr ha).symm ▸
      State.nvmProgram_spec _ .programA 0 hc)
  · exact completes_of_guard (t := s.nvmGo 2 0x5A) rfl hm ((State.nvmGo_of_idle 2 0x5A hop htr ha).symm ▸
      State.nvmProgram_spec _ .programB 1 hc)
  · refine completes_of_guard (t := s.nvmGo 3 key) rfl hm ?_
    rw [State.nvmGo_of_idle 3 key hop htr ha, if_neg (by decide), if_neg (by simp)]
    refine ⟨rfl, State.calSteps_setFld s Reg.NVM_CTL 8 4 3, State.flag_setFlag_same _ _ _ _ (by omega), ?_, rfl⟩
    exact congrArg (· && true) (State.mainUp_ready hm)
  · refine completes_of_guard (t := s.nvmGo 4 key) rfl hm ?_
    rw [State.nvmGo_of_idle 4 key hop htr ha]
    have hx : (s.setFld Reg.NVM_CTL 8 4 4).nvmCapture = _ := if_pos hr
    exact hx.symm ▸ ⟨rfl, rfl, rfl, rfl⟩
  · refine completes_of_guard (t := s.nvmGo 5 0x5A) rfl hm ?_
    rw [State.nvmGo_of_idle 5 0x5A hop htr ha]
    have hx : (s.setFld Reg.NVM_CTL 8 4 5).nvmErase .eraseA 0 = _ := if_neg (by simp [hl])
    exact hx.symm ▸ ⟨rfl, State.slotSteps_setFld .., rfl⟩
  · refine completes_of_guard (t := s.nvmGo 6 0x5A) rfl hm ?_
    rw [State.nvmGo_of_idle 6 0x5A hop htr ha]
    have hx : (s.setFld Reg.NVM_CTL 8 4 6).nvmErase .eraseB 1 = _ := if_neg (by simp [hl])
    exact hx.symm ▸ ⟨rfl, State.slotSteps_setFld .., rfl⟩
  · have href (n : Nat) (hn : n = 1 ∨ n = 2 ∨ n = 5 ∨ n = 6) :
        s.nvmGo n key = (s.setFld Reg.NVM_CTL 8 4 n).nvmRefuse 4 := by
      rw [State.nvmGo_of_idle n key hop htr ha, if_neg, if_pos]
      · simpa [hk, or_assoc] using ⟨hn, hk⟩
      · simp
        omega
    have hgo (n : Nat) (hn : n = 1 ∨ n = 2 ∨ n = 5 ∨ n = 6) (hx : exec i s = .next (s.inMain (fun t => t.nvmGo n key))) :
        completes i s (fun t => t = { s with regs := t.regs } ∧ t.flag Reg.NVM_STAT 13 = true ∧
          t.fld Reg.NVM_STAT 10 3 = 4 ∧ t.flag Reg.INT_STAT Irq.NVM = true) := by
      obtain ⟨hf, hs, hc, hi, -⟩ := State.nvmRefuse_spec (s.setFld Reg.NVM_CTL 8 4 n) 4
      refine completes_of_guard hx hm ?_
      dsimp only
      rw [href n hn]
      exact ⟨hf, hs, hc, hi⟩
    simp only [List.mem_cons, List.not_mem_nil, or_false] at hi
    rcases hi with rfl | rfl | rfl | rfl
    · exact hgo 1 (by simp) rfl
    · exact hgo 2 (by simp) rfl
    · exact hgo 5 (by simp) rfl
    · exact hgo 6 (by simp) rfl
  · have hx : exec (.nvmReservedOp op) s = .next (s.inMain (fun t => t.nvmGo op.toNat 0)) := by
      refine exec_of_not_guard rfl ?_
      rcases hr with rfl | hr
      · decide
      · simp
        omega
    have hg : s.nvmGo op.toNat 0 = (s.setFld Reg.NVM_CTL 8 4 op.toNat).nvmRefuse 1 := by
      rw [State.nvmGo_of_idle op.toNat 0 hop htr ha, if_pos]
      rcases hr with rfl | hr
      · decide
      · simp
        omega
    obtain ⟨hf, hs, hc, hi, -⟩ := State.nvmRefuse_spec (s.setFld Reg.NVM_CTL 8 4 op.toNat) 1
    refine completes_of_guard hx hm ?_
    dsimp only
    rw [hg]
    exact ⟨hop, hs, hc, hi⟩
  · have hgo (i : Instr) (n : Nat) (k : Byte) (hn : n < 16) (hx : exec i s = .next (s.inMain (fun t => t.nvmGo n k))) :
        completes i s (fun t => t = { s with regs := t.regs } ∧ t.fld Reg.NVM_CTL 8 4 = n ∧
          t.flag Reg.NVM_STAT 13 = true ∧ t.fld Reg.NVM_STAT 10 3 = 6 ∧ t.flag Reg.INT_STAT Irq.NVM = true) := by
      obtain ⟨hf, hs, hc, hi, hctl⟩ := State.nvmRefuse_spec (s.setFld Reg.NVM_CTL 8 4 n) 6
      refine completes_of_guard hx hm ?_
      dsimp only
      rw [State.nvmGo_of_busy n k hb]
      refine ⟨hf, hctl.trans ?_, hs, hc, hi⟩
      exact (State.fld_setFld_same _ _ (by omega)).trans (Nat.mod_eq_of_lt hn)
    refine ⟨hgo _ 1 key (by omega) rfl, hgo _ 2 key (by omega) rfl, hgo _ 3 key (by omega) rfl, hgo _ 4 key (by omega) rfl,
      hgo _ 5 key (by omega) rfl, hgo _ 6 key (by omega) rfl, fun hr => hgo _ op.toNat 0 op.isLt (exec_of_not_guard rfl ?_)⟩
    rcases hr with rfl | hr
    · decide
    · simp
      omega

end Sys2Proof.Machine
end

section
/-! PROOFS. The steps and the end of an operation of the NVM controller (12). -/

namespace Sys2Proof.Machine

namespace State

/-! ### Flash bytes after a step (R384) -/

theorem flashByte_flashErase {s : State} (h : Memory.wf flashDefault s.flash = true) (lo hi a : Nat) :
    (s.flashErase lo hi).flashByte a = if lo ≤ a ∧ a < hi then 0xFF else s.flashByte a := memRead_memClear h

theorem flashByte_flashProgram {s : State} (h : Memory.wf flashDefault s.flash = true) (b : Nat) (l : List Byte) (a : Nat) :
    (s.flashProgram b l).flashByte a =
      if b ≤ a ∧ a < b + l.length then nth l (a - b) 0 &&& s.flashByte a else s.flashByte a := by
  unfold flashProgram flashByte
  rw [memRead_memWriteAll h, List.length_map, List.length_range]
  by_cases hc : b ≤ a ∧ a < b + l.length
  · have hi : a - b < l.length := by omega
    have hb : b + (a - b) = a := by omega
    rw [if_pos hc, if_pos hc, List.getElem?_map, List.getElem?_range hi]
    simp [flashByte, hb]
  · rw [if_neg hc, if_neg hc]

theorem flashVerify_iff (s : State) (b : Nat) (l : List Byte) :
    s.flashVerify (.program b l) = true ↔ ∀ i < l.length, s.flashByte (b + i) = nth l i 0 := by
  rw [flashVerify, beq_iff_eq, flashBytes]
  refine ⟨fun h i hi => ?_, fun h => List.ext_getElem (by simp) fun i h1 h2 => ?_⟩
  · have := congrArg (fun l => nth l i 0) h
    simpa [nth, List.getD_eq_getElem?_getD, List.getElem?_range hi] using this
  · simpa [nth, h2] using h i h2

/-- The flash after a step (R384, log entry 76). -/
theorem flashByte_flashStep {s : State} (h : Memory.wf flashDefault s.flash = true) (p : FlashStep) (a : Nat) :
    (s.flashStep p).flashByte a = match p with
      | .erase b n => if b ≤ a ∧ a < b + n then 0xFF else s.flashByte a
      | .program b l => if b ≤ a ∧ a < b + l.length then nth l (a - b) 0 &&& s.flashByte a else s.flashByte a := by
  cases p with
  | erase b n => exact flashByte_flashErase h b (b + n) a
  | program b l => exact flashByte_flashProgram h b l a

theorem flashStep_frame (s : State) (p : FlashStep) : s.flashStep p = { s with flash := (s.flashStep p).flash } := by
  cases p <;> rfl

/-! ### The end of an operation -/

/-- What `t` shows of an operation that has ended with error code `err` (R392, R395). -/
def nvmEnded (err : Nat) (t : State) : Prop :=
  t.flag Reg.NVM_CTL 15 = false ∧ t.flag Reg.NVM_STAT 14 = true ∧ t.flag Reg.INT_STAT Irq.NVM = true ∧
    (err ≠ 0 → t.flag Reg.NVM_STAT 13 = true ∧ t.fld Reg.NVM_STAT 10 3 = err % 8)

theorem nvmEnded_of_regs {err : Nat} {s t : State} (h : nvmEnded err s) (hr : t.regs = s.regs) : nvmEnded err t := by
  unfold nvmEnded flag fld reg
  rw [hr]
  exact h

theorem nvmEnded_sigFlag {err : Nat} {s : State} (h : nvmEnded err s) (ok : Bool) : nvmEnded err (s.setFlag Reg.NVM_STAT 4 ok) := by
  obtain ⟨hgo, hdone, hint, herr⟩ := h
  have h1 : Reg.NVM_CTL ≠ Reg.NVM_STAT := by decide
  have h2 : Reg.INT_STAT ≠ Reg.NVM_STAT := by decide
  refine ⟨(s.flag_setFlag_ne _ _ _ h1).trans hgo, (s.flag_setFlag_other _ (by omega) (by omega)).trans hdone,
    (s.flag_setFlag_ne _ _ _ h2).trans hint, fun hn => ⟨(s.flag_setFlag_other _ (by omega) (by omega)).trans (herr hn).1, ?_⟩⟩
  exact (s.fld_setFlag_disjoint _ (by omega) (by omega)).trans (herr hn).2

theorem nvmViews_frame (s : State) : ∃ g, s.nvmViews = { s with regs := g } := ⟨_, rfl⟩

theorem nvmEnd_frame (s : State) : s.nvmEnd = { s with
    regs := s.nvmEnd.regs, nvm := { s.nvm with op := none, todo := [], err := 0, frames := 0, sums := [], bad := false } } := by
  unfold nvmEnd
  dsimp only
  obtain ⟨g, hg⟩ := nvmViews_frame { s with
    nvm := { s.nvm with op := none, todo := [], err := 0, frames := 0, sums := [], bad := false } }
  rw [hg]
  split
  · split <;> rfl
  · rfl

theorem nvmEnd_ended {s : State} (h : s.nvm.op ≠ some .autoSave) : nvmEnded s.nvm.err s.nvmEnd := by
  have h1 : Reg.NVM_CTL ≠ Reg.NVM_STAT := by decide
  have h2 : Reg.NVM_STAT ≠ Reg.NVM_CTL := by decide
  have h3 : Reg.NVM_CTL ≠ Reg.INT_STAT := by decide
  have h4 : Reg.NVM_STAT ≠ Reg.INT_STAT := by decide
  have hown : (s.nvm.op != some .autoSave) = true := bne_iff_ne.2 h
  unfold nvmEnd
  dsimp only
  rw [if_pos hown]
  refine ⟨?_, ?_, flag_raise_same _ (by decide), fun hn => ?_⟩
  · rw [flag_raise_ne _ _ _ h3]
    split
    · exact flag_setFlag_same _ _ _ _ (by omega)
    · rw [flag_setFld_ne _ _ _ _ _ h1, flag_setFlag_ne _ _ _ _ h1, flag_setFlag_same _ _ _ _ (by omega)]
  · rw [flag_raise_ne _ _ _ h4]
    split
    · rw [flag_setFlag_ne _ _ _ _ h2, flag_setFlag_same _ _ _ _ (by omega)]
    · rw [flag_setFld_out _ _ (by omega) (by omega), flag_setFlag_other _ _ (by omega) (by omega),
        flag_setFlag_ne _ _ _ _ h2, flag_setFlag_same _ _ _ _ (by omega)]
  · rw [if_neg hn, flag_raise_ne _ _ _ h4, fld_raise_ne _ _ _ _ h4, flag_setFld_out _ _ (by omega) (by omega),
      flag_setFlag_same _ _ _ _ (by omega), fld_setFld_same _ _ (by omega)]
    exact ⟨rfl, rfl⟩

theorem sigCheck_frame (s : State) :
    s.sigCheck = { s.setFlag Reg.NVM_STAT 4 s.sigOk with cald := s.sigCheck.cald } := by
  unfold sigCheck
  dsimp only
  split <;> rfl

theorem nvmDone_of_noAfter {s : State} (h : s.nvm.after = false) :
    let u := if s.nvm.op = some .captureSig then s.nvmEnd.sigCheck else s.nvmEnd
    s.nvmDone = (s.settle { u with nvm := { u.nvm with after := false } }).quiesceCheck := by
  unfold nvmDone
  simp only [h, decide_eq_true_eq, Bool.false_eq_true, if_false]

end State

/-- Settles O55. -/
theorem nvmSteps : Obligations.NvmSteps := by
  unfold Obligations.NvmSteps
  intro s p rest op hm hw hop
  refine ⟨fun ht hp => ?_, fun ht hf ha hauto => ?_⟩
  · have hx : exec .nvmPageDone s = .next (s.pageDone p rest) := by
      refine congrArg Host.Outcome.next ?_
      rw [ht]
      exact if_pos (by simp [hm, hop, hp])
    have hfr : s.pageDone p rest = { s with flash := (s.flashStep p).flash, nvm := (s.pageDone p rest).nvm } := by
      unfold State.pageDone
      rw [State.flashStep_frame]
    have herr : (s.pageDone p rest).nvm.err = (if (s.flashStep p).flashVerify p then s.nvm.err else 3) ∧
        (s.pageDone p rest).nvm.todo = (if (s.flashStep p).flashVerify p then rest else []) := by
      unfold State.pageDone
      rw [State.flashStep_frame]
      dsimp only
      cases State.flashVerify _ p <;> exact ⟨rfl, rfl⟩
    refine completes_of_eq hx ⟨fun a => State.flashByte_flashStep hw.flash p a, ?_, ?_⟩
    · rw [herr.1, herr.2]
      cases p with
      | erase b n => exact ⟨fun _ => ⟨rfl, rfl⟩, fun h => absurd trivial h⟩
      | program b l =>
        have hv := State.flashVerify_iff (s.flashStep (.program b l)) b l
        refine ⟨fun hr => ?_, fun hr => ?_⟩
        · rw [if_pos (hv.2 hr), if_pos (hv.2 hr)]
          exact ⟨rfl, rfl⟩
        · rw [if_neg (fun h => hr (hv.1 h)), if_neg (fun h => hr (hv.1 h))]
          exact ⟨rfl, rfl⟩
    · rw [hfr]
  · have hend := State.nvmEnd_ended (s := s) (by rw [hop]; simpa using hauto)
    have hfr := s.nvmEnd_frame
    refine completes_of_guard (t := s.nvmDone) rfl (by simp [hm, hop, ht, hf]) ?_
    rw [State.nvmDone_of_noAfter ha]
    generalize hu : (if s.nvm.op = some .captureSig then s.nvmEnd.sigCheck else s.nvmEnd) = u
    have hu' : State.nvmEnded s.nvm.err u ∧ u.nvm.op = none ∧ u.flash = s.flash := by
      rw [← hu]
      split
      · rw [State.sigCheck_frame]
        exact ⟨State.nvmEnded_of_regs (State.nvmEnded_sigFlag hend _) rfl, by rw [hfr]; rfl, by rw [hfr]; rfl⟩
      · exact ⟨hend, by rw [hfr], by rw [hfr]⟩
    obtain ⟨⟨hgo, hdone, hint, he⟩, hnone, hflash⟩ := hu'
    simp only [State.quiesceCheck_nvm, State.settle_nvm, State.flag_quiesceCheck, State.flag_settle, State.fld_quiesceCheck,
      State.fld_settle, State.quiesceCheck_flash, State.settle_flash]
    exact ⟨hnone, hgo, hdone, hint, hflash, he⟩

end Sys2Proof.Machine
end

section
/-! PROOFS. Challenge and response (13, R408 to R413). -/

namespace Sys2Proof.Machine

/-! ### Writes of DEBUG_CTL -/

namespace State

variable (s : State)

theorem debugWord_go (req : Nat) : (s.debugWord req).getLsbD 15 = true := by
  rw [debugWord, getLsbD_putBits _ _ _ _ _ (by omega), if_pos (by omega)]
  rfl

theorem debugWord_req {req : Nat} (h : req < 8) : bits (s.debugWord req) 12 3 = req := by
  rw [debugWord, bits_putBits_of_disjoint _ _ (by omega) (by omega), bits_putBits_same _ _ (by omega)]
  exact Nat.mod_eq_of_lt h

/-- What a write of DEBUG_CTL changes before its request: the register, and the nonce (R410). -/
def debugBase (v : Word) : State :=
  if (s.plainWrite Reg.DEBUG_CTL v).sec.nonce.isSome then (s.plainWrite Reg.DEBUG_CTL v).nonceDrop
  else s.plainWrite Reg.DEBUG_CTL v

theorem debugBase_frame (v : Word) : s.debugBase v = { s.plainWrite Reg.DEBUG_CTL v with
    sec := { s.sec with nonce := none, chal := (s.debugBase v).sec.chal, resp := (s.debugBase v).sec.resp } } := by
  unfold debugBase
  cases hn : s.sec.nonce with
  | none =>
    rw [if_neg (by simp [plainWrite, hn]), ← hn]
    rfl
  | some x =>
    rw [if_pos (by simp [plainWrite, hn])]
    rfl

theorem debugCtl_go {v : Word} (h : v.getLsbD 15 = true) : s.debugCtl v = match bits v 12 3 with
    | 0 => (s.debugBase v).nonceRequest (bits v 10 2) (bits v 8 2)
    | 1 => (s.debugBase v).advDevelop (v.setWidth 8)
    | 2 => (s.debugBase v).advSecured (v.setWidth 8)
    | 3 => (s.debugBase v).reqRelock
    | _ => (s.debugBase v).secRefuse := if_pos h

/-- The conditions of a nonce request (R403, R409). -/
def nonceAllowed (purpose slot : BitVec 2) : Prop :=
  s.keyset = true ∧ s.sec.holdoff = false ∧ purpose ≠ 3 ∧
    (purpose = 1 → s.sec.life ≠ .returned ∧ s.pwr.pstate = .active) ∧
    (purpose = 2 → s.sec.life = .secured ∧ s.liveProduction ≠ [slot.toNat])

theorem nonceAllowed_iff (purpose slot : BitVec 2) :
    (s.keyset && !s.sec.holdoff && s.purposeOk purpose.toNat slot.toNat) = true ↔ s.nonceAllowed purpose slot := by
  have hp : s.purposeOk purpose.toNat slot.toNat = true ↔ purpose ≠ 3 ∧
      (purpose = 1 → s.sec.life ≠ .returned ∧ s.pwr.pstate = .active) ∧
      (purpose = 2 → s.sec.life = .secured ∧ s.liveProduction ≠ [slot.toNat]) := by
    obtain rfl | rfl | rfl | rfl : purpose = 0 ∨ purpose = 1 ∨ purpose = 2 ∨ purpose = 3 := by
      revert purpose
      decide
    · simp [purposeOk]
    · simp [purposeOk]
    · simp [purposeOk]
    · simp [purposeOk]
  rw [Bool.and_eq_true, Bool.and_eq_true, Bool.not_eq_true', hp, nonceAllowed, and_assoc]

theorem nonceRequest_of_allowed {u : State} {purpose slot : Nat}
    (h : (u.keyset && !u.sec.holdoff && u.purposeOk purpose slot) = true) : u.nonceRequest purpose slot =
      { u.nonceDrop with sec := { u.nonceDrop.sec with asked := true, purpose := purpose, rslot := slot } } := if_pos h

theorem nonceRequest_of_not_allowed {u : State} {purpose slot : Nat}
    (h : ¬ (u.keyset && !u.sec.holdoff && u.purposeOk purpose slot) = true) :
    u.nonceRequest purpose slot = u.nonceDrop.secRefuse := if_neg h

/-! ### The comparison -/

theorem authMatches_iff (x : BitVec 128) :
    s.authMatches x = true ↔ s.sec.resp.flatMap bytesOfWord = hmacSha256 s.unlockKey (s.authMessage x) := beq_iff_eq

/-- The state in which a matching response acts. -/
def authRight : State := ((s.nonceDrop.raise Irq.AUTH).setFlag Reg.DEBUG_STAT 12 true).setFld Reg.DEBUG_STAT 5 4 0

/-- What a matching response leaves of the registers. -/
theorem authRight_shows : s.authRight.flag Reg.INT_STAT Irq.AUTH = true ∧ s.authRight.flag Reg.DEBUG_STAT 12 = true ∧
    s.authRight.fld Reg.DEBUG_STAT 5 4 = 0 := by
  have hn : Reg.INT_STAT ≠ Reg.DEBUG_STAT := by decide
  refine ⟨?_, ?_, fld_setFld_same _ _ (by omega)⟩
  · rw [authRight, flag_setFld_ne _ _ _ _ _ hn, flag_setFlag_ne _ _ _ _ hn, flag_raise_same _ (by decide)]
  · rw [authRight, flag_setFld_out _ _ (by omega) (by omega), flag_setFlag_same _ _ _ _ (by omega)]

theorem authDone_right {x : BitVec 128} (h : s.authMatches x = true) : s.authDone x = s.authRight.authAct := if_pos h

/-- The state after a response that does not match. -/
def authWrong : State :=
  let u := ((s.nonceDrop.raise Irq.AUTH).setFlag Reg.DEBUG_STAT 11 true).satFld Reg.DEBUG_STAT 5 4
  { u with sec := { u.sec with holdoff := true } }

theorem authDone_wrong {x : BitVec 128} (h : ¬ s.authMatches x = true) : s.authDone x = s.authWrong := if_neg h

theorem authWrong_shows : s.authWrong.flag Reg.INT_STAT Irq.AUTH = true ∧ s.authWrong.flag Reg.DEBUG_STAT 11 = true ∧
    s.authWrong.fld Reg.DEBUG_STAT 5 4 = min 15 (s.fld Reg.DEBUG_STAT 5 4 + 1) := by
  have hn : Reg.INT_STAT ≠ Reg.DEBUG_STAT := by decide
  have hm : Reg.DEBUG_STAT ≠ Reg.INT_STAT := by decide
  refine ⟨?_, ?_, ?_⟩
  · refine (flag_satFld_ne _ _ _ _ hn).trans ?_
    rw [flag_setFlag_ne _ _ _ _ hn, flag_raise_same _ (by decide)]
  · refine (flag_satFld_out _ (by omega) (by omega)).trans ?_
    rw [flag_setFlag_same _ _ _ _ (by omega)]
  · refine (fld_satFld_same _ (by omega)).trans ?_
    rw [fld_setFlag_disjoint _ _ (by omega) (by omega), fld_raise_ne _ _ _ _ hm, min_comm]
    rfl

/-- The fuse that a matching response asks for (R411). -/
theorem getLsbD_revokeFuse {k i : Nat} (hk : k < 4) (hi : i < 32) :
    (BitVec.ofNat 32 (0xFF <<< (8 * k))).getLsbD i = decide (i / 8 = k) := by
  rw [BitVec.getLsbD_ofNat, decide_eq_true hi, Bool.true_and, Nat.testBit_shiftLeft,
    Nat.testBit_two_pow_sub_one (n := 8), ← Bool.decide_and]
  exact decide_eq_decide.2 (by omega)

theorem authAct_frame (u : State) : u.authAct = { u with nvm := u.authAct.nvm, sec := { u.sec with
    unlocked := u.authAct.sec.unlocked, trans := u.authAct.sec.trans, otpProg := u.authAct.sec.otpProg,
    otpDr := u.authAct.sec.otpDr } } := by
  unfold authAct
  split
  · split <;> rfl
  · rfl
  · rfl

theorem authAct_unlock {u : State} (h : u.sec.purpose = 0) :
    u.authAct = { u with sec := { u.sec with unlocked := u.sec.unlocked || decide (u.sec.life = .secured) } } := by
  unfold authAct
  rw [h]
  by_cases hl : u.sec.life = .secured
  · simp [hl]
  · simp [hl]

theorem authAct_return {u : State} (h : u.sec.purpose = 1) : u.authAct = u.returnBegin := by
  unfold authAct
  rw [h]
  rfl

theorem authAct_revoke {u : State} (h : u.sec.purpose = 2) :
    u.authAct = u.otpBegin 42 (BitVec.ofNat 32 (0xFF <<< (8 * u.sec.rslot))) u.otpRefused := by
  unfold authAct
  rw [h]
  rfl

end State

/-- Settles O56. -/
theorem challengeResponse : Obligations.ChallengeResponse := by
  unfold Obligations.ChallengeResponse
  intro s purpose slot x w hm
  refine ⟨?_, fun ha => ?_, fun hn => ?_, fun hn hr => ?_, fun hn hr => ?_, fun hn => ?_, ?_, ?_⟩
  · have hgo : (putBits (putBits (s.debugWord 0) 10 2 purpose.toNat) 8 2 slot.toNat).getLsbD 15 = true := by
      rw [getLsbD_putBits _ _ _ _ _ (by omega), if_neg (by omega), getLsbD_putBits _ _ _ _ _ (by omega), if_neg (by omega),
        s.debugWord_go]
    have hreq : bits (putBits (putBits (s.debugWord 0) 10 2 purpose.toNat) 8 2 slot.toNat) 12 3 = 0 := by
      rw [bits_putBits_of_disjoint _ _ (by omega) (by omega), bits_putBits_of_disjoint _ _ (by omega) (by omega),
        s.debugWord_req (by omega)]
    have hpur : bits (putBits (putBits (s.debugWord 0) 10 2 purpose.toNat) 8 2 slot.toNat) 10 2 = purpose.toNat := by
      rw [bits_putBits_of_disjoint _ _ (by omega) (by omega), bits_putBits_same _ _ (by omega)]
      exact Nat.mod_eq_of_lt purpose.isLt
    have hslot : bits (putBits (putBits (s.debugWord 0) 10 2 purpose.toNat) 8 2 slot.toNat) 8 2 = slot.toNat := by
      rw [bits_putBits_same _ _ (by omega)]
      exact Nat.mod_eq_of_lt slot.isLt
    refine completes_of_guard (c := s.mainUp = true) rfl hm ?_
    dsimp only
    generalize putBits (putBits (s.debugWord 0) 10 2 purpose.toNat) 8 2 slot.toNat = v at hgo hreq hpur hslot ⊢
    have hd : s.debugCtl v = (s.debugBase v).nonceRequest purpose.toNat slot.toNat := by
      rw [s.debugCtl_go hgo, hreq, hpur, hslot]
      rfl
    have hb := s.debugBase_frame v
    have hiff : ((s.debugBase v).keyset && !(s.debugBase v).sec.holdoff &&
        (s.debugBase v).purposeOk purpose.toNat slot.toNat) = true ↔ s.nonceAllowed purpose slot := by
      rw [hb]
      exact s.nonceAllowed_iff purpose slot
    rw [hd]
    by_cases hc : s.nonceAllowed purpose slot
    · rw [State.nonceRequest_of_allowed (hiff.2 hc), hb]
      exact ⟨rfl, rfl, rfl, ite_of_pos hc ⟨rfl, rfl, fun _ => rfl⟩⟩
    · rw [State.nonceRequest_of_not_allowed (fun h => hc (hiff.1 h)), hb]
      exact ⟨rfl, rfl, rfl, ite_of_neg hc ⟨State.flag_setFlag_same _ _ _ _ (by omega), rfl⟩⟩
  · exact completes_of_guard rfl (by simp [hm, ha]) ⟨rfl, rfl, rfl, rfl⟩
  · refine completes_of_guard (c := s.mainUp = true) rfl hm ?_
    have hc : s.readChal =
        (nth (s.challenge x) s.sec.chal 0, { s with sec := { s.sec with chal := min 12 (s.sec.chal + 1) } }) := by
      simp only [State.readChal, hn]
    dsimp only
    rw [hc]
    exact ⟨rfl, rfl, hn, rfl⟩
  · refine completes_of_guard (c := s.mainUp = true) rfl hm ?_
    simp only [State.writeChal, hn, hr, Option.isNone_some, Bool.false_eq_true, if_false, if_true]
  · have hx : exec .authCompareDone s = .next (s.authDone x) := by
      refine congrArg Host.Outcome.next ?_
      rw [hn]
      exact if_pos (by simp [hm, hr])
    by_cases hok : s.authMatches x = true
    · have hmac := (s.authMatches_iff x).1 hok
      obtain ⟨hint, h12, h5⟩ := s.authRight_shows
      have hf := s.authRight.authAct_frame
      refine completes_of_eq (hx.trans (congrArg _ (s.authDone_right hok))) ⟨?_, ?_, ?_, ?_, ite_of_pos hmac
        ⟨?_, ?_, ?_, fun h0 => ?_, fun h1 => ?_, fun h2 hs => ?_⟩⟩
      · rw [hf]
        rfl
      · rw [hf]
        exact hint
      · rw [hf]
        rfl
      · rw [hf]
        rfl
      · rw [hf]
        exact h12
      · rw [hf]
        exact h5
      · rw [hf]
        rfl
      · rw [State.authAct_unlock (u := s.authRight) h0]
        exact ⟨rfl, rfl, rfl, rfl⟩
      · rw [State.authAct_return (u := s.authRight) h1]
        refine ⟨rfl, rfl, rfl, rfl, ?_, rfl, ?_⟩
        · change s.nvm.todo.take (if s.nvm.paused then 0 else 1) = if s.nvm.paused then [] else s.nvm.todo.take 1
          cases s.nvm.paused
          · rfl
          · exact List.take_zero
        · change (s.pwr.ready && (_ || true)) = true
          rw [Bool.or_true, State.mainUp_ready hm]
          rfl
      · rw [State.authAct_revoke (u := s.authRight) h2]
        exact ⟨rfl, rfl, rfl, _, rfl, fun i hi => State.getLsbD_revokeFuse hs hi⟩
    · have hmac := fun h => hok ((s.authMatches_iff x).2 h)
      obtain ⟨hint, h11, h5⟩ := s.authWrong_shows
      exact completes_of_eq (hx.trans (congrArg _ (s.authDone_wrong hok)))
        ⟨rfl, hint, rfl, rfl, ite_of_neg hmac ⟨rfl, rfl, rfl, h11, rfl, rfl, h5⟩⟩
  · exact completes_of_guard rfl (by simp [hn]) ⟨rfl, rfl, rfl⟩
  · exact completes_of_eq rfl rfl
  · have hd : s.debugCtl (s.debugWord 3) = (s.debugBase (s.debugWord 3)).reqRelock := by
      rw [s.debugCtl_go (s.debugWord_go 3), s.debugWord_req (by omega)]
      rfl
    refine completes_of_guard (c := s.mainUp = true) rfl hm ?_
    dsimp only
    rw [hd, State.debugBase_frame]
    exact ⟨rfl, rfl, rfl⟩

end Sys2Proof.Machine
end

section
/-! PROOFS. The lifecycle's transitions, its fuses and the erasure of RETURN (13, R397, R398, R413). -/

namespace Sys2Proof.Machine

/-! ### Fuses -/

theorem fuseBlown_or {w m : BitVec 32} {i : Nat} (h : ∀ b < 8, m.getLsbD (8 * i + b) = true) :
    fuseBlown (w ||| m) i = true := by
  have hall : (List.range 8).filter (fun b => (w ||| m).getLsbD (8 * i + b)) = List.range 8 :=
    List.filter_eq_self.2 fun b hb => by rw [BitVec.getLsbD_or, h b (List.mem_range.1 hb), Bool.or_true]
  rw [fuseBlown, fuseBlown.popcountBits, hall]
  rfl

theorem lifeOf_ne_opened {w : BitVec 32} (h : fuseBlown w 0 = true) : lifeOf w ≠ .opened := by
  unfold lifeOf
  rw [if_pos h]
  split
  · decide
  · split <;> decide

theorem lifeOf_secured {w : BitVec 32} (h : fuseBlown w 1 = true) : lifeOf w = .secured ∨ lifeOf w = .returned := by
  unfold lifeOf
  rw [if_pos h]
  split
  · exact .inr rfl
  · exact .inl rfl

theorem lifeOf_returned {w : BitVec 32} (h : fuseBlown w 2 = true) : lifeOf w = .returned := if_pos h

namespace State

variable (s : State)

theorem otpWord_otpProgram {a w : Nat} (d : BitVec 32) (hw : w < 64) :
    (s.otpProgram a d).otpWord w = if w = a then s.otpWord w ||| d else s.otpWord w := by
  by_cases ha : a < 64
  · rw [otpProgram, dif_pos ha]
    simp only [otpWord, Vector.toList_set, List.getD_eq_getElem?_getD, List.getElem?_set, Vector.length_toList]
    by_cases he : w = a
    · subst he
      simp [ha]
    · simp [he, Ne.symm he]
  · rw [otpProgram, dif_neg ha, if_neg (by omega)]

theorem otpProgram_frame (a : Nat) (d : BitVec 32) :
    s.otpProgram a d = { s with sec := { s.sec with otp := (s.otpProgram a d).sec.otp } } := by
  unfold otpProgram
  split <;> rfl

/-! ### A reset after a fuse -/

theorem secBooted_flashCut : s.flashCut.secBooted = s.secBooted := by
  obtain ⟨f, k, h⟩ := s.flashCut_frame
  rw [h]
  rfl

theorem rebooted_sec (cause : Nat) (hsel hsdo : Bool) : (s.rebooted cause hsel hsdo).sec = s.secBooted :=
  s.secBooted_flashCut

theorem rebooted_otp (cause : Nat) (hsel hsdo : Bool) : (s.rebooted cause hsel hsdo).sec.otp = s.sec.otp := by
  rw [rebooted_sec]
  rfl

theorem rebooted_life (cause : Nat) (hsel hsdo : Bool) : (s.rebooted cause hsel hsdo).sec.life = lifeOf (s.otpWord 43) := by
  rw [rebooted_sec]
  rfl

theorem rebooted_flash {cause : Nat} {hsel hsdo : Bool} (h : s.nvm.todo = []) (r : s.sec.trans ≠ .returned) :
    (s.rebooted cause hsel hsdo).flash = s.flash := by
  change s.flashCut.flash = s.flash
  rw [s.flashCut_idle h r]

/-- What a fuse's programming and the reset after it leave: the fuse, the lifecycle it gives, and the flash. -/
theorem fuseReset_spec (m : BitVec 32) (st : Straps) (h : s.sec.trans ≠ .returned) :
    let t := (s.otpProgram 43 m).systemReset st
    t.otpWord 43 = s.otpWord 43 ||| m ∧ t.sec.life = lifeOf (s.otpWord 43 ||| m) ∧ t.pwr.cause = 3 ∧
      (s.nvm.todo = [] → t.flash = s.flash) := by
  have hp : (s.otpProgram 43 m).otpWord 43 = s.otpWord 43 ||| m := s.otpWord_otpProgram m (by omega)
  have hf := s.otpProgram_frame 43 m
  refine ⟨?_, ?_, rfl, fun ht => ?_⟩
  · rw [otpWord, systemReset, rebooted_otp, ← otpWord, hp]
  · rw [systemReset, rebooted_life, hp]
  · refine (rebooted_flash _ ?_ ?_).trans ?_
    · rw [hf]
      exact ht
    · rw [hf]
      exact h
    · rw [hf]

/-! ### Transitions -/

theorem debugBase_transMay (v : Word) (key : Byte) : (s.debugBase v).transMay key = s.transMay key := by
  rw [debugBase_frame]
  rfl

theorem debugBase_life (v : Word) : (s.debugBase v).sec.life = s.sec.life := by rw [debugBase_frame]

theorem debugBase_fuses (v : Word) : (s.debugBase v).enrolled = s.enrolled ∧ (s.debugBase v).revoked = s.revoked ∧
    (s.debugBase v).liveProduction = s.liveProduction ∧ (s.debugBase v).keyset = s.keyset := by
  rw [debugBase_frame]
  exact ⟨rfl, rfl, rfl, rfl⟩

/-- The word of a request for a transition: GO, the request and the KEY byte. -/
theorem debugWord_key {req : Nat} (h : req < 8) (key : Byte) :
    (putBits (s.debugWord req) 0 8 key.toNat).getLsbD 15 = true ∧ bits (putBits (s.debugWord req) 0 8 key.toNat) 12 3 = req ∧
      (putBits (s.debugWord req) 0 8 key.toNat).setWidth 8 = key := by
  refine ⟨?_, ?_, ?_⟩
  · rw [getLsbD_putBits _ _ _ _ _ (by omega), if_neg (by omega), s.debugWord_go]
  · rw [bits_putBits_of_disjoint _ _ (by omega) (by omega), s.debugWord_req h]
  · refine BitVec.eq_of_getLsbD_eq fun i hi => ?_
    rw [BitVec.getLsbD_setWidth, getLsbD_putBits _ _ _ _ _ (by omega), if_pos (by omega)]
    simp [hi, BitVec.getLsbD]

theorem exec_advDevelop {key : Byte} (h : s.mainUp = true) : ∃ v, v.getLsbD 15 = true ∧
    exec (.advDevelop key) s = .next ((s.debugBase v).advDevelop key) := by
  obtain ⟨hgo, hreq, hkey⟩ := s.debugWord_key (req := 1) (by omega) key
  refine ⟨_, hgo, (congrArg Host.Outcome.next (if_pos h)).trans ?_⟩
  dsimp only
  rw [s.debugCtl_go hgo, hreq, hkey]
  rfl

theorem exec_advSecured {key : Byte} (h : s.mainUp = true) : ∃ v, v.getLsbD 15 = true ∧
    exec (.advSecured key) s = .next ((s.debugBase v).advSecured key) := by
  obtain ⟨hgo, hreq, hkey⟩ := s.debugWord_key (req := 2) (by omega) key
  refine ⟨_, hgo, (congrArg Host.Outcome.next (if_pos h)).trans ?_⟩
  dsimp only
  rw [s.debugCtl_go hgo, hreq, hkey]
  rfl

theorem transMay_key (ha : s.pwr.pstate = .active) (ht : s.sec.trans = .none) : s.transMay 0xC3 = true := by
  simp [transMay, ha, ht]

theorem viewReg_debugCtl_go (h : s.sec.trans = .develop ∨ s.sec.trans = .secured) :
    (s.viewReg Reg.DEBUG_CTL).getLsbD 15 = true := by
  have hb : (s.sec.asked || s.sec.trans = .develop || s.sec.trans = .secured) = true := by
    rcases h with h | h <;> simp [h]
  change ((s.reg Reg.DEBUG_CTL &&& ~~~(word 0x8000)) |||
    (word (bitAt 15 (s.sec.asked || s.sec.trans = .develop || s.sec.trans = .secured)) &&& word 0x8000)).getLsbD 15 = true
  rw [hb, BitVec.getLsbD_or, Bool.or_eq_true]
  exact .inr rfl

theorem viewReg_nvmStat_busy (h : s.sec.trans ≠ .none) : (s.viewReg Reg.NVM_STAT).getLsbD 15 = true := by
  change ((s.reg Reg.NVM_STAT &&& ~~~(word 0x8000)) ||| (word (bitAt 15 s.nvmBusy) &&& word 0x8000)).getLsbD 15 = true
  rw [s.nvmBusy_iff.2 (.inr h), BitVec.getLsbD_or, Bool.or_eq_true]
  exact .inr rfl

/-! ### The erasure of RETURN -/

/-- Sector `j` of the flash is erased in `t`, or as it is in `s`. -/
def SectorErasedOrKept (s t : State) (j : Nat) : Prop :=
  (∀ i < 4096, t.flashByte (4096 * j + i) = 0xFF) ∨ ∀ i < 4096, t.flashByte (4096 * j + i) = s.flashByte (4096 * j + i)

/-- One sector of an erasure that is cut. -/
def sectorCut (j : Nat) : State :=
  if s.drawBit.1 then s.drawBit.2.flashErase (j * sectorLen) ((j + 1) * sectorLen) else s.drawBit.2

variable {s}

theorem sectorCut_wf (h : Memory.wf flashDefault s.flash = true) (j : Nat) :
    Memory.wf flashDefault (s.sectorCut j).flash = true := by
  unfold sectorCut
  split
  · exact flashErase_wf s.drawBit.2 _ _ h
  · exact h

theorem flashByte_sectorCut (h : Memory.wf flashDefault s.flash = true) (j a : Nat) :
    (s.sectorCut j).flashByte a =
      if s.drawBit.1 = true ∧ 4096 * j ≤ a ∧ a < 4096 * j + 4096 then 0xFF else s.flashByte a := by
  unfold sectorCut
  split
  case isTrue hd =>
    have he : (s.drawBit.2.flashErase (j * sectorLen) ((j + 1) * sectorLen)).flashByte a =
        if j * sectorLen ≤ a ∧ a < (j + 1) * sectorLen then 0xFF else s.flashByte a :=
      flashByte_flashErase (s := s.drawBit.2) h _ _ a
    rw [he]
    refine if_congr ?_ rfl rfl
    rw [sectorLen, and_iff_right hd]
    omega
  case isFalse hd =>
    rw [if_neg fun h => hd h.1]
    rfl

theorem sectorCut_sector (h : Memory.wf flashDefault s.flash = true) (k j : Nat) : s.SectorErasedOrKept (s.sectorCut k) j := by
  by_cases hd : s.drawBit.1 = true ∧ j = k
  · refine .inl fun i hi => ?_
    rw [flashByte_sectorCut h, if_pos ⟨hd.1, by omega, by omega⟩]
  · refine .inr fun i hi => ?_
    rw [flashByte_sectorCut h, if_neg fun hc => hd ⟨hc.1, by omega⟩]

theorem SectorErasedOrKept.trans {s u t : State} {j : Nat} (h₁ : s.SectorErasedOrKept u j) (h₂ : u.SectorErasedOrKept t j) :
    s.SectorErasedOrKept t j := by
  rcases h₂ with h₂ | h₂
  · exact .inl h₂
  · exact h₁.imp (fun h i hi => (h₂ i hi).trans (h i hi)) fun h i hi => (h₂ i hi).trans (h i hi)

/-- A cut of several sectors, one after another. -/
theorem sectorCuts_spec (l : List Nat) (s : State) (h : Memory.wf flashDefault s.flash = true) :
    (∀ j, s.SectorErasedOrKept (l.foldl sectorCut s) j) ∧
      ∀ a, a / 4096 ∉ l → (l.foldl sectorCut s).flashByte a = s.flashByte a := by
  induction l generalizing s with
  | nil => exact ⟨fun j => .inr fun _ _ => rfl, fun _ _ => rfl⟩
  | cons k l ih =>
    obtain ⟨hs, ha⟩ := ih (s.sectorCut k) (sectorCut_wf h k)
    refine ⟨fun j => (sectorCut_sector h k j).trans (hs j), fun a hn => ?_⟩
    rw [List.mem_cons, not_or] at hn
    refine (ha a hn.2).trans ?_
    rw [flashByte_sectorCut h, if_neg (by omega)]

theorem eraseCut_spec (h : Memory.wf flashDefault s.flash = true) :
    (∀ j, s.SectorErasedOrKept s.eraseCut j) ∧ ∀ a, 0x3D000 ≤ a → s.eraseCut.flashByte a = s.flashByte a := by
  obtain ⟨hs, ha⟩ := sectorCuts_spec (List.range 61) s h
  exact ⟨hs, fun a hle => ha a (by rw [List.mem_range]; omega)⟩

theorem flashCut_returned (ht : s.sec.trans = .returned) (hn : s.nvm.todo = []) : s.flashCut = s.eraseCut := by
  unfold flashCut
  rw [hn]
  split
  · contradiction
  · exact if_pos ht

end State

/-- Settles O57. -/
theorem lifecycleAdvances : Obligations.LifecycleAdvances := by
  unfold Obligations.LifecycleAdvances
  intro s st hm
  refine ⟨fun ha ht => ⟨fun hl he => ?_, fun hl hp hk => ?_⟩, fun hl => ?_, fun ht => ?_, fun ht => ?_, fun ht hn => ?_,
    fun ht hn hw => ⟨?_, ?_⟩, fun ht => ?_⟩
  · obtain ⟨v, -, hx⟩ := s.exec_advDevelop (key := 0xC3) hm
    obtain ⟨he', hr', -, -⟩ := s.debugBase_fuses v
    have hany : (List.range 4).any (fun k => s.enrolled k && !s.revoked k) = true := by
      obtain ⟨k, hk, hen, hrev⟩ := he
      exact List.any_eq_true.2 ⟨k, List.mem_range.2 hk, by simp [hen, hrev]⟩
    have hc : (s.debugBase v).advDevelop 0xC3 = (s.debugBase v).transBegin .develop := by
      refine if_pos ?_
      rw [s.debugBase_transMay, s.debugBase_life, he', hr', s.transMay_key ha ht, hany, hl]
      rfl
    refine completes_of_eq (hx.trans (congrArg _ hc)) ⟨rfl, rfl, State.viewReg_debugCtl_go _ (.inl rfl),
      State.viewReg_nvmStat_busy _ nofun, ?_⟩
    rw [s.debugBase_frame]
    rfl
  · obtain ⟨v, -, hx⟩ := s.exec_advSecured (key := 0xC3) hm
    obtain ⟨-, -, hp', hk'⟩ := s.debugBase_fuses v
    have hc : (s.debugBase v).advSecured 0xC3 = (s.debugBase v).transBegin .secured := by
      refine if_pos ?_
      rw [s.debugBase_transMay, s.debugBase_life, hp', hk', s.transMay_key ha ht, hk, hl]
      simp [hp]
    refine completes_of_eq (hx.trans (congrArg _ hc)) ⟨rfl, rfl, ?_⟩
    rw [s.debugBase_frame]
    rfl
  · obtain ⟨v, -, hx⟩ := s.exec_advDevelop (key := 0xC3) hm
    have hc : (s.debugBase v).advDevelop 0xC3 = (s.debugBase v).secRefuse := by
      refine if_neg ?_
      rw [s.debugBase_life]
      simp [hl]
    refine completes_of_eq (hx.trans (congrArg _ hc)) ⟨?_, State.flag_setFlag_same _ _ _ _ (by omega)⟩
    rw [s.debugBase_frame]
    rfl
  · have hx : exec (.fuseProgramDone st) s = .next ((s.otpProgram 43 0x000000FF).systemReset st) := by
      refine congrArg Host.Outcome.next ?_
      rw [ht]
    obtain ⟨hw, hl, hc, hf⟩ := s.fuseReset_spec 0x000000FF st (by rw [ht]; decide)
    refine completes_of_eq hx ⟨hw, ?_, hc, hf⟩
    rw [hl]
    exact lifeOf_ne_opened (fuseBlown_or (by decide))
  · have hx : exec (.fuseProgramDone st) s = .next ((s.otpProgram 43 0x0000FF00).systemReset st) := by
      refine congrArg Host.Outcome.next ?_
      rw [ht]
    obtain ⟨hw, hl, hc, -⟩ := s.fuseReset_spec 0x0000FF00 st (by rw [ht]; decide)
    refine completes_of_eq hx ⟨hw, ?_, hc⟩
    rw [hl]
    exact lifeOf_secured (fuseBlown_or (by decide))
  · refine congrArg Host.Outcome.next ?_
    rw [ht]
    exact if_neg (by simpa using hn)
  · have hx : exec (.returnEraseDone st) s = .next { s.flashErase 0 0x3D000 with
        sec := { s.sec with trans := .returnFuse } } := by
      refine congrArg Host.Outcome.next ?_
      rw [ht]
      exact if_pos (by simp [hn])
    refine completes_of_eq hx ⟨rfl, fun a => ?_⟩
    refine (State.flashByte_flashErase hw.flash 0 0x3D000 a).trans (if_congr ?_ rfl rfl)
    omega
  · have hfl : (s.rebooted 0 false false).flash = s.eraseCut.flash := by
      rw [← State.flashCut_returned ht hn]
      rfl
    obtain ⟨hs, ha⟩ := State.eraseCut_spec hw.flash
    have hb (a : Nat) : { s.rebooted 0 false false with
        aon := { (s.rebooted 0 false false).aon with por := true, vioLow := s.aon.vioLow } }.flashByte a = s.eraseCut.flashByte a := by
      rw [State.flashByte, State.flashByte, hfl]
    refine completes_of_eq rfl ⟨s.rebooted_otp 0 false false, fun j _ => ?_, fun a h => (hb a).trans (ha a h)⟩
    exact (hs j).imp (fun h i hi => (hb _).trans (h i hi)) fun h i hi => (hb _).trans (h i hi)
  · have hx : exec (.fuseProgramDone st) s = .next ((s.otpProgram 43 0x00FF0000).systemReset st) := by
      refine congrArg Host.Outcome.next ?_
      rw [ht]
    obtain ⟨hw, hl, hc, hf⟩ := s.fuseReset_spec 0x00FF0000 st (by rw [ht]; decide)
    refine completes_of_eq hx ⟨hw, ?_, hc, hf⟩
    rw [hl]
    exact lifeOf_returned (fuseBlown_or (by decide))

end Sys2Proof.Machine
end

section
/-! PROOFS. The test access port and OTP programming (13, R399 to R407, R414). -/

namespace Sys2Proof.Machine

/-! ### Words of the data registers -/

/-- The fields of a word shifted into OTP_PROG (R407). -/
theorem otpFields (op : BitVec 2) (addr : BitVec 6) (data : BitVec 32) :
    ((op ++ addr ++ data : BitVec 40).extractLsb' 38 2 = op) ∧ (op ++ addr ++ data : BitVec 40).extractLsb' 32 6 = addr ∧
      (op ++ addr ++ data : BitVec 40).setWidth 32 = data := by
  refine ⟨?_, ?_, ?_⟩
  all_goals
    refine BitVec.eq_of_getLsbD_eq fun i hi => ?_
    simp only [BitVec.getLsbD_extractLsb', BitVec.getLsbD_setWidth, BitVec.getLsbD_append, hi, decide_true, Bool.true_and]
  · rw [if_neg (by omega), if_neg (by omega)]
    exact congrArg op.getLsbD (by omega)
  · rw [if_neg (by omega), if_pos (by omega)]
    exact congrArg addr.getLsbD (Nat.add_sub_cancel_left ..)
  · exact if_pos trivial

theorem otpCapture_data (busy refused : Bool) (d : BitVec 32) : (otpCapture busy refused d).setWidth 32 = d := by
  refine BitVec.eq_of_toNat_eq ?_
  have hd := d.isLt
  rw [otpCapture, BitVec.toNat_setWidth, BitVec.toNat_ofNat]
  omega

theorem otpCapture_refused (busy refused : Bool) (d : BitVec 32) : (otpCapture busy refused d).getLsbD 32 = refused := by
  have hd := d.isLt
  have hn : (busy.toNat * 2 ^ 33 + refused.toNat * 2 ^ 32 + d.toNat) / 2 ^ 32 % 2 = refused.toNat := by
    have := refused.toNat_le
    omega
  rw [otpCapture, BitVec.getLsbD_ofNat, Nat.testBit_eq_decide_div_mod_eq, hn]
  cases refused <;> rfl

theorem dbgCapture_data (code : Nat) (w : Word) : (dbgCapture code w).setWidth 16 = w := by
  refine BitVec.eq_of_toNat_eq ?_
  have hw := w.isLt
  rw [dbgCapture, BitVec.toNat_setWidth, BitVec.toNat_ofNat]
  omega

theorem dbgCapture_code {code : Nat} (h : code < 8) (w : Word) : (dbgCapture code w).toNat / 2 ^ 16 = code := by
  have hw := w.isLt
  rw [dbgCapture, BitVec.toNat_ofNat]
  omega

theorem irListed_bypassCode (k : Nat) : irListed (bypassCode k) = false := by
  unfold bypassCode
  dsimp only
  split
  · rfl
  case isFalse h => exact eq_false_of_ne_true h

theorem dbgLocked_iff {a : Nat} : dbgLocked true false a = true ↔ a < 16 ∨ 66 ≤ a ∧ a ≤ 69 := by
  simp only [dbgLocked, Bool.not_false, Bool.true_and, Bool.or_eq_true, Bool.and_eq_true, decide_eq_true_eq]
  omega

namespace State

variable {s : State}

/-- A register whose read has no effect of its own. -/
theorem readReg_of_plain (s : State) {r : RegId} (h : plainRead r) : s.readReg r.val = (s.viewReg r, s) := by
  simp only [plainRead, List.mem_cons, not_or] at h
  unfold readReg
  split <;> simp_all

theorem tapRuns_of (hm : s.mainUp = true) (ht : s.sec.tapOut = true) : s.tapRuns = true := by simp [tapRuns, hm, ht]

theorem otpProgRead_eq (h : s.tapRuns = true) (op : BitVec 2) (addr : BitVec 6) (data : BitVec 32) :
    exec (.otpProgRead (op ++ addr ++ data)) s = .next ((s.tapIr 0x0C).otpUpdate op addr data) := by
  obtain ⟨hop, haddr, hdata⟩ := otpFields op addr data
  refine congrArg Host.Outcome.next ((if_pos h).trans ?_)
  rw [otpShift, hop, haddr, hdata]

theorem otpProgProgram_eq (h : s.tapRuns = true) (op : BitVec 2) (addr : BitVec 6) (data : BitVec 32) :
    exec (.otpProgProgram (op ++ addr) data) s = .next ((s.tapIr 0x0C).otpUpdate op addr data) := by
  obtain ⟨hop, haddr, hdata⟩ := otpFields op addr data
  refine congrArg Host.Outcome.next ((if_pos h).trans ?_)
  rw [otpShift, hop, haddr, hdata]

theorem otpUpdate_noop (s : State) {op : BitVec 2} (h₁ : op ≠ 1) (h₂ : op ≠ 2) (addr : BitVec 6) (data : BitVec 32) :
    s.otpUpdate op addr data = s := by
  unfold otpUpdate
  split
  case h_1 h => exact absurd (BitVec.eq_of_toNat_eq h) h₁
  case h_2 h => exact absurd (BitVec.eq_of_toNat_eq h) h₂
  case h_3 => rfl

theorem otpUpdate_program_allowed {addr : BitVec 6} {data : BitVec 32} (h : s.otpAllowed addr.toNat data = true) :
    s.otpUpdate 1 addr data = s.otpBegin addr.toNat data false := if_pos h

theorem otpUpdate_program_refused {addr : BitVec 6} {data : BitVec 32} (h : s.otpAllowed addr.toNat data ≠ true) :
    s.otpUpdate 1 addr data = { s with sec := { s.sec with otpDr := otpCapture s.sec.otpProg.isSome true s.otpData } } :=
  if_neg h

theorem otpAllowed_secured (h : s.sec.life = .secured) (a : Nat) (d : BitVec 32) : s.otpAllowed a d = false :=
  if_pos (by simp [h])

section

variable {dr : BitVec 40} {r : RegId} (hrd : dr.getLsbD 39 = true) (hwin : dr.getLsbD 38 = false)
  (ha : dr.toNat / 2 ^ 31 % 128 = r.val)
include hrd hwin ha

/-- A read of a plain register that DBG_ACCESS reaches. -/
theorem dbgAccess_read (hp : plainRead r) (hm : s.mainUp = true)
    (hc : s.dstate = 2 ∨ r.val < 16 ∨ 66 ≤ r.val ∧ r.val ≤ 69) :
    s.dbgAccess dr = { s with sec := { s.sec with dbgDr := dbgCapture 1 (s.viewReg r) } } := by
  have hr : s.apart (fun t => t.readReg r.val) = (s.viewReg r, s) := by
    rw [apart, readReg_of_plain _ hp]
    rfl
  have hreach : ¬ (s.dstate != 2 && !dbgLocked true false r.val) = true := by
    rw [← dbgLocked_iff] at hc
    rcases hc with h | h <;> simp [h]
  unfold dbgAccess
  rw [hrd, hwin, ha, hm]
  refine (if_neg hreach).trans ((if_neg (by simp)).trans ((if_pos rfl).trans ?_))
  refine Eq.trans ?_ (congrArg (fun p : Word × State => { p.2 with sec := { p.2.sec with dbgDr := dbgCapture 1 p.1 } }) hr)
  rfl

/-- A read that it does not reach. -/
theorem dbgAccess_refused (hc : ¬ (s.dstate = 2 ∨ r.val < 16 ∨ 66 ≤ r.val ∧ r.val ≤ 69)) :
    s.dbgAccess dr = s.dbgNoData 2 := by
  unfold dbgAccess
  rw [hrd, hwin, ha]
  refine if_pos ?_
  rw [← dbgLocked_iff, not_or] at hc
  simp [hc.1, hc.2]

end

end State

/-- Settles O58. -/
theorem tapAccess : Obligations.TapAccess := by
  unfold Obligations.TapAccess
  intro s op addr data dr r hm
  refine ⟨?_, ?_, fun ht => ?_, fun a d hp => ?_⟩
  · refine completes_of_guard (c := s.mainUp = true) rfl hm ?_
    dsimp only
    rw [State.settle_frame]
    exact ⟨rfl, rfl, rfl⟩
  · refine completes_of_guard (c := s.mainUp = true) rfl hm ?_
    dsimp only
    rw [State.settle_frame]
    exact ⟨rfl, rfl, rfl, rfl⟩
  · have hr := State.tapRuns_of hm ht
    refine ⟨?_, ?_, ?_, fun h₁ h₂ => ?_, ?_, fun hrd hwin ha hp => ?_⟩
    · exact completes_of_guard rfl hr ⟨congrArg (fun n => BitVec.ofNat 32 (n % 16 * 2 ^ 28 + 0x6144 * 2 ^ 12 + 1))
        (Nat.shiftRight_zero (n := (s.reg Reg.CHIP_REV).toNat)), rfl⟩
    · refine completes_of_guard rfl hr ⟨fun hmem => ?_, BitVec.getLsbD_zero, rfl⟩
      have hl := irListed_bypassCode s.freeCtr
      simp only [List.mem_cons, List.not_mem_nil, or_false] at hmem
      rcases hmem with h | h | h
      all_goals
        rw [h] at hl
        exact absurd hl (by decide)
    · refine completes_of_eq (State.otpProgRead_eq hr _ _ _) ⟨?_, rfl⟩
      refine (otpCapture_data _ _ _).trans (if_congr ?_ rfl rfl)
      simp
    · refine completes_of_eq (State.otpProgRead_eq hr _ _ _) ?_
      rw [State.otpUpdate_noop _ h₁ h₂]
      rfl
    · refine completes_of_eq (State.otpProgProgram_eq hr _ _ _) ?_
      by_cases hok : s.otpAllowed addr.toNat data = true
      · rw [State.otpUpdate_program_allowed (s := s.tapIr 0x0C) hok]
        refine ⟨rfl, fun _ => rfl, fun hl => ?_⟩
        rw [State.otpAllowed_secured hl] at hok
        contradiction
      · rw [State.otpUpdate_program_refused (s := s.tapIr 0x0C) hok]
        exact ⟨rfl, fun h => absurd h hok, fun _ => ⟨rfl, otpCapture_refused _ _ _⟩⟩
    · refine completes_of_guard rfl (by simp [State.mainUp_aonUp hm, ht]) ?_
      by_cases hc : s.dstate = 2 ∨ r.val < 16 ∨ 66 ≤ r.val ∧ r.val ≤ 69
      · rw [State.dbgAccess_read (s := s.tapIr 0x08) hrd hwin ha hp hm hc]
        exact ite_of_pos hc ⟨dbgCapture_data _ _, dbgCapture_code (by omega) _⟩
      · rw [State.dbgAccess_refused (s := s.tapIr 0x08) hrd hwin ha hc]
        exact ite_of_neg hc ⟨dbgCapture_code (by omega) _, rfl⟩
  · have hx : exec .otpProgramDone s = .next { s.otpProgram a d with sec := { (s.otpProgram a d).sec with
        otpProg := none, shadow := (s.otpProgram a d).fuseWords,
        otpDr := otpCapture false (s.otpProgram a d).otpRefused (s.otpProgram a d).otpData } } := by
      refine congrArg Host.Outcome.next ?_
      rw [hp]
    refine completes_of_eq hx ⟨rfl, fun w hw => s.otpWord_otpProgram d hw, ?_⟩
    rw [s.otpProgram_frame]

end Sys2Proof.Machine
end

section
/-! PROOFS. Resets (R42, R44, R53, R333, R358). -/

namespace Sys2Proof.Machine

theorem State.bootsFrom_rebooted (s : State) (cause : Nat) (hsel hsdo : Bool) :
    bootsFrom s cause hsel hsdo (s.rebooted cause hsel hsdo) := by
  have hsec := s.rebooted_sec cause hsel hsdo
  refine ⟨rfl, rfl, rfl, rfl, rfl, s.rebooted_flash, s.rebooted_otp .., ?_, ?_, rfl, rfl, rfl, rfl, rfl⟩
  · rw [hsec]
    rfl
  · rw [hsec]
    rfl

/-- A reset that AON's supplies hold answers as it boots. -/
theorem State.bootsFrom_held {s t : State} {cause : Nat} {hsel hsdo : Bool} (h : bootsFrom s cause hsel hsdo t) (a b : Bool) :
    bootsFrom s cause hsel hsdo { t with aon := { t.aon with por := a, vioLow := b } } := h

theorem State.irqAsserted_of_not_aonUp {s : State} (h : s.aonUp = false) : s.irqAsserted = false := by
  rw [irqAsserted, h, Bool.false_and]

/-- Settles O44. -/
theorem resetsAct : Obligations.ResetsAct := by
  unfold Obligations.ResetsAct
  intro s st ns v
  refine ⟨fun hup => ⟨fun h => ?_, fun h => ?_, fun h₁ h₂ => ?_, ?_, fun h => ?_⟩, ?_, fun h => ?_, fun h => ?_, ?_⟩
  · have hx : exec (.rstNReset ns st) s = .next (s.rebooted 1 st.hsel st.hsdo) :=
      congrArg Host.Outcome.next ((if_neg (by simp [hup]; omega)).trans (if_pos h))
    exact completes_of_eq hx (s.bootsFrom_rebooted ..)
  · exact congrArg Host.Outcome.next (if_pos (by simp [h]))
  · have hx : exec (.rstNReset ns st) s =
        .next (if s.drawBit.1 then s.drawBit.2.rebooted 1 st.hsel st.hsdo else s.drawBit.2) :=
      congrArg Host.Outcome.next ((if_neg (by simp [hup]; omega)).trans (if_neg (by omega)))
    refine completes_of_eq hx ?_
    split
    · exact .inl (s.drawBit.2.bootsFrom_rebooted ..)
    · exact .inr ⟨_, rfl⟩
  · refine completes_of_guard rfl hup ?_
    unfold State.sysReset
    split
    case isTrue => exact s.bootsFrom_rebooted ..
    case isFalse => rfl
  · exact completes_of_guard rfl (by simp [hup, h]) ⟨rfl, rfl⟩
  · exact completes_of_eq rfl ⟨State.bootsFrom_held (s.bootsFrom_rebooted ..) _ _, rfl, State.irqAsserted_of_not_aonUp rfl⟩
  · exact completes_of_guard rfl h ⟨rfl, rfl, rfl, rfl⟩
  · have hx : exec .vioLow s = .next { s.rebooted 2 s.aon.hsel s.aon.hsdo with
        aon := { (s.rebooted 2 s.aon.hsel s.aon.hsdo).aon with vioLow := true } } :=
      congrArg Host.Outcome.next (if_neg (by simp [h]))
    exact completes_of_eq hx ⟨State.bootsFrom_held (s.bootsFrom_rebooted ..) _ _, rfl, State.irqAsserted_of_not_aonUp rfl⟩
  · exact completes_of_eq rfl ⟨rfl, rfl, rfl⟩

end Sys2Proof.Machine
end

section
/-! PROOFS. Rules for the sequencer's operations: what the start of an entry and its parts change (05). -/

namespace Sys2Proof.Machine

/-! ### Banks and fades -/

/-- A filter state with the banks, the fade and the chips of another. -/
def Filt.banksOf (f g : Filt) : Filt :=
  { f with cur := g.cur, fade := g.fade, pend := g.pend, edge := g.edge, chips := g.chips }

/-- Only the banks, the fade and the chips of the filters change from `s` to `t`. -/
def State.BanksOnly (s t : State) : Prop := t = { s with filt := s.filt.banksOf t.filt }

namespace State.BanksOnly

theorem refl (s : State) : s.BanksOnly s := rfl

theorem trans {s t u : State} (h₁ : s.BanksOnly t) (h₂ : t.BanksOnly u) : s.BanksOnly u := by
  have hf : u.filt = t.filt.banksOf u.filt := congrArg State.filt h₂
  have hg : t.filt = s.filt.banksOf t.filt := congrArg State.filt h₁
  unfold BanksOnly at *
  rw [h₂, h₁]
  rfl

theorem foldl {α : Type} {f : State → α → State} (h : ∀ (s : State) a, s.BanksOnly (f s a)) (l : List α) (s : State) :
    s.BanksOnly (l.foldl f s) := by
  induction l generalizing s with
  | nil => exact refl s
  | cons a l ih => exact (h s a).trans (ih _)

end State.BanksOnly

namespace State

variable (s : State)

theorem fadeEnd_banks (n : Nat) : s.BanksOnly (s.fadeEnd n) := by
  unfold fadeEnd
  split
  · rfl
  · dsimp only
    split
    · split <;> rfl
    · rfl

/-- A fade whose last output lies before chip `n` ends. -/
def fadeUpTo (n : Nat) : State := match s.filt.fade with
  | some t => if t.first + t.len ≤ n then s.fadeEnd n else s
  | none => s

theorem fadeUpTo_banks (n : Nat) : s.BanksOnly (s.fadeUpTo n) := by
  unfold fadeUpTo
  split
  · split
    · exact s.fadeEnd_banks _
    · exact .refl s
  · exact .refl s

/-- The blend of a chip in the fade that stands. -/
def blendIn (c : Chip) : Chip × State := match s.filt.fade with
  | some t =>
    if t.first ≤ c.no then
      let len := if c.no = t.first then s.xfadeLen else t.len
      let k := c.no - t.first
      let f := { s.filt with fade := some { t with len := len, pos := k + 1 }, edge := c.no + 1 }
      ({ c with fade := some (s.filt.cur, t.target, k, len), bank := s.filt.cur }, { s with filt := f })
    else ({ c with fade := none, bank := s.filt.cur }, { s with filt := { s.filt with edge := c.no + 1 } })
  | none => ({ c with fade := none, bank := s.filt.cur }, { s with filt := { s.filt with edge := c.no + 1 } })

theorem blendOf_eq (c : Chip) : s.blendOf c = (s.fadeUpTo c.no).blendIn c := rfl

theorem blendIn_banks (c : Chip) : s.BanksOnly (s.blendIn c).2 := by
  unfold blendIn
  split
  · split <;> rfl
  · rfl

theorem blendOf_banks (c : Chip) : s.BanksOnly (s.blendOf c).2 := by
  rw [blendOf_eq]
  exact (s.fadeUpTo_banks _).trans (blendIn_banks _ c)

theorem fixChips_banks : s.BanksOnly s.fixChips := by
  refine BanksOnly.foldl (fun t c => ?_) _ _
  split
  · exact (t.blendOf_banks c).trans rfl
  · exact .refl t

theorem fadeSettle_banks : s.BanksOnly s.fadeSettle := by
  unfold fadeSettle
  split
  · split
    · exact s.fadeEnd_banks _
    · exact .refl s
  · exact .refl s

theorem fixFade_banks : s.BanksOnly s.fixChips.fadeSettle := s.fixChips_banks.trans (fadeSettle_banks _)

/-- A bank request changes the banks and the flags of BANK_CTL. -/
theorem bankRequest_frame (bank xfade : Bool) : (s.bankRequest bank xfade).2 =
    { s with filt := s.filt.banksOf (s.bankRequest bank xfade).2.filt, regs := (s.bankRequest bank xfade).2.regs } := by
  unfold bankRequest
  dsimp only
  repeat' split
  all_goals rfl

theorem reg_bankRequest_ne (bank xfade : Bool) {q : RegId} (h : q ≠ Reg.BANK_CTL) :
    (s.bankRequest bank xfade).2.reg q = s.reg q := by
  unfold bankRequest
  dsimp only
  split
  · rfl
  · split
    · split
      · exact reg_setFlag_ne _ _ _ h
      · rfl
    · split
      · rfl
      · dsimp only
        split
        · exact reg_setFlag_ne _ _ _ h
        · rfl

/-! ### Detectors -/

theorem detAbort_frame (flag : Bool) (k : Fin 4) : s.detAbort flag k =
    { s with dets := (s.detAbort flag k).dets, regs := (s.detAbort flag k).regs } := by
  unfold detAbort
  dsimp only
  split <;> rfl

theorem reg_detAbort_ne (flag : Bool) (k : Fin 4) {q : RegId} (h : q ≠ Reg.GOERTZEL_STAT) :
    (s.detAbort flag k).reg q = s.reg q := by
  unfold detAbort
  dsimp only
  split
  · exact reg_setFlag_ne _ _ _ h
  · rfl

theorem detAbortAll_frame (flag : Bool) : s.detAbortAll flag =
    { s with dets := (s.detAbortAll flag).dets, regs := (s.detAbortAll flag).regs } := by
  unfold detAbortAll
  rw [detAbort_frame, detAbort_frame _ _ 2, detAbort_frame _ _ 1, detAbort_frame _ _ 0]

theorem reg_detAbortAll_ne (flag : Bool) {q : RegId} (h : q ≠ Reg.GOERTZEL_STAT) :
    (s.detAbortAll flag).reg q = s.reg q := by
  rw [detAbortAll, reg_detAbort_ne _ _ _ h, reg_detAbort_ne _ _ _ h, reg_detAbort_ne _ _ _ h, reg_detAbort_ne _ _ _ h]

theorem detStart_frame (k : Fin 4) : s.detStart k = { s with dets := (s.detStart k).dets, regs := (s.detStart k).regs } := by
  unfold detStart
  dsimp only
  rw [detAbort_frame]

theorem reg_detStart_ne (k : Fin 4) {q : RegId} (h : q ≠ Reg.GOERTZEL_STAT) : (s.detStart k).reg q = s.reg q :=
  s.reg_detAbort_ne true k h

/-- The detector as the selection of GOERTZEL_CTL leaves it at an entry's start. -/
def detSelect (k : Fin 4) : State := if s.effGz.getLsbD (12 + k.val) then s else s.detAbort true k

theorem detSelect_frame (k : Fin 4) : s.detSelect k =
    { s with dets := (s.detSelect k).dets, regs := (s.detSelect k).regs } := by
  unfold detSelect
  split
  · rfl
  · exact s.detAbort_frame true k

theorem reg_detSelect_ne (k : Fin 4) {q : RegId} (h : q ≠ Reg.GOERTZEL_STAT) : (s.detSelect k).reg q = s.reg q := by
  unfold detSelect
  split
  · rfl
  · exact s.reg_detAbort_ne true k h

/-- The detector is attached to the entry as its GZ field says. -/
def detServe (gz : Nat) (k : Fin 4) (on : Bool) : State := match gz with
  | 1 => if !on then s else if s.flag Reg.FUNC_EN 10 then s.detStart k else s
  | 2 => s
  | _ => s.detAbort true k

theorem detAttach_eq (gz : Nat) (k : Fin 4) :
    s.detAttach gz k = (s.detSelect k).detServe gz k (s.effGz.getLsbD (12 + k.val)) := rfl

theorem detServe_frame (gz : Nat) (k : Fin 4) (on : Bool) : s.detServe gz k on =
    { s with dets := (s.detServe gz k on).dets, regs := (s.detServe gz k on).regs } := by
  unfold detServe
  split
  · split
    · rfl
    · split
      · exact s.detStart_frame k
      · rfl
  · rfl
  · exact s.detAbort_frame true k

theorem reg_detServe_ne (gz : Nat) (k : Fin 4) (on : Bool) {q : RegId} (h : q ≠ Reg.GOERTZEL_STAT) :
    (s.detServe gz k on).reg q = s.reg q := by
  unfold detServe
  split
  · split
    · rfl
    · split
      · exact s.reg_detStart_ne k h
      · rfl
  · rfl
  · exact s.reg_detAbort_ne true k h

theorem detAttach_frame (gz : Nat) (k : Fin 4) : s.detAttach gz k =
    { s with dets := (s.detAttach gz k).dets, regs := (s.detAttach gz k).regs } := by
  rw [detAttach_eq, detServe_frame, detSelect_frame]

theorem reg_detAttach_ne (gz : Nat) (k : Fin 4) {q : RegId} (h : q ≠ Reg.GOERTZEL_STAT) :
    (s.detAttach gz k).reg q = s.reg q := by
  rw [detAttach_eq, reg_detServe_ne _ _ _ _ h, reg_detSelect_ne _ _ h]

/-- All four detectors are attached to an entry, or not. -/
def detAttachAll (e : Entry) : State := (((s.detAttach e.gz 0).detAttach e.gz 1).detAttach e.gz 2).detAttach e.gz 3

theorem detAttachAll_frame (e : Entry) : s.detAttachAll e =
    { s with dets := (s.detAttachAll e).dets, regs := (s.detAttachAll e).regs } := by
  unfold detAttachAll
  rw [detAttach_frame, detAttach_frame _ _ 2, detAttach_frame _ _ 1, detAttach_frame _ _ 0]

theorem reg_detAttachAll_ne (e : Entry) {q : RegId} (h : q ≠ Reg.GOERTZEL_STAT) : (s.detAttachAll e).reg q = s.reg q := by
  rw [detAttachAll, reg_detAttach_ne _ _ _ h, reg_detAttach_ne _ _ _ h, reg_detAttach_ne _ _ _ h, reg_detAttach_ne _ _ _ h]

/-! ### The calibration slot -/

theorem roundStart_frame (r : Round) : s.roundStart r =
    { s with cal := (s.roundStart r).cal, reserve := (s.roundStart r).reserve } := by
  unfold roundStart
  dsimp only
  split
  · rfl
  · split <;> rfl

theorem groupBegin_frame (r : Round) (g : Nat) : s.groupBegin r g =
    { s with cal := (s.groupBegin r g).cal, reserve := (s.groupBegin r g).reserve } := s.roundStart_frame _

theorem roundNext_frame (r : Round) : s.roundNext r =
    { s with cal := (s.roundNext r).cal, reserve := (s.roundNext r).reserve } := by
  unfold roundNext
  dsimp only
  split
  · rfl
  · split
    · rw [groupBegin_frame]
      rfl
    · rw [roundStart_frame]
      rfl

theorem calSlot_frame : s.calSlot = { s with cal := s.calSlot.cal, reserve := s.calSlot.reserve } := by
  unfold calSlot
  split
  · split
    · dsimp only
      rw [groupBegin_frame]
    · rfl
  · split
    · rfl
    · split
      · split
        · exact s.groupBegin_frame _ _
        · exact s.roundStart_frame _
      · split
        · exact s.roundNext_frame _
        · split
          · exact s.roundStart_frame _
          · rfl

/-! ### The entry that is read -/

theorem memErr_of_no_errs (h : s.fmon.memErrs = []) (m : MemId) (a : Nat) : s.memErr m a = none := by
  rw [memErr, h]
  rfl

theorem fetchEntry_of_no_errs (h : s.fmon.memErrs = []) (e : Nat) : s.fetchEntry e = (s.snap.entry e, false, s) := by
  have hr (i : Nat) : s.readErr .seq i = (0, s) := readErr_of_none (s.memErr_of_no_errs h _ _)
  have hw (w : Word) : w ^^^ word 0 = w := BitVec.xor_zero
  unfold fetchEntry
  simp only [List.range_succ, List.range_zero, List.nil_append, List.cons_append, List.foldl_cons, List.foldl_nil, hr, hw]
  rfl

end State

end Sys2Proof.Machine
end

section
/-! PROOFS. Entry boundaries, entry starts and the display's synchronisation (05, R58, R144, R145, R166 to R172). -/

namespace Sys2Proof.Machine

namespace State

variable (s : State)

/-! ### The filters at the start of an entry -/

/-- The lanes of a synchronising reset, with a fade ended (R123). -/
def syncCleared : State := ({ s with lanes := s.lanes.map Lane.cleared } : State).fadeEnd s.filt.chip

theorem syncCleared_frame : s.syncCleared =
    { s with lanes := s.lanes.map Lane.cleared, filt := s.filt.banksOf s.syncCleared.filt } :=
  ({ s with lanes := s.lanes.map Lane.cleared } : State).fadeEnd_banks s.filt.chip

/-- The filters of a synchronising reset. -/
def syncedFilt (f : Filt) : Filt := { (f.newOrigin f.decim).showBank with first := true }

theorem syncReset_eq : s.syncReset =
    { s.syncCleared.detAbortAll true with filt := syncedFilt (s.syncCleared.detAbortAll true).filt } := rfl

theorem syncReset_frame : s.syncReset = { s with
    lanes := s.lanes.map Lane.cleared, filt := syncedFilt s.syncCleared.filt,
    dets := s.syncReset.dets, regs := s.syncReset.regs } := by
  rw [syncReset_eq, detAbortAll_frame, syncCleared_frame]

theorem reg_syncReset_ne {q : RegId} (h : q ≠ Reg.GOERTZEL_STAT) : s.syncReset.reg q = s.reg q := by
  have hq : (s.syncCleared.detAbortAll true).reg q = s.reg q := by
    rw [reg_detAbortAll_ne _ _ h, syncCleared_frame]
    rfl
  rw [syncReset_eq, ← hq]
  generalize s.syncCleared.detAbortAll true = u
  rfl

theorem syncReset_chip : s.syncReset.filt.chip = s.filt.chip := by
  rw [syncReset_frame, syncCleared_frame]
  rfl

/-- The registers that the reset of the filters at an entry's start updates. -/
def syncRegs : List RegId := [Reg.GOERTZEL_STAT, Reg.FILT_CTL, Reg.FUNC_RESET]

/-- A synchronising reset at an entry's start; `rst` says that FUNC_RESET.FILTERS asks for it. -/
def syncStarted (rst : Bool) : State :=
  let t := { s.syncReset with seq := { s.syncReset.seq with syncRst := false } }
  if rst then { (t.setFlag Reg.FILT_CTL 15 false).setFlag Reg.FUNC_RESET 1 false with filt := { t.filt with trkR := 0 } } else t

theorem syncStart_cases : s.syncStart = (false, s) ∨ s.syncStart = (true, s.syncStarted (s.flag Reg.FUNC_RESET 1)) := by
  unfold syncStart
  dsimp only
  split
  · exact .inr rfl
  · exact .inl rfl

theorem syncStarted_frame (rst : Bool) : s.syncStarted rst = { s with
    lanes := s.lanes.map Lane.cleared, filt := (s.syncStarted rst).filt, dets := (s.syncStarted rst).dets,
    regs := (s.syncStarted rst).regs, seq := { s.seq with syncRst := false } } := by
  have hf := s.syncReset_frame
  generalize s.syncReset.dets = d, s.syncReset.regs = g at hf
  unfold syncStarted
  rw [hf]
  cases rst <;> rfl

theorem syncStarted_filt (rst : Bool) :
    (s.syncStarted rst).filt = { s.syncReset.filt with trkR := if rst then 0 else s.syncReset.filt.trkR } := by
  unfold syncStarted
  cases rst <;> rfl

theorem reg_syncStarted_ne (rst : Bool) {q : RegId} (h : q ∉ syncRegs) : (s.syncStarted rst).reg q = s.reg q := by
  simp only [syncRegs, List.mem_cons, not_or] at h
  obtain ⟨hg, hf, hr, -⟩ := h
  rw [← s.reg_syncReset_ne hg]
  unfold syncStarted
  generalize s.syncReset = u
  cases rst
  · rfl
  · exact (reg_setFlag_ne _ _ _ hr).trans (reg_setFlag_ne _ _ _ hf)

theorem syncStart_frame : s.syncStart.2 = { s with
    lanes := s.syncStart.2.lanes, filt := s.syncStart.2.filt, dets := s.syncStart.2.dets,
    regs := s.syncStart.2.regs, seq := { s.seq with syncRst := s.syncStart.2.seq.syncRst } } := by
  rcases s.syncStart_cases with h | h
  · rw [h]
  · rw [h]
    dsimp only
    rw [syncStarted_frame]

theorem syncStart_chip : s.syncStart.2.filt.chip = s.filt.chip := by
  rcases s.syncStart_cases with h | h
  · rw [h]
  · rw [h]
    dsimp only
    rw [syncStarted_filt, ← s.syncReset_chip]

theorem reg_syncStart_ne {q : RegId} (h : q ∉ syncRegs) : s.syncStart.2.reg q = s.reg q := by
  rcases s.syncStart_cases with hs | hs
  · rw [hs]
  · rw [hs, s.reg_syncStarted_ne _ h]

theorem setOrder_frame (e : Entry) : s.setOrder e = { s with filt := (s.setOrder e).filt } := by
  unfold setOrder
  dsimp only
  split <;> rfl

theorem setOrder_chip (e : Entry) : (s.setOrder e).filt.chip = s.filt.chip := by
  unfold setOrder
  dsimp only
  split <;> rfl

/-! ### The start of an entry -/

/-- The state in which the filters of an entry that starts are reset or not. -/
def entryEntered (e : Entry) (anchor : Bool) : State :=
  let t := { s with effGz := s.reg Reg.GOERTZEL_CTL, filt := { s.filt with first := s.filt.first || anchor } }
  if e.bg then t.fixChips.fadeSettle.calSlot else t.fixChips.fadeSettle

theorem entryEntered_frame (e : Entry) (anchor : Bool) : s.entryEntered e anchor =
    { s with effGz := (s.entryEntered e anchor).effGz, cal := (s.entryEntered e anchor).cal,
             reserve := (s.entryEntered e anchor).reserve,
             filt := { s.filt.banksOf (s.entryEntered e anchor).filt with first := s.filt.first || anchor } } := by
  have hb := ({ s with effGz := s.reg Reg.GOERTZEL_CTL, filt := { s.filt with first := s.filt.first || anchor } } : State).fixFade_banks
  unfold entryEntered
  dsimp only
  split
  · rw [calSlot_frame, hb]
    rfl
  · rw [hb]
    rfl

/-- The state in which an entry's run is set up: banks, decimation and cadence stand. -/
def entryFilters (e : Entry) (anchor : Bool) : State :=
  let t := (s.entryEntered e anchor).syncStart.2.setOrder e
  (t.bankRequest (t.effBank e) e.xfade).2

theorem entryFilters_frame (e : Entry) (anchor : Bool) : s.entryFilters e anchor =
    { s with effGz := (s.entryFilters e anchor).effGz, cal := (s.entryFilters e anchor).cal,
             reserve := (s.entryFilters e anchor).reserve, filt := (s.entryFilters e anchor).filt,
             lanes := (s.entryFilters e anchor).lanes, dets := (s.entryFilters e anchor).dets,
             regs := (s.entryFilters e anchor).regs,
             seq := { s.seq with syncRst := (s.entryFilters e anchor).seq.syncRst } } := by
  unfold entryFilters
  dsimp only
  rw [bankRequest_frame, setOrder_frame, syncStart_frame, entryEntered_frame]

theorem entryFilters_chip (e : Entry) (anchor : Bool) : (s.entryFilters e anchor).filt.chip = s.filt.chip := by
  unfold entryFilters
  dsimp only
  rw [bankRequest_frame]
  refine (setOrder_chip _ e).trans ((syncStart_chip _).trans ?_)
  rw [entryEntered_frame]
  rfl

/-- The registers that the start of an entry updates, beside SEQ_STAT. -/
def entryRegs : List RegId := Reg.BANK_CTL :: syncRegs

theorem reg_entryFilters_ne (e : Entry) (anchor : Bool) {q : RegId} (h : q ∉ entryRegs) :
    (s.entryFilters e anchor).reg q = s.reg q := by
  simp only [entryRegs, List.mem_cons, not_or] at h
  unfold entryFilters
  dsimp only
  rw [reg_bankRequest_ne _ _ _ h.1, setOrder_frame]
  refine (reg_syncStart_ne _ h.2).trans ?_
  rw [entryEntered_frame]
  rfl

theorem reg_congr {s t : State} (h : s.regs = t.regs) (q : RegId) : s.reg q = t.reg q := congrArg (fun g : Vector Word 80 => g.get q) h

theorem markInvalid_frame (ks : List Nat) : ∃ l, s.markInvalid ks = { s with lanes := l } := ⟨_, rfl⟩

/-- A run takes effect: the lanes have taken note of their invalid outputs. -/
def entryRunning (e : Entry) (run : EntryRun) (cfg : LastCfg) (inv : Nat) (anchor : Bool) : State :=
  { s with seq := { s.seq with
      phase := .running, left := run.prefill + run.counted, hold := 0, placed := false, cur := some run,
      pend := s.seq.pend ++ [run], prev := some cfg, invalid := inv, analog := false, fresh := false, anchor := anchor } }.detAttachAll e

theorem reg_entryRunning_ne (e : Entry) (run : EntryRun) (cfg : LastCfg) (inv : Nat) (anchor : Bool) {q : RegId}
    (h : q ≠ Reg.GOERTZEL_STAT) : (s.entryRunning e run cfg inv anchor).reg q = s.reg q := reg_detAttachAll_ne _ e h

theorem entryRunning_frame (e : Entry) (run : EntryRun) (cfg : LastCfg) (inv : Nat) (anchor : Bool) :
    s.entryRunning e run cfg inv anchor = { s with
      dets := (s.entryRunning e run cfg inv anchor).dets, regs := (s.entryRunning e run cfg inv anchor).regs,
      seq := { s.seq with
        phase := .running, left := run.prefill + run.counted, hold := 0, placed := false, cur := some run,
        pend := s.seq.pend ++ [run], prev := some cfg, invalid := inv, analog := false, fresh := false, anchor := anchor } } :=
  detAttachAll_frame _ e

/-- The run of an entry, in the state whose filters it has set up and whose lanes have taken note; `idx` is its number,
`eff` its FREQ and PROFILE, `inv` its invalid chips, `err` says that a word of it was in error. -/
def entryRunOf (idx : Nat) (e : Entry) (eff : Nat × Nat) (cfg : LastCfg) (roles : List Role) (idle : Bool) (inv : Nat)
    (err : Bool) : EntryRun :=
  { idx := idx, e := e, freq := eff.1, profile := eff.2, roles := roles, firstChip := s.filt.chip,
    counted := e.counted, invalid := if e.nofill && !e.noPrefill then min e.counted inv else 0,
    lost := s.flag Reg.SYNC_STAT 15, noPump := e.act = 1 && !s.flag Reg.LANE_STAT 15, fc := s.seq.fc,
    slot0 := if e.bg then s.calSlotWord else 0, blocked := s.blockedSlots, off := !s.flag Reg.FUNC_EN 1,
    idle := idle, memErr := err || s.tableErr e eff.2, serve := cfg.serve,
    prefill := if e.noPrefill || e.nofill then 0 else inv, hk := [] }

/-- The run of an entry takes effect; `ks` are the invalid outputs of the lanes. -/
def entryFinish (idx : Nat) (e : Entry) (eff : Nat × Nat) (cfg : LastCfg) (roles : List Role) (idle err : Bool) (ks : List Nat) :
    State :=
  let u := s.markInvalid ks
  let inv := max u.seq.invalid (invalidChips ks (profInc (s.snap.profile eff.2)))
  (u.entryRunning e (u.entryRunOf idx e eff cfg roles idle inv err) cfg inv (e.asIdle u.cal.round.isSome || e.act = 5)).setFld
    Reg.SEQ_STAT 0 9 idx

theorem entryStart_eq (anchor : Bool) : ∃ eff cfg roles idle ks, s.entryStart anchor =
    ((s.fetchEntry s.seq.entry).2.2.entryFilters (s.entryRead s.seq.entry) anchor).entryFinish s.seq.entry
      (s.entryRead s.seq.entry) eff cfg roles idle (s.fetchEntry s.seq.entry).2.1 ks := ⟨_, _, _, _, _, rfl⟩

/-- What the run of an entry is, and the state in which it takes effect. -/
theorem entryFinish_spec (idx : Nat) (e : Entry) (eff : Nat × Nat) (cfg : LastCfg) (roles : List Role) (idle err : Bool)
    (ks : List Nat) : ∃ l r inv a, s.entryFinish idx e eff cfg roles idle err ks =
      (({ s with lanes := l } : State).entryRunning e r cfg inv a).setFld Reg.SEQ_STAT 0 9 idx ∧
      s.markInvalid ks = { s with lanes := l } ∧ r.idx = idx ∧ r.e = e ∧
      r.firstChip = s.filt.chip ∧ r.counted = e.counted ∧ r.fc = s.seq.fc ∧
      (e.noPrefill = true ∨ e.nofill = true → r.prefill = 0) := by
  obtain ⟨l, hl⟩ := s.markInvalid_frame ks
  unfold entryFinish
  dsimp only
  rw [hl]
  exact ⟨l, _, _, _, rfl, rfl, rfl, rfl, rfl, rfl, rfl, fun h => if_pos (by rwa [Bool.or_eq_true])⟩

/-- The sequencer after an entry's start: its run is the newest one that waits for its row. -/
theorem entryStart_seq (anchor : Bool) (h : (s.fetchEntry s.seq.entry).2.2.seq = s.seq) : ∃ r,
    (s.entryStart anchor).seq.phase = .running ∧ (s.entryStart anchor).seq.fc = s.seq.fc ∧
      (s.entryStart anchor).seq.cur = some r ∧ (s.entryStart anchor).seq.pend = s.seq.pend ++ [r] ∧
      (s.entryStart anchor).seq.left = r.prefill + r.counted ∧ r.idx = s.seq.entry ∧ r.e = s.entryRead s.seq.entry ∧
      r.firstChip = (s.fetchEntry s.seq.entry).2.2.filt.chip ∧ r.counted = r.e.counted ∧ r.fc = s.seq.fc ∧
      (r.e.noPrefill = true ∨ r.e.nofill = true → r.prefill = 0) := by
  obtain ⟨eff, cfg, roles, idle, ks, ht⟩ := s.entryStart_eq anchor
  generalize (s.fetchEntry s.seq.entry).2.2 = u at h ht ⊢
  generalize (s.fetchEntry s.seq.entry).2.1 = err at ht
  obtain ⟨l, r, inv, a, hf, -, hidx, he, hchip, hcnt, hfc, hfill⟩ :=
    (u.entryFilters (s.entryRead s.seq.entry) anchor).entryFinish_spec s.seq.entry (s.entryRead s.seq.entry) eff cfg roles
      idle err ks
  have hv := u.entryFilters_frame (s.entryRead s.seq.entry) anchor
  have hvfc : (u.entryFilters (s.entryRead s.seq.entry) anchor).seq.fc = s.seq.fc := by rw [hv, ← h]
  have hvpend : (u.entryFilters (s.entryRead s.seq.entry) anchor).seq.pend = s.seq.pend := by rw [hv, ← h]
  rw [u.entryFilters_chip] at hchip
  rw [ht, hf]
  generalize u.entryFilters (s.entryRead s.seq.entry) anchor = v at hvfc hvpend hfc ⊢
  rw [entryRunning_frame]
  refine ⟨r, rfl, hvfc, rfl, congrArg (· ++ [r]) hvpend, rfl, hidx, he, hchip, hcnt.trans (he ▸ rfl), hfc.trans hvfc,
    fun hp => hfill (by rwa [he] at hp)⟩

end State

end Sys2Proof.Machine
end

section
/-! PROOFS. Entry boundaries, entry starts, and the waits for DSYNC (05, R58, R144, R145, R166 to R172). -/

namespace Sys2Proof.Machine

namespace State

variable (s : State)

/-! ### What reading an entry leaves -/

/-- One word of an entry is read. -/
def fetchWord (e : Nat) (acc : List Word × Bool × State) (i : Nat) : List Word × Bool × State :=
  let m := acc.2.2.readErr .seq (4 * e + i)
  (acc.1 ++ [s.snap.tab Win.SEQ (4 * e + i) ^^^ word m.1], acc.2.1 || m.1 != 0, m.2)

theorem fetchEntry_state (e : Nat) : (s.fetchEntry e).2.2 = ((List.range 4).foldl (s.fetchWord e) ([], false, s)).2.2 := rfl

/-- What every read of a word keeps, the read of an entry keeps. -/
theorem fetchEntry_keeps {P : State → Prop} (h : ∀ t m a, P t → P (State.readErr t m a).2) (hs : P s) (e : Nat) :
    P (s.fetchEntry e).2.2 := by
  rw [fetchEntry_state]
  have hfold (l : List Nat) (acc : List Word × Bool × State) (hacc : P acc.2.2) : P (l.foldl (s.fetchWord e) acc).2.2 := by
    induction l generalizing acc with
    | nil => exact hacc
    | cons i l ih => exact ih _ (h _ _ _ hacc)
  exact hfold _ _ hs

theorem fetchEntry_seq (e : Nat) : (s.fetchEntry e).2.2.seq = s.seq :=
  s.fetchEntry_keeps (P := fun t => t.seq = s.seq) (fun t m a h => by rw [readErr_seq, h]) rfl e

theorem fetchEntry_sync (e : Nat) : (s.fetchEntry e).2.2.sync = s.sync :=
  s.fetchEntry_keeps (P := fun t => t.sync = s.sync) (fun t m a h => by rw [readErr_sync, h]) rfl e

theorem reg_readErr_ne (m : MemId) (a : Nat) {q : RegId} (h : q ∉ Reg.FAULT_STAT :: faultRegs) :
    (s.readErr m a).2.reg q = s.reg q := by
  rw [List.mem_cons, not_or] at h
  have hc : q ≠ Reg.FAULT_CNT := fun hq => h.2 (hq ▸ by decide)
  unfold readErr
  split
  · rfl
  · split
    · rfl
    · split
      · exact reg_satFld_ne _ _ _ hc
      · exact s.reg_mainFault_ne _ _ _ _ _ _ h.2 h.1

theorem readErr_keeps_irq (m : MemId) (a : Nat) {b : Nat} (hb : b < 16) (h : s.flag Reg.INT_STAT b = true) :
    (s.readErr m a).2.flag Reg.INT_STAT b = true := by
  have hf : Reg.INT_STAT ≠ Reg.FAULT_STAT := by decide
  have hc : Reg.INT_STAT ≠ Reg.FAULT_CNT := by decide
  unfold readErr
  split
  · exact h
  · split
    · exact h
    · split
      · exact (flag_satFld_ne _ _ _ _ hc).trans h
      · rw [mainFault, flag, reg_faultEvent_intStat, ← flag, raise, flag_setFlag _ _ _ _ _ _ hb, flag_setFlag_ne _ _ _ _ hf]
        split
        · rfl
        · exact h

theorem reg_fetchEntry_ne (e : Nat) {q : RegId} (h : q ∉ Reg.FAULT_STAT :: faultRegs) :
    (s.fetchEntry e).2.2.reg q = s.reg q :=
  s.fetchEntry_keeps (P := fun t => t.reg q = s.reg q) (fun t m a ht => (t.reg_readErr_ne m a h).trans ht) rfl e

theorem fetchEntry_keeps_irq (e : Nat) {b : Nat} (hb : b < 16) (h : s.flag Reg.INT_STAT b = true) :
    (s.fetchEntry e).2.2.flag Reg.INT_STAT b = true :=
  s.fetchEntry_keeps (P := fun t => t.flag Reg.INT_STAT b = true) (fun t m a ht => t.readErr_keeps_irq m a hb ht) h e

/-! ### What an entry's start leaves -/

theorem entryStart_phase (anchor : Bool) : (s.entryStart anchor).seq.phase = .running := by
  obtain ⟨r, hp, -⟩ := s.entryStart_seq anchor (s.fetchEntry_seq _)
  exact hp

/-- An entry's start, as the state that has read and prepared it. -/
theorem entryStart_cases (anchor : Bool) : ∃ u e l r cfg inv a, s.entryStart anchor =
    (({ (u.entryFilters e anchor) with lanes := l } : State).entryRunning e r cfg inv a).setFld Reg.SEQ_STAT 0 9 s.seq.entry ∧
      u = (s.fetchEntry s.seq.entry).2.2 := by
  obtain ⟨eff, cfg, roles, idle, ks, ht⟩ := s.entryStart_eq anchor
  obtain ⟨l, r, inv, a, hf, -⟩ := ((s.fetchEntry s.seq.entry).2.2.entryFilters (s.entryRead s.seq.entry) anchor).entryFinish_spec
    s.seq.entry (s.entryRead s.seq.entry) eff cfg roles idle (s.fetchEntry s.seq.entry).2.1 ks
  exact ⟨_, _, l, r, cfg, inv, a, ht.trans hf, rfl⟩

theorem entryStart_sync (anchor : Bool) : (s.entryStart anchor).sync = s.sync := by
  obtain ⟨u, e, l, r, cfg, inv, a, ht, hu⟩ := s.entryStart_cases anchor
  have hv := u.entryFilters_frame e anchor
  have hs : (u.entryFilters e anchor).sync = s.sync := by rw [hv, hu, ← s.fetchEntry_sync s.seq.entry]
  rw [ht, entryRunning_frame]
  exact hs

theorem reg_entryStart (anchor : Bool) {q : RegId} (h : q ∉ Reg.SEQ_STAT :: entryRegs) :
    (s.entryStart anchor).reg q = (s.fetchEntry s.seq.entry).2.2.reg q := by
  simp only [List.mem_cons, not_or] at h
  obtain ⟨hseq, hent⟩ := h
  have hg : q ≠ Reg.GOERTZEL_STAT := fun hq => hent (hq ▸ by decide)
  obtain ⟨u, e, l, r, cfg, inv, a, ht, hu⟩ := s.entryStart_cases anchor
  rw [ht, reg_setFld_ne _ _ _ _ hseq, reg_entryRunning_ne _ _ _ _ _ _ hg, ← hu]
  exact u.reg_entryFilters_ne e anchor hent

theorem entryStart_entryShown (anchor : Bool) : (s.entryStart anchor).fld Reg.SEQ_STAT 0 9 = s.seq.entry % 512 := by
  obtain ⟨u, e, l, r, cfg, inv, a, ht, -⟩ := s.entryStart_cases anchor
  rw [ht, fld_setFld_same _ _ (by omega)]
  rfl

/-! ### The entry boundary -/

theorem moveTimebase_frame : s.moveTimebase = { s with
    drive := s.moveTimebase.drive, regs := s.moveTimebase.regs,
    filt := { s.filt with first := s.moveTimebase.filt.first } } := by
  unfold moveTimebase
  dsimp only
  split <;> rfl

theorem moveTimebase_fio2 : s.moveTimebase.fio2 = s.fio2 := by
  unfold moveTimebase
  dsimp only
  split
  · rfl
  · exact flag_setFlag_other _ _ (by omega) (by omega)

theorem lanesBoundary_frame : s.lanesBoundary = { s with
    cal := s.lanesBoundary.cal, reserve := s.lanesBoundary.reserve, regs := s.lanesBoundary.regs,
    lanes := s.lanesBoundary.lanes, seq := { s.seq with analog := s.lanesBoundary.seq.analog } } := by
  unfold lanesBoundary
  dsimp only
  split <;> rfl

theorem reg_lanesBoundary_ne {q : RegId} (h : q ∉ [Reg.CAL_STAT, Reg.CAL_CMD, Reg.FUNC_RESET]) :
    s.lanesBoundary.reg q = s.reg q := by
  simp only [List.mem_cons, not_or] at h
  obtain ⟨hstat, hcmd, hres, -⟩ := h
  have hd : s.dropRound.reg q = s.reg q := by
    refine (reg_setFlag_ne _ _ _ hcmd).trans (reg_setFlag_ne _ _ _ hstat)
  unfold lanesBoundary
  dsimp only
  split
  · exact (reg_setFlag_ne _ _ _ hres).trans hd
  · rfl

theorem boundary_frame : s.moveTimebase.lanesBoundary = { s with
    drive := s.moveTimebase.drive, regs := s.moveTimebase.lanesBoundary.regs,
    cal := s.moveTimebase.lanesBoundary.cal, reserve := s.moveTimebase.lanesBoundary.reserve,
    lanes := s.moveTimebase.lanesBoundary.lanes, filt := { s.filt with first := s.moveTimebase.filt.first },
    seq := { s.seq with analog := s.moveTimebase.lanesBoundary.seq.analog } } := by
  rw [lanesBoundary_frame, moveTimebase_frame]

theorem boundary_syncEn : s.moveTimebase.lanesBoundary.syncEn = s.syncEn := by
  have hf : s.moveTimebase.lanesBoundary.fio2 = s.fio2 := by
    rw [fio2, flag, reg_lanesBoundary_ne _ (by decide), ← flag, ← fio2, moveTimebase_fio2]
  have hs : s.moveTimebase.lanesBoundary.snap = s.snap := by rw [boundary_frame]
  rw [syncEn, hf, hs, syncEn]

/-- The entry that stands at the boundary in state `s`, with its positions and hold chips, before it is ready. -/
def entryStanding (idx : Nat) (e : Entry) (pos : Vector Position 160) : State :=
  let hold := if pos = s.seq.pins then 0 else s.holdChips (s.effective e).1
  let first := s.filt.first || s.seq.fresh || s.seq.anchor
  { s with seq := { s.seq with phase := .ready, entry := idx, left := 0, hold := hold,
                                        placed := decide (pos = s.seq.pins) },
                    filt := { s.filt with first := first }, drive := { s.drive with half := none },
                    sync := { s.sync with burst := s.sync.burst && !s.mustWait e } }

theorem entryBoundary_eq : s.entryBoundary =
    let u := s.moveTimebase.lanesBoundary
    let e := u.entryRead s.nextEntry
    (u.entryStanding s.nextEntry e (u.positions e (!u.flag Reg.FUNC_EN 0))).becomeReady := rfl

/-- The pins move, where they may. -/
def placePins (e : Entry) : State := if s.seq.placed || !s.outputsTaken then s
  else { s with seq := { s.seq with pins := s.positions e (!s.flag Reg.FUNC_EN 0), placed := true } }

/-- The entry waits for DSYNC, where it must. -/
def waitSync (e : Entry) : State :=
  if s.seq.placed && s.mustWait e then { s with seq := { s.seq with phase := .waiting } } else s

theorem becomeReady_eq (hp : s.seq.phase = .ready) (hh : s.seq.hold = 0) :
    s.becomeReady = (s.placePins (s.entryRead s.seq.entry)).waitSync (s.entryRead s.seq.entry) := if_pos (by simp [hp, hh])

/-- An entry with hold chips to come stays in the positions of the one before. -/
theorem becomeReady_of_hold (h : s.seq.hold ≠ 0) : s.becomeReady = s := if_neg (by simp [h])

theorem placePins_frame (e : Entry) : s.placePins e = { s with seq := { s.seq with
    pins := (s.placePins e).seq.pins, placed := (s.placePins e).seq.placed } } := by
  unfold placePins
  split <;> rfl

theorem placePins_of_taken (e : Entry) (h : s.outputsTaken = true) : (s.placePins e).seq.placed = true := by
  unfold placePins
  split
  case isTrue hc => simpa [h] using hc
  case isFalse => rfl

theorem placePins_of_not_taken (e : Entry) (h : s.outputsTaken = false) : s.placePins e = s := if_pos (by simp [h])

theorem waitSync_frame (e : Entry) : s.waitSync e = { s with seq := { s.seq with phase := (s.waitSync e).seq.phase } } := by
  unfold waitSync
  split <;> rfl

theorem waitSync_phase (e : Entry) : (s.waitSync e).seq.phase = s.seq.phase ∨ (s.waitSync e).seq.phase = .waiting := by
  unfold waitSync
  split
  · exact .inr rfl
  · exact .inl rfl

theorem waitSync_unsynced (e : Entry) (h : s.syncEn = false) : s.waitSync e = s := if_neg (by simp [mustWait, h])

theorem becomeReady_frame (hp : s.seq.phase = .ready) : s.becomeReady = { s with seq := { s.seq with
    pins := s.becomeReady.seq.pins, placed := s.becomeReady.seq.placed, phase := s.becomeReady.seq.phase } } := by
  by_cases hh : s.seq.hold = 0
  · rw [s.becomeReady_eq hp hh, waitSync_frame, placePins_frame]
  · rw [s.becomeReady_of_hold hh]

theorem becomeReady_of_taken (hp : s.seq.phase = .ready) (hh : s.seq.hold = 0) (ht : s.outputsTaken = true) :
    s.becomeReady.seq.placed = true := by
  rw [s.becomeReady_eq hp hh, waitSync_frame]
  exact s.placePins_of_taken _ ht

theorem becomeReady_of_not_taken (hp : s.seq.phase = .ready) (ht : s.outputsTaken = false) :
    s.becomeReady.seq.pins = s.seq.pins := by
  by_cases hh : s.seq.hold = 0
  · rw [s.becomeReady_eq hp hh, waitSync_frame, s.placePins_of_not_taken _ ht]
  · rw [s.becomeReady_of_hold hh]

theorem becomeReady_phase (hp : s.seq.phase = .ready) :
    s.becomeReady.seq.phase = .ready ∨ s.becomeReady.seq.phase = .waiting := by
  by_cases hh : s.seq.hold = 0
  · rw [s.becomeReady_eq hp hh, ← hp]
    refine (waitSync_phase _ _).imp_left fun h => h.trans ?_
    rw [placePins_frame]
  · rw [s.becomeReady_of_hold hh]
    exact .inl hp

theorem becomeReady_unsynced (hp : s.seq.phase = .ready) (h : s.syncEn = false) : s.becomeReady.seq.phase = .ready := by
  by_cases hh : s.seq.hold = 0
  · have hs : (s.placePins (s.entryRead s.seq.entry)).syncEn = false := by
      rw [placePins_frame]
      exact h
    rw [s.becomeReady_eq hp hh, waitSync_unsynced _ _ hs, placePins_frame]
    exact hp
  · rw [s.becomeReady_of_hold hh, hp]

end State

/-- Settles O25. -/
theorem entriesRun : Obligations.EntriesRun := by
  unfold Obligations.EntriesRun
  intro s hm
  refine ⟨fun hb => ?_, fun hp hh hpl hn he => ?_⟩
  · refine completes_of_guard rfl (by simp [hm, hb]) ?_
    have hu := s.boundary_frame
    have hsync := s.boundary_syncEn
    have hpins : s.moveTimebase.lanesBoundary.seq.pins = s.seq.pins := by rw [hu]
    have hfc : s.moveTimebase.lanesBoundary.seq.fc = s.seq.fc := by rw [hu]
    have hpend : s.moveTimebase.lanesBoundary.seq.pend = s.seq.pend := by rw [hu]
    have hout : s.moveTimebase.lanesBoundary.outputsTaken = s.outputsTaken := by
      rw [hu]
      rfl
    rw [s.entryBoundary_eq, ← hpins]
    dsimp only
    generalize s.moveTimebase.lanesBoundary = u at hsync hpins hfc hpend hout ⊢
    generalize u.positions (u.entryRead s.nextEntry) (!u.flag Reg.FUNC_EN 0) = pos
    generalize u.entryRead s.nextEntry = e
    have hvp : (u.entryStanding s.nextEntry e pos).seq.phase = .ready := rfl
    have hvh : (u.entryStanding s.nextEntry e pos).seq.hold = if pos = u.seq.pins then 0 else u.holdChips (u.effective e).1 := rfl
    have hvt : (u.entryStanding s.nextEntry e pos).outputsTaken = s.outputsTaken := hout
    have hvpins : (u.entryStanding s.nextEntry e pos).seq.pins = u.seq.pins := rfl
    have hvpl : (u.entryStanding s.nextEntry e pos).seq.placed = decide (pos = u.seq.pins) := rfl
    have hvfc : (u.entryStanding s.nextEntry e pos).seq.fc = s.seq.fc := hfc
    have hvpend : (u.entryStanding s.nextEntry e pos).seq.pend = s.seq.pend := hpend
    have hve : (u.entryStanding s.nextEntry e pos).seq.entry = s.nextEntry := rfl
    have hvl : (u.entryStanding s.nextEntry e pos).seq.left = 0 := rfl
    have hvs : (u.entryStanding s.nextEntry e pos).syncEn = s.syncEn := hsync
    generalize u.entryStanding s.nextEntry e pos = v at *
    have hf := v.becomeReady_frame hvp
    have hbh : v.becomeReady.seq.hold = v.seq.hold := by rw [hf]
    refine ⟨?_, ?_, hbh.trans hvh, fun h => ?_, fun h => ?_, fun h h0 => ?_, v.becomeReady_phase hvp, fun h => ?_, ?_, ?_⟩
    · rw [hf, ← hve]
    · rw [hf, ← hvl]
    · rw [hbh] at h
      rw [v.becomeReady_of_hold (by omega)]
      refine ⟨?_, hvpins, hvp⟩
      rw [hvpl]
      refine decide_eq_false fun hc => ?_
      rw [hvh, if_pos hc] at h
      omega
    · rw [v.becomeReady_of_not_taken hvp (hvt.trans h), hvpins]
    · exact v.becomeReady_of_taken hvp (hbh.symm.trans h0) (hvt.trans h)
    · exact v.becomeReady_unsynced hvp (hvs.trans h)
    · rw [hf, ← hvfc]
    · rw [hf, ← hvpend]
  · refine completes_of_guard rfl (by simp [hm, hp, hh, hpl, hn]) ?_
    obtain ⟨r, hrun, hfc, hcur, hpend, hleft, hidx, hre, hchip, hcnt, hrfc, hfill⟩ :=
      s.entryStart_seq false (s.fetchEntry_seq _)
    rw [State.entryRead, s.fetchEntry_of_no_errs he] at hre
    rw [s.fetchEntry_of_no_errs he] at hchip
    exact ⟨hrun, hfc, s.entryStart_entryShown false, r, hcur, hpend, hidx, hre, hrfc, hchip, hcnt, hleft, hfill⟩

end Sys2Proof.Machine
end

section
/-! PROOFS. The waits for DSYNC (05, R166 to R172). -/

namespace Sys2Proof.Machine

namespace State

variable (s : State)

/-- The registers that show the loss of synchronisation. -/
def syncLostRegs : List RegId := [Reg.SYNC_STAT, Reg.INT_STAT, Reg.SEQ_STAT]

theorem showApplied_frame : s.showApplied = { s with regs := s.showApplied.regs } := rfl

theorem reg_showApplied_ne {q : RegId} (h : q ≠ Reg.SEQ_STAT) : s.showApplied.reg q = s.reg q :=
  (reg_setFld_ne _ _ _ _ h).trans (reg_setFld_ne _ _ _ _ h)

theorem syncLost_frame : s.syncLost = { s with regs := s.syncLost.regs, sync := { s.sync with ivals := [] } } := rfl

theorem syncLost_flags : s.syncLost.flag Reg.SYNC_STAT 15 = true ∧ s.syncLost.flag Reg.SYNC_STAT 14 = false ∧
    s.syncLost.flag Reg.INT_STAT Irq.SYNC = true := by
  have hn : Reg.SYNC_STAT ≠ Reg.SEQ_STAT := by decide
  have hi : Reg.INT_STAT ≠ Reg.SEQ_STAT := by decide
  have hsi : Reg.SYNC_STAT ≠ Reg.INT_STAT := by decide
  have h (q : RegId) (hq : q ≠ Reg.SEQ_STAT) : s.syncLost.reg q =
      (((((s.setFlag Reg.SYNC_STAT 15 true).setFlag Reg.SYNC_STAT 13 true).setFlag Reg.SYNC_STAT 14 false).setFld
        Reg.SYNC_STAT 10 2 0).raise Irq.SYNC).reg q := reg_showApplied_ne _ hq
  refine ⟨?_, ?_, ?_⟩
  · rw [flag, h _ hn, ← flag, flag_raise_ne _ _ _ hsi, flag_setFld_out _ _ (by omega) (by omega),
      flag_setFlag_other _ _ (by omega) (by omega), flag_setFlag_other _ _ (by omega) (by omega),
      flag_setFlag_same _ _ _ _ (by omega)]
  · rw [flag, h _ hn, ← flag, flag_raise_ne _ _ _ hsi, flag_setFld_out _ _ (by omega) (by omega),
      flag_setFlag_same _ _ _ _ (by omega)]
  · rw [flag, h _ hi, ← flag, flag_raise_same _ (by decide)]

theorem syncInterval_frame (i : Nat) :
    s.syncInterval i = { s with sync := (s.syncInterval i).sync, regs := (s.syncInterval i).regs } := by
  unfold syncInterval
  dsimp only
  split
  · rfl
  · split
    · split <;> rfl
    · split
      · rfl
      · split
        · rfl
        · split <;> rfl

theorem reg_syncInterval_ne (i : Nat) {q : RegId} (h : q ≠ Reg.SYNC_STAT) : (s.syncInterval i).reg q = s.reg q := by
  unfold syncInterval
  dsimp only
  split
  · rfl
  · split
    · split <;> rfl
    · split
      · rfl
      · split
        · exact reg_setFld_ne _ _ _ _ h
        · split <;> exact reg_setFld_ne _ _ _ _ h

/-- An interval while synchronisation is locked. -/
theorem syncInterval_locked (i : Nat) (he : s.syncEn = true) (hl : s.flag Reg.SYNC_STAT 14 = true) :
    s.syncInterval i = if within3 i s.sync.pexp then { s with sync := { s.sync with pexp := i } } else s :=
  (if_neg (by simp [he])).trans (if_pos hl)

/-- The state after an active edge's interval is judged: the first edge measures none. -/
def edgeSeen (i : Nat) : State :=
  let t := if s.sync.seen then s.syncInterval i else s
  { t with sync := { t.sync with seen := true } }

theorem edgeSeen_frame (i : Nat) :
    s.edgeSeen i = { s with sync := (s.edgeSeen i).sync, regs := (s.edgeSeen i).regs } := by
  unfold edgeSeen
  dsimp only
  split
  · rw [syncInterval_frame]
  · rfl

theorem edgeSeen_noMoreEntries (i : Nat) : (s.edgeSeen i).noMoreEntries = s.noMoreEntries := by
  have hr : (s.edgeSeen i).reg Reg.FUNC_EN = s.reg Reg.FUNC_EN := by
    unfold edgeSeen
    dsimp only
    split
    · exact s.reg_syncInterval_ne i (by decide)
    · rfl
  have hf : (s.edgeSeen i).flag Reg.FUNC_EN 2 = s.flag Reg.FUNC_EN 2 := by rw [flag, hr, flag]
  have hs := s.edgeSeen_frame i
  have hcut : (s.edgeSeen i).seq.cut = s.seq.cut := by rw [hs]
  have hask : (s.edgeSeen i).asked 3 = s.asked 3 := by
    rw [hs]
    rfl
  rw [noMoreEntries, hf, hcut, hask, noMoreEntries]

theorem exec_dsyncEdge {fall : Bool} {i : Nat} (hm : s.mainUp = true) (hb : s.pwr.boot = .done)
    (hp : s.snap.flag Reg.SYNC_CTL 14 = fall) : exec (.dsyncEdge ⟨fall, i⟩) s =
      .next (if (s.edgeSeen i).seq.phase = .waiting && !(s.edgeSeen i).noMoreEntries then
        { s.edgeSeen i with sync := { (s.edgeSeen i).sync with burst := true } }.entryStart true else s.edgeSeen i) :=
  congrArg Host.Outcome.next (if_pos (by simp [hm, hb, hp]))

end State

theorem within3_iff {i p : Nat} : within3 i p = true ↔ 100 * ((i : Int) - p).natAbs ≤ 3 * p := decide_eq_true_iff

/-- Settles O26. -/
theorem syncWaits : Obligations.SyncWaits := by
  unfold Obligations.SyncWaits
  intro s fall i hm
  refine ⟨fun hb hp => ⟨fun hw hn => ?_, fun hw => ?_⟩, fun h => ?_, fun hw hn => ?_, fun hb hq hl => ?_⟩
  · have hc : ((s.edgeSeen i).seq.phase = .waiting && !(s.edgeSeen i).noMoreEntries) = true := by
      rw [s.edgeSeen_noMoreEntries, s.edgeSeen_frame, hn]
      simp [hw]
    refine completes_of_eq ((s.exec_dsyncEdge hm hb hp).trans (congrArg _ (if_pos hc))) ⟨State.entryStart_phase _ _, ?_, ?_⟩
    · rw [State.entryStart_sync]
      rfl
    · rw [State.entryStart_sync]
  · have hc : ¬ ((s.edgeSeen i).seq.phase = .waiting && !(s.edgeSeen i).noMoreEntries) = true := by
      rw [s.edgeSeen_frame]
      simp [hw]
    refine completes_of_eq ((s.exec_dsyncEdge hm hb hp).trans (congrArg _ (if_neg hc))) ⟨fun hs => ?_, fun hs he hl => ?_⟩
    · unfold State.edgeSeen
      rw [hs]
      rfl
    · unfold State.edgeSeen
      rw [if_pos hs, s.syncInterval_locked i he hl]
      have hseen : { s.sync with seen := true } = s.sync := by rw [← hs]
      by_cases hi : within3 i s.sync.pexp = true
      · rw [if_pos hi, if_pos (within3_iff.1 hi)]
        dsimp only
        rw [← hs]
      · rw [if_neg hi, if_neg fun h => hi (within3_iff.2 h)]
        dsimp only
        rw [hseen]
  · refine congrArg Host.Outcome.next (if_neg ?_)
    rcases h with h | h
    · simp [h]
    · simp [h]
  · refine completes_of_guard rfl (by simp [hm, hw, hn]) ?_
    obtain ⟨hlost, hlock, hirq⟩ := s.syncLost_flags
    refine ⟨State.entryStart_phase _ _, ?_, ?_, ?_⟩
    · rw [State.flag, State.reg_entryStart _ _ (by decide), State.reg_fetchEntry_ne _ _ (by decide)]
      exact hlost
    · rw [State.flag, State.reg_entryStart _ _ (by decide), State.reg_fetchEntry_ne _ _ (by decide)]
      exact hlock
    · rw [State.flag, State.reg_entryStart _ _ (by decide)]
      exact State.fetchEntry_keeps_irq _ _ (by decide) hirq
  · refine completes_of_guard rfl (by simpa [hm, hb, hl] using hq) ⟨State.flag_setFlag_same _ _ _ _ (by omega), fun q hne => ?_, rfl⟩
    exact State.reg_setFlag_ne _ _ _ hne

end Sys2Proof.Machine
end

section
/-! PROOFS. Frame starts (05, R33, R153, R157, R185, R370). -/

namespace Sys2Proof.Machine

/-- The registers that the start of a frame updates. -/
def frameStartRegs : List RegId := [Reg.FAULT_STAT, Reg.CAL_COUNT, Reg.CAL_TIME_H, Reg.CAL_TIME_L, Reg.CAL_TEMP_DELTA,
  Reg.CAL_STAT, Reg.CAL_CMD, Reg.LANE_STAT, Reg.SYNC_STAT, Reg.SEQ_STAT, Reg.FILT_CTL] ++ faultRegs

namespace State

variable (s : State)

theorem raise_keeps_irq {b c : Nat} (hb : b < 16) (h : s.flag Reg.INT_STAT b = true) :
    (s.raise c).flag Reg.INT_STAT b = true := by
  rw [raise, flag_setFlag _ _ _ _ _ _ hb]
  split
  · rfl
  · exact h

end State

/-- What the steps of a frame's start keep, but for the hop pair: the sequencer, the Caldera, the schedule, power and time,
all other registers, SLIP, a set flag of INT_STAT, whether an edge was seen, and a memory without errors. -/
structure State.FrameKeeps (s t : State) : Prop where
  seq : t.seq = { s.seq with hop := t.seq.hop }
  cald : t.cald = s.cald
  pwr : t.pwr = s.pwr
  aon : t.aon = s.aon
  sched : t.sched = s.sched
  reg : ∀ q, q ∉ frameStartRegs → t.reg q = s.reg q
  slip : t.flag Reg.SEQ_STAT 13 = s.flag Reg.SEQ_STAT 13
  irq : ∀ b < 16, s.flag Reg.INT_STAT b = true → t.flag Reg.INT_STAT b = true
  sync : t.sync = s.sync
  errs : s.fmon.memErrs = [] → t.fmon.memErrs = []

namespace State.FrameKeeps

variable {s t u : State}

theorem refl (s : State) : s.FrameKeeps s := ⟨rfl, rfl, rfl, rfl, rfl, fun _ _ => rfl, rfl, fun _ _ => id, rfl, id⟩

theorem trans (h₁ : s.FrameKeeps t) (h₂ : t.FrameKeeps u) : s.FrameKeeps u where
  seq := by rw [h₂.seq, h₁.seq]
  cald := h₂.cald.trans h₁.cald
  pwr := h₂.pwr.trans h₁.pwr
  aon := h₂.aon.trans h₁.aon
  sched := h₂.sched.trans h₁.sched
  reg q hq := (h₂.reg q hq).trans (h₁.reg q hq)
  slip := h₂.slip.trans h₁.slip
  irq b hb h := h₂.irq b hb (h₁.irq b hb h)
  sync := h₂.sync.trans h₁.sync
  errs h := h₂.errs (h₁.errs h)

theorem ite {c : Prop} [Decidable c] (ht : s.FrameKeeps t) (hu : s.FrameKeeps u) : s.FrameKeeps (if c then t else u) := by
  split
  · exact ht
  · exact hu

theorem foldl {α : Type} {f : State → α → State} (h : ∀ (s : State) a, s.FrameKeeps (f s a)) (l : List α) (s : State) :
    s.FrameKeeps (l.foldl f s) := by
  induction l generalizing s with
  | nil => exact refl s
  | cons a l ih => exact (h s a).trans (ih _)

/-- A change of what is kept nowhere. -/
theorem other (h : s.FrameKeeps t) (he : u = { t with
    cal := u.cal, nvm := u.nvm, tables := u.tables, reserve := u.reserve,
    drive := u.drive, filt := u.filt, snap := u.snap,
    fmon := { u.fmon with memErrs := t.fmon.memErrs } }) : s.FrameKeeps u := by
  rw [he]
  exact h.trans ⟨rfl, rfl, rfl, rfl, rfl, fun _ _ => rfl, rfl, fun _ _ => id, rfl, id⟩

section

variable (h : s.FrameKeeps t) {q : RegId} (h₁ : q ∈ frameStartRegs) (h₂ : q ∉ [Reg.SEQ_STAT, Reg.INT_STAT])
include h h₁ h₂

/-- A write of one of these registers. -/
theorem setReg (v : Word) : s.FrameKeeps (t.setReg q v) :=
  h.trans ⟨rfl, rfl, rfl, rfl, rfl, fun _ hr => reg_setReg_ne _ _ fun he => hr (he ▸ h₁),
    flag_setReg_ne _ _ _ fun he => h₂ (by rw [← he]; decide),
    fun _ _ hb => (flag_setReg_ne _ _ _ fun he => h₂ (by rw [← he]; decide)).trans hb, rfl, id⟩

theorem setFlag (b : Nat) (v : Bool) : s.FrameKeeps (t.setFlag q b v) := h.setReg h₁ h₂ _

theorem setFld (lo w x : Nat) : s.FrameKeeps (t.setFld q lo w x) := h.setReg h₁ h₂ _

theorem satFld (lo w : Nat) : s.FrameKeeps (t.satFld q lo w) := h.setReg h₁ h₂ _

theorem incFld (lo w : Nat) : s.FrameKeeps (t.incFld q lo w) := h.setReg h₁ h₂ _

end

theorem raise (h : s.FrameKeeps t) (b : Nat) : s.FrameKeeps (t.raise b) :=
  h.trans ⟨rfl, rfl, rfl, rfl, rfl, fun _ hr => reg_raise_ne _ _ fun he => hr (he ▸ by decide), flag_raise_ne _ _ _ (by decide),
    fun _ hc hb => raise_keeps_irq _ hc hb, rfl, id⟩

end State.FrameKeeps

namespace State

variable (s : State) {t : State}

theorem mainFault_memErrs (flag cls outcome elem : Nat) (detail subst : Word) :
    (s.mainFault flag cls outcome elem detail subst).fmon.memErrs = s.fmon.memErrs := by
  unfold mainFault faultEvent
  dsimp only
  split
  · rw [recordFault_fmon]
    rfl
  · rfl

theorem mainFault_keeps_irq (flag cls outcome elem : Nat) (detail subst : Word) {b : Nat} (hb : b < 16)
    (h : s.flag Reg.INT_STAT b = true) : (s.mainFault flag cls outcome elem detail subst).flag Reg.INT_STAT b = true := by
  rw [mainFault, State.flag, reg_faultEvent_intStat, ← State.flag]
  exact raise_keeps_irq _ hb ((flag_setFlag_ne _ _ _ _ (by decide)).trans h)

namespace FrameKeeps

variable {s}

theorem mainFault (h : s.FrameKeeps t) (flag cls outcome elem : Nat) (detail subst : Word) :
    s.FrameKeeps (t.mainFault flag cls outcome elem detail subst) := h.trans {
  seq := by rw [mainFault_seq]
  cald := mainFault_cald ..
  pwr := mainFault_pwr ..
  aon := mainFault_aon ..
  sched := mainFault_sched ..
  reg q hq := t.reg_mainFault_ne _ _ _ _ _ _ (fun hf => hq (List.mem_append_right _ hf))
    fun he => hq (he ▸ List.mem_cons_self ..)
  slip := by rw [State.flag, t.reg_mainFault_ne _ _ _ _ _ _ (by decide) (by decide), State.flag]
  irq b hb hi := t.mainFault_keeps_irq _ _ _ _ _ _ hb hi
  sync := mainFault_sync ..
  errs h := by rw [mainFault_memErrs, h] }

theorem readErr (h : s.FrameKeeps t) (m : MemId) (a : Nat) : s.FrameKeeps (t.readErr m a).2 := by
  unfold State.readErr
  split
  · exact h
  · split
    · exact h
    · split
      · have hm : t.FrameKeeps (t.markFound m a) := ⟨rfl, rfl, rfl, rfl, rfl, fun _ _ => rfl, rfl,
          fun _ _ => id, rfl, fun h => by rw [markFound, h]; rfl⟩
        exact (h.trans hm).satFld (by decide) (by decide) _ _
      · exact h.mainFault ..

/-! ### Held factors and substitutions -/

theorem autoSave (h : s.FrameKeeps t) : s.FrameKeeps t.autoSave := by
  unfold State.autoSave
  split
  · split
    · exact h.other (by rfl)
    · exact h.other (by rfl)
  · exact h

end FrameKeeps

/-- A run or round that ends is counted, with its time and temperature (R372). -/
def calStamped : State :=
  let s := s.setReg Reg.CAL_COUNT (s.reg Reg.CAL_COUNT + 1)
  let s := (s.setReg Reg.CAL_TIME_H (word (s.aon.time.toNat / 65536))).setReg Reg.CAL_TIME_L (word s.aon.time.toNat)
  let t := s.reg Reg.TEMP
  let s := s.setFld Reg.CAL_TEMP_DELTA 8 8 (iword (asr (t.toInt + 8) 4)).toNat
  { s with cal := { s.cal with temp := t, measured := true } }

theorem calFinish_eq (failed : Bool) : s.calFinish failed =
    let v := (if failed then s.calStamped.setFlag Reg.CAL_STAT 12 true else s.calStamped).raise Irq.CAL
    if failed then v else v.autoSave := rfl

namespace FrameKeeps

variable {s}

theorem calFinish (h : s.FrameKeeps t) (failed : Bool) : s.FrameKeeps (t.calFinish failed) := by
  have hs : s.FrameKeeps t.calStamped := by
    unfold calStamped
    refine other (t := State.setFld _ _ 8 8 _) ?_ (by rfl)
    exact (((h.setReg (by decide) (by decide) _).setReg (by decide) (by decide) _).setReg (by decide) (by decide) _).setFld
      (by decide) (by decide) _ _ _
  rw [calFinish_eq]
  have hv := (ite (c := failed = true) (hs.setFlag (q := Reg.CAL_STAT) (by decide) (by decide) 12 true) hs).raise Irq.CAL
  exact ite hv hv.autoSave

theorem calPass (h : s.FrameKeeps t) (n : Nat) (o g : Word) : s.FrameKeeps (t.calPass n o g) := h.other (by rfl)

theorem calFailLane (h : s.FrameKeeps t) (n : Nat) : s.FrameKeeps (t.calFailLane n) := by
  unfold State.calFailLane
  exact mainFault (t := { t with cal := _ }) (h.other (by rfl)) ..

theorem dropRound (h : s.FrameKeeps t) : s.FrameKeeps t.dropRound := by
  unfold State.dropRound
  refine other (t := State.setFlag _ Reg.CAL_CMD 14 false) ?_ (by rfl)
  exact ((h.other (u := t.endStandIns) (by rfl)).setFlag (by decide) (by decide) _ _).setFlag (by decide) (by decide) _ _

theorem roundApply (h : s.FrameKeeps t) : s.FrameKeeps t.roundApply := by
  unfold State.roundApply
  split
  · split
    · refine ((h.trans ?_).trans (foldl (fun u n => (refl u).calFailLane n) _ _)).dropRound.calFinish _
      exact foldl (fun u f => (refl u).calPass _ _ _) _ _
    · exact h
  · exact h

theorem takeReserve (h : s.FrameKeeps t) (g pin : Nat) : s.FrameKeeps (t.takeReserve g pin) := by
  unfold State.takeReserve
  dsimp only
  split
  · exact h.other (by rfl)
  · exact h.other (by rfl)
  · exact h.other (by rfl)

theorem substFrame (h : s.FrameKeeps t) : s.FrameKeeps t.substFrame := by
  unfold State.substFrame
  refine (h.other (by rfl)).trans (foldl (fun u n => ?_) _ _)
  refine ite ?_ (other (t := (u.takeReserve (n / 40) n).satFld Reg.FAULT_CNT 4 4) ?_ (by rfl))
  · exact ((refl u).setFlag (by decide) (by decide) _ _).satFld (by decide) (by decide) _ _
  · exact ((refl u).takeReserve _ _).satFld (by decide) (by decide) _ _

/-! ### What a frame's start applies -/

theorem pumpFrame (h : s.FrameKeeps t) (old : Snap) : s.FrameKeeps (t.pumpFrame old) := by
  have hf := h.setFlag (q := Reg.LANE_STAT) (by decide) (by decide) 15 false
  unfold State.pumpFrame
  exact ite (hf.other (by rfl)) (ite (ite h hf) (hf.other (by rfl)))

theorem syncFrame (h : s.FrameKeeps t) (was : Bool) : s.FrameKeeps (t.syncFrame was) := by
  have hn : Reg.SYNC_STAT ∈ frameStartRegs := by decide
  have hs : Reg.SYNC_STAT ∉ [Reg.SEQ_STAT, Reg.INT_STAT] := by decide
  unfold State.syncFrame
  refine ite ?_ (ite ?_ h)
  · exact ((h.setFlag hn hs _ _).setFlag hn hs _ _).setFld hn hs _ _ _
  · exact ((ite (c := t.flag Reg.SYNC_STAT 15 = true) ((h.incFld hn hs 0 8).raise Irq.SYNC) h).setFlag hn hs _ _).setFlag hn hs _ _

theorem hopFrame (h : s.FrameKeeps t) : s.FrameKeeps t.hopFrame :=
  h.trans ⟨rfl, rfl, rfl, rfl, rfl, fun _ _ => rfl, rfl, fun _ _ => id, rfl, id⟩

theorem showApplied (h : s.FrameKeeps t) : s.FrameKeeps t.showApplied := h.trans {
  seq := rfl
  cald := rfl
  pwr := rfl
  aon := rfl
  sched := rfl
  reg q hq := t.reg_showApplied_ne fun he => hq (he ▸ by decide)
  slip := (flag_setFld_out _ _ (by omega) (by omega)).trans (flag_setFld_out _ _ (by omega) (by omega))
  irq b _ hb := by rw [State.flag, t.reg_showApplied_ne (by decide)]; exact hb
  sync := rfl
  errs := id }

theorem trkFrame (h : s.FrameKeeps t) : s.FrameKeeps t.trkFrame := by
  unfold State.trkFrame
  exact ite ((h.setFlag (q := Reg.FILT_CTL) (by decide) (by decide) 15 false).other (by rfl)) h

theorem readTables (h : s.FrameKeeps t) : s.FrameKeeps t.readTables := by
  refine h.trans (foldl (fun u e => ?_) _ _)
  exact ((refl u).readErr e.mem e.addr).other (by rfl)

end FrameKeeps

/-! ### The start of a frame -/

/-- The sequencer with a frame begun. -/
def frameBegun (period : Nat) : State :=
  { s with seq := { s.seq with
      fc := s.seq.fc + 1, run := true, due := false, cut := false, phase := .boundary, entry := 0, left := 0,
      fresh := true, ovrRows := 0, testFail := false, period := period } }

/-- What a frame applies to the state in which it has begun. -/
def frameApplied (old : Snap) (was : Bool) : State :=
  let s := { s with snap := s.snapNow }
  ((((s.pumpFrame old).syncFrame was).hopFrame).showApplied).trkFrame

theorem frameStart_eq : s.frameStart =
    let u := s.roundApply.substFrame
    let v := (u.frameBegun u.periodNow).frameApplied s.snap s.syncEn
    ({ v with snap := v.snapNow }).readTables.oweFrame := rfl

theorem frameApplied_keepsFrame (old : Snap) (was : Bool) : s.FrameKeeps (s.frameApplied old was) :=
  (((((FrameKeeps.refl s).other (by rfl)).pumpFrame old).syncFrame was).hopFrame.showApplied).trkFrame

theorem readTables_of_no_errs (h : s.fmon.memErrs = []) : s.readTables = s := by
  unfold readTables
  rw [h]
  rfl

theorem oweFrame_frame : s.oweFrame = { s with cald := { s.cald with
    owed := s.cald.owed ++ if s.flag Reg.FUNC_EN 3 = true ∧ s.agreed 2 = false then [⟨s.seq.fc, s.snap⟩] else [] } } := by
  unfold oweFrame
  by_cases h : s.flag Reg.FUNC_EN 3 = true ∧ s.agreed 2 = false
  · rw [if_pos (by simp [h]), if_pos h]
  · rw [if_neg (by simpa using h), if_neg h, List.append_nil]

/-- The sequencer after a frame's start, and SLIP. -/
theorem frameStart_seq : s.frameStart.seq.fc = s.seq.fc + 1 ∧ s.frameStart.seq.run = true ∧
    s.frameStart.seq.phase = .boundary ∧ s.frameStart.seq.entry = 0 ∧ s.frameStart.seq.due = false ∧
    s.frameStart.flag Reg.SEQ_STAT 13 = s.flag Reg.SEQ_STAT 13 := by
  have hu : s.FrameKeeps s.roundApply.substFrame := (FrameKeeps.refl s).roundApply.substFrame
  rw [frameStart_eq]
  dsimp only
  generalize s.roundApply.substFrame = u at hu ⊢
  have hv : (u.frameBegun u.periodNow).FrameKeeps _ := (frameApplied_keepsFrame _ s.snap s.syncEn)
  generalize (u.frameBegun u.periodNow).frameApplied s.snap s.syncEn = v at hv ⊢
  have hw := (hv.other (u := { v with snap := v.snapNow }) (by rfl)).readTables
  generalize ({ v with snap := v.snapNow } : State).readTables = w at hw ⊢
  rw [oweFrame_frame]
  have hfc : u.seq.fc = s.seq.fc := by rw [hu.seq]
  refine ⟨?_, ?_, ?_, ?_, ?_, ?_⟩
  · change w.seq.fc = _
    rw [hw.seq, ← hfc]
    rfl
  · change w.seq.run = _
    rw [hw.seq]
    rfl
  · change w.seq.phase = _
    rw [hw.seq]
    rfl
  · change w.seq.entry = _
    rw [hw.seq]
    rfl
  · change w.seq.due = _
    rw [hw.seq]
    rfl
  · exact hw.slip.trans hu.slip

/-- What a frame's start leaves. -/
theorem frameStart_keeps : s.frameStart.sched = s.sched ∧ s.frameStart.pwr = s.pwr ∧ s.frameStart.aon = s.aon ∧
    (∃ l, s.frameStart.cald = { s.cald with owed := l }) ∧ ∀ q, q ∉ frameStartRegs → s.frameStart.reg q = s.reg q := by
  have hu : s.FrameKeeps s.roundApply.substFrame := (FrameKeeps.refl s).roundApply.substFrame
  rw [frameStart_eq]
  dsimp only
  generalize s.roundApply.substFrame = u at hu ⊢
  have hv : (u.frameBegun u.periodNow).FrameKeeps _ := (frameApplied_keepsFrame _ s.snap s.syncEn)
  generalize (u.frameBegun u.periodNow).frameApplied s.snap s.syncEn = v at hv ⊢
  have hw := (hv.other (u := { v with snap := v.snapNow }) (by rfl)).readTables
  generalize ({ v with snap := v.snapNow } : State).readTables = w at hw ⊢
  have hc (l : List Owed) : { w.cald with owed := l } = { s.cald with owed := l } := by rw [hw.cald.trans hu.cald]
  rw [oweFrame_frame]
  refine ⟨hw.sched.trans hu.sched, hw.pwr.trans hu.pwr, hw.aon.trans hu.aon, ⟨_, hc _⟩,
    fun q hq => (hw.reg q hq).trans (hu.reg q hq)⟩

theorem snapNow_reg (r : RegId) : s.snapNow.reg r = s.viewReg r := by
  rw [snapNow, Snap.reg, Vector.get_eq_getElem, Vector.getElem_ofFn]

/-- What a register reads does not depend on the snapshot and the frames owed. -/
theorem viewReg_of_owed (x : Snap) (l : List Owed) (r : RegId) :
    ({ s with snap := x, cald := { s.cald with owed := l } } : State).viewReg r = s.viewReg r := rfl

/-- The snapshot of a frame, and the frame that the Caldera owes (R33, R185). -/
theorem frameStart_snap (h : s.fmon.memErrs = []) : s.frameStart.snap.tables = s.frameStart.tables ∧
    s.frameStart.snap.time = s.aon.time ∧ (∀ r, s.frameStart.snap.reg r = s.frameStart.viewReg r) ∧
    s.frameStart.cald.owed = s.cald.owed ++
      if s.flag Reg.FUNC_EN 3 = true ∧ s.agreed 2 = false then [⟨s.seq.fc + 1, s.frameStart.snap⟩] else [] := by
  have hu : s.FrameKeeps s.roundApply.substFrame := (FrameKeeps.refl s).roundApply.substFrame
  rw [frameStart_eq]
  dsimp only
  generalize s.roundApply.substFrame = u at hu ⊢
  have hv : (u.frameBegun u.periodNow).FrameKeeps _ := (frameApplied_keepsFrame _ s.snap s.syncEn)
  generalize (u.frameBegun u.periodNow).frameApplied s.snap s.syncEn = v at hv ⊢
  have hfc : v.seq.fc = s.seq.fc + 1 := by
    rw [hv.seq]
    change u.seq.fc + 1 = _
    rw [hu.seq]
  have hcald : v.cald = s.cald := hv.cald.trans hu.cald
  have hpwr : v.pwr = s.pwr := hv.pwr.trans hu.pwr
  have haon : v.aon = s.aon := hv.aon.trans hu.aon
  have hen : v.flag Reg.FUNC_EN 3 = s.flag Reg.FUNC_EN 3 := by 
    rw [flag, (hv.reg Reg.FUNC_EN (by decide)).trans (hu.reg Reg.FUNC_EN (by decide)), flag]
  have hag : v.agreed 2 = s.agreed 2 := by rw [agreed, hpwr, agreed]
  have hx : v.snapNow.tables = v.tables ∧ v.snapNow.time = v.aon.time ∧ ∀ r, v.snapNow.reg r = v.viewReg r :=
    ⟨rfl, rfl, v.snapNow_reg⟩
  generalize v.snapNow = x at hx ⊢
  obtain ⟨htab, htime, hreg⟩ := hx
  rw [readTables_of_no_errs { v with snap := x } (hv.errs (hu.errs h)), oweFrame_frame]
  refine ⟨htab, htime.trans (congrArg Aon.time haon), fun r => ?_, ?_⟩
  · exact (hreg r).trans (v.viewReg_of_owed x _ r).symm
  · change v.cald.owed ++ (if v.flag Reg.FUNC_EN 3 = true ∧ v.agreed 2 = false then [⟨v.seq.fc, x⟩] else []) = _
    rw [hcald, hen, hag, hfc]

end State

/-- Settles O24. -/
theorem framesStart : Obligations.FramesStart := by
  unfold Obligations.FramesStart
  refine ⟨fun s hs => ⟨fun hb hr hd he => ?_, fun hr => ?_, fun hr => ?_⟩, fun s hs hdue hr hb => ?_⟩
  · have hx : exec .frameTimerExpiry s = .next s.frameStart := congrArg Host.Outcome.next
      ((if_neg (by simp [hs])).trans ((if_neg (by simp [hb, hr])).trans (if_neg (by simp [hd]))))
    obtain ⟨hfc, hrun, hph, hent, hdue, -⟩ := s.frameStart_seq
    obtain ⟨htab, htime, hreg, howed⟩ := s.frameStart_snap he
    exact completes_of_eq hx ⟨hfc, hrun, hph, hent, hdue, htab, htime, hreg, howed⟩
  · exact congrArg Host.Outcome.next ((if_neg (by simp [hs])).trans (if_pos (by simp [hr])))
  · exact congrArg Host.Outcome.next (if_pos (by simp [hr]))
  · have hx : exec .slipFrameStart s =
        .next (if s.cal.due then s.deferForCal else (s.setFlag Reg.SEQ_STAT 13 true).frameStart) :=
      congrArg Host.Outcome.next (if_neg (by simp [hs, hdue, hr, hb]))
    refine completes_of_eq hx ?_
    split
    case isTrue hd => exact ⟨State.flag_setFlag_same _ _ _ _ (by omega), rfl, rfl, hr, rfl⟩
    case isFalse hd =>
      obtain ⟨hfc, hrun, -, -, hdue, hslip⟩ := (s.setFlag Reg.SEQ_STAT 13 true).frameStart_seq
      exact ⟨hslip.trans (State.flag_setFlag_same _ _ _ _ (by omega)), hdue, hfc, hrun⟩

end Sys2Proof.Machine
end

section
/-! PROOFS. Function resets (11, R360; R123, R190, R283, R292, R303, R329, R381, R395). -/

namespace Sys2Proof.Machine

/-- A range that is cleared reads as it does unwritten. -/
theorem memRead_memClear_of_mem {α : Type} {d : Nat → α} {lo hi b : Nat} (hb : lo ≤ b ∧ b < hi) (m : List (Nat × α)) :
    memRead d (memClear m lo hi) b = d b := by
  unfold memClear
  induction m with
  | nil => rfl
  | cons c t ih =>
    rw [List.filter_cons]
    split
    case isTrue hc =>
      simp only [Bool.or_eq_true, decide_eq_true_eq] at hc
      unfold memRead
      split
      · rfl
      · rw [if_neg (by omega)]
        exact ih
    case isFalse => exact ih

namespace State

variable (s : State)

/-! ### The queue's registers in a push and a commit -/

/-- The registers that a push or a commit of a record updates. -/
def queueRegs : List RegId := [Reg.RPT_GAPS, Reg.RPT_STAT, Reg.INT_STAT]

theorem reg_pushRec_ne (r : Rec) {q : RegId} (h : q ≠ Reg.RPT_STAT) : (s.pushRec r).reg q = s.reg q := by
  unfold pushRec
  split
  · exact reg_setFlag_ne _ _ _ h
  · dsimp only
    split <;> rfl

theorem reg_commitQueue_ne {q : RegId} (hg : q ≠ Reg.RPT_GAPS) (hi : q ≠ Reg.INT_STAT) : s.commitQueue.reg q = s.reg q := by
  have hc : (s.countDrops s.queue.drops).reg q = s.reg q := reg_setReg_ne _ _ hg
  unfold commitQueue
  dsimp only
  split
  · exact (reg_raise_ne _ _ hi).trans hc
  · exact hc

theorem reg_commitInserted_ne {q : RegId} (hg : q ≠ Reg.RPT_GAPS) (hi : q ≠ Reg.INT_STAT) :
    s.commitInserted.reg q = s.reg q := by
  unfold commitInserted
  split
  · exact reg_setReg_ne _ _ hg
  · exact s.reg_commitQueue_ne hg hi

theorem reg_pushInserted_ne {q : RegId} (h : q ∉ queueRegs) : s.pushInserted.reg q = s.reg q := by
  simp only [queueRegs, List.mem_cons, not_or] at h
  obtain ⟨hg, hs, hi, -⟩ := h
  unfold pushInserted
  split
  · rfl
  · split
    · rfl
    · exact (reg_commitInserted_ne _ hg hi).trans (reg_pushRec_ne _ _ hs)

theorem reg_drainInserted_ne {q : RegId} (h : q ∉ queueRegs) : s.drainInserted.reg q = s.reg q := by
  rw [drainInserted, reg_pushInserted_ne _ h, reg_pushInserted_ne _ h, reg_pushInserted_ne _ h, reg_pushInserted_ne _ h]

theorem pushInserted_of_nil (h : s.queue.ins = []) : s.pushInserted = s := by
  unfold pushInserted
  rw [h]

theorem pushInserted_of_kept (h : s.cald.isOpen = true ∨ s.queue.stopped = true) : s.pushInserted = s := by
  unfold pushInserted
  split
  · rfl
  · refine if_pos ?_
    rcases h with h | h <;> simp [h]

/-- A queue of inserted records that holds one is drained by one push. -/
theorem drainInserted_of_one (h : s.pushInserted.queue.ins = []) : s.drainInserted = s.pushInserted := by
  rw [drainInserted, pushInserted_of_nil _ h, pushInserted_of_nil _ h, pushInserted_of_nil _ h]

theorem drainInserted_of_kept (h : s.cald.isOpen = true ∨ s.queue.stopped = true) : s.drainInserted = s := by
  rw [drainInserted, s.pushInserted_of_kept h, s.pushInserted_of_kept h, s.pushInserted_of_kept h, s.pushInserted_of_kept h]

/-! ### The reset of the queue (R292) -/

/-- The RESET record of a reset of the queue. -/
def queueResetRec : Rec := recOf (header 6 6) 0 0 0 0 0 0 0

/-- The state in which the reset of the queue has discarded everything and inserted its record. -/
def queueCleared : State := s.resetQueue.setFlag Reg.FUNC_RESET 5 false

theorem queueReset_eq : s.queueReset = s.queueCleared.drainInserted := rfl

theorem resetQueue_frame : s.resetQueue = { s with
    regs := s.resetQueue.regs,
    queue := { s.queue with items := [], staged := [], gap := none, saved := none, drops := 0, ins := [queueResetRec],
                            last := 0xFFFF, cut := s.queue.word != 0, vote := false, seen := 0,
                            rd := s.queue.rd + BitVec.ofNat 6 s.queue.items.length } } := by
  unfold resetQueue
  dsimp only
  rw [flushQueue_frame]
  rfl

theorem resetQueue_regs : s.resetQueue.regs = ((((s.flushQueue.setReg Reg.RPT_GAPS 0).setFlag Reg.RPT_STAT 13 false).setFlag
    Reg.RPT_STAT 14 false).setFlag Reg.RPT_STAT 11 false).regs := rfl

theorem resetQueue_gaps : s.resetQueue.reg Reg.RPT_GAPS = 0 := by
  have hn : Reg.RPT_GAPS ≠ Reg.RPT_STAT := by decide
  rw [reg, resetQueue_regs, ← reg, reg_setFlag_ne _ _ _ hn, reg_setFlag_ne _ _ _ hn, reg_setFlag_ne _ _ _ hn]
  exact reg_setReg_same _ _ _

theorem reg_resetQueue_ne {q : RegId} (hg : q ≠ Reg.RPT_GAPS) (hs : q ≠ Reg.RPT_STAT) : s.resetQueue.reg q = s.reg q := by
  rw [reg, resetQueue_regs, ← reg, reg_setFlag_ne _ _ _ hs, reg_setFlag_ne _ _ _ hs, reg_setFlag_ne _ _ _ hs,
    reg_setReg_ne _ _ hg, s.reg_flushQueue_ne hs]

theorem queueCleared_frame : s.queueCleared = { s with
    regs := s.queueCleared.regs,
    queue := { s.queue with items := [], staged := [], gap := none, saved := none, drops := 0, ins := [queueResetRec],
                            last := 0xFFFF, cut := s.queue.word != 0, vote := false, seen := 0,
                            rd := s.queue.rd + BitVec.ofNat 6 s.queue.items.length } } := by
  have hf := s.resetQueue_frame
  have hq : s.queueCleared.queue = s.resetQueue.queue := rfl
  rw [queueCleared, hf]
  rfl

theorem queueCleared_gaps : s.queueCleared.reg Reg.RPT_GAPS = 0 :=
  (reg_setFlag_ne _ _ _ (by decide)).trans s.resetQueue_gaps

theorem queueCleared_enabled : s.queueCleared.flag Reg.FUNC_EN 5 = s.flag Reg.FUNC_EN 5 := by
  have hr : s.queueCleared.reg Reg.FUNC_EN = s.reg Reg.FUNC_EN :=
    (reg_setFlag_ne _ _ _ (by decide)).trans (s.reg_resetQueue_ne (by decide) (by decide))
  rw [flag, hr, flag]

/-- The state in which the reset's own record is pushed. -/
theorem queueCleared_push (hr : s.pwr.ready = true) (ho : s.cald.isOpen = false) (hs : s.queue.stopped = false) :
    ∃ r, s.queueCleared.pushInserted =
      ({ s.queueCleared with queue := { s.queueCleared.queue with ins := [] } }.pushRec r).commitInserted := by
  have hf := s.queueCleared_frame
  have hi : s.queueCleared.queue.ins = [queueResetRec] := by rw [hf]
  refine ⟨_, pushInserted_of_free hi ?_ ?_ ?_⟩
  · rw [hf]
    exact ho
  · rw [hf]
    exact hr
  · rw [hf]
    exact hs

/-- With the queue enabled its own record is the only item (R292). -/
theorem queueReset_enabled (hr : s.pwr.ready = true) (he : s.flag Reg.FUNC_EN 5 = true) :
    s.queueReset.queue.items.length + s.queueReset.queue.staged.length ≤ 1 ∧ s.queueReset.queue.gap = none ∧
      s.queueReset.reg Reg.RPT_GAPS = 0 := by
  have hf := s.queueCleared_frame
  have hgaps := s.queueCleared_gaps
  have hen := s.queueCleared_enabled.trans he
  rw [queueReset_eq]
  by_cases hk : s.cald.isOpen = true ∨ s.queue.stopped = true
  · rw [drainInserted_of_kept _ (by rw [hf]; exact hk)]
    refine ⟨?_, ?_, hgaps⟩
    · rw [hf]
      exact Nat.zero_le 1
    · rw [hf]
  · rw [not_or, Bool.not_eq_true, Bool.not_eq_true] at hk
    obtain ⟨r, hp⟩ := s.queueCleared_push hr hk.1 hk.2
    generalize hu : s.queueCleared = u at *
    have hitems : u.queue.items = [] := by rw [hf]
    have hst : u.queue.staged = [] := by rw [hf]
    have hgap : u.queue.gap = none := by rw [hf]
    have hdrops : u.queue.drops = 0 := by rw [hf]
    have hocc : u.queue.occupancy = 0 := by rw [Queue.occupancy, hitems, hst]; rfl
    have hv := pushRec_frame_of_accepted (s := { u with queue := { u.queue with ins := [] } }) r hen
      (by change u.queue.occupancy < 63; omega) hgap
    have hvr : ∀ q, q ≠ Reg.RPT_STAT → (pushRec { u with queue := { u.queue with ins := [] } } r).reg q = u.reg q :=
      fun q hq => reg_pushRec_ne _ _ hq
    generalize pushRec { u with queue := { u.queue with ins := [] } } r = v at hv hvr hp
    have hc : v.commitInserted = v.commitQueue := if_neg (by rw [hv]; simp)
    rw [hc] at hp
    have hw := v.commitQueue_frame
    have hins : u.pushInserted.queue.ins = [] := by rw [hp, hw, hv]
    rw [drainInserted_of_one _ hins, hp]
    refine ⟨?_, ?_, ?_⟩
    · rw [hw, hv]
      simp [hitems, hst]
    · rw [hw, hv]
    · have hvd : v.queue.drops = 0 := by rw [hv, ← hdrops]
      have hvg : v.reg Reg.RPT_GAPS = 0 := (hvr _ (by decide)).trans hgaps
      have hcd : (v.countDrops v.queue.drops).reg Reg.RPT_GAPS = 0 := by
        rw [countDrops, reg_setReg_same, hvd, hvg]
        rfl
      unfold commitQueue
      dsimp only
      split
      · exact (reg_raise_ne _ _ (by decide)).trans hcd
      · exact hcd

/-- With the queue disabled its own record is a drop, where it is not kept back (R283). -/
theorem queueReset_disabled (hr : s.pwr.ready = true) (he : s.flag Reg.FUNC_EN 5 = false) :
    s.queueReset.queue.items = [] ∧ s.queueReset.queue.staged = [] ∧
      if s.cald.isOpen = true ∨ s.queue.stopped = true then
        s.queueReset.reg Reg.RPT_GAPS = 0 ∧ s.queueReset.queue.ins.length = 1
      else s.queueReset.reg Reg.RPT_GAPS = 1 ∧ s.queueReset.flag Reg.RPT_STAT 14 = true ∧ s.queueReset.queue.ins = [] := by
  have hf := s.queueCleared_frame
  have hgaps := s.queueCleared_gaps
  have hen := s.queueCleared_enabled.trans he
  rw [queueReset_eq]
  by_cases hk : s.cald.isOpen = true ∨ s.queue.stopped = true
  · rw [drainInserted_of_kept _ (by rw [hf]; exact hk)]
    refine ⟨?_, ?_, ite_of_pos hk ⟨hgaps, ?_⟩⟩
    · rw [hf]
    · rw [hf]
    · rw [hf]
      rfl
  · have hk' := hk
    rw [not_or, Bool.not_eq_true, Bool.not_eq_true] at hk'
    obtain ⟨r, hp⟩ := s.queueCleared_push hr hk'.1 hk'.2
    generalize hu : s.queueCleared = u at *
    have hitems : u.queue.items = [] := by rw [hf]
    have hst : u.queue.staged = [] := by rw [hf]
    have hdrops : u.queue.drops = 0 := by rw [hf]
    have hv : ∃ g, pushRec { u with queue := { u.queue with ins := [] } } r =
        State.setFlag { u with queue := { u.queue with ins := [], gap := some g, drops := u.queue.drops + 1 } }
          Reg.RPT_STAT 14 true := ⟨_, if_pos (by
            change (!u.flag Reg.FUNC_EN 5 || _) = true
            simp [hen])⟩
    obtain ⟨g, hv⟩ := hv
    have hc (v : State) (h : v.queue.staged = []) : v.commitInserted =
        { v.countDrops v.queue.drops with queue := { v.queue with drops := 0, saved := v.queue.gap } } := by
      unfold commitInserted
      rw [if_pos (by simp [h])]
      rfl
    rw [hv] at hp
    replace hp := hp.trans (hc _ (by exact hst))
    have hins : u.pushInserted.queue.ins = [] := by rw [hp]; rfl
    rw [drainInserted_of_one _ hins, hp]
    refine ⟨hitems, hst, ite_of_neg hk ⟨?_, ?_, rfl⟩⟩
    · refine (reg_setReg_same _ _ _).trans ?_
      rw [reg_setFlag_ne _ _ _ (by decide)]
      change word (min 65535 ((u.reg Reg.RPT_GAPS).toNat + (u.queue.drops + 1))) = 1
      rw [hgaps, hdrops]
      rfl
    · exact (flag_setReg_ne _ _ _ (by decide)).trans (flag_setFlag_same _ _ _ _ (by omega))

end State

end Sys2Proof.Machine
end

section
/-! PROOFS. What each bit of FUNC_RESET does (11, R360, Table 11.14). -/

namespace Sys2Proof.Machine

namespace State

variable (s : State)

/-! ### SEQ and CALDERA -/

theorem captureFrame_seq : s.captureFrame.seq = s.seq := by
  unfold captureFrame
  dsimp only
  split
  · split
    · split <;> rfl
    · rfl
  · rfl

theorem frameDone_run (b : Bool) : (s.frameDone b).seq.run = false := by
  unfold frameDone
  dsimp only
  rw [quiesceCheck_seq, captureFrame_seq]
  split <;> rfl

theorem releaseCut_frame : s.releaseCut = { s with cald := s.releaseCut.cald, rowHeld := s.releaseCut.rowHeld } := by
  unfold releaseCut
  split <;> rfl

theorem cutFrame_ends (h : s.seq.run = true) : s.cutFrame.seq.due = s.seq.due ∧
    (s.cutFrame.seq.run = false ∨ s.cutFrame.seq.cut = true) := by
  have hx : s.cutFrame = ({ s.releaseCut with seq := { s.seq with cut := true } } : State).frameCheck := by
    unfold cutFrame
    rw [if_pos h]
  rw [hx]
  refine ⟨frameCheck_due _, ?_⟩
  rcases frameCheck_cases { s.releaseCut with seq := { s.seq with cut := true } } with hc | ⟨b, hc⟩
  · rw [hc]
    exact .inr rfl
  · rw [hc]
    exact .inl (frameDone_run _ b)

theorem dueAtClose_frame : s.dueAtClose = { s with pwr := s.dueAtClose.pwr, seq := s.dueAtClose.seq } := by
  unfold dueAtClose
  split
  · rw [quiesceCheck_frame]
  · split
    · exact s.beginQuiesce_frame
    · rfl

theorem afterClose_cald : s.afterClose.cald = s.cald := by
  rw [afterClose, dueAtClose_frame]
  exact drainInserted_cald s

theorem reg_afterClose_ne {q : RegId} (h : q ∉ queueRegs) : s.afterClose.reg q = s.reg q := by
  have hd := s.drainInserted.dueAtClose_frame
  rw [afterClose, hd]
  exact s.reg_drainInserted_ne h

theorem abandonFrame_regs : s.abandonFrame.regs = s.regs := by
  change s.abandonQueue.regs = s.regs
  rw [abandonQueue, queueVote_regs]

theorem reg_frameOver_ne {q : RegId} (h : q ≠ Reg.PACE) : s.frameOver.reg q = s.reg q := reg_setFld_ne _ _ _ _ h

theorem abandonNow_spec : s.abandonNow.cald.isOpen = false ∧ s.abandonNow.cald.dmem = s.cald.dmem ∧
    ∀ q, q ≠ Reg.PACE → s.abandonNow.reg q = s.reg q := by
  unfold abandonNow
  split
  · refine ⟨rfl, rfl, fun q hq => ?_⟩
    refine (s.abandonFrame.reg_frameOver_ne hq).trans ?_
    rw [reg, abandonFrame_regs, reg]
  case isFalse h => exact ⟨eq_false_of_ne_true h, rfl, fun _ _ => rfl⟩

theorem resetCaldera_spec : s.resetCaldera.cald.isOpen = false ∧ s.resetCaldera.cald.restart = true ∧
    s.resetCaldera.fld Reg.SCHED_STAT 0 10 = s.fld Reg.SCHED_STAT 0 10 ∧ s.resetCaldera.cald.dmem = s.cald.dmem := by
  obtain ⟨ho, hd, hr⟩ := s.abandonNow_spec
  have hreg : s.resetCaldera.reg Reg.SCHED_STAT = s.reg Reg.SCHED_STAT := by
    unfold resetCaldera
    rw [reg_afterClose_ne _ (by decide), reg_insertRec_ne _ _ (by decide) (by decide), ← hr _ (by decide)]
    exact reg_setFlag_ne _ _ _ (by decide)
  have hc : s.resetCaldera.cald = { s.abandonNow.cald with restart := true, stalls := [], stalled := [] } := by
    unfold resetCaldera
    rw [afterClose_cald, insertRec_cald]
    rfl
  refine ⟨?_, ?_, ?_, ?_⟩
  · rw [hc, ← ho]
  · rw [hc]
  · rw [fld, hreg, fld]
  · rw [hc, ← hd]

/-! ### HOSTPORT, GEYSER, GOERTZEL, RING -/

theorem hostReset_spec : s.hostReset.port.ptr = 0 ∧ s.hostReset.port.txn = none ∧
    ∀ b < 14, s.hostReset.flag Reg.HOST_STAT b = false := by
  refine ⟨rfl, rfl, fun b hb => ?_⟩
  have hr : s.hostReset.reg Reg.HOST_STAT = s.reg Reg.HOST_STAT &&& 0xC000 := by
    refine (reg_setFlag_ne _ _ _ (by decide)).trans ((reg_setFld_ne _ _ _ _ (by decide)).trans (reg_setReg_same _ _ _))
  have hmask : (0xC000 : Word).getLsbD b = false := by
    interval_cases b <;> rfl
  rw [flag, hr, BitVec.getLsbD_and, hmask, Bool.and_false]

theorem resetGeyser_thr : s.resetGeyser.fld Reg.GEYSER_THR 1 3 = 0 := by
  have hw (i : Nat) (h₁ : 1 ≤ i) (h₄ : i < 1 + 3) : s.resetGeyser.flag Reg.GEYSER_THR i = false := by
    change ((s.setFld Reg.GEYSER_THR 2 2 0).setFlag Reg.GEYSER_THR 1 false).flag Reg.GEYSER_THR i = false
    rcases Nat.eq_or_lt_of_le h₁ with rfl | hpos
    · exact flag_setFlag_same _ _ _ _ (by omega)
    · rw [flag_setFlag_other _ _ (by omega) (by omega), flag_setFld_in _ _ (by omega) (by omega)]
      exact Nat.zero_testBit _
  refine (bits_congr fun i h₁ h₄ => (hw i h₁ h₄).trans BitVec.getLsbD_zero.symm).trans ?_
  rfl

theorem detAbort_busy (k j : Fin 4) :
    ((s.detAbort false k).dets.get j).busy = if j = k then false else (s.dets.get j).busy := by
  unfold detAbort
  dsimp only
  rw [if_neg (by simp)]
  rw [Vector.get_eq_getElem, Vector.getElem_set]
  by_cases h : j = k
  · rw [if_pos (congrArg Fin.val h).symm, if_pos h]
  · rw [if_neg fun hv => h (Fin.ext hv.symm), if_neg h, ← Vector.get_eq_getElem]

theorem detAbort_regs (k : Fin 4) : (s.detAbort false k).regs = s.regs := by
  unfold detAbort
  dsimp only
  rw [if_neg (by simp)]

theorem ringReset_frame : s.ringReset = { s with
    ring := { s.ring with rd := 0, wr := 0, u := 0, wrapped := false, mark := none, count := 0 },
    tables := memClear s.tables (winKey Win.RING 0) (winKey (Win.RING + 1) 0), regs := s.ringReset.regs,
    fmon := s.ringReset.fmon } := rfl

theorem tab_ringReset {a : Nat} (h : a < 16384) : s.ringReset.tab Win.RING a = 0 := by
  have hm : winKey Win.RING 0 ≤ winKey Win.RING a ∧ winKey Win.RING a < winKey (Win.RING + 1) 0 := by
    change 11 * 131072 + 0 ≤ 11 * 131072 + a ∧ 11 * 131072 + a < (11 + 1) * 131072 + 0
    omega
  refine (memRead_memClear_of_mem hm s.tables).trans ?_
  have h0 : winKey Win.RING a ≠ winKey Win.SEQ 0 := by
    change 11 * 131072 + a ≠ 1 * 131072 + 0
    omega
  have hd : winKey Win.RING a / 131072 = Win.RING := by
    change (11 * 131072 + a) / 131072 = 11
    omega
  rw [tabDefault, if_neg h0, hd, if_neg (by simp), if_neg (by simp)]

/-! ### LANES and FILTERS act at an entry -/

theorem flag_moveTimebase_ne (b : Nat) {q : RegId} (h : q ≠ Reg.CLK_STAT) : s.moveTimebase.flag q b = s.flag q b := by
  unfold moveTimebase
  dsimp only
  split
  · rfl
  · exact flag_setFlag_ne _ _ _ _ h

theorem lanesBoundary_of_reset (h : s.flag Reg.FUNC_RESET 0 = true) :
    s.lanesBoundary.flag Reg.FUNC_RESET 0 = false ∧ s.lanesBoundary.lanes = s.lanes.map (fun l => { l with x := 0 }) ∧
      s.lanesBoundary.seq.analog = true ∧ s.lanesBoundary.cal.round = none ∧ s.lanesBoundary.cal.dueRnd = false := by
  unfold lanesBoundary
  dsimp only
  rw [if_pos h]
  exact ⟨flag_setFlag_same _ _ _ _ (by omega), rfl, rfl, rfl, rfl⟩

/-- What an entry boundary takes from the reset of the lanes. -/
theorem entryBoundary_keeps : s.entryBoundary.regs = s.moveTimebase.lanesBoundary.regs ∧
    s.entryBoundary.lanes = s.moveTimebase.lanesBoundary.lanes ∧
    s.entryBoundary.seq.analog = s.moveTimebase.lanesBoundary.seq.analog ∧
    s.entryBoundary.cal = s.moveTimebase.lanesBoundary.cal := by
  rw [entryBoundary_eq]
  dsimp only
  generalize s.moveTimebase.lanesBoundary = u
  generalize u.positions (u.entryRead s.nextEntry) (!u.flag Reg.FUNC_EN 0) = pos
  generalize u.entryRead s.nextEntry = e
  rw [becomeReady_frame _ rfl]
  exact ⟨rfl, rfl, rfl, rfl⟩

theorem markInvalid_lane (ks : List Nat) (n : LaneId) :
    (s.markInvalid ks).lanes.get n = { s.lanes.get n with inv := ((s.markInvalid ks).lanes.get n).inv } := by
  unfold markInvalid
  rw [Vector.get_eq_getElem, Vector.getElem_ofFn]

/-- A synchronising reset that FUNC_RESET.FILTERS asks for (R123). -/
theorem syncStarted_spec : (s.syncStarted true).flag Reg.FUNC_RESET 1 = false ∧ (s.syncStarted true).flag Reg.FILT_CTL 15 = false ∧
    (s.syncStarted true).filt.cad = 0 ∧ (s.syncStarted true).filt.cic = 0 ∧ (s.syncStarted true).filt.first = true ∧
    (s.syncStarted true).filt.trkR = 0 ∧ (s.syncStarted true).lanes = s.lanes.map Lane.cleared := by
  have hrf := s.syncReset_frame
  generalize s.syncReset.dets = d, s.syncReset.regs = g at hrf
  unfold syncStarted
  rw [hrf]
  dsimp only
  rw [if_pos rfl]
  generalize s.syncCleared.filt = f
  refine ⟨flag_setFlag_same _ _ _ _ (by omega), ?_, rfl, rfl, rfl, rfl, rfl⟩
  refine (flag_setFlag_ne _ _ _ _ (by decide)).trans (flag_setFlag_same _ _ _ _ (by omega))

theorem setOrder_spec (e : Entry) (hc : s.filt.cad = 0) (hi : s.filt.cic = 0) : (s.setOrder e).filt.cad = 0 ∧
    (s.setOrder e).filt.cic = 0 ∧ (s.setOrder e).filt.first = s.filt.first ∧
    (s.setOrder e).filt.trkR = s.filt.trkR ∧ (s.setOrder e).lanes = s.lanes ∧ (s.setOrder e).regs = s.regs := by
  unfold setOrder
  dsimp only
  split
  · exact ⟨hc, hi, rfl, rfl, rfl, rfl⟩
  · exact ⟨rfl, rfl, rfl, rfl, rfl, rfl⟩

/-- An entry's start with a reset of the filters pending. -/
theorem entryFilters_of_reset (e : Entry) (anchor : Bool) (h : s.flag Reg.FUNC_RESET 1 = true) :
    (s.entryFilters e anchor).flag Reg.FUNC_RESET 1 = false ∧ (s.entryFilters e anchor).flag Reg.FILT_CTL 15 = false ∧
      (s.entryFilters e anchor).filt.cad = 0 ∧ (s.entryFilters e anchor).filt.cic = 0 ∧
      (s.entryFilters e anchor).filt.first = true ∧ (s.entryFilters e anchor).filt.trkR = 0 ∧
      (s.entryFilters e anchor).lanes = s.lanes.map Lane.cleared := by
  have hstart : (s.entryEntered e anchor).syncStart.2 = (s.entryEntered e anchor).syncStarted true := by
    have hflag : (s.entryEntered e anchor).flag Reg.FUNC_RESET 1 = true := by
      rw [entryEntered_frame]
      exact h
    unfold syncStart
    dsimp only
    rw [hflag]
    rfl
  have hlanes : (s.entryEntered e anchor).lanes = s.lanes := by rw [entryEntered_frame]
  unfold entryFilters
  dsimp only
  rw [hstart, ← hlanes]
  generalize s.entryEntered e anchor = u
  obtain ⟨hres, hfc, hcad, hcic, hfirst, htrk, hl⟩ := u.syncStarted_spec
  rw [← hl]
  generalize u.syncStarted true = t at *
  obtain ⟨ocad, ocic, ofirst, otrk, olanes, oregs⟩ := t.setOrder_spec e hcad hcic
  rw [← olanes]
  have hbf := (t.setOrder e).bankRequest_frame ((t.setOrder e).effBank e) e.xfade
  have hreg {q : RegId} (hq : q ≠ Reg.BANK_CTL) := (t.setOrder e).reg_bankRequest_ne ((t.setOrder e).effBank e) e.xfade hq
  refine ⟨?_, ?_, ?_, ?_, ?_, ?_, ?_⟩
  · rw [flag, hreg (by decide), reg, oregs]
    exact hres
  · rw [flag, hreg (by decide), reg, oregs]
    exact hfc
  · rw [hbf]
    exact ocad
  · rw [hbf]
    exact ocic
  · rw [hbf]
    exact ofirst.trans hfirst
  · rw [hbf]
    exact otrk.trans htrk
  · rw [hbf]

/-- An entry's start without memory errors, as its filters have been set up. -/
theorem entryStart_of_no_errs (h : s.fmon.memErrs = []) (anchor : Bool) : ∃ v l,
    v = s.entryFilters (s.snap.entry s.seq.entry) anchor ∧
      (∀ n : LaneId, ∃ i, l.get n = { v.lanes.get n with inv := i }) ∧
      ∃ e r cfg inv a, s.entryStart anchor =
        (({ v with lanes := l } : State).entryRunning e r cfg inv a).setFld Reg.SEQ_STAT 0 9 s.seq.entry := by
  obtain ⟨eff, cfg, roles, idle, ks, ht⟩ := s.entryStart_eq anchor
  rw [entryRead, s.fetchEntry_of_no_errs h] at ht
  obtain ⟨l, r, inv, a, hf, hl, -⟩ := (s.entryFilters (s.snap.entry s.seq.entry) anchor).entryFinish_spec
    s.seq.entry (s.snap.entry s.seq.entry) eff cfg roles idle false ks
  refine ⟨_, l, rfl, fun n => ?_, _, r, cfg, inv, a, ht.trans hf⟩
  have hn := (s.entryFilters (s.snap.entry s.seq.entry) anchor).markInvalid_lane ks n
  rw [hl] at hn
  exact ⟨_, hn⟩

theorem get_map_lane {f : Lane → Lane} (v : Vector Lane 164) (n : LaneId) : (v.map f).get n = f (v.get n) := by
  simp [Vector.get_eq_getElem]

end State

/-- Settles O45. -/
theorem functionsReset : Obligations.FunctionsReset := by
  unfold Obligations.FunctionsReset
  intro s hm
  refine ⟨fun hb hr => ?_, fun hp hh hpl hn he hr => ?_, ?_, ?_, ?_, ?_, ?_, fun hq hen => ?_, fun hq hen => ?_, fun hq => ?_,
    ?_, ?_, ?_, ?_, ?_⟩
  · refine completes_of_guard rfl (by simp [hm, hb]) ?_
    obtain ⟨hregs, hlanes, han, hcal⟩ := s.entryBoundary_keeps
    obtain ⟨hflag, hl, ha, hround, hdue⟩ := s.moveTimebase.lanesBoundary_of_reset
      ((s.flag_moveTimebase_ne 0 (by decide)).trans hr)
    have hml : s.moveTimebase.lanes = s.lanes := by rw [State.moveTimebase_frame]
    refine ⟨?_, fun n => ?_, han.trans ha, ?_, ?_⟩
    · rw [State.flag, State.reg_congr hregs]
      exact hflag
    · rw [hlanes, hl, hml, State.get_map_lane]
    · rw [hcal, hround]
    · rw [hcal, hdue]
  · refine completes_of_guard rfl (by simp [hm, hp, hh, hpl, hn]) ?_
    obtain ⟨v, l, hv, hl, e, r, cfg, inv, a, ht⟩ := s.entryStart_of_no_errs he false
    obtain ⟨hres, hfc, hcad, hcic, hfirst, htrk, hlanes⟩ := s.entryFilters_of_reset (s.snap.entry s.seq.entry) false hr
    rw [← hv] at hres hfc hcad hcic hfirst htrk hlanes
    have hreg {q : RegId} (h₁ : q ≠ Reg.SEQ_STAT) (h₂ : q ≠ Reg.GOERTZEL_STAT) : (s.entryStart false).reg q = v.reg q := by
      rw [ht, State.reg_setFld_ne _ _ _ _ h₁, State.reg_entryRunning_ne _ _ _ _ _ _ h₂]
      rfl
    have hf : (s.entryStart false).filt = v.filt := by
      rw [ht, State.entryRunning_frame]
      rfl
    have hls : (s.entryStart false).lanes = l := by
      rw [ht, State.entryRunning_frame]
      rfl
    refine ⟨?_, ?_, ?_, ?_, ?_, ?_, fun n => ?_⟩
    · rw [State.flag, hreg (by decide) (by decide)]
      exact hres
    · rw [State.flag, hreg (by decide) (by decide)]
      exact hfc
    · rw [hf, hcad]
    · rw [hf, hcic]
    · rw [hf, hfirst]
    · rw [hf, htrk]
    · obtain ⟨i, hi⟩ := hl n
      rw [hls, hi, hlanes, State.get_map_lane]
      exact ⟨rfl, rfl, rfl⟩
  · exact completes_of_guard (t := s.resetLanes) rfl hm ⟨State.flag_setFlag_same _ _ _ _ (by omega), rfl⟩
  · exact completes_of_guard (t := s.resetFilters) rfl hm ⟨State.flag_setFlag_same _ _ _ _ (by omega), rfl⟩
  · refine completes_of_guard (t := s.resetSeq) rfl hm ?_
    unfold State.resetSeq
    dsimp only
    split
    case isTrue hrun => exact State.cutFrame_ends _ hrun
    case isFalse hrun => exact ⟨rfl, .inl (eq_false_of_ne_true hrun)⟩
  · exact completes_of_guard (t := s.resetCaldera) rfl hm s.resetCaldera_spec
  · exact completes_of_guard (t := s.resetTrack) rfl hm ⟨State.flag_setFlag_same _ _ _ _ (by omega), rfl, rfl⟩
  · refine completes_of_guard (t := s.resetQueueFn) rfl hm ?_
    rw [State.resetQueueFn, hq, if_neg (by simp), State.settle_queue, State.reg_settle]
    exact s.queueReset_enabled (State.mainUp_ready hm) hen
  · refine completes_of_guard (t := s.resetQueueFn) rfl hm ?_
    rw [State.resetQueueFn, hq, if_neg (by simp), State.settle_queue, State.reg_settle, State.flag_settle]
    exact s.queueReset_disabled (State.mainUp_ready hm) hen
  · exact congrArg Host.Outcome.next ((if_pos hm).trans (if_pos hq))
  · refine completes_of_guard (t := s.resetRing) rfl hm ⟨rfl, rfl, rfl, rfl, fun a ha => s.tab_ringReset ha, rfl⟩
  · refine completes_of_guard (t := s.resetNvmctl) rfl hm ?_
    by_cases ho : s.nvm.op.isSome = true
    · refine ite_of_pos ho ?_
      rw [State.resetNvmctl, if_pos ho]
      refine ⟨rfl, rfl, ?_, rfl⟩
      change (s.nvm.todo.take (if s.nvm.paused then 0 else 1)).length ≤ 1
      rw [List.length_take]
      split <;> omega
    · refine ite_of_neg ho ?_
      rw [State.resetNvmctl, if_neg ho]
  · refine completes_of_guard (t := s.resetHostport) rfl hm ?_
    have hport : (if s.flag Reg.DEBUG_CTL 7 then s.relock else s).port = s.port := by split <;> rfl
    unfold State.resetHostport
    dsimp only
    rw [hport]
    by_cases hx : s.port.txn.isSome = true
    · rw [if_pos hx, if_pos hx]
      exact ⟨rfl, State.flag_setFlag_same _ _ _ _ (by omega)⟩
    · rw [if_neg hx, if_neg hx]
      exact State.hostReset_spec _
  · exact completes_of_guard (t := s.resetGeyser) rfl hm ⟨rfl, rfl, s.resetGeyser_thr, rfl⟩
  · refine completes_of_guard (t := s.resetGoertzel) rfl hm ⟨fun k => ?_, ?_⟩
    · unfold State.resetGoertzel State.detAbortAll
      simp only [State.detAbort_busy]
      fin_cases k <;> rfl
    · unfold State.resetGoertzel
      rw [State.detAbortAll_frame]
      have hregs : (s.detAbortAll false).regs = s.regs := by
        unfold State.detAbortAll
        rw [State.detAbort_regs, State.detAbort_regs, State.detAbort_regs, State.detAbort_regs]
      rw [hregs]

end Sys2Proof.Machine
end

section
/-! PROOFS. The load of an image by the host: load mode, COMMIT and ABORT (06, R205 to R207). -/

namespace Sys2Proof.Machine

/-- What installing the sections of an image keeps: the cells that are retired, and the schedule. -/
def State.InstallKeeps (s t : State) : Prop := t.cald.retired = s.cald.retired ∧ t.sched = s.sched

namespace State.InstallKeeps

variable {s t u : State}

theorem refl (s : State) : s.InstallKeeps s := ⟨rfl, rfl⟩

theorem trans (h₁ : s.InstallKeeps t) (h₂ : t.InstallKeeps u) : s.InstallKeeps u :=
  ⟨h₂.1.trans h₁.1, h₂.2.trans h₁.2⟩

theorem foldl {α : Type} {f : State → α → State} (h : ∀ (s : State) a, s.InstallKeeps (f s a)) (l : List α) (s : State) :
    s.InstallKeeps (l.foldl f s) := by
  induction l generalizing s with
  | nil => exact refl s
  | cons a l ih => exact (h s a).trans (ih _)

theorem installWin (h : s.InstallKeeps t) (l : Option (List Byte)) (code : Nat) : s.InstallKeeps (t.installWin l code) := by
  refine h.trans ?_
  unfold State.installWin
  split <;> exact ⟨rfl, rfl⟩

theorem applyParam (s : State) (p : Nat × Word) : s.InstallKeeps (s.applyParam p) := by
  unfold State.applyParam
  split <;> exact ⟨rfl, rfl⟩

end State.InstallKeeps

namespace State

variable (s : State)

/-- The cells and window tables that an image sets. -/
def imageTables (img : List Byte) : State :=
  let ds := directory img
  let sec (t : Nat) : Option (List Byte) := sectBytes img ds t
  let s := (List.range 7).foldl (fun s k => s.installCell ((sec (0x10 + k)).getD []) (sec (0x20 + k)) k) s
  let s := s.installWin (sec 0x30) Win.SEQ
  let s := s.installWin (sec 0x31) Win.COEF_A
  let s := s.installWin (sec 0x32) Win.COEF_B
  let s := s.installWin (sec 0x33) Win.RS_PROFILE
  let s := s.installWin (sec 0x34) Win.LANE_MASK
  let s := s.installWin (sec 0x35) Win.PANEL
  let s := s.installWin (sec 0x36) Win.KEYS
  s.installWin (sec 0x38) Win.PHASE

/-- The schedule that an image sets, with its limits. -/
def imageSched (img : List Byte) : State :=
  let v := (sectBytes img (directory img) 0x02).getD []
  let s := (s.setFld Reg.PMU_STAT 6 5 (field v 0 1)).setFld Reg.PACE 8 8 (field v 1 1)
  { s with sched := { s.sched with valid := true, pmin := field v 4 4, skew := field v 8 4 },
           lib := { s.lib with on := Config.libraryImage (img.take (field img 8 4)) } }

theorem installImage_eq (img : List Byte) : s.installImage img =
    ((params ((sectBytes img (directory img) 0x37).getD [])).foldl applyParam ((s.imageTables img).imageSched img)).setFld
      Reg.SCHED_CTL 0 4 0 := rfl

theorem imageTables_keeps (img : List Byte) : s.InstallKeeps (s.imageTables img) := by
  unfold imageTables
  refine ((((((((InstallKeeps.trans (InstallKeeps.refl s) ?_).installWin _ _).installWin _ _).installWin _ _).installWin _ _).installWin _ _).installWin
    _ _).installWin _ _).installWin _ _
  exact InstallKeeps.foldl (f := fun (s : State) k => s.installCell _ _ k) (fun _ _ => ⟨rfl, rfl⟩) _ s

theorem installImage_spec (img : List Byte) : (s.installImage img).sched.valid = true ∧
    (s.installImage img).cald.retired = s.cald.retired ∧ (s.installImage img).fld Reg.SCHED_CTL 0 4 = 0 := by
  obtain ⟨hret, -⟩ := s.imageTables_keeps img
  obtain ⟨pret, psched⟩ := InstallKeeps.foldl InstallKeeps.applyParam
    (params ((sectBytes img (directory img) 0x37).getD [])) ((s.imageTables img).imageSched img)
  rw [installImage_eq]
  exact ⟨congrArg Sched.valid psched, pret.trans hret, fld_setFld_same _ _ (by omega)⟩

/-! ### The start of a schedule -/

/-- The registers that the start of a schedule updates. -/
def schedStartRegs : List RegId := Reg.NVM_STAT :: Reg.PWR_VOTE :: queueRegs ++ frameStartRegs

theorem takeOver_spec : s.takeOver.sched = s.sched ∧ s.takeOver.cald.retired = s.cald.retired := by
  unfold takeOver
  split
  · dsimp only
    rw [insertRec_sched, insertRec_cald]
    exact ⟨rfl, rfl⟩
  · exact ⟨rfl, rfl⟩

theorem startState_congr {s t : State} (h : t.cald.retired = s.cald.retired) : t.startState = s.startState := by
  rw [startState, cellsOk, h, startState, cellsOk]

theorem firstFrame_spec : s.firstFrame.sched = s.sched ∧ s.firstFrame.cald.restart = s.cald.restart ∧
    ∀ q, q ∉ frameStartRegs → s.firstFrame.reg q = s.reg q := by
  unfold firstFrame
  split
  · exact ⟨rfl, rfl, fun _ _ => rfl⟩
  · split
    · exact ⟨rfl, rfl, fun _ _ => rfl⟩
    · obtain ⟨hs, -, -, ⟨l, hc⟩, hr⟩ := s.frameStart_keeps
      refine ⟨hs, ?_, hr⟩
      rw [hc]

theorem schedStart_spec (sub : Nat) (w : Word) : (s.schedStart sub w).sched = s.sched ∧
    (s.schedStart sub w).cald.restart = true ∧ ∀ q, q ∉ schedStartRegs → (s.schedStart sub w).reg q = s.reg q := by
  unfold schedStart
  dsimp only
  obtain ⟨hs, hr, hq⟩ := firstFrame_spec
    ((s.sigCheck.restartSchedule).insertRec (recOf (header 6 sub) 0 0 w 0 0 0 0)).drainInserted
  refine ⟨hs.trans ?_, hr.trans ?_, fun q h => ?_⟩
  · rw [drainInserted_sched, insertRec_sched]
    change s.sigCheck.sched = _
    rw [sigCheck_frame]
    rfl
  · rw [drainInserted_cald, insertRec_cald]
    rfl
  · simp only [schedStartRegs, List.cons_append, List.mem_cons, List.mem_append, not_or] at h
    obtain ⟨hnvm, hvote, hqueue, hframe⟩ := h
    have hgaps : q ≠ Reg.RPT_GAPS := fun he => hqueue (he ▸ by decide)
    have hstat : q ≠ Reg.RPT_STAT := fun he => hqueue (he ▸ by decide)
    rw [hq q hframe, reg_drainInserted_ne _ hqueue, reg_insertRec_ne _ _ hgaps hstat]
    refine (reg_setFlag_ne _ _ _ hvote).trans ?_
    rw [sigCheck_frame]
    exact reg_setFlag_ne _ _ _ hnvm

/-! ### The end of a COMMIT -/

/-- The state in which the schedule of a committed image starts. -/
def committed : State :=
  let t := (s.takeOver.installImage s.loadBuffer).libInstalled
  ((t.loadEnd t.startState).setFld Reg.SYS_STAT 5 2 2).vstart

theorem commitDone_of_passed (h : s.checkLoaded = 0) : s.commitDone = s.settle (s.committed.schedStart 5 0x0200) := if_pos h

theorem commitDone_of_failed (h : s.checkLoaded ≠ 0) : s.commitDone =
    { (s.setFld Reg.SCHED_CTL 0 4 s.checkLoaded).setFlag Reg.SCHED_CTL 14 false with
      sched := { s.sched with commit := false } } := if_neg h

theorem committed_spec : s.committed.sched.valid = true ∧ s.committed.sched.state = s.startState ∧
    s.committed.flag Reg.SCHED_CTL 15 = false ∧ s.committed.flag Reg.SCHED_CTL 14 = false ∧
    s.committed.fld Reg.SCHED_CTL 0 4 = 0 ∧ s.committed.fld Reg.SYS_STAT 5 2 = 2 := by
  obtain ⟨hv, hret, hrej⟩ := s.takeOver.installImage_spec s.loadBuffer
  have hst := startState_congr (hret.trans s.takeOver_spec.2)
  have hpmu {q : RegId} (h : q ≠ Reg.PMU_STAT) (t : State) : t.vstart.reg q = t.reg q := reg_setFld_ne _ _ _ _ h
  unfold committed
  dsimp only
  generalize s.takeOver.installImage s.loadBuffer = u at *
  refine ⟨hv, hst, ?_, ?_, ?_, ?_⟩
  · rw [flag, hpmu (by decide), reg_setFld_ne _ _ _ _ (by decide)]
    exact (flag_setFlag_other _ _ (by omega) (by omega)).trans (flag_setFlag_same _ _ _ _ (by omega))
  · rw [flag, hpmu (by decide), reg_setFld_ne _ _ _ _ (by decide)]
    exact flag_setFlag_same _ _ _ _ (by omega)
  · rw [fld, hpmu (by decide), reg_setFld_ne _ _ _ _ (by decide)]
    exact (fld_setFlag_disjoint _ _ (by omega) (by omega)).trans
      ((fld_setFlag_disjoint _ _ (by omega) (by omega)).trans hrej)
  · rw [fld, hpmu (by decide)]
    exact fld_setFld_same _ _ (by omega)

end State

/-- Settles O47. -/
theorem imageLoads : Obligations.ImageLoads := by
  unfold Obligations.ImageLoads
  intro s hm
  refine ⟨?_, fun hw hr hc hs => ?_, fun hl => ?_, fun hl => ?_, fun hl => ?_, fun hb hc hn => ?_⟩
  · refine completes_of_guard (t := s.schedLoad) rfl hm ?_
    unfold State.schedLoad
    split
    case isTrue h => exact ⟨h, fun h' => by rw [h] at h'; contradiction, rfl⟩
    case isFalse h => exact ⟨State.flag_setFlag_same _ _ _ _ (by omega), fun _ => rfl, rfl⟩
  · have hready : s.loadReady = true := by simp [State.loadReady, hm, hw, hr, hc, hs]
    exact completes_of_guard (t := s.loadEnter) rfl hready ⟨rfl, rfl, rfl⟩
  · refine completes_of_guard (t := s.schedCommit) rfl hm ?_
    rw [State.schedCommit, if_pos hl]
    exact ⟨State.flag_setFlag_same _ _ _ _ (by omega), rfl, rfl⟩
  · exact ⟨congrArg Host.Outcome.next ((if_pos hm).trans (if_neg hl)), congrArg Host.Outcome.next ((if_pos hm).trans (if_neg hl))⟩
  · refine completes_of_guard (t := s.schedAbort) rfl hm ?_
    rw [State.schedAbort, if_pos hl]
    by_cases hv : s.sched.valid = true ∧ panelOk (s.tab Win.PANEL) = true
    · rw [if_pos (by simpa using hv), if_pos hv]
      obtain ⟨hsched, hrestart, hreg⟩ := (s.takeOver.loadEnd s.startState).schedStart_spec 7 0
      refine ⟨?_, ?_, ?_, ?_⟩
      · rw [State.flag_settle, State.flag, hreg _ (by decide)]
        exact (State.flag_setFlag_other _ _ (by omega) (by omega)).trans (State.flag_setFlag_same _ _ _ _ (by omega))
      · rw [State.settle_sched, hsched]
        rfl
      · rw [State.settle_sched, hsched]
        exact (congrArg Sched.valid s.takeOver_spec.1).trans hv.1
      · rw [State.settle_cald, hrestart]
    · rw [if_neg (by simpa using hv), if_neg hv]
      refine ⟨?_, ?_, ?_, ?_, ?_⟩
      · rw [State.flag_settle]
        refine (State.flag_setFld_ne _ _ _ _ _ (by decide)).trans ((State.flag_setFld_ne _ _ _ _ _ (by decide)).trans
          ((State.flag_setFld_ne _ _ _ _ _ (by decide)).trans ?_))
        exact (State.flag_setFlag_other _ _ (by omega) (by omega)).trans (State.flag_setFlag_same _ _ _ _ (by omega))
      · rw [State.settle_sched]
        rfl
      · rw [State.settle_sched]
        rfl
      · rw [State.fld_settle]
        exact (State.fld_setFld_ne _ _ _ _ _ _ (by decide)).trans (State.fld_setFld_same _ _ (by omega))
      · rw [State.fld_settle]
        exact State.fld_setFld_same _ _ (by omega)
  · have hx : exec .imageInstallDone s = .next (s.settle s.commitDone) := congrArg Host.Outcome.next
      ((if_neg (by simp [hm])).trans ((if_neg (by simp [hb])).trans (if_pos (by simp [hc, hn]))))
    refine completes_of_eq hx ?_
    by_cases h0 : s.checkLoaded = 0
    · obtain ⟨hv, hst, h15, h14, hrej, hsys⟩ := s.committed_spec
      obtain ⟨hsched, hrestart, hreg⟩ := s.committed.schedStart_spec 5 0x0200
      rw [s.commitDone_of_passed h0, if_pos h0, h0]
      simp only [State.flag_settle, State.fld_settle, State.settle_sched, State.settle_cald, hsched]
      refine ⟨?_, ?_, hv, hst, ?_, ?_, hrestart⟩
      · rw [State.flag, hreg _ (by decide)]
        exact h14
      · rw [State.fld, hreg _ (by decide)]
        exact hrej
      · rw [State.flag, hreg _ (by decide)]
        exact h15
      · rw [State.fld, hreg _ (by decide)]
        exact hsys
    · rw [s.commitDone_of_failed h0, if_neg h0]
      simp only [State.flag_settle, State.fld_settle, State.settle_sched, State.settle_cald, State.settle_tables]
      refine ⟨State.flag_setFlag_same _ _ _ _ (by omega), ?_, trivial, rfl, rfl⟩
      exact (State.fld_setFlag_disjoint _ _ (by omega) (by omega)).trans (State.fld_setFld_same _ _ (by omega))

end Sys2Proof.Machine
end

section
/-! PROOFS. Sleep by vote and by handshake (11, R336, R340 to R345). -/

namespace Sys2Proof.Machine

namespace State

variable (s : State)

/-! ### A held NVM command is taken up -/

/-- The registers that a command of the NVM controller updates. -/
def nvmRegs : List RegId := [Reg.NVM_CTL, Reg.NVM_STAT, Reg.INT_STAT, Reg.SCHED_CTL]

/-- Only the NVM controller and its registers change from `s` to `t`, and no flag of INT_STAT is cleared. -/
def NvmOnly (s t : State) : Prop := (∃ g n, t = { s with regs := g, nvm := n }) ∧ (∀ q, q ∉ nvmRegs → t.reg q = s.reg q) ∧
  ∀ b < 16, s.flag Reg.INT_STAT b = true → t.flag Reg.INT_STAT b = true

theorem NvmOnly.trans {s t u : State} (h₁ : s.NvmOnly t) (h₂ : t.NvmOnly u) : s.NvmOnly u := by
  obtain ⟨⟨g, n, ht⟩, hr, hi⟩ := h₁
  obtain ⟨⟨g', n', hu⟩, hr', hi'⟩ := h₂
  refine ⟨⟨g', n', ?_⟩, fun q hq => (hr' q hq).trans (hr q hq), fun b hb h => hi' b hb (hi b hb h)⟩
  rw [hu, ht]

theorem nvmOnly_setFld (r : RegId) (lo w x : Nat) (h : r ∈ nvmRegs) (hn : Reg.INT_STAT ≠ r) :
    s.NvmOnly (s.setFld r lo w x) :=
  ⟨⟨_, s.nvm, rfl⟩, fun _ hq => reg_setFld_ne _ _ _ _ fun he => hq (he ▸ h), fun _ _ hb => (flag_setFld_ne _ _ _ _ _ hn).trans hb⟩

theorem nvmOnly_raise (c : Nat) : s.NvmOnly (s.raise c) :=
  ⟨⟨_, s.nvm, rfl⟩, fun _ hq => reg_raise_ne _ _ fun he => hq (he ▸ by decide), fun _ hb h => raise_keeps_irq _ hb h⟩

theorem nvmRefuse_only (code : Nat) : s.NvmOnly (s.nvmRefuse code) :=
  ((s.nvmOnly_setFld Reg.NVM_STAT 13 1 1 (by decide) (by decide)).trans
    (nvmOnly_setFld _ Reg.NVM_STAT 10 3 code (by decide) (by decide))).trans (nvmOnly_raise _ _)

theorem nvmGoing_only (op : NvmOp) (todo : List FlashStep) : s.NvmOnly (s.nvmGoing op todo) :=
  ⟨⟨_, _, rfl⟩, fun _ hq => reg_setFlag_ne _ _ _ fun he => hq (he ▸ by decide),
    fun _ _ h => (flag_setFlag_ne _ _ _ _ (by decide)).trans h⟩

theorem nvmOnly_nvm {t : State} (h : s.NvmOnly t) (n : Nvm) : s.NvmOnly { t with nvm := n } := by
  obtain ⟨⟨g, m, ht⟩, hr⟩ := h
  exact ⟨⟨g, n, by rw [ht]⟩, hr⟩

theorem nvmProgram_only (op : NvmOp) (slot : Nat) : s.NvmOnly (s.nvmProgram op slot) := by
  unfold nvmProgram
  split
  · dsimp only
    have h := s.nvmOnly_setFld Reg.SCHED_CTL 0 4 (s.checkImage (s.loadBuffer.take (field s.loadBuffer 8 4))) (by decide) (by decide)
    split
    · exact h.trans (nvmGoing_only _ _ _)
    · exact nvmOnly_nvm _ (h.trans (nvmGoing_only _ _ _)) _
  · exact s.nvmRefuse_only 1

theorem nvmStart_only (op : Nat) (key : Byte) : s.NvmOnly (s.nvmStart op key) := by
  unfold nvmStart
  split
  · exact s.nvmRefuse_only 6
  · split
    · exact s.nvmRefuse_only 1
    · split
      · exact s.nvmRefuse_only 4
      · split
        · exact s.nvmProgram_only _ _
        · exact s.nvmProgram_only _ _
        · exact s.nvmGoing_only _ _
        · unfold nvmCapture
          split
          · exact s.nvmOnly_nvm (s.nvmGoing_only _ _) _
          · exact s.nvmRefuse_only 5
        · unfold nvmErase
          split
          · exact s.nvmRefuse_only 4
          · exact s.nvmGoing_only _ _
        · unfold nvmErase
          split
          · exact s.nvmRefuse_only 4
          · exact s.nvmGoing_only _ _

theorem nvmRelease_only : s.NvmOnly s.nvmRelease := by
  unfold nvmRelease
  split
  · exact (s.nvmOnly_nvm (s.nvmOnly_setFld Reg.NVM_CTL 15 1 0 (by decide) (by decide)) _).trans (nvmStart_only _ _ _)
  · exact ⟨⟨s.regs, s.nvm, rfl⟩, fun _ _ => rfl, fun _ _ => id⟩

/-! ### The refusal of a handshake -/

/-- What the restart of agreed blocks keeps. -/
def RestartKeeps (s t : State) : Prop := t.pwr = s.pwr ∧ t.aon = s.aon ∧ t.flash = s.flash ∧ t.tables = s.tables ∧
  ∀ q, q ∉ nvmRegs → t.reg q = s.reg q

theorem RestartKeeps.trans {s t u : State} (h₁ : s.RestartKeeps t) (h₂ : t.RestartKeeps u) : s.RestartKeeps u := by
  obtain ⟨hp, ha, hf, ht, hr⟩ := h₁
  obtain ⟨hp', ha', hf', ht', hr'⟩ := h₂
  exact ⟨hp'.trans hp, ha'.trans ha, hf'.trans hf, ht'.trans ht, fun q hq => (hr' q hq).trans (hr q hq)⟩

theorem restartBlocks_spec (agreed : List Nat) : s.RestartKeeps (s.restartBlocks agreed) ∧
    (1 ∈ agreed → (s.restartBlocks agreed).queue.stopped = false) := by
  have h₁ : s.RestartKeeps (if agreed.isEmpty then s else { s with seq := { s.seq with due := false } }) := by
    split <;> exact ⟨rfl, rfl, rfl, rfl, fun _ _ => rfl⟩
  have h₂ (t : State) : t.RestartKeeps (if agreed.contains 6 then t.nvmRelease else t) := by
    split
    · obtain ⟨⟨g, n, ht⟩, hr, -⟩ := t.nvmRelease_only
      refine ⟨?_, ?_, ?_, ?_, hr⟩
      all_goals rw [ht]
    · exact ⟨rfl, rfl, rfl, rfl, fun _ _ => rfl⟩
  have h₃ (t : State) : t.RestartKeeps (if agreed.contains 5 then
      { t with seq := { t.seq with analog := true }, drive := { t.drive with pump := !t.snap.lowdrv } } else t) := by
    split <;> exact ⟨rfl, rfl, rfl, rfl, fun _ _ => rfl⟩
  have h₄ (t : State) : t.RestartKeeps (if agreed.contains 1 then
      { t with queue := { t.queue with stopped := false } } else t) := by
    split <;> exact ⟨rfl, rfl, rfl, rfl, fun _ _ => rfl⟩
  unfold restartBlocks
  dsimp only
  refine ⟨((h₁.trans (h₂ _)).trans (h₃ _)).trans (h₄ _), fun h => ?_⟩
  rw [if_pos (List.contains_iff_mem.2 h)]

/-! ### What a push leaves of INT_STAT and of the queue's stop -/

theorem pushRec_stopped (r : Rec) : (s.pushRec r).queue.stopped = s.queue.stopped := by
  unfold pushRec
  split
  · rfl
  · dsimp only
    split <;> rfl

theorem commitInserted_stopped : s.commitInserted.queue.stopped = s.queue.stopped := by
  unfold commitInserted
  split
  · rfl
  · rw [commitQueue_frame]

theorem pushInserted_stopped : s.pushInserted.queue.stopped = s.queue.stopped := by
  unfold pushInserted
  split
  · rfl
  · split
    · rfl
    · exact (commitInserted_stopped _).trans (pushRec_stopped _ _)

theorem drainInserted_stopped : s.drainInserted.queue.stopped = s.queue.stopped := by
  rw [drainInserted, pushInserted_stopped, pushInserted_stopped, pushInserted_stopped, pushInserted_stopped]

theorem insertRec_stopped (r : Rec) : (s.insertRec r).queue.stopped = s.queue.stopped := by
  unfold insertRec
  split <;> rfl

theorem commitQueue_keeps_irq {b : Nat} (hb : b < 16) (h : s.flag Reg.INT_STAT b = true) :
    s.commitQueue.flag Reg.INT_STAT b = true := by
  have hc : (s.countDrops s.queue.drops).flag Reg.INT_STAT b = true := (flag_setReg_ne _ _ _ (by decide)).trans h
  unfold commitQueue
  dsimp only
  split
  · rw [raise, flag_setFlag _ _ _ _ _ _ hb]
    split
    · rfl
    · exact hc
  · exact hc

theorem pushInserted_keeps_irq {b : Nat} (hb : b < 16) (h : s.flag Reg.INT_STAT b = true) :
    s.pushInserted.flag Reg.INT_STAT b = true := by
  unfold pushInserted
  split
  · exact h
  · split
    · exact h
    · have hp (t : State) (r : Rec) : (t.pushRec r).flag Reg.INT_STAT b = t.flag Reg.INT_STAT b := by
        rw [flag, reg_pushRec_ne _ _ (by decide), flag]
      dsimp only
      unfold commitInserted
      split
      · exact (flag_setReg_ne _ _ _ (by decide)).trans ((hp _ _).trans h)
      · exact commitQueue_keeps_irq _ hb ((hp _ _).trans h)

theorem drainInserted_keeps_irq {b : Nat} (hb : b < 16) (h : s.flag Reg.INT_STAT b = true) :
    s.drainInserted.flag Reg.INT_STAT b = true :=
  pushInserted_keeps_irq _ hb (pushInserted_keeps_irq _ hb (pushInserted_keeps_irq _ hb (pushInserted_keeps_irq _ hb h)))

/-- What a refusal shows, before its PAUSED record. -/
def hsRefused (block reason : Nat) (agreed : List Nat) : State :=
  let s := { s with pwr := { s.pwr with hs := none, quiesce := false, pstate := .active } }
  let s := (s.restartBlocks agreed).setFlag Reg.SLEEP_CTL 14 false
  let s := ((s.setFld Reg.SLEEP_ABORT 13 3 block).setFld Reg.SLEEP_ABORT 10 3 reason).incFld Reg.SLEEP_ABORT 0 8
  s.raise Irq.SLP_ABORT

theorem hsRefused_shows (block reason : Nat) (agreed : List Nat) :
    let t := s.hsRefused block reason agreed
    t.pwr.hs = none ∧ t.pwr.pstate = .active ∧ t.flag Reg.SLEEP_CTL 14 = false ∧ t.fld Reg.SLEEP_ABORT 13 3 = block % 8 ∧
      t.fld Reg.SLEEP_ABORT 10 3 = reason % 8 ∧ t.fld Reg.SLEEP_ABORT 0 8 = (s.fld Reg.SLEEP_ABORT 0 8 + 1) % 256 ∧
      t.flag Reg.INT_STAT Irq.SLP_ABORT = true ∧ t.flash = s.flash ∧ t.tables = s.tables ∧
      (1 ∈ agreed → t.queue.stopped = false) := by
  obtain ⟨⟨hp, -, hf, ht, hr⟩, hq⟩ :=
    restartBlocks_spec { s with pwr := { s.pwr with hs := none, quiesce := false, pstate := .active } } agreed
  unfold hsRefused
  dsimp only
  generalize restartBlocks _ agreed = u at *
  have hn : Reg.SLEEP_ABORT ≠ Reg.INT_STAT := by decide
  refine ⟨congrArg Pwr.hs hp, congrArg Pwr.pstate hp, ?_, ?_, ?_, ?_, flag_raise_same _ (by decide), hf, ht, hq⟩
  · rw [flag_raise_ne _ _ _ (by decide), incFld, flag_setFld_ne _ _ _ _ _ (by decide), flag_setFld_ne _ _ _ _ _ (by decide),
      flag_setFld_ne _ _ _ _ _ (by decide), flag_setFlag_same _ _ _ _ (by omega)]
  · rw [fld_raise_ne _ _ _ _ hn, incFld, fld_setFld_disjoint _ _ (by omega) (by omega),
      fld_setFld_disjoint _ _ (by omega) (by omega), fld_setFld_same _ _ (by omega)]
    rfl
  · rw [fld_raise_ne _ _ _ _ hn, incFld, fld_setFld_disjoint _ _ (by omega) (by omega), fld_setFld_same _ _ (by omega)]
    rfl
  · rw [fld_raise_ne _ _ _ _ hn, fld_incFld_same _ (by omega), fld_setFld_disjoint _ _ (by omega) (by omega),
      fld_setFld_disjoint _ _ (by omega) (by omega), fld_setFlag_ne _ _ _ _ _ (by decide), fld, hr _ (by decide)]
    rfl

/-- A refused handshake shows what R344 lists. -/
theorem hsRefuse_spec {block reason : Nat} (hb : block < 8) (hr : reason < 8) :
    refusedBy s block reason (s.hsRefuse block reason) := by
  have hx : ∃ agreed, (∀ h, s.pwr.hs = some h → h.agreed = agreed) ∧
      (s.hsRefuse block reason = s.hsRefused block reason agreed ∨
        ∃ r, s.hsRefuse block reason = ((s.hsRefused block reason agreed).insertRec r).drainInserted) := by
    unfold hsRefuse
    cases hh : s.pwr.hs with
    | none => exact ⟨[], fun h h' => by contradiction, .inl rfl⟩
    | some h =>
      refine ⟨h.agreed, fun h' he => by rw [Option.some.inj he], ?_⟩
      dsimp only
      cases h.start with
      | none => exact .inl rfl
      | some t => exact .inr ⟨_, rfl⟩
  obtain ⟨agreed, hag, hx⟩ := hx
  obtain ⟨hhs, hps, hctl, hblk, hrsn, hcnt, hirq, hfl, htab, hq⟩ := s.hsRefused_shows block reason agreed
  rw [Nat.mod_eq_of_lt hb] at hblk
  rw [Nat.mod_eq_of_lt hr] at hrsn
  rcases hx with hx | ⟨r, hx⟩
  · rw [hx]
    exact ⟨hhs, hps, hctl, hblk, hrsn, hcnt, hirq, hfl, htab, fun h he h1 => hq (hag h he ▸ h1)⟩
  · rw [hx]
    generalize s.hsRefused block reason agreed = t at *
    have hreg {q : RegId} (h : q ∉ queueRegs) : ((t.insertRec r).drainInserted).reg q = t.reg q := by
      rw [reg_drainInserted_ne _ h, reg_insertRec_ne (q := q) _ _ (fun he => h (he ▸ by decide)) fun he => h (he ▸ by decide)]
    have hirq' : (t.insertRec r).flag Reg.INT_STAT Irq.SLP_ABORT = true := by
      rw [flag, reg_insertRec_ne _ _ (by decide) (by decide)]
      exact hirq
    refine ⟨?_, ?_, ?_, ?_, ?_, ?_, drainInserted_keeps_irq _ (by decide) hirq', ?_, ?_, fun h he h1 => ?_⟩
    · rw [drainInserted_pwr, insertRec_pwr, hhs]
    · rw [drainInserted_pwr, insertRec_pwr, hps]
    · rw [flag, hreg (by decide)]
      exact hctl
    · rw [fld, hreg (by decide)]
      exact hblk
    · rw [fld, hreg (by decide)]
      exact hrsn
    · rw [fld, hreg (by decide)]
      exact hcnt
    · rw [drainInserted_flash, insertRec_flash, hfl]
    · rw [drainInserted_tables, insertRec_tables, htab]
    · rw [drainInserted_stopped, insertRec_stopped, hq (hag h he ▸ h1)]

/-- The state in which the first question of a handshake is answered. -/
def hsAsked : State :=
  { s.setFlag Reg.SLEEP_CTL 14 true with pwr := { s.pwr with pstate := .entry } }

theorem refusedBy_of_hsAsked {block reason : Nat} {t : State} (hn : s.pwr.hs = none) (h : refusedBy s.hsAsked block reason t) :
    refusedBy s block reason t := by
  obtain ⟨hhs, hps, hctl, hblk, hrsn, hcnt, hirq, hfl, htab, -⟩ := h
  refine ⟨hhs, hps, hctl, hblk, hrsn, hcnt.trans ?_, hirq, hfl, htab, fun h he => ?_⟩
  · have hf : s.hsAsked.fld Reg.SLEEP_ABORT 0 8 = s.fld Reg.SLEEP_ABORT 0 8 := fld_setFlag_ne _ _ _ _ _ (by decide)
    rw [hf]
  · rw [hn] at he
    contradiction

theorem exec_handshakeBlockAnswer {h : Handshake} (hm : s.mainUp = true) (hh : s.pwr.hs = some h) (hg : s.pwr.goSleep = false) :
    exec .handshakeBlockAnswer s = .next (s.hsAnswer h) := by
  refine congrArg Host.Outcome.next ?_
  rw [hh]
  exact if_pos (by simp [hm, hg])

theorem exec_handshakeDelayExpiry {h : Handshake} (hm : s.mainUp = true) (hh : s.pwr.hs = some h) (hg : s.pwr.goSleep = false) :
    exec .handshakeDelayExpiry s = .next (s.hsAskAgain h) := by
  refine congrArg Host.Outcome.next ?_
  rw [hh]
  exact if_pos (by simp [hm, hg])

end State

/-- Settles O48. -/
theorem sleepRequested : Obligations.SleepRequested := by
  unfold Obligations.SleepRequested
  intro s h hm
  refine ⟨fun ha hn => ?_, fun ha hn hg => ?_, fun hh hg h7 hd => ?_, fun hh hg hd h8 => ⟨?_, ?_⟩⟩
  · refine completes_of_guard (t := s.sleepReq) rfl (State.mainUp_aonUp hm) ?_
    have hx : s.sleepReq = ((s.setFlag Reg.PWR_VOTE 0 false).setFlag Reg.SLEEP_CTL 15 true).dueIfStopped :=
      if_neg (by simp [ha, hn])
    rw [hx]
    refine ⟨?_, ?_, ?_⟩
    · rw [State.flag_dueIfStopped, State.flag_setFlag_ne _ _ _ _ (by decide), State.flag_setFlag_same _ _ _ _ (by omega)]
    · rw [State.flag_dueIfStopped, State.flag_setFlag_same _ _ _ _ (by omega)]
    · rw [State.dueIfStopped_frame]
      rfl
  · refine completes_of_guard (t := s.sleepAsk) rfl (State.mainUp_aonUp hm) ?_
    have hx : s.sleepAsk = if s.vote 4 then s.hsAsked.hsRefuse 6 3 else if s.vote 2 then s.hsAsked.hsRefuse 7 3
        else { s.hsAsked with pwr := { s.hsAsked.pwr with hs := some ⟨1, 0, [], none⟩ } } :=
      if_pos (by simp [hm, hn, hg, ha])
    rw [hx]
    by_cases h4 : s.vote 4 = true
    · rw [if_pos h4, if_pos h4]
      exact s.refusedBy_of_hsAsked hn (s.hsAsked.hsRefuse_spec (by omega) (by omega))
    · rw [if_neg h4, if_neg h4]
      by_cases h2 : s.vote 2 = true
      · rw [if_pos h2, if_pos h2]
        exact s.refusedBy_of_hsAsked hn (s.hsAsked.hsRefuse_spec (by omega) (by omega))
      · rw [if_neg h2, if_neg h2]
        exact ⟨rfl, State.flag_setFlag_same _ _ _ _ (by omega), rfl, rfl⟩
  · refine completes_of_eq (s.exec_handshakeBlockAnswer hm hh hg) ?_
    have hx : s.hsAnswer h = if h.block = 7 && s.sec.tapOut then s.hsRefuse 7 4 else s.hsAgree h :=
      if_neg (by simp [hd, h7])
    rw [hx]
    by_cases ht : h.block = 7 ∧ s.sec.tapOut = true
    · rw [if_pos ht, if_pos (by simpa using ht)]
      exact s.hsRefuse_spec (by omega) (by omega)
    · rw [if_neg ht, if_neg (by simpa using ht)]
      refine ⟨⟨_, rfl, rfl, rfl⟩, rfl, fun h1 => ?_⟩
      rw [State.hsAgree, h1]
      rfl
  · refine (s.exec_handshakeBlockAnswer hm hh hg).trans (congrArg _ ?_)
    exact if_pos (by simp [hd])
  · refine completes_of_eq (s.exec_handshakeDelayExpiry hm hh hg) ?_
    have hx : s.hsAskAgain h = if 3 ≤ h.delays then s.hsRefuse h.block 2
        else { s with pwr := { s.pwr with hs := some { h with delays := h.delays + 1 } } } := if_pos hd
    rw [hx]
    by_cases h3 : 3 ≤ h.delays
    · rw [if_pos h3, if_pos h3]
      exact s.hsRefuse_spec h8 (by omega)
    · rw [if_neg h3, if_neg h3]
      exact ⟨rfl, rfl⟩

end Sys2Proof.Machine
end

section
/-! PROOFS. The sleep sequence (11, R346 to R348). -/

namespace Sys2Proof.Machine

namespace State

variable (s : State)

theorem geyserRejection_frame : s.geyserRejection = { s with regs := s.geyserRejection.regs, geyser := s.geyserRejection.geyser } := by
  unfold geyserRejection
  dsimp only
  split
  · split <;> rfl
  · rfl

theorem reg_geyserRejection_ne {q : RegId} (h : q ≠ Reg.GEYSER_THR) : s.geyserRejection.reg q = s.reg q := by
  unfold geyserRejection
  dsimp only
  split
  · split
    · exact reg_setFlag_ne _ _ _ h
    · rfl
  · rfl

theorem reg_enginesOff_ne {q : RegId} (h₁ : q ≠ Reg.LANE_STAT) (h₂ : q ≠ Reg.CLK_STAT) : s.enginesOff.reg q = s.reg q :=
  (reg_setFlag_ne _ _ _ h₂).trans ((reg_setFlag_ne _ _ _ h₂).trans (reg_setFlag_ne _ _ _ h₁))

theorem reg_geyserLatch_ne {q : RegId} (h : q ≠ Reg.GEYSER_THR) : s.geyserLatch.reg q = s.reg q := reg_setFld_ne _ _ _ _ h

/-- The state in which the pins are set for sleep. -/
def sleepPrepared : State :=
  ((s.setFlag Reg.SLEEP_CTL 15 false).setFlag Reg.SLEEP_CTL 14 false).geyserRejection.enginesOff.geyserLatch

theorem sleepEntry_eq : s.sleepEntry = { s.sleepPrepared.sleepPins.secAsleep.timerStart with
    pwr := { s.sleepPrepared.sleepPins.secAsleep.timerStart.pwr with
      pstate := .sleep, ready := false, step := 0, retried := false, waiting := false, quiesce := false, goSleep := false } } :=
  rfl

/-- The registers that a sleep entry updates. -/
def sleepRegs : List RegId := [Reg.SLEEP_CTL, Reg.LANE_STAT, Reg.CLK_STAT, Reg.GEYSER_THR]

theorem sleepPrepared_reg {q : RegId} (h₁ : q ≠ Reg.LANE_STAT) (h₂ : q ≠ Reg.CLK_STAT) (h₃ : q ≠ Reg.GEYSER_THR) :
    s.sleepPrepared.reg q = ((s.setFlag Reg.SLEEP_CTL 15 false).setFlag Reg.SLEEP_CTL 14 false).reg q := by
  rw [sleepPrepared, reg_geyserLatch_ne _ h₃, reg_enginesOff_ne _ h₁ h₂, reg_geyserRejection_ne _ h₃]

theorem enginesOff_frame : ∃ g p c, s.enginesOff = { s with
    regs := g, drive := { s.drive with pump := false, toFio := p }, cal := c, seq := { s.seq with due := false } } :=
  ⟨_, _, _, rfl⟩

theorem geyserLatch_frame : ∃ g y q, s.geyserLatch = { s with regs := g, geyser := y, pwr := q } := ⟨_, _, _, rfl⟩

theorem sleepPrepared_frame : ∃ g y p c q, s.sleepPrepared = { s with
    regs := g, geyser := y, drive := { s.drive with pump := false, toFio := p },
    cal := c, seq := { s.seq with due := false }, pwr := q } := by
  unfold sleepPrepared
  obtain ⟨g₁, hg⟩ : ∃ g, (s.setFlag Reg.SLEEP_CTL 15 false).setFlag Reg.SLEEP_CTL 14 false = { s with regs := g } := ⟨_, rfl⟩
  rw [hg, geyserRejection_frame]
  obtain ⟨g₂, p, c, h₂⟩ := enginesOff_frame { s with
    regs := ({ s with regs := g₁ } : State).geyserRejection.regs, geyser := ({ s with regs := g₁ } : State).geyserRejection.geyser }
  rw [h₂]
  obtain ⟨g₃, y, q, h₃⟩ := geyserLatch_frame { s with
    regs := g₂, geyser := ({ s with regs := g₁ } : State).geyserRejection.geyser,
    drive := { s.drive with pump := false, toFio := p }, cal := c, seq := { s.seq with due := false } }
  exact ⟨g₃, y, p, c, q, h₃⟩

theorem geyserLatch_on : s.geyserLatch.geyser.on = (s.flag Reg.GEYSER_CFG 15 && s.flag Reg.FUNC_EN 9) := by
  have h {q : RegId} (b : Nat) (hq : q ≠ Reg.GEYSER_THR) : (s.setFld Reg.GEYSER_THR 2 2 0).flag q b = s.flag q b :=
    flag_setFld_ne _ _ _ _ _ hq
  exact congrArg₂ (· && ·) (h 15 (by decide)) (h 9 (by decide))

theorem sleepPrepared_geyser :
    s.sleepPrepared.geyser.on = (s.flag Reg.GEYSER_CFG 15 && s.flag Reg.FUNC_EN 9) := by
  have hr {q : RegId} (b : Nat) (h₁ : q ≠ Reg.LANE_STAT) (h₂ : q ≠ Reg.CLK_STAT) (h₃ : q ≠ Reg.GEYSER_THR)
      (h₄ : q ≠ Reg.SLEEP_CTL) :
      ((s.setFlag Reg.SLEEP_CTL 15 false).setFlag Reg.SLEEP_CTL 14 false).geyserRejection.enginesOff.flag q b = s.flag q b := by
    rw [flag, reg_enginesOff_ne _ h₁ h₂, reg_geyserRejection_ne _ h₃, reg_setFlag_ne _ _ _ h₄,
      reg_setFlag_ne _ _ _ h₄, flag]
  rw [sleepPrepared, geyserLatch_on, hr 15 (by decide) (by decide) (by decide) (by decide),
    hr 9 (by decide) (by decide) (by decide) (by decide)]

theorem sleepPins_frame : ∃ v, s.sleepPins = { s with seq := { s.seq with pins := v } } ∧ ∀ n : PinId,
    v.get n = if s.geyser.on = true ∧ nth s.geyser.map n.val none ≠ none then .sentinel else .ground := by
  refine ⟨_, rfl, fun n => ?_⟩
  rw [Vector.get_eq_getElem, Vector.getElem_ofFn]
  refine if_congr ?_ rfl rfl
  rw [Bool.and_eq_true, Option.isSome_iff_ne_none]

end State

/-- Settles O49. -/
theorem sleepEntered : Obligations.SleepEntered := by
  unfold Obligations.SleepEntered
  intro s hm hg
  refine completes_of_guard (t := s.sleepEntry) rfl (by simp [hm, hg]) ?_
  obtain ⟨g, y, p, c, w, hf⟩ := s.sleepPrepared_frame
  have hon := s.sleepPrepared_geyser
  have hreg {q : RegId} := s.sleepPrepared_reg (q := q)
  rw [s.sleepEntry_eq]
  generalize s.sleepPrepared = u at *
  obtain ⟨v, hv, hpins⟩ := u.sleepPins_frame
  rw [hv]
  have hnone : ∀ q, q ∉ State.sleepRegs → u.reg q = s.reg q := by
    intro q hq
    simp only [State.sleepRegs, List.mem_cons, not_or] at hq
    obtain ⟨hctl, hlane, hclk, hthr, -⟩ := hq
    rw [hreg hlane hclk hthr, State.reg_setFlag_ne _ _ _ hctl, State.reg_setFlag_ne _ _ _ hctl]
  have hctl (b : Nat) : u.flag Reg.SLEEP_CTL b =
      ((s.setFlag Reg.SLEEP_CTL 15 false).setFlag Reg.SLEEP_CTL 14 false).flag Reg.SLEEP_CTL b := by
    rw [State.flag, hreg (by decide) (by decide) (by decide), State.flag]
  have htimer (lo w : Nat) : u.fld Reg.WAKE_TIMER lo w = s.fld Reg.WAKE_TIMER lo w := by
    rw [State.fld, hnone _ (by decide), State.fld]
  have hshield (t : State) (h : t.mainUp = false) (b : Bool) : t.shieldLevel b = 0 := by
    unfold State.shieldLevel
    split
    · rw [h]
      rfl
    · rfl
  refine ⟨rfl, rfl, ?_, ?_, rfl, rfl, rfl, rfl, rfl, rfl, ?_, hshield _ rfl, hon, hpins, hnone, ?_, ?_, ?_, ?_, ?_, ?_, ?_, ?_, ?_, ?_,
    ?_, ?_, ?_, ?_, ?_, ?_, ?_⟩
  · refine (hctl 15).trans ?_
    rw [State.flag_setFlag_other _ _ (by omega) (by omega), State.flag_setFlag_same _ _ _ _ (by omega)]
  · exact (hctl 14).trans (State.flag_setFlag_same _ _ _ _ (by omega))
  · exact show u.sec.otp = s.sec.otp by rw [hf]
  · exact show u.tables = s.tables by rw [hf]
  · exact show u.flash = s.flash by rw [hf]
  · exact show u.cald = s.cald by rw [hf]
  · exact show u.queue = s.queue by rw [hf]
  · exact show u.ring = s.ring by rw [hf]
  · exact show u.filt = s.filt by rw [hf]
  · exact show u.lanes = s.lanes by rw [hf]
  · exact show u.dets = s.dets by rw [hf]
  · exact show u.reserve = s.reserve by rw [hf]
  · exact show u.drive.pump = false by rw [hf]
  · exact show u.nvm = s.nvm by rw [hf]
  · exact show u.lib = s.lib by rw [hf]
  · exact show u.sched = s.sched by rw [hf]
  · exact show u.pace = s.pace by rw [hf]
  · exact show u.aon = s.aon by rw [hf]
  · exact show u.port = s.port by rw [hf]
  · exact congrArg₂ (fun a b => a * timerUnit b) (htimer 0 14) (htimer 14 2)

end Sys2Proof.Machine
end

section
/-! PROOFS. The steps of a wake (11, R352, R354). -/

namespace Sys2Proof.Machine

namespace State

variable (s : State)

/-! ### A step that ends -/

theorem powering_of {s : State} {n : Nat} (ha : s.aonUp = true) (hw : s.pwr.pstate = .waking) (hn : s.pwr.waiting = false)
    (hs : s.pwr.step = n) : s.powering n = true := by
  simp [powering, ha, hw, hn, hs]

theorem stepFailed_of_fresh (w : WakeStep) (h : s.pwr.retried = false) :
    s.stepFailed w = { s with pwr := { s.pwr with retried := true, waiting := true, step := 0 } } :=
  if_neg (by simp [h])

theorem irqAsserted_of_wakeFail {s : State} (ha : s.aonUp = true) (h : s.flag Reg.INT_STAT Irq.WAKE_FAIL = true) :
    s.irqAsserted = true := by
  rw [irqAsserted, ha, h, Bool.or_true, Bool.true_or, Bool.true_and]

/-- The second failure of a step enters WAKE_FAIL (R354). -/
theorem stepFailed_of_retried (w : WakeStep) (ha : s.aonUp = true) (h : s.pwr.retried = true) :
    (s.stepFailed w).pwr.pstate = .wakeFail ∧ (s.stepFailed w).fld Reg.SYS_STAT 7 2 = WakeStep.code w % 4 ∧
      (s.stepFailed w).flag Reg.INT_STAT Irq.WAKE_FAIL = true ∧ (s.stepFailed w).irqAsserted = true ∧
      s.stepFailed w = { s with pwr := (s.stepFailed w).pwr, regs := (s.stepFailed w).regs } := by
  have hx : s.stepFailed w = ((({ s with pwr := { s.pwr with pstate := .wakeFail, step := 0 } } : State).setFlag
      Reg.SYS_STAT 9 true).setFld Reg.SYS_STAT 7 2 (WakeStep.code w)).raise Irq.WAKE_FAIL := if_pos h
  rw [hx]
  refine ⟨rfl, ?_, flag_raise_same _ (by decide), ?_, rfl⟩
  · rw [fld_raise_ne _ _ _ _ (by decide), fld_setFld_same _ _ (by omega)]
    rfl
  · exact irqAsserted_of_wakeFail ha (flag_raise_same _ (by decide))

theorem fioReady_of_wake (h : s.pwr.pstate ≠ .boot) : s.fioReady = { s with pwr := { s.pwr with step := 5 } } := if_neg h

/-! ### FIO2 takes over in a wake -/

theorem quiesceCheck_pstate : s.quiesceCheck.pwr.pstate = s.pwr.pstate ∨ s.quiesceCheck.pwr.pstate = .active := by
  unfold quiesceCheck
  repeat' split
  all_goals simp

theorem captureFrame_pwr : s.captureFrame.pwr = s.pwr := by
  unfold captureFrame
  dsimp only
  split
  · split
    · split <;> rfl
    · rfl
  · rfl

theorem frameDone_pstate (b : Bool) : (s.frameDone b).pwr.pstate = s.pwr.pstate ∨ (s.frameDone b).pwr.pstate = .active := by
  unfold frameDone
  dsimp only
  refine (quiesceCheck_pstate _).imp_left fun h => h.trans ?_
  rw [captureFrame_pwr]
  split <;> rfl

theorem toFio2_pstate : s.toFio2.pwr.pstate = s.pwr.pstate ∨ s.toFio2.pwr.pstate = .active := by
  have hc (t : State) : t.cutEntry.pwr.pstate = t.pwr.pstate ∨ t.cutEntry.pwr.pstate = .active := by
    unfold cutEntry
    split
    · dsimp only
      generalize ht : State.mk .. = u
      have hp : u.pwr = t.pwr := by rw [← ht]
      rw [← hp]
      obtain he | ⟨b, he⟩ := u.frameCheck_cases
      · exact .inl (congrArg (fun v => v.pwr.pstate) he)
      · rw [he]
        exact u.frameDone_pstate b
    · exact .inl rfl
  exact hc ((((s.setFlag Reg.CLK_STAT 11 true).setFlag Reg.CLK_STAT 15 false).setFlag Reg.CLK_STAT 14 false).syncClear)

/-- The wake goes on with FIO2. -/
theorem wakeOnFio2_spec (h : s.pwr.pstate = .waking) : s.wakeOnFio2.pwr.step = 5 ∧ s.wakeOnFio2.fio2 = true := by
  unfold wakeOnFio2
  dsimp only
  generalize (if s.drawBit.1 then (1 : Word) else 2) = why
  have hp : (s.drawBit.2.toFio2.fioEvent why).pwr.pstate ≠ .boot := by
    rw [fioEvent, mainFault_pwr]
    rcases s.drawBit.2.toFio2_pstate with he | he
    · rw [he, show s.drawBit.2.pwr.pstate = .waking from h]
      decide
    · rw [he]
      decide
  rw [fioReady_of_wake _ hp]
  exact ⟨rfl, (fio2_mainFault ..).trans (toFio2_fio2 _)⟩

/-! ### The end of a wake -/

/-- What the end of a wake keeps from its counting on: power, the synchronisation state, WAKE_SRC and CLK_CTL, and the set
flags of INT_STAT. -/
structure WakeKeeps (s t : State) : Prop where
  pwr : t.pwr = s.pwr
  sync : t.sync = s.sync
  src : t.reg Reg.WAKE_SRC = s.reg Reg.WAKE_SRC
  clk : t.reg Reg.CLK_CTL = s.reg Reg.CLK_CTL
  irq : ∀ b < 16, s.flag Reg.INT_STAT b = true → t.flag Reg.INT_STAT b = true

variable {s} in
theorem WakeKeeps.trans {t u : State} (h₁ : s.WakeKeeps t) (h₂ : t.WakeKeeps u) : s.WakeKeeps u where
  pwr := h₂.pwr.trans h₁.pwr
  sync := h₂.sync.trans h₁.sync
  src := h₂.src.trans h₁.src
  clk := h₂.clk.trans h₁.clk
  irq b hb h := h₂.irq b hb (h₁.irq b hb h)

variable {s} in
theorem FrameKeeps.wakeKeeps {t : State} (h : s.FrameKeeps t) : s.WakeKeeps t :=
  ⟨h.pwr, h.sync, h.reg _ (by decide), h.reg _ (by decide), h.irq⟩

theorem recordFault_wakeKeeps (e : FaultEvent) : s.WakeKeeps (s.recordFault e) where
  pwr := recordFault_pwr ..
  sync := recordFault_sync ..
  src := s.reg_recordFault_ne e (.inl (by decide))
  clk := s.reg_recordFault_ne e (.inl (by decide))
  irq b _ h := by
    rw [flag, s.reg_recordFault_ne e (.inr rfl)]
    exact h

theorem recordLater_wakeKeeps : s.WakeKeeps s.recordLater := by
  have hf (l : List FaultEvent) (t : State) : t.WakeKeeps (l.foldl recordFault t) := by
    induction l generalizing t with
    | nil => exact ⟨rfl, rfl, rfl, rfl, fun _ _ => id⟩
    | cons e l ih => exact (t.recordFault_wakeKeeps e).trans (ih _)
  have h : s.WakeKeeps { s with fmon := { s.fmon with later := [] } } := ⟨rfl, rfl, rfl, rfl, fun _ _ => id⟩
  exact h.trans (hf _ _)

theorem nvmRelease_wakeKeeps : s.WakeKeeps s.nvmRelease := by
  obtain ⟨⟨g, n, ht⟩, hr, hi⟩ := s.nvmRelease_only
  refine ⟨?_, ?_, hr _ (by decide), hr _ (by decide), hi⟩
  all_goals rw [ht]

theorem drainInserted_wakeKeeps : s.WakeKeeps s.drainInserted :=
  ⟨drainInserted_pwr _, drainInserted_sync _, s.reg_drainInserted_ne (by decide), s.reg_drainInserted_ne (by decide),
    fun _ hb h => s.drainInserted_keeps_irq hb h⟩

theorem frameStart_wakeKeeps : s.WakeKeeps s.frameStart := by
  have hu : s.FrameKeeps s.roundApply.substFrame := (FrameKeeps.refl s).roundApply.substFrame
  rw [frameStart_eq]
  dsimp only
  generalize s.roundApply.substFrame = u at hu ⊢
  have hv : (u.frameBegun u.periodNow).FrameKeeps _ := (frameApplied_keepsFrame _ s.snap s.syncEn)
  generalize (u.frameBegun u.periodNow).frameApplied s.snap s.syncEn = v at hv ⊢
  have hw := (hv.other (u := { v with snap := v.snapNow }) (by rfl)).readTables
  generalize ({ v with snap := v.snapNow } : State).readTables = w at hw ⊢
  have hb : u.WakeKeeps (u.frameBegun u.periodNow) := ⟨rfl, rfl, rfl, rfl, fun _ _ => id⟩
  rw [oweFrame_frame]
  exact ((hu.wakeKeeps.trans hb).trans hw.wakeKeeps).trans ⟨rfl, rfl, rfl, rfl, fun _ _ => id⟩

theorem wakeFrame_wakeKeeps : s.WakeKeeps s.wakeFrame := by
  unfold wakeFrame
  generalize s.flag Reg.WAKE_SRC 15 = n
  generalize Vector.replicate 160 Position.ground = p
  have h : s.WakeKeeps { s with seq := { s.seq with noWait := n, pins := p } } := ⟨rfl, rfl, rfl, rfl, fun _ _ => id⟩
  dsimp only
  split
  · have hf := h.trans (frameStart_wakeKeeps _)
    generalize frameStart _ = t at hf ⊢
    generalize t.positions _ _ = v
    exact hf.trans ⟨rfl, rfl, rfl, rfl, fun _ _ => id⟩
  · exact h

theorem reg_syncClear_ne {q : RegId} (h : q ≠ Reg.SYNC_STAT) : s.syncClear.reg q = s.reg q :=
  (reg_setFld_ne _ _ _ _ h).trans ((reg_setFlag_ne _ _ _ h).trans (reg_setFlag_ne _ _ _ h))

theorem reg_vstart_ne {q : RegId} (h : q ≠ Reg.PMU_STAT) : s.vstart.reg q = s.reg q := reg_setFld_ne _ _ _ _ h

/-- The detectors and the pace are started afresh. -/
def sensingAfresh : State := (((s.setFld Reg.CLK_CTL 13 2 0).syncClear).vstart).detAbortAll false

theorem wakeAfresh_eq : s.wakeAfresh = { s.sensingAfresh with
    seq := { s.sensingAfresh.seq with analog := true },
    sync := { s.sensingAfresh.sync with seen := false, ivals := [], burst := false },
    queue := { s.sensingAfresh.queue with stopped := false } } := rfl

theorem reg_sensingAfresh {q : RegId} (h : q ∉ [Reg.GOERTZEL_STAT, Reg.PMU_STAT, Reg.SYNC_STAT]) :
    s.sensingAfresh.reg q = (s.setFld Reg.CLK_CTL 13 2 0).reg q := by
  simp only [List.mem_cons, not_or] at h
  obtain ⟨hg, hp, hs, -⟩ := h
  rw [sensingAfresh, reg_detAbortAll_ne _ _ hg, reg_vstart_ne _ hp, reg_syncClear_ne _ hs]

theorem sensingAfresh_pwr : s.sensingAfresh.pwr = s.pwr := by
  have hv (t : State) : t.vstart.pwr = t.pwr := rfl
  have hs (t : State) : t.syncClear.pwr = t.pwr := rfl
  rw [sensingAfresh, detAbortAll_frame]
  exact (hv _).trans (hs _)

theorem wakeAfresh_spec : s.wakeAfresh.pwr = s.pwr ∧ s.wakeAfresh.sync.seen = false ∧
    s.wakeAfresh.reg Reg.WAKE_SRC = s.reg Reg.WAKE_SRC ∧ s.wakeAfresh.fld Reg.CLK_CTL 13 2 = 0 := by
  have hp := s.sensingAfresh_pwr
  have hr {q : RegId} := s.reg_sensingAfresh (q := q)
  rw [wakeAfresh_eq]
  generalize s.sensingAfresh = u at *
  refine ⟨hp, rfl, (hr (by decide)).trans (reg_setFld_ne _ _ _ _ (by decide)), ?_⟩
  exact (congrArg (fun w => (bits w 13 2)) (hr (by decide))).trans (fld_setFld_same _ _ (by omega))

/-- The end of a wake (Table 11.10, step 6). -/
theorem wakeDone_spec : s.wakeDone.pwr.ready = true ∧ s.wakeDone.pwr.pstate = .active ∧
    s.wakeDone.flag Reg.INT_STAT Irq.WAKE = true ∧ s.wakeDone.fld Reg.WAKE_SRC 0 8 = (s.fld Reg.WAKE_SRC 0 8 + 1) % 256 ∧
    s.wakeDone.fld Reg.CLK_CTL 13 2 = 0 ∧ s.wakeDone.sync.seen = false := by
  unfold wakeDone
  dsimp only
  obtain ⟨hp, hs, hsrc, hclk⟩ := wakeAfresh_spec { s with pwr := { s.pwr with
    ready := true, step := 0, pstate := .active, hs := none, retried := false } }
  generalize wakeAfresh _ = u at *
  have hw := (((recordLater_wakeKeeps ((u.incFld Reg.WAKE_SRC 0 8).raise Irq.WAKE)).trans (nvmRelease_wakeKeeps _)).trans
    (drainInserted_wakeKeeps _)).trans (wakeFrame_wakeKeeps _)
  obtain ⟨hpwr, hsync, hws, hck, hirq⟩ := hw
  have hup : ((u.incFld Reg.WAKE_SRC 0 8).raise Irq.WAKE).pwr = u.pwr := rfl
  rw [hup, hp] at hpwr
  refine ⟨by rw [hpwr], by rw [hpwr], hirq _ (by decide) (flag_raise_same _ (by decide)), ?_, ?_, ?_⟩
  · rw [fld, hws, ← fld, fld_raise_ne _ _ _ _ (by decide), fld_incFld_same _ (by omega), fld, hsrc, fld]
    rfl
  · rw [fld, hck, ← fld, fld_raise_ne _ _ _ _ (by decide), incFld, fld_setFld_ne _ _ _ _ _ _ (by decide), hclk]
  · rw [hsync]
    exact hs

end State

/-- Settles O51. -/
theorem wakeSteps : Obligations.WakeSteps := by
  intro s f ha hw
  refine ⟨fun hn => ⟨fun h2 => ⟨?_, fun hf => ?_, fun hf => ?_⟩, fun h3 => ⟨?_, ?_⟩, fun h5 => ?_⟩, fun hn => ?_⟩
  · exact completes_of_guard rfl (State.powering_of ha hw hn h2) ⟨rfl, hw, rfl⟩
  · refine completes_of_guard (t := s.stepFailed .vcore) rfl (State.powering_of ha hw hn h2) ?_
    rw [s.stepFailed_of_fresh _ hf]
    exact ⟨rfl, rfl, hw, rfl⟩
  · exact completes_of_guard (t := s.stepFailed .vana) rfl (State.powering_of ha hw hn h2) (s.stepFailed_of_retried _ ha hf)
  · refine completes_of_guard (t := s.fioReady) rfl (State.powering_of ha hw hn h3) ?_
    rw [s.fioReady_of_wake (by rw [hw]; decide)]
    exact ⟨rfl, rfl⟩
  · exact completes_of_guard (t := s.wakeOnFio2) rfl (State.powering_of ha hw hn h3) (s.wakeOnFio2_spec hw)
  · exact completes_of_guard (t := s.wakeDone) rfl (by simp [State.powering_of ha hw hn h5, hw]) s.wakeDone_spec
  · exact completes_of_guard rfl (by simp [ha, hn]) ⟨rfl, rfl, rfl⟩

end Sys2Proof.Machine
end

section
/-! PROOFS. The pace servo and the opening of a Caldera frame (06, R176, R191, R194, R196). -/

namespace Sys2Proof.Machine

namespace State

variable (s : State)

/-! ### The pace servo -/

theorem vset_lt : s.vset < 32 := s.fld_lt ..

theorem vset_setVset (v : Nat) : (s.setVset v).vset = v % 32 := fld_setFld_same _ _ (by omega)

theorem reg_raiseVcore_ne {q : RegId} (h : q ≠ Reg.PMU_STAT) : s.raiseVcore.reg q = s.reg q := by
  unfold raiseVcore
  split
  · exact reg_setFlag_ne _ _ _ h
  · exact (reg_setFld_ne _ _ _ _ h).trans (reg_setFld_ne _ _ _ _ h)

theorem raiseVcore_frame : s.raiseVcore =
    { s with pace := { s.raiseVcore.pace with max := s.pace.max }, regs := s.raiseVcore.regs } := by
  unfold raiseVcore
  split <;> rfl

/-- A raise by one step, or CEIL at the highest code (R194). -/
theorem raiseVcore_vset : if 28 ≤ s.vset then s.raiseVcore.vset = s.vset ∧ s.raiseVcore.flag Reg.PMU_STAT 5 = true
    else s.raiseVcore.vset = s.vset + 1 := by
  unfold raiseVcore
  split
  · exact ⟨fld_setFlag_disjoint _ _ (by omega) (by omega), flag_setFlag_same _ _ _ _ (by omega)⟩
  · have hv : ((s.setVset (s.vset + 1)).incFld Reg.PMU_STAT 0 4).vset = s.vset + 1 := by
      refine (fld_setFld_disjoint _ _ (by omega) (by omega)).trans ((vset_setVset _ _).trans ?_)
      omega
    exact hv

theorem climb_of_none (h : s.pace.target = none) : s.climb = s := by
  unfold climb
  rw [h]

theorem climb_of_reached (h : s.pace.target = some s.vset) : s.climb = { s with pace := { s.pace with target := none } } := by
  unfold climb
  rw [h]
  exact if_pos rfl

theorem climb_of_short {g : Nat} (h : s.pace.target = some g) (hg : s.vset ≠ g) (hm : s.pace.moving = false) :
    s.climb = s.setVset (if s.vset < g then s.vset + 1 else s.vset - 1) := by
  unfold climb
  rw [h]
  exact (if_neg hg).trans (if_neg (by simp [hm]))

end State

/-- Settles O23. -/
theorem paceServo : Obligations.PaceServo := by
  intro s v hm
  refine ⟨?_, fun hmov => ?_⟩
  · let t : State := { s with pace := { s.pace with max := max s.pace.max v } }
    by_cases h : s.sched.valid = true ∧ s.servo = true ∧ s.paceLim < v ∧ recentRaise s.aon.time s.pace.raisedP = false
    · have hx : execPaceSample v s = .next { t.raiseVcore with pace := { t.raiseVcore.pace with
          raisedP := if t.vset < 28 then some t.aon.time else t.pace.raisedP } } := by
        obtain ⟨hv, hs, hl, hr⟩ := h
        refine congrArg Host.Outcome.next ((if_pos hm).trans (if_pos ?_))
        rw [show t.sched.valid = true from hv, show t.servo = true from hs, show recentRaise t.aon.time t.pace.raisedP = false from hr]
        exact (Bool.and_true _).trans (decide_eq_true hl)
      refine completes_of_eq hx ⟨?_, fun q hq => t.reg_raiseVcore_ne hq, ?_, ?_⟩
      · rw [t.raiseVcore_frame]
      · rw [t.raiseVcore_frame]
      · rw [if_pos h]
        exact t.raiseVcore_vset
    · have hx : execPaceSample v s = .next t := by
        refine congrArg Host.Outcome.next ((if_pos hm).trans (if_neg fun hc => h ?_))
        simp only [Bool.and_eq_true, Bool.not_eq_true', decide_eq_true_iff, and_assoc] at hc
        exact hc
      refine completes_of_eq hx ⟨rfl, fun q _ => rfl, rfl, ?_⟩
      rw [if_neg h]
      rfl
  · let u : State := { s with pace := { s.pace with moving := false } }
    refine completes_of_guard (t := u.climb) rfl (by simp [hm, hmov]) ?_
    rcases hg : s.pace.target with - | g
    · rw [u.climb_of_none hg]
      exact ⟨rfl, rfl, rfl⟩
    · by_cases hv : s.vset = g
      · rw [u.climb_of_reached (hg.trans (congrArg some hv.symm))]
        exact ⟨rfl, (if_pos hv).mpr ⟨hv, rfl⟩⟩
      · rw [u.climb_of_short hg hv rfl]
        refine ⟨rfl, ?_⟩
        dsimp only
        rw [if_neg hv]
        refine ⟨rfl, ?_⟩
        rw [State.vset_setVset, Nat.mod_mod]
        rfl

end Sys2Proof.Machine
end

section
/-! PROOFS. The opening of a Caldera frame (06, R33, R176). -/

namespace Sys2Proof.Machine

namespace State

variable (s : State)

theorem climb_cald : s.climb.cald = s.cald := by
  unfold climb
  repeat' split
  all_goals rfl

theorem servoOpen_cald : s.servoOpen.cald = s.cald := by
  unfold servoOpen
  dsimp only
  split
  · exact climb_cald _
  · split
    · exact climb_cald _
    · split <;> rfl

theorem scrubRewrite_cald (e : MemErr) : (s.scrubRewrite e).cald = s.cald := by
  unfold scrubRewrite
  dsimp only
  split
  · rw [mainFault_cald]
  · rfl

theorem scrubFound_cald : s.scrubFound.cald = s.cald := by
  have hf (l : List MemErr) (t : State) : (l.foldl scrubRewrite t).cald = t.cald := by
    induction l generalizing t with
    | nil => rfl
    | cons e l ih => exact (ih _).trans (t.scrubRewrite_cald e)
  unfold scrubFound
  split
  · exact hf _ _
  · rfl

theorem takeOver_of_none (h : s.cald.takeover = none) : s.takeOver = s := by
  unfold takeOver
  rw [h]

theorem opened_cald (h : s.cald.takeover = none) : s.servoOpen.takeOver.scrubFound.drainInserted.libOpen.cald = s.cald := by
  have hl (t : State) : t.libOpen.cald = t.cald := rfl
  rw [hl, drainInserted_cald, scrubFound_cald, takeOver_of_none _ (by rw [servoOpen_cald, h]), servoOpen_cald]

end State

/-! ### The cells at an open -/

theorem Cell.atOpen_get (k : Nat) (fc : Word) (x2 : Data) (r : XReg) : (Cell.atOpen k fc x2).get r =
    if r.val = 1 then fc.setWidth 24 else if r.val = 2 then x2 else if r.val = 3 then BitVec.ofNat 24 k else 0 := by
  unfold Cell.get Cell.atOpen
  dsimp only
  rw [Vector.get_eq_getElem, Vector.getElem_ofFn]
  obtain ⟨i, hi⟩ := r
  match i with
  | 0 | 1 | 2 | 3 => rfl
  | n + 4 => rfl

/-- The saturating count of frames since the schedule started, as a frame opens. -/
def State.frameCount (s : State) : Data :=
  if s.cald.restart then 0 else if s.cald.x2 = 0xFFFFFF then 0xFFFFFF else s.cald.x2 + 1

theorem State.frameCount_toNat (s : State) :
    s.frameCount.toNat = if s.cald.restart then 0 else min 0xFFFFFF (s.cald.x2.toNat + 1) := by
  unfold State.frameCount
  generalize s.cald.x2 = x
  split
  · rfl
  split
  · next h =>
    rw [h]
    rfl
  · next h =>
    have hx : x.toNat ≠ 0xFFFFFF := fun he => h (BitVec.eq_of_toNat_eq he)
    rw [BitVec.toNat_add]
    change x.toNat ≠ 16777215 at hx
    have hlt := x.isLt
    change (x.toNat + 1) % 2 ^ 24 = _
    omega

/-- The state that a frame's open presets. -/
def State.atOpen (s : State) : State := s.servoOpen.takeOver.scrubFound.drainInserted.libOpen

theorem State.openFrame_cell (s : State) (o : Owed) (rest : List Owed) (k : CellId) :
    (s.openFrame o rest).cell k = Cell.atOpen k.val o.fc s.atOpen.frameCount := by
  have h : (s.openFrame o rest).cald.cells = Vector.ofFn (fun k : Fin 7 => Cell.atOpen k.val o.fc s.atOpen.frameCount) := rfl
  rw [State.cell, h, Vector.get_eq_getElem, Vector.getElem_ofFn]

/-- Settles O21. -/
theorem openPresetsCells : Obligations.OpenPresetsCells := by
  intro s o rest hm ho hw ht
  have hx : execCalderaFrameOpen s = .next (s.openFrame o rest) := by
    unfold execCalderaFrameOpen
    rw [hw]
    exact congrArg Host.Outcome.next (if_pos (by simp [State.mayOpen, hm, ho, hw, ht]))
  have hc : s.atOpen.cald = s.cald := s.opened_cald ht
  refine completes_of_eq hx ⟨rfl, rfl, rfl, rfl, rfl, ?_, ?_, ?_, fun k => ?_⟩
  · exact show s.atOpen.cald.dmem = _ by rw [hc]
  · exact show s.atOpen.cald.imem = _ by rw [hc]
  · exact s.atOpen.frameCount_toNat.trans (by rw [hc])
  · simp only [s.openFrame_cell o rest k]
    refine ⟨rfl, rfl, rfl, rfl, rfl, rfl, rfl, ?_, ?_, ?_, fun r hr => ?_⟩
    · rw [Cell.atOpen_get]
      exact BitVec.toNat_setWidth_of_le (by omega)
    · rw [Cell.atOpen_get]
      rfl
    · rw [Cell.atOpen_get]
      exact Nat.mod_eq_of_lt (by omega)
    · rw [Cell.atOpen_get, if_neg (by omega), if_neg (by omega), if_neg (by omega)]

end Sys2Proof.Machine
end

section
/-! PROOFS. Stalls and takeovers (06, R196, Table 6.8). -/

namespace Sys2Proof.Machine

namespace State

variable (s : State)

/-- The stall is told and passed to the fault monitor (R196). -/
def stallTold (c : CellId) : State := ((s.setFlag Reg.SCHED_STAT 13 true).raise Irq.SCHED).noteStall c

/-- The stall is counted for its cell; a second one in a row is a fault. -/
def stallCounted (c : CellId) : State :=
  if s.cald.stalls.contains c then s
  else
    let u := { s with cald := { s.cald with stalls := s.cald.stalls ++ [c] } }
    if u.cald.stalled.contains c then u.secondStall c else u

theorem mainFault_stall (flag cls outcome elem : Nat) (detail subst : Word) :
    (s.mainFault flag cls outcome elem detail subst).fmon.stall = s.fmon.stall := by
  unfold mainFault faultEvent
  dsimp only
  split
  · rw [recordFault_fmon]
    rfl
  · rfl

theorem stallCounted_spec (c : CellId) : c ∈ (s.stallCounted c).cald.stalls ∧
    (s.stallCounted c).cald.cells = s.cald.cells ∧ (s.stallCounted c).cald.isOpen = s.cald.isOpen ∧
    (s.stallCounted c).fmon.stall = s.fmon.stall ∧ (s.stallCounted c).reg Reg.SCHED_STAT = s.reg Reg.SCHED_STAT ∧
    ∀ b < 16, s.flag Reg.INT_STAT b = true → (s.stallCounted c).flag Reg.INT_STAT b = true := by
  unfold stallCounted
  dsimp only
  split
  · next h => exact ⟨List.contains_iff_mem.1 h, rfl, rfl, rfl, rfl, fun _ _ => id⟩
  · split
    · unfold secondStall
      dsimp only
      rw [mainFault_cald, mainFault_stall, reg_mainFault_ne _ _ _ _ _ _ _ (by decide) (by decide)]
      exact ⟨List.mem_append_right _ (List.mem_singleton_self _), rfl, rfl, rfl, rfl, fun b hb h => mainFault_keeps_irq _ _ _ _ _ _ _ hb h⟩
    · exact ⟨List.mem_append_right _ (List.mem_singleton_self _), rfl, rfl, rfl, rfl, fun _ _ => id⟩

/-! ### The takeover's copy -/

theorem memRead_block {α : Type} [DecidableEq α] {d : Nat → α} {m : List (Nat × α)} {o n len : Nat}
    (h : Memory.wf d m = true) (hd : ∀ a b, d a = d b) (q a : Nat) (hl : 0 < len) :
    memRead d (memCopy d m (o * len) (n * len) len) (q * len + a % len) =
      if q = n then memRead d m (o * len + a % len) else memRead d m (q * len + a % len) := by
  have ha := Nat.mod_lt a hl
  rw [memRead_memCopy h fun _ _ => hd _ _]
  by_cases hq : q = n
  · subst hq
    rw [if_pos ⟨Nat.le_add_right .., by omega⟩, if_pos rfl]
    congr 1
    omega
  · rw [if_neg hq, if_neg]
    rintro ⟨h₁, h₂⟩
    rcases Nat.lt_or_gt_of_ne hq with hlt | hlt
    · have := Nat.mul_le_mul_right len (show q + 1 ≤ n by omega)
      rw [Nat.succ_mul] at this
      omega
    · have := Nat.mul_le_mul_right len (show n + 1 ≤ q by omega)
      rw [Nat.succ_mul] at this
      omega

/-! ### The suspected cell's self-test -/

/-- What the end of a self-test reports. -/
def selfTestEvent (p : PhysId) (c : CellId) (out code : Nat) : FaultEvent :=
  { cls := FaultClass.CELL, outcome := out, elem := p.val, detail := word (0xFF00 + code),
    subst := word (s.holder c).val, counted := false }

/-- The suspected cell is the spare, or retired. -/
def selfTested (p : PhysId) (c : CellId) : State :=
  let t := { s with cald := { s.cald with testing := none } }
  let u := t.setFlag Reg.FAULT_STAT 13 true
  if u.cellFaulty p then
    { u with cald := { u.cald with retired := u.cald.retired ++ [p] } }.faultEvent (s.selfTestEvent p c 1 3)
  else
    ({ u with cald := { u.cald with spare := some p } }.setFlag Reg.SCHED_STAT 11 false).faultEvent (s.selfTestEvent p c 2 4)

theorem selfTested_spec (p : PhysId) (c : CellId) : (s.selfTested p c).cald.testing = none ∧
    if s.cellFaulty p then p ∈ (s.selfTested p c).cald.retired ∧ (s.selfTested p c).cald.spare = s.cald.spare
    else (s.selfTested p c).cald.spare = some p ∧ (s.selfTested p c).flag Reg.SCHED_STAT 11 = false := by
  have hf : (State.setFlag { s with cald := { s.cald with testing := none } } Reg.FAULT_STAT 13 true).cellFaulty p =
      s.cellFaulty p := rfl
  unfold selfTested
  dsimp only
  rw [hf]
  split
  · rw [faultEvent_cald]
    exact ⟨rfl, List.mem_append_right _ (List.mem_singleton_self _), rfl⟩
  · rw [faultEvent_cald]
    refine ⟨rfl, rfl, ?_⟩
    rw [flag, reg_faultEvent_ne _ _ (by decide)]
    exact flag_setFlag_same _ _ _ _ (by omega)

end State

/-- Settles O22. -/
theorem stallAndTakeover : Obligations.StallAndTakeover := by
  refine ⟨fun s c hm ho hd => ⟨fun hw => ?_, fun hw => ?_⟩, fun s k p l hm hwf => ⟨fun hk hc hne => ?_, fun ht => ?_⟩⟩
  · refine completes_of_guard (t := (s.stallTold c).stallCounted c) rfl (by simp [hm, ho, hd, hw]) ?_
    obtain ⟨hs, hcells, hopen, hstall, hreg, hirq⟩ := (s.stallTold c).stallCounted_spec c
    refine ⟨?_, hirq _ (by decide) (State.flag_raise_same _ (by decide)), hs, ?_, hcells, hopen.trans ho⟩
    · rw [State.flag, hreg]
      exact (State.flag_raise_ne _ _ _ (by decide)).trans (State.flag_setFlag_same _ _ _ _ (by omega))
    · refine hstall.trans ?_
      change some (StallNote.mk _ c (s.cell c).st.port) = _
      generalize (s.cell c).st = x
      cases x <;> rfl
  · exact exec_of_not_guard rfl (by simp [hw])
  · have hx : execTakeoverCopyDone s = .next { s with
        sched := { s.sched with state := if s.sched.state = .copy then .running else s.sched.state },
        cald := { s.cald with
          imem := memCopy imemDefault s.cald.imem (k.old.val * 2048) (k.new.val * 2048) 2048,
          dmem := memCopy dmemDefault s.cald.dmem (k.old.val * 4096) (k.new.val * 4096) 4096,
          takeover := some { k with copied := true }, testing := some (k.old, k.logical) } } := by
      unfold execTakeoverCopyDone
      rw [hk]
      exact congrArg Host.Outcome.next (if_pos (by simp [hm, hc]))
    refine completes_of_eq hx ⟨fun a _ => ?_, fun a _ => ?_, fun q hq a => ?_, rfl, rfl, rfl, rfl⟩
    · exact (State.memRead_block hwf.dmem (fun _ _ => rfl) _ _ (by omega)).trans (if_pos rfl)
    · exact (State.memRead_block hwf.imem (fun _ _ => rfl) _ _ (by omega)).trans (if_pos rfl)
    · exact (State.memRead_block hwf.dmem (fun _ _ => rfl) _ _ (by omega)).trans (if_neg fun h => hq (Fin.ext h))
  · have hx : execCellSelfTestDone s = .next (s.selfTested p l) := by
      unfold execCellSelfTestDone
      rw [ht]
      exact congrArg Host.Outcome.next (if_pos hm)
    exact completes_of_eq hx (s.selfTested_spec p l)

end Sys2Proof.Machine
end

section
/-! PROOFS. What follows the close of a Caldera frame (06, R187, R424; 09, R285). -/

namespace Sys2Proof.Machine

namespace State

variable (s : State)

/-! ### The frame is over -/

theorem frameOver_cell (k : CellId) : s.frameOver.cell k = { s.cell k with st := .idle } := by
  have h : s.frameOver.cald.cells = s.cald.cells.map (fun c => { c with st := .idle }) := rfl
  rw [cell, h, Vector.get_eq_getElem, Vector.getElem_map]
  rfl

theorem mem_frameOver_rowHeld (r : Nat) : r ∈ s.frameOver.rowHeld ↔ r ∈ s.rowHeld ∧ r ∉ s.frameRows := by
  change r ∈ s.rowHeld.filter (fun r => !s.frameRows.contains r) ↔ _
  simp [List.mem_filter]

theorem frameOver_frame : ∃ g p, s.frameOver = { s with
    regs := g, pace := p, rowHeld := s.frameOver.rowHeld, cald := s.frameOver.cald } := ⟨_, _, rfl⟩

/-! ### A takeover, or a restart -/

/-- `n` more items have been committed to the queue, and none is staged. -/
def Grows (n : Nat) (s t : State) : Prop :=
  (∃ l, t.queue.items = s.queue.items ++ l ∧ l.length ≤ n) ∧ t.queue.staged = []

variable {s} in
theorem Grows.trans {m n : Nat} {t u : State} (h₁ : s.Grows m t) (h₂ : t.Grows n u) : s.Grows (m + n) u := by
  obtain ⟨⟨l, hl, hm⟩, -⟩ := h₁
  obtain ⟨⟨k, hk, hn⟩, hst⟩ := h₂
  refine ⟨⟨l ++ k, ?_, ?_⟩, hst⟩
  · rw [hk, hl, List.append_assoc]
  · rw [List.length_append]
    omega

variable {s} in
theorem Grows.of_eq {t : State} (hi : t.queue.items = s.queue.items) (hs : t.queue.staged = s.queue.staged)
    (h : s.queue.staged = []) : s.Grows 0 t :=
  ⟨⟨[], hi.trans (List.append_nil _).symm, Nat.le_refl 0⟩, hs.trans h⟩

/-- The registers that a takeover, a restart or their records update. -/
def takeoverRegs : List RegId := [Reg.SCHED_STAT, Reg.FAULT_STAT, Reg.PWR_VOTE] ++ faultRegs

/-- What a takeover, a restart or their records keep; with nothing staged, the queue grows by at most `n` items. -/
structure CloseKeeps (s : State) (n : Nat) (t : State) : Prop where
  isOpen : t.cald.isOpen = s.cald.isOpen
  rows : t.cald.rows = s.cald.rows
  cells : t.cald.cells = s.cald.cells
  dmem : t.cald.dmem = s.cald.dmem
  imem : t.cald.imem = s.cald.imem
  rowHeld : t.rowHeld = s.rowHeld
  flash : t.flash = s.flash
  tables : t.tables = s.tables
  pins : t.seq.pins = s.seq.pins
  hopPub : t.seq.hopPub = s.seq.hopPub
  ring : t.ring = s.ring
  items : s.queue.staged = [] → s.Grows n t
  reg : ∀ q, q ∉ takeoverRegs → t.reg q = s.reg q
  stat : ∀ lo w, lo + w ≤ 10 → t.fld Reg.SCHED_STAT lo w = s.fld Reg.SCHED_STAT lo w
  irq : ∀ b < 16, s.flag Reg.INT_STAT b = true → t.flag Reg.INT_STAT b = true

namespace CloseKeeps

variable {s} {n : Nat} {t u : State}

theorem refl (s : State) : s.CloseKeeps 0 s :=
  ⟨rfl, rfl, rfl, rfl, rfl, rfl, rfl, rfl, rfl, rfl, rfl, Grows.of_eq rfl rfl, fun _ _ => rfl, fun _ _ _ => rfl, fun _ _ => id⟩

theorem trans {m : Nat} (h₁ : s.CloseKeeps m t) (h₂ : t.CloseKeeps n u) : s.CloseKeeps (m + n) u where
  isOpen := h₂.isOpen.trans h₁.isOpen
  rows := h₂.rows.trans h₁.rows
  cells := h₂.cells.trans h₁.cells
  dmem := h₂.dmem.trans h₁.dmem
  imem := h₂.imem.trans h₁.imem
  rowHeld := h₂.rowHeld.trans h₁.rowHeld
  flash := h₂.flash.trans h₁.flash
  tables := h₂.tables.trans h₁.tables
  pins := h₂.pins.trans h₁.pins
  hopPub := h₂.hopPub.trans h₁.hopPub
  ring := h₂.ring.trans h₁.ring
  items h := (h₁.items h).trans (h₂.items (h₁.items h).2)
  reg q hq := (h₂.reg q hq).trans (h₁.reg q hq)
  stat lo w h := (h₂.stat lo w h).trans (h₁.stat lo w h)
  irq b hb h := h₂.irq b hb (h₁.irq b hb h)

theorem keep (h₁ : s.CloseKeeps n t) (h₂ : t.CloseKeeps 0 u) : s.CloseKeeps n u := h₁.trans h₂

/-- A write of one of these registers that keeps the counts of SCHED_STAT and the flags of INT_STAT. -/
theorem setReg (h : s.CloseKeeps n t) {q : RegId} {v : Word} (hq : q ∈ takeoverRegs)
    (hs : ∀ lo w, lo + w ≤ 10 → (t.setReg q v).fld Reg.SCHED_STAT lo w = t.fld Reg.SCHED_STAT lo w)
    (hi : ∀ b < 16, t.flag Reg.INT_STAT b = true → (t.setReg q v).flag Reg.INT_STAT b = true) :
    s.CloseKeeps n (t.setReg q v) :=
  h.keep ⟨rfl, rfl, rfl, rfl, rfl, rfl, rfl, rfl, rfl, rfl, rfl, Grows.of_eq rfl rfl,
    fun _ hr => reg_setReg_ne _ _ fun he => hr (he ▸ hq), hs, hi⟩

/-- A flag of one of these registers, of SCHED_STAT one above its counts. -/
theorem setFlag (h : s.CloseKeeps n t) {q : RegId} (hq : q ∈ takeoverRegs) (hi : Reg.INT_STAT ≠ q) {b : Nat}
    (hb : Reg.SCHED_STAT ≠ q ∨ 10 ≤ b ∧ b < 16) (v : Bool) : s.CloseKeeps n (t.setFlag q b v) := by
  refine h.setReg hq (fun lo w hw => ?_) fun _ _ hf => (flag_setReg_ne _ _ _ hi).trans hf
  by_cases he : Reg.SCHED_STAT = q
  · subst he
    obtain ⟨h₁, h₂⟩ := hb.resolve_left (absurd rfl)
    exact fld_setFlag_disjoint t v (by omega) (by omega)
  · exact fld_setReg_ne _ _ _ _ he

/-- A change of what is told nowhere here. -/
theorem other (h : s.CloseKeeps n t) (he : u = { t with
    sched := u.sched, fmon := u.fmon, snap := u.snap, pace := u.pace,
    cald := { u.cald with
      isOpen := t.cald.isOpen, rows := t.cald.rows, cells := t.cald.cells, dmem := t.cald.dmem, imem := t.cald.imem },
    queue := { u.queue with items := t.queue.items, staged := t.queue.staged } }) : s.CloseKeeps n u := by
  rw [he]
  exact h.keep ⟨rfl, rfl, rfl, rfl, rfl, rfl, rfl, rfl, rfl, rfl, rfl, Grows.of_eq rfl rfl, fun _ _ => rfl, fun _ _ _ => rfl, fun _ _ => id⟩

theorem countDrops (h : s.CloseKeeps n t) (k : Nat) : s.CloseKeeps n (t.countDrops k) :=
  h.setReg (by decide) (fun _ _ _ => fld_setReg_ne _ _ _ _ (by decide)) fun _ _ hf => (flag_setReg_ne _ _ _ (by decide)).trans hf

theorem insertRec (h : s.CloseKeeps n t) (r : Rec) : s.CloseKeeps n (t.insertRec r) := by
  unfold State.insertRec
  split
  · exact h.other rfl
  · have hg : s.CloseKeeps n { t with queue := { t.queue with
        gap := some (gapDrop t.queue.gap t.seq.fc t.time16), saved := some (gapDrop t.queue.saved t.seq.fc t.time16) } } :=
      h.other rfl
    exact (hg.countDrops 1).setFlag (q := Reg.RPT_STAT) (by decide) (by decide) (.inl (by decide)) _

theorem recordFault (h : s.CloseKeeps n t) (e : FaultEvent) : s.CloseKeeps n (t.recordFault e) := by
  have hw {t : State} (h : s.CloseKeeps n t) (q : RegId) (v : Word) (hq : q ∈ takeoverRegs) (hs : Reg.SCHED_STAT ≠ q)
      (hi : Reg.INT_STAT ≠ q) : s.CloseKeeps n (t.setReg q v) :=
    h.setReg hq (fun _ _ _ => fld_setReg_ne _ _ _ _ hs) fun _ _ hf => (flag_setReg_ne _ _ _ hi).trans hf
  have hc {t : State} (h : s.CloseKeeps n t) (v : Word) : s.CloseKeeps n (t.setReg Reg.FAULT_CNT v) :=
    hw h Reg.FAULT_CNT v (by decide) (by decide) (by decide)
  unfold State.recordFault
  have h₁ := hw h Reg.FAULT_INFO (word (e.cls * 4096 + e.outcome * 1024 + e.elem)) (by decide) (by decide) (by decide)
  dsimp only
  generalize t.setReg Reg.FAULT_INFO _ = u at h₁ ⊢
  have h₂ : s.CloseKeeps n (if (e.counted && e.outcome == 0) = true then u.satFld Reg.FAULT_CNT 4 4
      else if (e.counted && e.outcome == 1) = true then u.satFld Reg.FAULT_CNT 0 4 else u) := by
    split
    · exact hc h₁ _
    · split
      · exact hc h₁ _
      · exact h₁
  generalize (if (e.counted && e.outcome == 0) = true then _ else _) = w at h₂ ⊢
  split
  · exact h₂.insertRec _
  · exact h₂

theorem faultEvent (h : s.CloseKeeps n t) (e : FaultEvent) : s.CloseKeeps n (t.faultEvent e) := by
  have hr : s.CloseKeeps n (t.raise Irq.FAULT) :=
    h.setReg (by decide) (fun _ _ _ => fld_setReg_ne _ _ _ _ (by decide)) fun _ hb hf => raise_keeps_irq _ hb hf
  unfold State.faultEvent
  dsimp only
  split
  · exact hr.recordFault e
  · exact hr.other rfl

theorem restartSchedule (h : s.CloseKeeps n t) : s.CloseKeeps n t.restartSchedule :=
  (h.setFlag (q := Reg.PWR_VOTE) (by decide) (by decide) (b := 1) (.inl (by decide)) true).other rfl

theorem beginTakeover (h : s.CloseKeeps n t) (c : CellId) (q : PhysId) : s.CloseKeeps n (t.beginTakeover c q) :=
  ((h.setFlag (q := Reg.SCHED_STAT) (by decide) (by decide) (b := 11) (.inr (by omega)) true).setFlag (q := Reg.FAULT_STAT)
    (by decide) (by decide) (b := 13) (.inl (by decide)) true).other rfl

theorem afterMismatch (h : s.CloseKeeps n t) : s.CloseKeeps n t.afterMismatch := by
  unfold State.afterMismatch
  split
  · exact (h.beginTakeover _ _).faultEvent _
  · exact h.other rfl

theorem afterStalls (h : s.CloseKeeps n t) (l : List CellId) : s.CloseKeeps n (t.afterStalls l) := by
  have hf {u : State} (h : s.CloseKeeps n u) (b : Nat) : s.CloseKeeps n (u.setFlag Reg.FAULT_STAT b true) :=
    h.setFlag (by decide) (by decide) (.inl (by decide)) _
  unfold State.afterStalls
  split
  · exact h
  · split
    · exact h
    · split
      · exact hf h 5
      · split
        · split
          · exact h.beginTakeover _ _
          · exact (hf h 5).beginTakeover _ _
        · exact (((hf h 13).setFlag (q := Reg.FAULT_STAT) (by decide) (by decide) (b := 5) (.inl (by decide)) true).restartSchedule).insertRec _

end CloseKeeps

/-! ### What the close lets out of the insert queue -/

theorem pushRec_items (r : Rec) (h : s.queue.staged = []) :
    (s.pushRec r).queue.items = s.queue.items ∧ (s.pushRec r).queue.staged.length ≤ 2 := by
  unfold pushRec
  split
  · exact ⟨rfl, by rw [show State.queue _ = _ from rfl]; simp [h]⟩
  · cases s.queue.gap with
    | none =>
      refine ⟨rfl, ?_⟩
      change (s.queue.staged ++ [] ++ [r]).length ≤ 2
      simp [h]
    | some g =>
      refine ⟨rfl, ?_⟩
      change (s.queue.staged ++ [gapRec g r] ++ [r]).length ≤ 2
      simp [h]

theorem commitInserted_items : ∃ l, s.commitInserted.queue.items = s.queue.items ++ l ∧ l = s.queue.staged ∧
    s.commitInserted.queue.staged = [] := by
  unfold commitInserted
  split
  · next h =>
    have hs : s.queue.staged = [] := List.isEmpty_iff.1 h
    exact ⟨[], (List.append_nil _).symm, hs.symm, hs⟩
  · rw [commitQueue_frame]
    exact ⟨_, rfl, rfl, rfl⟩

theorem pushInserted_grows (h : s.queue.staged = []) : s.Grows 2 s.pushInserted := by
  unfold pushInserted
  split
  · exact ⟨⟨[], (List.append_nil _).symm, by simp⟩, h⟩
  · split
    · exact ⟨⟨[], (List.append_nil _).symm, by simp⟩, h⟩
    · next r rest _ _ =>
      dsimp only
      obtain ⟨hi, hl⟩ := pushRec_items { s with queue := { s.queue with ins := rest } } ((r.set 1 s.seq.fc).set 2 s.time16) h
      generalize pushRec _ _ = u at hi hl ⊢
      obtain ⟨l, hc, rfl, hst⟩ := u.commitInserted_items
      exact ⟨⟨_, hc.trans (congrArg (· ++ _) hi), hl⟩, hst⟩

theorem drainInserted_grows (h : s.queue.staged = []) : s.Grows 8 s.drainInserted := by
  have h₁ := s.pushInserted_grows h
  have h₂ := h₁.trans (pushInserted_grows _ h₁.2)
  have h₃ := h₂.trans (pushInserted_grows _ h₂.2)
  exact h₃.trans (pushInserted_grows _ h₃.2)

theorem dueAtClose_seq : s.dueAtClose.seq.pins = s.seq.pins ∧ s.dueAtClose.seq.hopPub = s.seq.hopPub := by
  unfold dueAtClose
  split
  · rw [quiesceCheck_seq]
    exact ⟨rfl, rfl⟩
  · split
    · rw [beginQuiesce, quiesceCheck_seq]
      exact ⟨rfl, rfl⟩
    · exact ⟨rfl, rfl⟩

/-- What the end of every close leaves: the queue only grows by inserted records (R285). -/
theorem afterClose_keeps : s.CloseKeeps 8 s.afterClose := by
  have hd := s.drainInserted.dueAtClose_frame
  obtain ⟨hp, ho⟩ := s.drainInserted.dueAtClose_seq
  rw [drainInserted_seq] at hp ho
  have hc := s.afterClose_cald
  have hr {q : RegId} (h : q ∉ queueRegs) := s.reg_afterClose_ne h
  rw [afterClose] at *
  refine ⟨by rw [hc], by rw [hc], by rw [hc], by rw [hc], by rw [hc], ?_, ?_, ?_, hp, ho, ?_, fun h => ?_, fun q hq => hr ?_,
    fun lo w _ => ?_, fun b hb hi => ?_⟩
  · rw [hd]
    exact drainInserted_rowHeld ..
  · rw [hd]
    exact drainInserted_flash ..
  · rw [hd]
    exact drainInserted_tables ..
  · rw [hd]
    exact drainInserted_ring ..
  · rw [hd]
    exact s.drainInserted_grows h
  · exact fun h => hq (by revert h; revert q; decide)
  · rw [fld, hr (by decide), fld]
  · rw [hd]
    exact s.drainInserted_keeps_irq hb hi

/-- What follows a frame that is over. -/
def closed (twice : List CellId) : State := (s.afterMismatch.afterStalls twice).afterClose

theorem closed_keeps (twice : List CellId) : s.CloseKeeps 8 (s.closed twice) :=
  ((CloseKeeps.refl s).afterMismatch.afterStalls twice).trans (afterClose_keeps _)

/-- Without a second stall in a row no restart holds the SCHED vote. -/
theorem closed_vote : (s.closed []).reg Reg.PWR_VOTE = s.reg Reg.PWR_VOTE := by
  refine (reg_afterClose_ne _ (by decide)).trans ?_
  change s.afterMismatch.reg Reg.PWR_VOTE = _
  unfold afterMismatch
  split
  · refine (reg_faultEvent_ne _ _ (by decide)).trans ?_
    exact (reg_setFlag_ne _ _ _ (by decide)).trans (reg_setFlag_ne _ _ _ (by decide))
  · rfl

end State
end Sys2Proof.Machine
end

section
/-! PROOFS. The commit of a Caldera frame: publications, vote, ring entries (06, R183, R186, R442). -/

namespace Sys2Proof.Machine

/-! ### Of several staged settings, that of the highest cell -/

/-- A staged setting replaces one of a cell that is not higher. -/
def supersede {α : Type} (b : Option (Nat × α)) (p : Nat × α) : Option (Nat × α) := match b with
  | some w => if w.1 ≤ p.1 then some p else b
  | none => some p

/-- A setting is not above `(k, v)`: it is of a lower cell, or the same. -/
def NotAbove {α : Type} (k : Nat) (v : α) (p : Nat × α) : Prop := p.1 < k ∨ p.1 = k ∧ p.2 = v

theorem supersede_notAbove {α : Type} {k : Nat} {v : α} {b : Option (Nat × α)} {p : Nat × α}
    (hb : ∀ w, b = some w → NotAbove k v w) (hp : NotAbove k v p) : ∀ w, supersede b p = some w → NotAbove k v w := by
  intro w hw
  cases b with
  | none => exact Option.some.inj hw ▸ hp
  | some u =>
    by_cases hu : u.1 ≤ p.1
    · rw [supersede, if_pos hu] at hw
      exact Option.some.inj hw ▸ hp
    · rw [supersede, if_neg hu] at hw
      exact hb w hw

theorem supersede_top {α : Type} {k : Nat} {v : α} {b : Option (Nat × α)} {p : Nat × α}
    (hb : ∀ w, b = some w → NotAbove k v w) (hp : NotAbove k v p) (h : b = some (k, v) ∨ p = (k, v)) :
    supersede b p = some (k, v) := by
  rcases h with rfl | rfl
  · rcases hp with hlt | ⟨rfl, rfl⟩
    · exact if_neg (Nat.not_le.2 hlt)
    · exact if_pos (Nat.le_refl _)
  · cases b with
    | none => rfl
    | some w =>
      refine if_pos ?_
      rcases hb w rfl with hlt | ⟨he, -⟩
      · exact Nat.le_of_lt hlt
      · exact Nat.le_of_eq he

theorem foldl_supersede {α : Type} {k : Nat} {v : α} {l : List (Nat × α)} {b : Option (Nat × α)}
    (hb : ∀ w, b = some w → NotAbove k v w) (hl : ∀ p ∈ l, NotAbove k v p) (h : b = some (k, v) ∨ (k, v) ∈ l) :
    l.foldl supersede b = some (k, v) := by
  induction l generalizing b with
  | nil => exact h.resolve_right List.not_mem_nil
  | cons p l ih =>
    have hp := hl p (List.mem_cons_self ..)
    refine ih (supersede_notAbove hb hp) (fun q hq => hl q (List.mem_cons_of_mem _ hq)) ?_
    rcases h with h | h
    · exact .inl (supersede_top hb hp (.inl h))
    · rcases List.mem_cons.1 h with h | h
      · exact .inl (supersede_top hb hp (.inr h.symm))
      · exact .inr h

/-- The staged publications of a target, with their cells. -/
def pubsOf (l : List (Nat × Nat × Word)) (target : Nat) : List (Nat × Word) :=
  l.filterMap (fun p => if p.2.1 = target then some (p.1, p.2.2) else none)

theorem pubValue_eq (l : List (Nat × Nat × Word)) (target : Nat) :
    pubValue l target = ((pubsOf l target).foldl supersede none).map Prod.snd := by
  rw [pubsOf, List.foldl_filterMap, pubValue]
  congr 2
  funext b p
  by_cases h : p.2.1 = target
  · simp only [h, if_true]
    cases b <;> rfl
  · simp only [h, if_false]

theorem mem_pubsOf {l : List (Nat × Nat × Word)} {g k : Nat} {v : Word} : (k, v) ∈ pubsOf l g ↔ (k, g, v) ∈ l := by
  simp only [pubsOf, List.mem_filterMap]
  constructor
  · rintro ⟨⟨k', g', v'⟩, hm, h⟩
    by_cases hg : g' = g
    · simp only [hg, if_true, Option.some.injEq, Prod.mk.injEq] at h
      obtain ⟨rfl, rfl⟩ := h
      exact hg ▸ hm
    · simp [hg] at h
  · exact fun h => ⟨_, h, if_pos rfl⟩

namespace State

variable (s : State)

theorem pubValue_of_lastPub {s : State} {g : Nat} {v : Word} (h : s.lastPub g v) : pubValue s.cald.pubs g = some v := by
  obtain ⟨k, hk, hall⟩ := h
  rw [pubValue_eq, foldl_supersede (k := k) (v := v) (by simp) (fun p hp => hall _ _ (mem_pubsOf.1 hp)) (.inr (mem_pubsOf.2 hk))]
  rfl

theorem pubValue_of_none {s : State} {g : Nat} (h : ∀ k v, (k, g, v) ∉ s.cald.pubs) : pubValue s.cald.pubs g = none := by
  have hn : pubsOf s.cald.pubs g = [] := List.eq_nil_iff_forall_not_mem.2 fun p hp => h _ _ (mem_pubsOf.1 hp)
  rw [pubValue_eq, hn]
  rfl

/-! ### Publication -/

/-- The registers that a publication target updates. -/
def pubRegs (k : Nat) : List RegId :=
  if k = 0x03 then [Reg.INT_STAT, Reg.GEYSER_THR] else if k = 0x2F then [Reg.BASE_CTL] else if k = 0x31 then [Reg.TOUCH_STAT]
  else if k = 0x32 then [Reg.KEY_STAT] else []

theorem publish_frame (k : Nat) (v : Word) : ∃ g y h, s.publish k v =
    { s with regs := g, geyser := y, seq := { s.seq with hopPub := h } } := by
  unfold publish
  split
  · split
    · exact ⟨_, _, _, rfl⟩
    · exact ⟨_, _, _, rfl⟩
  · split
    · exact ⟨_, _, _, rfl⟩
    · exact ⟨_, _, _, rfl⟩
  all_goals exact ⟨_, _, _, rfl⟩

theorem reg_publish_ne (k : Nat) (v : Word) {q : RegId} (h : q ∉ pubRegs k) : (s.publish k v).reg q = s.reg q := by
  unfold publish
  split
  · simp only [pubRegs, if_true, List.mem_cons, not_or] at h
    split
    · exact (reg_setFlag_ne _ _ _ h.2.1).trans (reg_raise_ne _ _ h.1)
    · rfl
  · have hb : q ≠ Reg.BASE_CTL := fun he => h (he ▸ by decide)
    split
    · rfl
    · exact reg_setFlag_ne _ _ _ hb
  · exact reg_setReg_ne _ _ fun he => h (he ▸ by decide)
  · exact reg_setReg_ne _ _ fun he => h (he ▸ by decide)
  · rfl
  · rfl

theorem publish_keeps_irq (k : Nat) (v : Word) {b : Nat} (hb : b < 16) (h : s.flag Reg.INT_STAT b = true) :
    (s.publish k v).flag Reg.INT_STAT b = true := by
  by_cases hk : k = 0x03
  · subst hk
    change (if v.getLsbD 14 then s.gwake else s).flag Reg.INT_STAT b = true
    split
    · exact (flag_setFlag_ne _ _ _ _ (by decide)).trans (raise_keeps_irq _ hb h)
    · exact h
  · have hn : Reg.INT_STAT ∉ pubRegs k := by
      unfold pubRegs
      rw [if_neg hk]
      repeat' split
      all_goals decide
    rw [flag, s.reg_publish_ne k v hn]
    exact h

theorem publish_hopPub (k : Nat) (v : Word) (h : k ≠ 0x80) : (s.publish k v).seq.hopPub = s.seq.hopPub := by
  unfold publish
  split
  · split <;> rfl
  · split <;> rfl
  · rfl
  · rfl
  · exact absurd rfl h
  · rfl

/-- The publication of a target takes effect, if one is staged. -/
def publishOf (l : List (Nat × Nat × Word)) (t : State) (k : Nat) : State := match pubValue l k with
  | some v => t.publish k v
  | none => t

theorem publishAll_eq : s.publishAll = [0x03, 0x2F, 0x31, 0x32, 0x80].foldl (publishOf s.cald.pubs) s := rfl

variable (l : List (Nat × Nat × Word))

theorem publishOf_frame (k : Nat) : ∃ g y h, s.publishOf l k =
    { s with regs := g, geyser := y, seq := { s.seq with hopPub := h } } := by
  unfold publishOf
  split
  · exact s.publish_frame _ _
  · exact ⟨_, _, _, rfl⟩

theorem reg_publishOf_ne (k : Nat) {q : RegId} (h : q ∉ pubRegs k) : (s.publishOf l k).reg q = s.reg q := by
  unfold publishOf
  split
  · exact s.reg_publish_ne _ _ h
  · rfl

theorem publishOf_keeps_irq (k : Nat) {b : Nat} (hb : b < 16) (h : s.flag Reg.INT_STAT b = true) :
    (s.publishOf l k).flag Reg.INT_STAT b = true := by
  unfold publishOf
  split
  · exact s.publish_keeps_irq _ _ hb h
  · exact h

theorem publishOf_hopPub (k : Nat) (h : k ≠ 0x80) : (s.publishOf l k).seq.hopPub = s.seq.hopPub := by
  unfold publishOf
  split
  · exact s.publish_hopPub _ _ h
  · rfl

theorem publishOf_of_some {k : Nat} {v : Word} (h : pubValue l k = some v) : s.publishOf l k = s.publish k v := by
  unfold publishOf
  rw [h]

theorem publishAll_frame : ∃ g y h, s.publishAll = { s with regs := g, geyser := y, seq := { s.seq with hopPub := h } } := by
  rw [publishAll_eq]
  generalize s.cald.pubs = l
  have hf (ks : List Nat) (t : State) : ∃ g y h, ks.foldl (publishOf l) t =
      { t with regs := g, geyser := y, seq := { t.seq with hopPub := h } } := by
    induction ks generalizing t with
    | nil => exact ⟨_, _, _, rfl⟩
    | cons k ks ih =>
      obtain ⟨g, y, h, ht⟩ := t.publishOf_frame l k
      obtain ⟨g', y', h', hu⟩ := ih (t.publishOf l k)
      refine ⟨g', y', h', hu.trans ?_⟩
      rw [ht]
  exact hf _ _

theorem reg_foldl_publishOf_ne (ks : List Nat) {q : RegId} (h : ∀ k ∈ ks, q ∉ pubRegs k) :
    (ks.foldl (publishOf l) s).reg q = s.reg q := by
  induction ks generalizing s with
  | nil => rfl
  | cons k ks ih =>
    exact (ih _ fun j hj => h j (List.mem_cons_of_mem _ hj)).trans (s.reg_publishOf_ne l k (h k (List.mem_cons_self ..)))

theorem foldl_publishOf_keeps_irq (ks : List Nat) {b : Nat} (hb : b < 16) (h : s.flag Reg.INT_STAT b = true) :
    (ks.foldl (publishOf l) s).flag Reg.INT_STAT b = true := by
  induction ks generalizing s with
  | nil => exact h
  | cons k ks ih => exact ih _ (s.publishOf_keeps_irq l k hb h)

/-- What each publication gives (R442, Table 15.6). -/
theorem publishAll_spec :
    (∀ v, s.lastPub 0x32 v → s.publishAll.reg Reg.KEY_STAT = v) ∧
    (∀ v, s.lastPub 0x31 v → s.publishAll.reg Reg.TOUCH_STAT = v &&& 0xFF8F) ∧
    (∀ v, s.lastPub 0x03 v → v.getLsbD 14 = true → s.publishAll.flag Reg.INT_STAT Irq.GWAKE = true) ∧
    (∀ v, s.lastPub 0x2F v → v.getLsbD 15 = false → s.publishAll.flag Reg.BASE_CTL 15 = false) ∧
    (∀ v, s.lastPub 0x80 v → s.publishAll.seq.hopPub = v.toNat % 16) ∧
    ((∀ k v, (k, 0x32, v) ∉ s.cald.pubs) → s.publishAll.reg Reg.KEY_STAT = s.reg Reg.KEY_STAT) := by
  have hv {g : Nat} {v : Word} (h : s.lastPub g v) (t : State) : t.publishOf s.cald.pubs g = t.publish g v :=
    t.publishOf_of_some _ (pubValue_of_lastPub h)
  have hsplit (ks js : List Nat) (k : Nat) (h : [0x03, 0x2F, 0x31, 0x32, 0x80] = ks ++ k :: js) : s.publishAll =
      js.foldl (publishOf s.cald.pubs) ((ks.foldl (publishOf s.cald.pubs) s).publishOf s.cald.pubs k) := by
    rw [publishAll_eq, h, List.foldl_append, List.foldl_cons]
  refine ⟨fun v h => ?_, fun v h => ?_, fun v h hb => ?_, fun v h hb => ?_, fun v h => ?_, fun h => ?_⟩
  · rw [hsplit [0x03, 0x2F, 0x31] [0x80] 0x32 rfl, reg_foldl_publishOf_ne _ _ _ (by decide), hv h]
    exact reg_setReg_same _ _ _
  · rw [hsplit [0x03, 0x2F] [0x32, 0x80] 0x31 rfl, reg_foldl_publishOf_ne _ _ _ (by decide), hv h]
    exact reg_setReg_same _ _ _
  · rw [hsplit [] [0x2F, 0x31, 0x32, 0x80] 0x03 rfl, hv h]
    refine foldl_publishOf_keeps_irq _ _ _ (by decide) ?_
    have hx (t : State) : t.publish 0x03 v = t.gwake := if_pos hb
    rw [hx]
    exact (flag_setFlag_ne _ _ _ _ (by decide)).trans (flag_raise_same _ (by decide))
  · rw [hsplit [0x03] [0x31, 0x32, 0x80] 0x2F rfl, flag, reg_foldl_publishOf_ne _ _ _ (by decide), hv h]
    have hx (t : State) : t.publish 0x2F v = t.setFlag Reg.BASE_CTL 15 false := if_neg (ne_true_of_eq_false hb)
    rw [hx]
    exact flag_setFlag_same _ _ _ _ (by omega)
  · rw [hsplit [0x03, 0x2F, 0x31, 0x32] [] 0x80 rfl, List.foldl_nil, hv h]
    change bits v 0 4 = _
    simp [bits]
  · have hn (t : State) : t.publishOf s.cald.pubs 0x32 = t := by
      unfold publishOf
      rw [pubValue_of_none h]
    rw [hsplit [0x03, 0x2F, 0x31] [0x80] 0x32 rfl, reg_foldl_publishOf_ne _ _ _ (by decide), hn,
      reg_foldl_publishOf_ne _ _ _ (by decide)]

theorem publishAll_keeps_irq {b : Nat} (hb : b < 16) (h : s.flag Reg.INT_STAT b = true) :
    s.publishAll.flag Reg.INT_STAT b = true := s.foldl_publishOf_keeps_irq _ _ hb h

/-! ### The vote -/

theorem voteClose_frame : s.voteClose = { s with regs := s.voteClose.regs } := by
  unfold voteClose
  split <;> rfl

theorem reg_voteClose_ne {q : RegId} (h : q ≠ Reg.PWR_VOTE) : s.voteClose.reg q = s.reg q := by
  unfold voteClose
  split
  · exact reg_setFlag_ne _ _ _ h
  · rfl

theorem voteClose_flag {b : Bool} (h : s.lastVote b) : s.voteClose.flag Reg.PWR_VOTE 1 = b := by
  obtain ⟨k, hk, hall⟩ := h
  have hl : s.cald.votes.foldl supersede none = some (k, b) := foldl_supersede (by simp) (fun p hp => hall _ _ hp) (.inr hk)
  have hf {f : Option (Nat × Bool) → Nat × Bool → Option (Nat × Bool)} (h : ∀ o p, f o p = supersede o p) :
      s.cald.votes.foldl f none = some (k, b) := (List.foldl_ext f supersede none fun o p _ => h o p).trans hl
  unfold voteClose
  rw [hf fun o p => by cases o <;> rfl]
  exact flag_setFlag_same _ _ _ _ (by omega)

/-! ### The ring -/

/-- The staged entries are written to the ring. -/
def ringCommit (l : List (Vector Word 4)) : State :=
  l.foldl (fun s e => (s.raceMark (384 + s.ring.wr.toNat)).ringWrite e) s

theorem raceMark_frame (k : Nat) : s.raceMark k = { s with port := (s.raceMark k).port } := by
  unfold raceMark
  split
  · split <;> rfl
  · rfl

theorem reg_ringWrite_ne (e : Vector Word 4) {q : RegId} (h₁ : q ≠ Reg.RING_WR) (h₂ : q ≠ Reg.RING_STAT) :
    (s.ringWrite e).reg q = s.reg q := by
  have hf {b : Bool} {r : RegId} {i : Nat} (hq : q ≠ r) (t : State) :
      (if b = true then t.setFlag r i true else t).reg q = t.reg q := by
    cases b
    · rfl
    · exact reg_setFlag_ne _ _ _ hq
  exact (hf h₂ _).trans (hf h₁ _)

theorem ringCommit_spec (l : List (Vector Word 4)) :
    (∃ m g f r p, s.ringCommit l = { s with tables := m, regs := g, fmon := f, ring := r, port := p }) ∧
    (s.ringCommit l).ring.wr.toNat = (s.ring.wr.toNat + l.length) % 4096 ∧
    ∀ q, q ≠ Reg.RING_WR → q ≠ Reg.RING_STAT → (s.ringCommit l).reg q = s.reg q := by
  induction l generalizing s with
  | nil => exact ⟨⟨_, _, _, _, _, rfl⟩, (Nat.mod_eq_of_lt s.ring.wr.isLt).symm, fun _ _ _ => rfl⟩
  | cons e l ih =>
    have hm := s.raceMark_frame (384 + s.ring.wr.toNat)
    have hf := (s.raceMark (384 + s.ring.wr.toNat)).ringWrite_frame e
    obtain ⟨⟨m, g, f, r, p, hx⟩, hw, hr⟩ := ih ((s.raceMark (384 + s.ring.wr.toNat)).ringWrite e)
    have hc : s.ringCommit (e :: l) = ((s.raceMark (384 + s.ring.wr.toNat)).ringWrite e).ringCommit l := rfl
    have hwr : ((s.raceMark (384 + s.ring.wr.toNat)).ringWrite e).ring.wr = s.ring.wr + 1 := by
      rw [hf, hm]
    rw [hc]
    refine ⟨⟨m, g, f, r, p, ?_⟩, ?_, fun q h₁ h₂ => ?_⟩
    · rw [hx, hf, hm]
    · rw [hw, hwr, BitVec.toNat_add, List.length_cons]
      change ((_ + 1) % 4096 + _) % 4096 = _
      omega
    · rw [hr q h₁ h₂, reg_ringWrite_ne _ _ h₁ h₂, hm]
      rfl

end State
end Sys2Proof.Machine
end

section
/-! PROOFS. FRAME_END and the deadline of a Caldera frame (06, R186 to R188). -/

namespace Sys2Proof.Machine

namespace State

variable (s : State)

/-! ### The rows of a frame -/

theorem commit_on (l : Lib) (fc : Word) : (l.commit fc).on = l.on := by
  unfold Lib.commit
  split
  · rfl
  · dsimp only
    split <;> rfl

variable {s} in
/-- The rows of a frame follow from the code, the rows read so far and the snapshot. -/
theorem frameRows_congr {t : State} (hm : t.cald.map = s.cald.map) (hi : t.cald.imem = s.cald.imem)
    (hr : t.cald.rows = s.cald.rows) (hs : t.cald.snap = s.cald.snap) (hl : t.lib.on = s.lib.on) :
    t.frameRows = s.frameRows := by
  have hc : t.codeRows = s.codeRows := by
    funext p
    rw [codeRows, hi, codeRows]
  rw [frameRows, frameRows, hm, hr, hl, hc, libRows, libRows, hs]

/-! ### The state after a close -/

/-- What a close leaves of the state `s` that has taken or withdrawn what the frame staged. -/
structure FrameClosed (s t : State) : Prop where
  isOpen : t.cald.isOpen = false
  rows : t.cald.rows = []
  cells : ∀ k, (t.cell k).st = .idle ∧ (t.cell k).x = (s.cell k).x
  rowHeld : ∀ r, r ∈ t.rowHeld ↔ r ∈ s.rowHeld ∧ r ∉ s.frameRows
  dmem : t.cald.dmem = s.cald.dmem
  imem : t.cald.imem = s.cald.imem
  flash : t.flash = s.flash
  tables : t.tables = s.tables
  pins : t.seq.pins = s.seq.pins
  hopPub : t.seq.hopPub = s.seq.hopPub
  ring : t.ring = s.ring
  items : s.queue.staged = [] → ∃ l, t.queue.items = s.queue.items ++ l ∧ l.length ≤ 8
  reg : ∀ q, q ∉ Reg.PACE :: Reg.PMU_STAT :: takeoverRegs → t.reg q = s.reg q
  stat : ∀ lo w, lo + w ≤ 10 → t.fld Reg.SCHED_STAT lo w = s.fld Reg.SCHED_STAT lo w
  irq : ∀ b < 16, s.flag Reg.INT_STAT b = true → t.flag Reg.INT_STAT b = true

/-- A close, after which the servo may raise VCORE. -/
theorem closed_of_over {v : State} (hv : v = { s.frameOver with pace := v.pace, regs := v.regs })
    (hr : ∀ q, q ≠ Reg.PACE → q ≠ Reg.PMU_STAT → v.reg q = s.reg q) (twice : List CellId) :
    s.FrameClosed (v.closed twice) := by
  have h := v.closed_keeps twice
  have hcald : v.cald = s.frameOver.cald := by rw [hv]
  have hstat : v.reg Reg.SCHED_STAT = s.reg Reg.SCHED_STAT := hr _ (by decide) (by decide)
  have hint : v.reg Reg.INT_STAT = s.reg Reg.INT_STAT := hr _ (by decide) (by decide)
  have hqueue : v.queue = s.queue := by
    rw [hv]
    rfl
  have hseq : v.seq = s.seq := by
    rw [hv]
    rfl
  refine {
    isOpen := h.isOpen.trans (by rw [hcald]; rfl)
    rows := h.rows.trans (by rw [hcald]; rfl)
    cells := fun k => ?_
    rowHeld := fun r => ?_
    dmem := h.dmem.trans (by rw [hcald]; rfl)
    imem := h.imem.trans (by rw [hcald]; rfl)
    flash := h.flash.trans (by rw [hv]; rfl)
    tables := h.tables.trans (by rw [hv]; rfl)
    pins := h.pins.trans (by rw [hseq])
    hopPub := h.hopPub.trans (by rw [hseq])
    ring := h.ring.trans (by rw [hv]; rfl)
    items := fun hs => ?_
    reg := fun q hq => ?_
    stat := fun lo w hw => ?_
    irq := fun b hb hi => ?_ }
  · have hc : (v.closed twice).cell k = { s.cell k with st := .idle } := by
      rw [← s.frameOver_cell k, cell, h.cells, hcald, cell]
    rw [hc]
    exact ⟨rfl, rfl⟩
  · rw [h.rowHeld, ← s.mem_frameOver_rowHeld, hv]
  · rw [← hqueue] at hs ⊢
    exact (h.items hs).1
  · simp only [List.mem_cons, not_or] at hq
    exact (h.reg q hq.2.2).trans (hr q hq.1 hq.2.1)
  · rw [h.stat lo w hw, fld, hstat, fld]
  · refine h.irq b hb ?_
    rw [flag, hint]
    exact hi

/-! ### A frame withdrawn -/

theorem raiseVcore_only : s.raiseVcore = { s with pace := s.raiseVcore.pace, regs := s.raiseVcore.regs } := by
  unfold raiseVcore
  split <;> rfl

theorem abandonFrame_frame : ∃ q c, s.abandonFrame = { s with queue := q, cald := c } ∧ q.items = s.queue.items ∧ q.staged = [] ∧
    c = { s.cald with ring := [] } := by
  have h : s.abandonQueue = { s with queue := s.abandonQueue.queue } := by
    rw [abandonQueue, queueVote_frame]
  refine ⟨s.abandonQueue.queue, { s.cald with ring := [] }, ?_, ?_, ?_, rfl⟩
  · rw [abandonFrame, h]
  · rw [abandonQueue, queueVote_frame]
  · rw [abandonQueue, queueVote_frame]

/-- A frame that is withdrawn leaves the state as it was, but for what it staged. -/
theorem FrameClosed.of_withdrawn {s t : State} {g : Vector Word 80}
    (h : FrameClosed { s.abandonFrame with regs := g } t) :
    FrameClosed { s with queue := { s.queue with staged := [] }, regs := g } t := by
  obtain ⟨q, c, ha, hi, hs, rfl⟩ := s.abandonFrame_frame
  rw [ha] at h
  exact { h with
    rowHeld := fun r => (h.rowHeld r).trans (and_congr_right fun _ => not_congr
      (iff_of_eq (congrArg (r ∈ ·) (frameRows_congr rfl rfl rfl rfl rfl))))
    items := fun _ => by
      obtain ⟨l, hl, hn⟩ := h.items hs
      exact ⟨l, hl.trans (congrArg (· ++ l) hi), hn⟩ }

/-- The counts and the flag with which a deadline withdraws a frame. -/
def deadlineRegs (late : Bool) : State :=
  if late then (s.incFld Reg.SCHED_STAT 0 5).raise Irq.SCHED else s.incFld Reg.SCHED_STAT 5 5

theorem deadline_eq : s.deadline =
    let v := (s.abandonFrame.deadlineRegs !s.rowLate).frameOver
    (if !s.rowLate && v.servo && !recentRaise v.aon.time v.pace.raised then v.raiseVcore else v).closed s.stalledTwice := rfl

theorem deadlineRegs_frame (late : Bool) : s.deadlineRegs late = { s with regs := (s.deadlineRegs late).regs } := by
  unfold deadlineRegs
  split <;> rfl

theorem reg_deadlineRegs_ne (late : Bool) {q : RegId} (h₁ : q ≠ Reg.SCHED_STAT) (h₂ : q ≠ Reg.INT_STAT) :
    (s.deadlineRegs late).reg q = s.reg q := by
  unfold deadlineRegs
  split
  · exact (reg_raise_ne _ _ h₂).trans (reg_setFld_ne _ _ _ _ h₁)
  · exact reg_setFld_ne _ _ _ _ h₁

theorem deadline_closed : FrameClosed { s with
    queue := { s.queue with staged := [] }, regs := (s.abandonFrame.deadlineRegs !s.rowLate).regs } s.deadline := by
  rw [deadline_eq]
  generalize (!s.rowLate) = late
  refine FrameClosed.of_withdrawn ?_
  rw [← deadlineRegs_frame]
  generalize s.abandonFrame.deadlineRegs late = u
  refine closed_of_over _ ?_ (fun q h₁ h₂ => ?_) _
  · split
    · exact raiseVcore_only _
    · rfl
  · split
    · exact (reg_raiseVcore_ne _ h₂).trans (u.reg_frameOver_ne h₁)
    · exact u.reg_frameOver_ne h₁

/-! ### A frame committed -/

/-- The queue and the ring have taken what the frame staged. -/
def storesCommitted : State := ({ s.commitQueue with lib := s.lib.commit s.seq.fc }).ringCommit s.cald.ring

theorem commitFrame_eq : s.commitFrame = s.storesCommitted.publishAll.voteClose.setReg Reg.FRAME_CNT s.storesCommitted.cald.fc := by
  have hc : s.commitQueue.cald = s.cald := by rw [commitQueue_frame]
  have hs : s.commitQueue.seq = s.seq := by rw [commitQueue_frame]
  have hl : s.commitQueue.lib = s.lib := by rw [commitQueue_frame]
  have h : s.storesCommitted =
      ({ s.commitQueue with lib := s.commitQueue.lib.commit s.commitQueue.seq.fc }).ringCommit s.commitQueue.cald.ring := by
    rw [storesCommitted, hc, hs, hl]
  rw [h]
  rfl

theorem storesCommitted_spec : (∃ m g f r p q, s.storesCommitted = { s with
      tables := m, regs := g, fmon := f, ring := r, port := p, lib := s.lib.commit s.seq.fc, queue := q } ∧
      q.items = s.queue.items ++ s.queue.staged ∧ q.staged = [] ∧ r.wr.toNat = (s.ring.wr.toNat + s.cald.ring.length) % 4096) ∧
    ∀ q, q ∉ [Reg.RPT_GAPS, Reg.INT_STAT, Reg.RING_WR, Reg.RING_STAT] → s.storesCommitted.reg q = s.reg q := by
  obtain ⟨⟨m, g, f, r, p, hx⟩, hw, hr⟩ := ringCommit_spec { s.commitQueue with lib := s.lib.commit s.seq.fc } s.cald.ring
  refine ⟨⟨m, g, f, r, p, s.commitQueue.queue, ?_, ?_, ?_, ?_⟩, fun q hq => ?_⟩
  · rw [storesCommitted, hx, commitQueue_frame]
  · rw [commitQueue_frame]
  · rw [commitQueue_frame]
  · have hrg := hw
    rw [hx, commitQueue_frame] at hrg
    exact hrg
  · simp only [List.mem_cons, not_or] at hq
    obtain ⟨h₁, h₂, h₃, h₄, -⟩ := hq
    exact (hr q h₃ h₄).trans (s.reg_commitQueue_ne h₁ h₂)

/-- What the commit of a frame leaves, and what takes effect (R186, R442). -/
structure FrameCommitted (s t : State) : Prop where
  frame : ∃ m g f r p q l y h, t = { s with
    tables := m, regs := g, fmon := f, ring := r, port := p, lib := l, queue := q, geyser := y, seq := { s.seq with hopPub := h } }
  on : t.lib.on = s.lib.on
  items : t.queue.items = s.queue.items ++ s.queue.staged
  staged : t.queue.staged = []
  cnt : t.reg Reg.FRAME_CNT = s.cald.fc
  wr : t.ring.wr.toNat = (s.ring.wr.toNat + s.cald.ring.length) % 4096
  key : ∀ v, s.lastPub 0x32 v → t.reg Reg.KEY_STAT = v
  touch : ∀ v, s.lastPub 0x31 v → t.reg Reg.TOUCH_STAT = v &&& 0xFF8F
  gwake : ∀ v, s.lastPub 0x03 v → v.getLsbD 14 = true → t.flag Reg.INT_STAT Irq.GWAKE = true
  base : ∀ v, s.lastPub 0x2F v → v.getLsbD 15 = false → t.flag Reg.BASE_CTL 15 = false
  hop : ∀ v, s.lastPub 0x80 v → t.seq.hopPub = v.toNat % 16
  noKey : (∀ k v, (k, 0x32, v) ∉ s.cald.pubs) → t.reg Reg.KEY_STAT = s.reg Reg.KEY_STAT
  vote : ∀ b, s.lastVote b → t.flag Reg.PWR_VOTE 1 = b

theorem commitFrame_spec : s.FrameCommitted s.commitFrame := by
  rw [commitFrame_eq]
  obtain ⟨⟨m, g, f, r, p, q, hx, hi, hs, hw⟩, hr⟩ := s.storesCommitted_spec
  have hon : s.storesCommitted.lib.on = s.lib.on := by
    rw [hx]
    exact commit_on _ _
  have hcald : s.storesCommitted.cald = s.cald := by rw [hx]
  have hlast {g : Nat} {v : Word} (h : s.lastPub g v) : s.storesCommitted.lastPub g v := by
    unfold lastPub
    rw [hcald]
    exact h
  have hvote {b : Bool} (h : s.lastVote b) : s.storesCommitted.publishAll.lastVote b := by
    obtain ⟨g, y, hp, hpub⟩ := s.storesCommitted.publishAll_frame
    unfold lastVote
    rw [hpub, hcald]
    exact h
  obtain ⟨hkey, htouch, hgwake, hbase, hhop, hnone⟩ := s.storesCommitted.publishAll_spec
  obtain ⟨g', y', h', hpub⟩ := s.storesCommitted.publishAll_frame
  generalize s.storesCommitted = u at *
  have hv := u.publishAll.voteClose_frame
  have hreg {q : RegId} (h₁ : q ≠ Reg.FRAME_CNT) (h₂ : q ≠ Reg.PWR_VOTE) :
      (u.publishAll.voteClose.setReg Reg.FRAME_CNT u.cald.fc).reg q = u.publishAll.reg q :=
    (reg_setReg_ne _ _ h₁).trans (reg_voteClose_ne _ h₂)
  obtain ⟨G, hX⟩ : ∃ G, u.publishAll.voteClose.setReg Reg.FRAME_CNT u.cald.fc =
      { u with regs := G, geyser := y', seq := { u.seq with hopPub := h' } } := by
    rw [hv, hpub]
    exact ⟨_, rfl⟩
  have hqu : (u.publishAll.voteClose.setReg Reg.FRAME_CNT u.cald.fc).queue = u.queue := by rw [hX]
  have huq : u.queue = q := by rw [hx]
  refine {
    frame := ⟨m, G, f, r, p, q, u.lib, y', h', by rw [hX, hx]⟩
    on := by rw [hX]; exact hon
    items := by rw [hqu, huq, hi]
    staged := by rw [hqu, huq, hs]
    cnt := (reg_setReg_same _ _ _).trans (by rw [hcald])
    wr := by rw [hX, hx]; exact hw
    key := fun v hl => (hreg (by decide) (by decide)).trans (hkey v (hlast hl))
    touch := fun v hl => (hreg (by decide) (by decide)).trans (htouch v (hlast hl))
    gwake := fun v hl hb => ?_
    base := fun v hl hb => ?_
    hop := fun v hl => ?_
    noKey := fun hn => ?_
    vote := fun b hl => ?_ }
  · rw [flag, hreg (by decide) (by decide)]
    exact hgwake v (hlast hl) hb
  · rw [flag, hreg (by decide) (by decide)]
    exact hbase v (hlast hl) hb
  · have hseq : (u.publishAll.voteClose.setReg Reg.FRAME_CNT u.cald.fc).seq = u.publishAll.seq := by rw [hX, hpub]
    rw [hseq]
    exact hhop v (hlast hl)
  · refine (hreg (by decide) (by decide)).trans ((hnone fun k v hm => hn k v ?_).trans (hr _ (by decide)))
    rw [← hcald]
    exact hm
  · exact (flag_setReg_ne _ _ _ (by decide)).trans (voteClose_flag _ (hvote hl))

end State

namespace State

variable {s : State}

/-! ### The end of a cell's frame -/

theorem cellDone_congr {t : State} {k : CellId} (h : (t.cell k).st = (s.cell k).st) : t.cellDone k = s.cellDone k := by
  unfold cellDone
  rw [h]

theorem cellDone_cellBlock (c k : CellId) : (s.cellBlock c .done).cellDone k = (decide (k = c) || s.cellDone k) := by
  by_cases h : k = c
  · subst h
    rw [decide_eq_true rfl, Bool.true_or, cellDone, cellBlock, cell_setCell_same]
  · rw [decide_eq_false h, Bool.false_or]
    exact cellDone_congr (by rw [cellBlock, cell_setCell_ne _ _ h])

theorem cellDone_fetchErr (c k : CellId) : (s.fetchErr c).cellDone k = s.cellDone k :=
  cellDone_congr (by rw [cell_fetchErr])

theorem fetchErr_of_no_errs (h : s.fmon.memErrs = []) (c : CellId) : s.fetchErr c = s := by
  rw [fetchErr, cellRead_none (s.memErr_of_no_errs h _ _)]

theorem cellBlock_x (c k : CellId) (w : CellState) : ((s.cellBlock c w).cell k).x = (s.cell k).x := by
  rw [cellBlock, cell_setCell]
  split
  · next h => rw [h]
  · rfl

theorem exec_frameEnd_of_runs {c : CellId} (h : s.runs c (.frameEnd c) = true) : exec (.frameEnd c) s =
    .next (if (List.finRange 7).all ((s.fetchErr c).cellBlock c .done).cellDone
      then ((s.fetchErr c).cellBlock c .done).closeFrame else (s.fetchErr c).cellBlock c .done) :=
  congrArg Host.Outcome.next (if_pos h)

theorem closeFrame_of_discard (h : s.cald.discard = true) :
    s.closeFrame = (s.abandonFrame.incFld Reg.SCHED_STAT 5 5).frameOver.closed s.stalledTwice := by
  unfold closeFrame
  rw [if_pos h]
  rfl

theorem closed_of_frameOver (s : State) (twice : List CellId) : s.FrameClosed (s.frameOver.closed twice) :=
  closed_of_over _ rfl (fun _ h _ => s.reg_frameOver_ne h) _

theorem closeFrame_withdrawn (s : State) (h : s.cald.discard = true) : FrameClosed { s with
    queue := { s.queue with staged := [] }, regs := (s.abandonFrame.incFld Reg.SCHED_STAT 5 5).regs } s.closeFrame := by
  rw [closeFrame_of_discard h]
  exact FrameClosed.of_withdrawn (closed_of_frameOver _ _)

theorem closeFrame_of_no_discard (h : s.cald.discard = false) :
    s.closeFrame = s.commitFrame.frameOver.closed s.stalledTwice := by
  unfold closeFrame
  rw [if_neg (by simp [h])]
  rfl

end State

/-- Settles O20. -/
theorem frameEndAndDeadline : Obligations.FrameEndAndDeadline := by
  refine ⟨fun s c hr => ⟨?_, fun hall hno => ?_⟩, fun s hm ho => ?_⟩
  · rintro ⟨k, hk, hd⟩
    refine (State.exec_frameEnd_of_runs hr).trans (congrArg Host.Outcome.next ?_)
    rw [if_neg]
    · rw [State.cellBlock, State.cell_fetchErr]
    · intro h
      have hc := List.all_eq_true.1 h k (List.mem_finRange k)
      rw [State.cellDone_cellBlock, State.cellDone_fetchErr, decide_eq_false hk, hd] at hc
      exact Bool.false_ne_true hc
  · have hx : exec (.frameEnd c) s = .next (s.cellBlock c .done).closeFrame := by
      rw [State.exec_frameEnd_of_runs hr, State.fetchErr_of_no_errs hno, if_pos]
      refine List.all_eq_true.2 fun k _ => ?_
      rw [State.cellDone_cellBlock]
      by_cases hk : k = c
      · rw [decide_eq_true hk, Bool.true_or]
      · rw [hall k hk, Bool.or_true]
    generalize hu : s.cellBlock c .done = u at hx
    have hcell (k : CellId) : (u.cell k).x = (s.cell k).x := by
      rw [← hu]
      exact State.cellBlock_x ..
    obtain ⟨cs, hs⟩ : ∃ cs, u = { s with cald := { s.cald with cells := cs } } := ⟨_, hu.symm⟩
    have hrows {t : State} (hh : t.rowHeld = u.rowHeld) (hc : t.cald = u.cald) (hl : t.lib.on = u.lib.on) (r : Nat) :
        r ∈ t.rowHeld ∧ r ∉ t.frameRows ↔ r ∈ s.rowHeld ∧ r ∉ s.frameRows := by
      have ht : t.frameRows = u.frameRows := State.frameRows_congr (by rw [hc]) (by rw [hc]) (by rw [hc]) (by rw [hc]) hl
      have hu : u.frameRows = s.frameRows := State.frameRows_congr (by rw [hs]) (by rw [hs]) (by rw [hs]) (by rw [hs]) (by rw [hs])
      rw [ht, hu, hh, hs]
    cases hd : s.cald.discard with
    | true =>
      have h := u.closeFrame_withdrawn (by rw [hs, hd])
      have hreg {q : RegId} (hq : q ≠ Reg.SCHED_STAT) : (u.abandonFrame.incFld Reg.SCHED_STAT 5 5).reg q = s.reg q := by
        rw [State.incFld, State.reg_setFld_ne _ _ _ _ hq, State.reg, u.abandonFrame_regs, hs, State.reg]
      have hcnt : u.abandonFrame.fld Reg.SCHED_STAT 5 5 = s.fld Reg.SCHED_STAT 5 5 := by
        rw [State.fld, State.reg, u.abandonFrame_regs, hs, State.fld, State.reg]
      have hkeep {q : RegId} (hq : q ∉ Reg.PACE :: Reg.PMU_STAT :: State.takeoverRegs) (hn : q ≠ Reg.SCHED_STAT) :
          u.closeFrame.reg q = s.reg q := (h.reg q hq).trans (hreg hn)
      refine completes_of_eq hx ⟨h.isOpen, h.rows, fun k => ⟨(h.cells k).1, (h.cells k).2.trans (hcell k)⟩, fun r => ?_,
        h.dmem.trans (by rw [hs]), h.imem.trans (by rw [hs]), h.flash.trans (by rw [hs]), h.pins.trans (by rw [hs]), ?_⟩
      · exact (h.rowHeld r).trans (hrows rfl rfl rfl r)
      · rw [if_pos rfl]
        refine ⟨?_, hkeep (by decide) (by decide), ?_, h.ring.trans (by rw [hs]), hkeep (by decide) (by decide),
          hkeep (by decide) (by decide), congrArg (BitVec.getLsbD · 15) (hkeep (by decide) (by decide)), h.hopPub.trans (by rw [hs])⟩
        · obtain ⟨l, hl, hn⟩ := h.items rfl
          exact ⟨l, hl.trans (by rw [hs]), hn⟩
        · rw [h.stat _ _ (by omega)]
          exact (State.fld_incFld_same _ (by omega)).trans (by rw [hcnt]; rfl)
    | false =>
      have h := u.commitFrame.closed_of_frameOver u.stalledTwice
      rw [← State.closeFrame_of_no_discard (by rw [hs, hd])] at h
      have hc := u.commitFrame_spec
      obtain ⟨m, g, f, r, p, q, l, y, hp, hx'⟩ := hc.frame
      have hkeep {q : RegId} (hq : q ∉ Reg.PACE :: Reg.PMU_STAT :: State.takeoverRegs) :
          u.closeFrame.reg q = u.commitFrame.reg q := h.reg q hq
      have hkey : u.reg Reg.KEY_STAT = s.reg Reg.KEY_STAT := by
        rw [hs]
        rfl
      have hlast {g : Nat} {v : Word} (hv : s.lastPub g v) : u.lastPub g v := by
        rw [hs]
        exact hv
      refine completes_of_eq hx ⟨h.isOpen, h.rows, fun k => ⟨(h.cells k).1, (h.cells k).2.trans ?_⟩, fun r => ?_,
        h.dmem.trans (by rw [hx', hs]), h.imem.trans (by rw [hx', hs]), h.flash.trans (by rw [hx', hs]),
        h.pins.trans (by rw [hx', hs]), ?_⟩
      · rw [← hcell k, hx']
        rfl
      · exact (h.rowHeld r).trans (hrows (by rw [hx']) (by rw [hx']) hc.on r)
      · rw [if_neg (by decide)]
        refine ⟨?_, (hkeep (by decide)).trans (hc.cnt.trans (by rw [hs])), ?_,
          fun v hv => (hkeep (by decide)).trans (hc.key v (hlast hv)),
          fun v hv => (hkeep (by decide)).trans (hc.touch v (hlast hv)),
          fun v hv hb => h.irq _ (by decide) (hc.gwake v (hlast hv) hb),
          fun v hv hb => (congrArg (BitVec.getLsbD · 15) (hkeep (by decide))).trans (hc.base v (hlast hv) hb),
          fun v hv => h.hopPub.trans (hc.hop v (hlast hv)), fun hn => (hkeep (by decide)).trans ((hc.noKey ?_).trans hkey),
          fun b hb ht => ?_⟩
        · obtain ⟨l, hl, -⟩ := h.items hc.staged
          exact ⟨l, hl.trans (congrArg (· ++ l) (hc.items.trans (by rw [hs])))⟩
        · rw [h.ring, hc.wr, hs]
        · rw [hs]
          exact hn
        · have hvote : u.closeFrame.reg Reg.PWR_VOTE = u.commitFrame.reg Reg.PWR_VOTE := by
            have htw : u.stalledTwice = [] := by
              rw [hs]
              exact ht
            rw [State.closeFrame_of_no_discard (by rw [hs, hd]), htw, State.closed_vote, State.reg_frameOver_ne _ (by decide)]
          rw [State.flag, hvote]
          refine hc.vote b ?_
          rw [hs]
          exact hb
  · have h := s.deadline_closed
    refine completes_of_guard (t := s.deadline) rfl (by simp [hm, ho]) ?_
    have hreg : s.abandonFrame.reg Reg.SCHED_STAT = s.reg Reg.SCHED_STAT := by rw [State.reg, s.abandonFrame_regs, State.reg]
    have hstat {late : Bool} {lo w : Nat} (hl : (!s.rowLate) = late) (hw : lo + w ≤ 10) :
        s.deadline.fld Reg.SCHED_STAT lo w = (s.abandonFrame.deadlineRegs late).fld Reg.SCHED_STAT lo w :=
      hl ▸ h.stat lo w hw
    have hfld (lo w : Nat) : s.abandonFrame.fld Reg.SCHED_STAT lo w = s.fld Reg.SCHED_STAT lo w := by
      rw [State.fld, hreg, State.fld]
    refine ⟨h.isOpen, h.rows, h.cells, ?_, h.dmem, h.imem, h.tables, h.flash, h.pins, h.items rfl, h.ring, ?_, fun hl => ⟨?_, ?_, ?_⟩,
      fun hl => ⟨?_, ?_⟩⟩
    · intro r
      exact (h.rowHeld r).trans (and_congr_right fun _ => not_congr
        (iff_of_eq (congrArg (r ∈ ·) (State.frameRows_congr rfl rfl rfl rfl rfl))))
    · refine (h.reg _ (by decide)).trans ((State.reg_deadlineRegs_ne _ _ (by decide) (by decide)).trans ?_)
      rw [State.reg, s.abandonFrame_regs, State.reg]
    · rw [hstat (late := true) (by rw [hl, Bool.not_false]) (by omega), State.deadlineRegs, if_pos rfl, State.fld_raise_ne _ _ _ _ (by decide),
        State.fld_incFld_same _ (by omega), hfld]
      rfl
    · rw [hstat (late := true) (by rw [hl, Bool.not_false]) (by omega), State.deadlineRegs, if_pos rfl, State.fld_raise_ne _ _ _ _ (by decide), State.incFld,
        State.fld_setFld_disjoint _ _ (by omega) (by omega), hfld]
    · refine h.irq _ (by decide) ?_
      rw [hl]
      exact State.flag_raise_same _ (by decide)
    · rw [hstat (late := false) (by rw [hl, Bool.not_true]) (by omega), State.deadlineRegs, if_neg (by decide), State.fld_incFld_same _ (by omega), hfld]
      rfl
    · rw [hstat (late := false) (by rw [hl, Bool.not_true]) (by omega), State.deadlineRegs, if_neg (by decide), State.incFld,
        State.fld_setFld_disjoint _ _ (by omega) (by omega), hfld]

end Sys2Proof.Machine
end

section
/-! PROOFS. INTAKE, INTAKES, WAIT_ENTRY and WAIT_ENTRY_COMPLETE (06, R18, R26, R28, R182). -/

namespace Sys2Proof.Machine

namespace State

variable {s : State}

theorem rowComplete_congr {t : State} (hd : t.rowDone = s.rowDone) (ht : t.tables = s.tables) (hf : t.cald.fc = s.cald.fc)
    (row : Nat) : t.rowComplete row = s.rowComplete row := by
  rw [rowComplete, rowComplete, hd, hf, rowWord, rowWord, tab, tab, ht]

theorem rowComplete_fetchErr (c : CellId) (row : Nat) : ((s.fetchErr c).frameRow row).rowComplete row = s.rowComplete row := by
  obtain ⟨b, hb⟩ := s.fetchErr_cald c
  refine rowComplete_congr (fetchErr_rowDone ..) (fetchErr_tables ..) ?_ row
  exact show (s.fetchErr c).cald.fc = _ by rw [hb]

theorem mem_addOnce (l : List Nat) (k : Nat) : k ∈ addOnce l k := by
  unfold addOnce
  split
  · next h => exact List.contains_iff_mem.1 h
  · exact List.mem_append_right _ (List.mem_singleton_self k)

theorem takenIn_of_sound (h : ∀ k, s.intakeMask k = 0) (c : CellId) (v : Word) :
    (s.takenIn c v).1 = v ∧ ∃ f, (s.takenIn c v).2 = { s with fmon := f } := by
  unfold takenIn
  dsimp only
  simp only [h]
  refine ⟨BitVec.xor_zero, ?_⟩
  cases s.cald.shadow with
  | none => exact ⟨_, rfl⟩
  | some l =>
    cases s.cald.spare with
    | none => exact ⟨_, rfl⟩
    | some q =>
      rw [if_neg (by simp)]
      exact ⟨_, rfl⟩

/-- The word that an INTAKE delivers. -/
def intakeWord (s : State) (row w : Nat) : Word := if w ≤ 160 then s.rowWord row w else 0

theorem intakeWord_extended (s : State) (row w : Nat) (signed : Bool) :
    (if signed then (s.intakeWord row w).signExtend 24 else (s.intakeWord row w).setWidth 24) =
      if 160 < w then (0 : Data) else if signed then (s.rowWord row w).signExtend 24 else (s.rowWord row w).setWidth 24 := by
  by_cases h : w ≤ 160
  · rw [intakeWord, if_pos h, if_neg (Nat.not_lt.2 h)]
  · rw [intakeWord, if_neg h, if_pos (Nat.lt_of_not_le h)]
    cases signed <;> rfl

/-- An INTAKE that completes, with sound memories and ports (R26, R28). -/
theorem intakeDone_of_sound (hno : s.fmon.memErrs = []) (h : ∀ k, s.intakeMask k = 0) (c : CellId) (row w : Nat) (d : XReg)
    (rel signed : Bool) : ∃ f, s.intakeDone c row w d rel signed = { s with
      rowHeld := if rel then s.rowHeld.filter (· != row) else s.rowHeld,
      fmon := f,
      cald := { s.cald with
        discard := s.cald.discard || !s.rowPasses row,
        cells := s.cald.cells.set c (((s.cell c).put d (if signed then (s.intakeWord row w).signExtend 24
          else (s.intakeWord row w).setWidth 24)).advance) } } := by
  let u : State := if s.rowPasses row then s else s.setDiscard
  have hu : u = { s with cald := { s.cald with discard := s.cald.discard || !s.rowPasses row } } := by
    cases hp : s.rowPasses row with
    | true =>
      rw [Bool.not_true, Bool.or_false]
      exact if_pos hp
    | false =>
      rw [Bool.not_false, Bool.or_true]
      exact if_neg (by simp [hp])
  have hr : (if w ≤ 160 then u.cellRead .result (161 * row + w) else (0, u)) = (0, u) := by
    split
    · exact cellRead_none (memErr_of_no_errs _ (by rw [hu]; exact hno) _ _)
    · rfl
  have hw : (if w ≤ 160 then u.rowWord row w ^^^ word 0 else 0) = s.intakeWord row w := by
    rw [hu, intakeWord]
    split
    · exact BitVec.xor_zero
    · rfl
  obtain ⟨hv, f, ht⟩ := takenIn_of_sound (s := u) (by rw [hu]; exact h) c (s.intakeWord row w)
  unfold intakeDone
  dsimp only
  rw [show (if s.rowPasses row = true then s else s.setDiscard) = u from rfl, hr]
  dsimp only
  rw [hw, hv, ht, hu]
  cases rel with
  | true => exact ⟨f, rfl⟩
  | false => exact ⟨f, rfl⟩

theorem intake_of_runs {c : CellId} {i : Instr} (hr : s.runs c i = true) (hno : s.fmon.memErrs = []) (d b : XReg)
    (rel idx : Bool) (row : Nat) (word : Byte) (signed : Bool) : s.intake c i d b rel idx row word signed =
      if s.rowComplete row then (s.frameRow row).intakeDone c row (rowEff (s.cell c) b idx word) d rel signed
      else (s.frameRow row).cellBlock c (.intake row (rowEff (s.cell c) b idx word) d rel signed) := by
  unfold intake
  rw [if_pos hr, fetchErr_of_no_errs hno]
  rfl

end State

/-- Settles O18. -/
theorem cellIntakeAndWait : Obligations.CellIntakeAndWait := by
  refine ⟨fun s c d b rel idx sgn row word hrow hno hm => ?_, fun s c row hrow => ⟨fun hr => ?_, fun hu ho hst => ?_⟩⟩
  · dsimp only
    intro hr
    let w := word.toNat + if idx then ((s.cell c).get b).toNat % 256 else 0
    let u : State := s.frameRow row
    have hw : rowEff (s.cell c) b idx word = w := by
      cases idx <;> rfl
    have hx : exec (if sgn then .intakes c d b rel idx row word else .intake c d b rel idx row word) s =
        .next (if s.rowComplete row then u.intakeDone c row w d rel sgn else u.cellBlock c (.intake row w d rel sgn)) := by
      cases sgn with
      | false =>
        exact (if_neg (by omega)).trans (congrArg Host.Outcome.next ((State.intake_of_runs hr hno ..).trans (by rw [hw])))
      | true =>
        exact (if_neg (by omega)).trans (congrArg Host.Outcome.next ((State.intake_of_runs hr hno ..).trans (by rw [hw])))
    refine completes_of_eq hx ?_
    cases s.rowComplete row with
    | false =>
      simp only [Bool.false_eq_true, if_false, State.cellBlock, State.cell_setCell_same]
      exact ⟨rfl, rfl, rfl⟩
    | true =>
      obtain ⟨f, hf⟩ := State.intakeDone_of_sound (s := u) hno hm c row w d rel sgn
      simp only [if_true]
      rw [hf]
      have hcell : ({ u with
          rowHeld := if rel then u.rowHeld.filter (· != row) else u.rowHeld,
          fmon := f,
          cald := { u.cald with
            discard := u.cald.discard || !u.rowPasses row,
            cells := u.cald.cells.set c (((u.cell c).put d (if sgn then (u.intakeWord row w).signExtend 24
              else (u.intakeWord row w).setWidth 24)).advance) } } : State).cell c = _ := u.cell_setCell_same c _
      rw [hcell]
      refine ⟨?_, rfl, fun k => ?_, ?_, rfl⟩
      · rw [u.intakeWord_extended]
        exact Cell.onlyReg_put ..
      · cases rel with
        | true => simp [u, State.frameRow]
        | false => simp [u, State.frameRow]
      · change (s.cald.discard || !(bits (s.rowWord row 0) 0 6 == s.cald.fc.toNat % 64 && !(s.rowWord row 0).getLsbD 11)) = _
        rw [Bool.not_and, Bool.not_not, Bool.or_assoc]
  · have hx : exec (.waitEntry c row) s = .next (if ((s.fetchErr c).frameRow row).rowComplete row
        then ((s.fetchErr c).frameRow row).cellAdvance c else ((s.fetchErr c).frameRow row).cellBlock c (.waitRow row)) := by
      refine (if_neg (by omega)).trans (congrArg Host.Outcome.next (if_pos hr))
    refine completes_of_eq hx ?_
    rw [State.rowComplete_fetchErr]
    have hcell (k : CellId) : ((s.fetchErr c).frameRow row).cell k = s.cell k := s.cell_fetchErr c k
    cases s.rowComplete row with
    | true =>
      refine ⟨State.mem_addOnce _ _, fun k hk => ?_, ?_⟩
      · exact (State.cell_setCell_ne _ _ hk).trans (hcell k)
      · exact (State.cell_setCell_same _ _ _).trans (congrArg Cell.advance (hcell c))
    | false =>
      refine ⟨State.mem_addOnce _ _, fun k hk => ?_, ?_⟩
      · exact (State.cell_setCell_ne _ _ hk).trans (hcell k)
      · refine (State.cell_setCell_same _ _ _).trans ?_
        rw [hcell]
        rfl
  · have hx : exec (.waitEntryComplete c) s = .next (if s.rowComplete row then s.cellAdvance c else s) := by
      refine congrArg Host.Outcome.next ((if_pos (by simp [hu, ho])).trans ?_)
      rw [hst]
    refine completes_of_eq hx ?_
    cases s.rowComplete row with
    | true =>
      simp only [if_true, State.cellAdvance, State.cell_setCell_same]
      exact ⟨rfl, rfl⟩
    | false => rfl

end Sys2Proof.Machine
end

section
/-! PROOFS. The library's pass over a frame's image (07, R212, R214, R215). -/

namespace Sys2Proof.Machine

namespace State

variable (s : State)

theorem insertRec_frame (r : Rec) : ∃ g q, s.insertRec r = { s with regs := g, queue := q } := by
  unfold insertRec
  split
  · exact ⟨_, _, rfl⟩
  · exact ⟨_, _, rfl⟩

theorem recordFault_frame (e : FaultEvent) : ∃ g q, s.recordFault e = { s with regs := g, queue := q } := by
  have h (t : State) (hr : ∃ g, t = { s with regs := g }) : ∃ g q,
      (if t.snap.flag Reg.FAULT_EN 6 then t.insertRec (recOf (header 4 0x20) 0 0 t.faultStat (t.reg Reg.FAULT_INFO)
        (t.reg Reg.FAULT_CNT) e.detail e.subst) else t) = { s with regs := g, queue := q } := by
    obtain ⟨g, rfl⟩ := hr
    split
    · exact insertRec_frame _ _
    · exact ⟨_, _, rfl⟩
  refine h _ ?_
  split
  · exact ⟨_, rfl⟩
  · split
    · exact ⟨_, rfl⟩
    · exact ⟨_, rfl⟩

theorem mainFault_frame (flag cls outcome elem : Nat) (detail subst : Word) : ∃ g q f,
    s.mainFault flag cls outcome elem detail subst = { s with regs := g, queue := q, fmon := f } := by
  unfold mainFault faultEvent
  dsimp only
  split
  · obtain ⟨g, q, h⟩ := recordFault_frame ((s.setFlag Reg.FAULT_STAT flag true).raise Irq.FAULT)
      { cls := cls, outcome := outcome, elem := elem, detail := detail, subst := subst, counted := true }
    exact ⟨g, q, s.fmon, h⟩
  · exact ⟨_, s.queue, _, rfl⟩

/-- The library's data of the frame's image stays, and outside its data only faults and free values appear. -/
structure ImageKeeps (s t : State) : Prop where
  frame : ∃ l g q f n, t = { s with lib := l, regs := g, queue := q, fmon := f, freeCtr := n }
  raw : t.lib.raw = s.lib.raw
  valid : t.lib.valid = s.lib.valid
  str : t.lib.str = s.lib.str
  stage : t.lib.stage = s.lib.stage
  capNow : t.lib.capNow = s.lib.capNow

namespace ImageKeeps

variable {s} {t u : State}

theorem refl (s : State) : s.ImageKeeps s := ⟨⟨_, _, _, _, _, rfl⟩, rfl, rfl, rfl, rfl, rfl⟩

theorem trans (h₁ : s.ImageKeeps t) (h₂ : t.ImageKeeps u) : s.ImageKeeps u where
  frame := by
    obtain ⟨l, g, q, f, n, ht⟩ := h₁.frame
    obtain ⟨l', g', q', f', n', hu⟩ := h₂.frame
    exact ⟨l', g', q', f', n', by rw [hu, ht]⟩
  raw := h₂.raw.trans h₁.raw
  valid := h₂.valid.trans h₁.valid
  str := h₂.str.trans h₁.str
  stage := h₂.stage.trans h₁.stage
  capNow := h₂.capNow.trans h₁.capNow

theorem foldl {α : Type} {f : State → α → State} (h : ∀ (s : State) a, s.ImageKeeps (f s a)) (l : List α) (s : State) :
    s.ImageKeeps (l.foldl f s) := by
  induction l generalizing s with
  | nil => exact refl s
  | cons a l ih => exact (h s a).trans (ih _)

/-- A change of other data of the library. -/
theorem lib (l : Lib) (hl : l = { l with
    raw := s.lib.raw, valid := s.lib.valid, str := s.lib.str, stage := s.lib.stage, capNow := s.lib.capNow }) :
    s.ImageKeeps { s with lib := l } := by
  rw [hl]
  exact ⟨⟨_, _, _, _, _, rfl⟩, rfl, rfl, rfl, rfl, rfl⟩

theorem other {g : Vector Word 80} {q : Queue} {f : Fmon} {n : Nat} :
    s.ImageKeeps { s with regs := g, queue := q, fmon := f, freeCtr := n } :=
  ⟨⟨_, _, _, _, _, rfl⟩, rfl, rfl, rfl, rfl, rfl⟩

theorem mainFault (s : State) (flag cls outcome elem : Nat) (detail subst : Word) :
    s.ImageKeeps (s.mainFault flag cls outcome elem detail subst) := by
  obtain ⟨g, q, f, h⟩ := s.mainFault_frame flag cls outcome elem detail subst
  rw [h]
  exact other

theorem drawInt (s : State) : s.ImageKeeps s.drawInt.2 := other

/-! ### Electrodes -/

theorem elecFault (s : State) (p q code : Nat) : s.ImageKeeps (s.elecFault p q code) := by
  unfold State.elecFault
  split
  · exact refl s
  · dsimp only
    refine trans (t := State.setFlag { s with fmon := { s.fmon with pinsBad := s.fmon.pinsBad ++ [p] } } Reg.FAULT_STAT 5 true)
      other (mainFault _ _ _ _ _ _ _)

theorem elecJudge (s : State) (p q slot code : Nat) (bad : Bool) : s.ImageKeeps (s.elecJudge p q slot code bad) := by
  unfold State.elecJudge
  dsimp only
  generalize (if bad = true then _ else _) = n
  split
  · exact (lib _ rfl).trans (elecFault _ _ _ _)
  · exact lib _ rfl

theorem elecAxis (s : State) (pins : List Nat) (line : Nat → Nat) : s.ImageKeeps (s.elecAxis pins line) := by
  unfold State.elecAxis
  dsimp only
  refine (foldl (fun t p => ?_) _ _).trans (foldl (fun t i => ?_) _ _)
  · split
    · exact (elecJudge _ _ _ _ _ _).trans (elecJudge _ _ _ _ _ _)
    · exact refl t
  · split
    · split
      · exact refl t
      · exact (elecJudge _ _ _ _ _ _).trans (elecJudge _ _ _ _ _ _)
    · exact refl t

theorem libElec (s : State) (g : Grid) : s.ImageKeeps (s.libElec g) := by
  unfold State.libElec
  split
  · exact (elecAxis _ _ _).trans (elecAxis _ _ _)
  · exact refl s

/-! ### Regions -/

theorem centroid (s : State) (i n : Nat) (lo mid hi : Int) : s.ImageKeeps (s.centroid i n lo mid hi).2 := by
  unfold State.centroid
  dsimp only
  split
  · exact drawInt s
  · exact refl s

theorem makeRegion (s : State) (g : Grid) (peak : Nat) (ns : List Nat) : s.ImageKeeps (s.makeRegion g peak ns).2 :=
  (centroid s (g.x peak) g.nx _ _ _).trans (centroid _ (g.y peak) g.ny _ _ _)

theorem findHover (s : State) (g : Grid) (rs : List Region) : s.ImageKeeps (s.findHover g rs).2 := by
  unfold State.findHover
  split
  · next x y _ _ =>
    dsimp only
    split
    · exact refl s
    · exact (centroid s x g.xpin.length _ _ _).trans (centroid _ y g.ypin.length _ _ _)
  · exact refl s

theorem libRegions (s : State) (g : Grid) : s.ImageKeeps (s.libRegions g) := by
  have hr (l : List (Nat × List Nat)) (acc : List Region × State) : acc.2.ImageKeeps (l.foldl (fun acc k =>
      let m := acc.2.makeRegion g k.1 k.2
      (acc.1 ++ [m.1], m.2)) acc).2 := by
    induction l generalizing acc with
    | nil => exact refl _
    | cons k l ih => exact (makeRegion acc.2 g k.1 k.2).trans (ih (acc.1 ++ [(acc.2.makeRegion g k.1 k.2).1], _))
  unfold State.libRegions
  dsimp only
  exact (hr _ ([], s)).trans ((findHover _ g _).trans (lib _ rfl))

/-! ### The other steps of the pass -/

theorem libAnti (s : State) (g : Grid) : s.ImageKeeps (s.libAnti g) := lib _ rfl

theorem libTrack (s : State) (g : Grid) : s.ImageKeeps (s.libTrack g) := lib _ rfl

theorem captureEnd (s : State) (g : Grid) : s.ImageKeeps (s.captureEnd g) := lib _ rfl

theorem puCheck (s : State) (g : Grid) : s.ImageKeeps (s.puCheck g) := by
  unfold State.puCheck
  split
  · exact refl s
  · split
    · exact lib _ rfl
    · exact lib _ rfl

theorem rebaseFrame (s : State) : s.ImageKeeps s.rebaseFrame := other

end ImageKeeps

end State
end Sys2Proof.Machine
end

section
/-! PROOFS. The library's load of a frame (07, R212 to R215). -/

namespace Sys2Proof.Machine

namespace State

variable (s : State)

/-- The captures of a schedule start, or of a new preset, begin. -/
def capturesBegun : State :=
  if s.lib.again then s.libRestart
  else if s.lib.capNext then { s with lib := { s.lib.startCapture true (s.lp LP.BASE_CAP) with capNext := false } }
  else s

/-- The image is decoded from the frame's rows, and the captures are judged. -/
def imageDecoded : State :=
  let s := (s.libTime.libDecode s.fsn.grid).capRequest
  { s with lib := { s.lib with stage := 1, healed := [], capNow := s.lib.capFull && 0 < s.lib.capLeft } }

/-- The frame is added to the capture. -/
def frameTaken (g : Grid) : State :=
  { s with lib := { s.lib.captureFrame g with regions := [], str := [], strS := [], marks := [] } }

/-- The pass over an image that is captured. -/
def imageCaptured (g : Grid) (first : Bool) : State :=
  let s := (if first then s.puCheck g else s).frameTaken g
  ((if s.lib.capLeft = 0 then s.captureEnd g else s).libElec g).rebaseFrame

/-- A part of the image is captured. -/
def partTaken (g : Grid) (part : Prop) [Decidable part] : State :=
  let s := { s with lib := { s.lib with stale := s.lib.stale || part } }
  let s := if part then { s with lib := s.lib.captureFrame g } else s
  if part && s.lib.capLeft = 0 then s.captureEnd g else s

/-- The pass over any other image, once it has strengths. -/
def imageTracked (g : Grid) (part : Prop) [Decidable part] : State :=
  (((((s.libAnti g).libRegions g).libElec g).libTrack g).partTaken g part).rebaseFrame

theorem libLoad_eq : s.libLoad =
    let u := s.capturesBegun
    let v := u.imageDecoded
    if v.lib.capNow then v.imageCaptured u.fsn.grid (u.lib.capFull && u.lib.capLeft = u.lp LP.BASE_CAP)
    else (v.libStrengths u.fsn.grid).imageTracked u.fsn.grid (0 < v.lib.capLeft) := rfl

theorem partTaken_keeps (g : Grid) (part : Prop) [Decidable part] : s.ImageKeeps (s.partTaken g part) := by
  have h := ImageKeeps.lib (s := s) { s.lib with stale := s.lib.stale || part } rfl
  have hc (v : State) : v.ImageKeeps (if part then { v with lib := v.lib.captureFrame g } else v) := by
    split
    · exact ImageKeeps.lib _ rfl
    · exact ImageKeeps.refl v
  have he (w : State) : w.ImageKeeps (if part && w.lib.capLeft = 0 then w.captureEnd g else w) := by
    split
    · exact ImageKeeps.captureEnd w g
    · exact ImageKeeps.refl w
  exact (h.trans (hc _)).trans (he _)

theorem imageTracked_keeps (g : Grid) (part : Prop) [Decidable part] : s.ImageKeeps (s.imageTracked g part) :=
  (((((ImageKeeps.libAnti s g).trans (ImageKeeps.libRegions _ g)).trans (ImageKeeps.libElec _ g)).trans
    (ImageKeeps.libTrack _ g)).trans (partTaken_keeps _ g part)).trans (ImageKeeps.rebaseFrame _)

/-- A captured image has no strengths; its raw values and their validity stay. -/
theorem imageCaptured_spec (g : Grid) (first : Bool) :
    ∃ u : State, (∃ l g q f n, u = { s with lib := l, regs := g, queue := q, fmon := f, freeCtr := n }) ∧
      u.lib.raw = s.lib.raw ∧ u.lib.valid = s.lib.valid ∧ u.lib.stage = s.lib.stage ∧ u.lib.capNow = s.lib.capNow ∧
      u.ImageKeeps (s.imageCaptured g first) := by
  have hp : s.ImageKeeps (if first then s.puCheck g else s) := by
    split
    · exact ImageKeeps.puCheck s g
    · exact ImageKeeps.refl s
  have he (w : State) : w.ImageKeeps (if w.lib.capLeft = 0 then w.captureEnd g else w) := by
    split
    · exact ImageKeeps.captureEnd w g
    · exact ImageKeeps.refl w
  unfold imageCaptured
  generalize (if first then s.puCheck g else s) = v at hp ⊢
  obtain ⟨l, r, q, f, n, hv⟩ := hp.frame
  refine ⟨v.frameTaken g, ⟨_, r, q, f, n, by rw [hv]; rfl⟩, hp.raw, hp.valid, hp.stage, hp.capNow, ?_⟩
  exact ((he _).trans (ImageKeeps.libElec _ g)).trans (ImageKeeps.rebaseFrame _)

/-! ### The image -/

theorem two_le_baseCap : 2 ≤ s.lp LP.BASE_CAP := Nat.le_max_left ..

/-- A capture is under way as the frame begins, or the baselines are those of the frame before. -/
theorem capturesBegun_spec : (∃ l, s.capturesBegun = { s with lib := l }) ∧
    (s.capturesBegun.lib.capFull = true ∧ 0 < s.capturesBegun.lib.capLeft ∨ s.capturesBegun.lib.base = s.lib.base) := by
  have h := s.two_le_baseCap
  unfold capturesBegun
  split
  · exact ⟨⟨_, rfl⟩, .inl ⟨rfl, Nat.lt_of_lt_of_le (by omega) h⟩⟩
  · split
    · exact ⟨⟨_, rfl⟩, .inr rfl⟩
    · exact ⟨⟨_, rfl⟩, .inr rfl⟩

theorem drawInts_frame (k : Nat) : ∃ n, (s.drawInts k).2 = { s with freeCtr := n } := by
  induction k generalizing s with
  | zero => exact ⟨_, rfl⟩
  | succ k ih =>
    obtain ⟨n, h⟩ := ih s.drawInt.2
    exact ⟨n, h⟩

theorem mutualImage_frame (g : Grid) (seg : List Nat) : ∃ n, (s.mutualImage g seg).2 = { s with freeCtr := n } := by
  unfold mutualImage
  split
  · exact s.drawInts_frame g.count
  · exact ⟨_, rfl⟩

theorem libDecode_spec (g : Grid) : (∃ l n, s.libDecode g = { s with lib := l, freeCtr := n } ∧ l.base = s.lib.base ∧
      l.capFull = s.lib.capFull ∧ l.capLeft = s.lib.capLeft) ∧
    (s.fsn.segment ≠ [] → (s.libDecode g).lib.raw = (List.range g.count).map (s.mutualRaw g s.fsn.segment)) := by
  unfold libDecode
  extract_lets seg self rows img
  clear_value self rows
  obtain ⟨n, hn⟩ := s.mutualImage_frame g seg
  have key (l : Lib) : ({ img.2 with lib := l } : State) = { s with lib := l, freeCtr := n } := by rw [hn]
  refine ⟨⟨_, n, key _, rfl, rfl, rfl⟩, fun hs => ?_⟩
  have hm : s.mutualImage g seg = ((List.range g.count).map (s.mutualRaw g seg), s) :=
    if_neg fun h => hs (List.isEmpty_iff.1 h)
  have h₁ : img.1 = (List.range g.count).map (s.mutualRaw g seg) := by rw [show img = _ from hm]
  dsimp only
  exact h₁

theorem capRequest_spec : ∃ l, s.capRequest = { s with lib := l } ∧ l.base = s.lib.base ∧ l.raw = s.lib.raw ∧
    (s.lib.capFull = true → 0 < s.lib.capLeft → l.capFull = true ∧ 0 < l.capLeft) := by
  unfold capRequest
  extract_lets l now cal old ask recap l'
  split
  · next h =>
    simp only [Bool.and_eq_true, decide_eq_true_iff] at h
    exact ⟨_, rfl, rfl, rfl, fun _ _ => h⟩
  · next h =>
    have hn (hf : s.lib.capFull = true) (hl : 0 < s.lib.capLeft) : False := h (Bool.and_eq_true_iff.2 ⟨hf, decide_eq_true hl⟩)
    split
    · exact ⟨_, rfl, rfl, rfl, fun hf hl => (hn hf hl).elim⟩
    · exact ⟨_, rfl, rfl, rfl, fun hf hl => (hn hf hl).elim⟩

theorem foldl_add_eq_sum {α : Type} (f : α → Int) (l : List α) (b : Int) : l.foldl (fun t e => t + f e) b = b + (l.map f).sum := by
  induction l generalizing b with
  | nil => simp
  | cons a l ih => rw [List.foldl_cons, ih, List.map_cons, List.sum_cons, add_assoc]

/-- The raw value of a node: the transform of its column's slots over the segment (R214). -/
theorem mutualRaw_eq (g : Grid) (seg : List Nat) (n : Nat) : s.mutualRaw g seg n = (seg.map (fun e =>
    hadamard (s.cald.snap.index (g.rowPin n) % 128) (s.cald.snap.entry e).code *
      slotVal (s.cald.snap.entry e) (s.rowWord e (1 + g.colPin n)))).sum / 2 ^ Nat.log2 seg.length := by
  unfold mutualRaw
  dsimp only
  rw [foldl_add_eq_sum, zero_add]
  rfl

/-- What the decoding of an image gives. -/
theorem imageDecoded_spec : ∃ l n, s.imageDecoded = { s with lib := l, freeCtr := n } ∧ l.stage = 1 ∧ l.base = s.lib.base ∧
    (s.lib.capFull = true → 0 < s.lib.capLeft → l.capNow = true) ∧
    (s.fsn.segment ≠ [] → l.raw = (List.range s.fsn.grid.count).map (s.mutualRaw s.fsn.grid s.fsn.segment)) := by
  obtain ⟨⟨l, n, hd, hb, hf, hl⟩, hr⟩ := s.libTime.libDecode_spec s.fsn.grid
  obtain ⟨l', hc, hb', hr', hcap⟩ := (s.libTime.libDecode s.fsn.grid).capRequest_spec
  rw [hd] at hb' hr' hcap hr
  refine ⟨{ l' with stage := 1, healed := [], capNow := l'.capFull && decide (0 < l'.capLeft) }, n, ?_, rfl, hb'.trans hb, fun h₁ h₂ => ?_,
    fun hs => hr'.trans (hr hs)⟩
  · unfold imageDecoded
    dsimp only
    rw [hc, hd]
    rfl
  · obtain ⟨h₃, h₄⟩ := hcap (hf.trans h₁) (Nat.lt_of_lt_of_eq h₂ hl.symm)
    exact Bool.and_eq_true_iff.2 ⟨h₃, decide_eq_true h₄⟩

end State
end Sys2Proof.Machine
end

section
/-! PROOFS. LD and ST (06, R18, R26, R28, R212, R214, R215). -/

namespace Sys2Proof.Machine

theorem nth_map_range {α : Type} (f : Nat → α) (d : α) {n k : Nat} (h : k < n) : nth ((List.range n).map f) k d = f k := by
  simp [nth, h]

namespace State

variable (s : State)

/-- The library's load of a frame (R212 to R215). -/
theorem libLoad_spec : (∃ l g q f n, s.libLoad = { s with lib := l, regs := g, queue := q, fmon := f, freeCtr := n }) ∧
    s.libLoad.lib.stage = 1 ∧
    (s.fsn.segment ≠ [] → s.libLoad.lib.raw = (List.range s.fsn.grid.count).map (s.mutualRaw s.fsn.grid s.fsn.segment)) ∧
    (s.libLoad.lib.capNow = false → ∀ n < s.fsn.grid.count, nth s.libLoad.lib.valid n false = true →
      nth s.libLoad.lib.str n 0 = nth s.lib.base n 0 - nth s.libLoad.lib.raw n 0) := by
  rw [libLoad_eq]
  dsimp only
  obtain ⟨⟨l, hu⟩, hbase⟩ := s.capturesBegun_spec
  have hfsn : s.capturesBegun.fsn = s.fsn := by
    rw [hu]
    rfl
  have hraw (g : Grid) (seg : List Nat) : s.capturesBegun.mutualRaw g seg = s.mutualRaw g seg := by
    rw [hu]
    rfl
  obtain ⟨l', n, hv, hstage, hb, hcap, hr⟩ := s.capturesBegun.imageDecoded_spec
  rw [hfsn, hraw] at hr
  rw [hfsn]
  generalize s.capturesBegun = u at *
  generalize u.imageDecoded = v at *
  have hvl : v.lib = l' := by rw [hv]
  rw [← hvl] at hstage hcap hr hb
  split
  · next hnow =>
    obtain ⟨w, ⟨l'', g, q, f, k, hw⟩, h₁, h₂, h₃, h₄, hk⟩ := v.imageCaptured_spec s.fsn.grid
      (u.lib.capFull && u.lib.capLeft = u.lp LP.BASE_CAP)
    obtain ⟨l₃, g', q', f', k', ht⟩ := hk.frame
    refine ⟨⟨l₃, g', q', f', k', by rw [ht, hw, hv, hu]⟩, (hk.stage.trans h₃).trans hstage,
      fun hs => (hk.raw.trans h₁).trans (hr hs), fun hc => ?_⟩
    rw [hk.capNow, h₄, hnow] at hc
    cases hc
  · next hnow =>
    have hk := imageTracked_keeps (v.libStrengths s.fsn.grid) s.fsn.grid (0 < v.lib.capLeft)
    obtain ⟨l₃, g', q', f', k', ht⟩ := hk.frame
    have hub : u.lib.base = s.lib.base := hbase.resolve_left fun h => hnow (hcap h.1 h.2)
    refine ⟨⟨l₃, g', q', f', k', ?_⟩, hk.stage.trans hstage, fun hs => hk.raw.trans (hr hs), fun _ i hi hval => ?_⟩
    · rw [ht, hv, hu]
      rfl
    · rw [hk.valid] at hval
      rw [hk.str, hk.raw, ← hub, ← hb]
      exact (nth_map_range _ _ hi).trans (if_pos hval)

/-- The library takes the frame's rows (R26, R28, R212). -/
theorem libRead_spec (hno : s.fmon.memErrs = []) : libLoaded s s.libRead ∧ s.libRead.cald.cells = s.cald.cells := by
  let u : State := { s with cald := { s.cald with discard := s.cald.discard || !s.libRows.all s.rowPasses } }
  have hu : (if s.libRows.all s.rowPasses then s else s.setDiscard) = u := by
    cases h : s.libRows.all s.rowPasses with
    | true =>
      rw [if_pos rfl]
      simp only [u, h, Bool.not_true, Bool.or_false]
    | false =>
      rw [if_neg (by decide)]
      simp only [u, h, Bool.not_false, Bool.or_true]
      rfl
  have hx : s.libRead = { u.libLoad with rowHeld := u.libLoad.rowHeld.filter (fun r => !s.libRows.contains r) } := by
    unfold libRead
    dsimp only
    rw [hu, show u.fmon.memErrs = [] from hno]
    rfl
  obtain ⟨⟨l, g, q, f, n, ht⟩, hstage, hraw, hstr⟩ := u.libLoad_spec
  rw [hx]
  have hheld : u.libLoad.rowHeld = s.rowHeld := by rw [ht]
  have hcald : u.libLoad.cald = u.cald := by rw [ht]
  refine ⟨⟨hstage, fun r => ?_, ?_, fun hs k hk => ?_, hstr, ?_⟩, ?_⟩
  · rw [hheld]
    simp [List.mem_filter]
  · rw [hcald]
  · have hn := hraw hs
    rw [hn]
    exact (nth_map_range _ _ hk).trans (s.mutualRaw_eq _ _ _)
  · rw [ht]
  · rw [hcald]

end State
end Sys2Proof.Machine
end

section
/-! PROOFS. LD and ST of code and of the library (06, R18, R26, R28; 07, R212). -/

namespace Sys2Proof.Machine

/-! ### Addresses -/

theorem effAddr_lt (x : Cell) (b : XReg) (idx : Bool) (addr : BitVec 12) : effAddr x b idx addr < 4096 := by
  unfold effAddr
  split
  · exact Nat.mod_lt _ (by omega)
  · exact addr.isLt

theorem effAddr_eq (x : Cell) (b : XReg) (idx : Bool) (addr : BitVec 12) :
    effAddr x b idx addr = (addr.toNat + if idx then (x.get b).toNat else 0) % 4096 := by
  unfold effAddr
  cases idx with
  | true => rfl
  | false => exact (Nat.mod_eq_of_lt addr.isLt).symm

namespace State

variable {s : State}

theorem phys_fetchErr (c : CellId) : (s.fetchErr c).phys c = s.phys c := by
  obtain ⟨b, hb⟩ := s.fetchErr_cald c
  rw [phys, hb, phys]

theorem dmemRead_fetchErr (c : CellId) (k a : Nat) : (s.fetchErr c).dmemRead k a = s.dmemRead k a := by
  obtain ⟨b, hb⟩ := s.fetchErr_cald c
  rw [dmemRead, hb, dmemRead]

theorem cellAct_of_holds {c : CellId} {i : Instr} {p : Pred} (hr : s.runs c i = true) (hp : (s.cell c).holds p = true)
    (f : State → State) : s.cellAct c i p f = (f (s.fetchErr c)).cellAdvance c := by
  unfold cellAct
  rw [if_pos hr]
  dsimp only
  rw [cell_fetchErr, if_pos hp]

/-- A load of a word without an error. -/
theorem loadAct_of_none {t : State} {c : CellId} {d b : XReg} {idx : Bool} {addr : BitVec 12}
    (h : t.memErr (.dmem (t.cald.map.get c)) (effAddr (t.cell c) b idx addr) = none) :
    t.loadAct c d b idx addr = t.setCell c ((t.cell c).put d (t.ldmem c (effAddr (t.cell c) b idx addr))) := by
  have hr : t.loadData c (effAddr (t.cell c) b idx addr) = (t.ldmem c (effAddr (t.cell c) b idx addr), t) := by
    unfold loadData
    rw [Nat.mod_eq_of_lt (effAddr_lt ..), cellRead_none h]
    exact Prod.ext BitVec.xor_zero rfl
  unfold loadAct
  dsimp only
  rw [hr]

theorem stored_frame (u : State) (m : MemId) (e p : Nat) (v : Data) (c : CellId) : ∃ f,
    ((u.rewrite m e).dmemWrite p e v).cellAdvance c = { u with
      cald := { u.cald with
        dmem := (((u.rewrite m e).dmemWrite p e v).cellAdvance c).cald.dmem,
        cells := (((u.rewrite m e).dmemWrite p e v).cellAdvance c).cald.cells },
      fmon := f } := ⟨_, rfl⟩

end State

/-- Settles O15. -/
theorem cellLoadStore : Obligations.CellLoadStore := by
  intro s c p d a b idx addr hp hw e
  have he : effAddr (s.cell c) b idx addr = e := effAddr_eq ..
  refine ⟨fun hno hr => ?_, fun hr hs => ?_, fun ho => ?_, fun hl hno => ⟨fun hrows => ?_, fun hrows => ?_⟩, fun hm ho hst hno hrows => ?_⟩
  · have hx : exec (.ld c (.code p d b idx addr)) s = .next (((s.fetchErr c).loadAct c d b idx addr).cellAdvance c) := by
      exact (execLd_code ..).trans (congrArg Host.Outcome.next (State.cellAct_of_holds hr hp _))
    have hread : ((s.fetchErr c).memErr (.dmem ((s.fetchErr c).cald.map.get c)) (effAddr ((s.fetchErr c).cell c) b idx addr)) = none := by
      obtain ⟨f, hf⟩ := s.fetchErr_cald c
      rw [State.cell_fetchErr, he, hf]
      exact hno
    have hv : (s.fetchErr c).ldmem c e = s.dmemRead (s.phys c) e := by
      rw [State.ldmem, State.phys_fetchErr, State.dmemRead_fetchErr]
    rw [State.loadAct_of_none hread, State.cell_fetchErr, he, State.cellAdvance, State.cell_setCell_same, State.setCell_setCell,
      hv] at hx
    exact ⟨_, hx, rfl, by simp [Cell.advance], _, rfl, Cell.onlyReg_put ..⟩
  · let u := s.fetchErr c
    have hcell : u.cell c = s.cell c := s.cell_fetchErr c c
    have hlt : e < 4096 := he ▸ effAddr_lt ..
    have hx : exec (.st c p a b idx addr) s = .next
        (((u.rewrite (.dmem (u.cald.map.get c)) e).dmemWrite (u.phys c) e ((s.cell c).get a)).cellAdvance c) := by
      refine congrArg Host.Outcome.next ((State.cellAct_of_holds hr hp _).trans ?_)
      dsimp only
      rw [State.token_of_sound (State.cellsSound_fetchErr hs c), State.cell_fetchErr, he]
      have hen : (BitVec.ofNat 24 e).toNat = e := Nat.mod_eq_of_lt (by omega)
      have h₁ (x y : Data × Data) : nth ([x, y].map Prod.snd) 0 0 = x.2 := rfl
      have h₂ (x y : Data × Data) : nth ([x, y].map Prod.snd) 1 0 = y.2 := rfl
      rw [h₁, h₂, hen]
    refine completes_of_eq hx ⟨fun k _ a' ha' => ?_, ?_, fun k hk => ?_, u.stored_frame _ _ _ _ _⟩
    · have hwf : Memory.wf dmemDefault (u.rewrite (.dmem (u.cald.map.get c)) e).cald.dmem = true := by
        obtain ⟨f, hf⟩ := s.fetchErr_cald c
        exact show Memory.wf dmemDefault u.cald.dmem = true by rw [hf]; exact hw.dmem
      refine (State.dmemRead_dmemWrite _ _ _ k a' _ hwf).trans ?_
      rw [Nat.mod_eq_of_lt ha', Nat.mod_eq_of_lt hlt, State.phys_fetchErr]
      refine if_congr (by omega) rfl (s.dmemRead_fetchErr c k a')
    · refine (State.cell_setCell_same _ _ _).trans (congrArg Cell.advance hcell)
    · exact (State.cell_setCell_ne _ _ hk).trans (s.cell_fetchErr c k)
  · exact congrArg Host.Outcome.next (if_neg (by simp [State.libAt, ho]))
  · exact congrArg Host.Outcome.next ((if_pos hl).trans (if_neg (by simp [hrows])))
  · have hx : exec (.ld c .library) s = .next s.libRead :=
      congrArg Host.Outcome.next ((if_pos hl).trans (if_pos hrows))
    exact completes_of_eq hx (s.libRead_spec hno)
  · have hx : exec (.waitEntryComplete c) s = .next (s.libRead.cellBlock c .run) := by
      refine congrArg Host.Outcome.next ((if_pos (by simp [hm, ho])).trans ?_)
      rw [hst]
      exact if_pos hrows
    obtain ⟨hload, hcells⟩ := s.libRead_spec hno
    have hcell (k : CellId) : s.libRead.cell k = s.cell k := by rw [State.cell, hcells, State.cell]
    refine completes_of_eq hx ⟨?_, ?_, fun k hk => ?_⟩
    · obtain ⟨hstage, hheld, hdisc, hraw, hstr, hf⟩ := hload
      refine ⟨hstage, hheld, hdisc, hraw, hstr, ?_⟩
      rw [State.cellBlock, State.setCell]
      conv_lhs => rw [hf]
      rfl
    · rw [State.cellBlock, State.cell_setCell_same, hcell]
    · rw [State.cellBlock, State.cell_setCell_ne _ _ hk, hcell]

end Sys2Proof.Machine
end

section
/-! PROOFS. A detector's block that ends, and the housekeeping conversions (04, 05). -/

namespace Sys2Proof.Machine

theorem clampI_eq_max_min {x lo hi : Int} (h : lo ≤ hi) : clampI x lo hi = max lo (min hi x) := by
  unfold clampI
  split
  · omega
  · split <;> omega

theorem Det.mag_eq (d : Det) :
    d.mag = (max 0 (min 0xFFFFFFFF
      ((d.s1 * d.s1 + d.s2 * d.s2 - (d.coef * d.s1 * d.s2 + 2 ^ 21) / 2 ^ 22) / 2 ^ (2 * Nat.clog 2 d.blen)))).toNat := by
  rw [Det.mag, clampI_eq_max_min (by decide)]
  rfl

namespace State

variable {s : State}

theorem tab_setTabs (h : Memory.wf tabDefault s.tables = true) (c a : Nat) (l : List Word) (i : Nat) (hi : i < l.length) :
    (s.setTabs c a l).tab c (a + i) = l[i] := by
  have hw : winKey c (a + i) - winKey c a = i := by
    unfold winKey
    omega
  refine (memRead_memWriteAll h).trans ?_
  rw [if_pos (by unfold winKey; omega), hw, List.getElem?_eq_getElem hi]
  rfl

theorem dets_set_ne {d : Det} {k j : Fin 4} (h : j ≠ k) : (s.dets.set k d).get j = s.dets.get j := by
  rw [Vector.get_eq_getElem, Vector.getElem_set, if_neg fun hv => h (Fin.ext hv.symm), ← Vector.get_eq_getElem]

theorem dets_set_same (d : Det) (k : Fin 4) : (s.dets.set k d).get k = d := by
  rw [Vector.get_eq_getElem, Vector.getElem_set, if_pos rfl]

/-! ### The end of a detector's block (R134) -/

/-- The flags of a block's end. -/
def blockFlags (s : State) (k : Fin 4) (dirty : Bool) : State :=
  (s.setFlag Reg.GOERTZEL_STAT (12 + k.val) true).setFlag Reg.GOERTZEL_STAT (4 + k.val) dirty

theorem blockFlags_frame (k : Fin 4) (dirty : Bool) : s.blockFlags k dirty = { s with regs := (s.blockFlags k dirty).regs } := rfl

theorem blockFlags_done (k : Fin 4) (dirty : Bool) : (s.blockFlags k dirty).flag Reg.GOERTZEL_STAT (12 + k.val) = true := by
  rw [blockFlags, flag_setFlag_other _ _ (by omega) (by omega)]
  exact flag_setFlag_same _ _ _ _ (by omega)

theorem blockFlags_dirty (k : Fin 4) (dirty : Bool) :
    (s.blockFlags k dirty).flag Reg.GOERTZEL_STAT (4 + k.val) = dirty := flag_setFlag_same _ _ _ _ (by omega)

theorem reg_blockFlags_ne (k : Fin 4) (dirty : Bool) {q : RegId} (h : q ≠ Reg.GOERTZEL_STAT) :
    (s.blockFlags k dirty).reg q = s.reg q :=
  (reg_setFlag_ne _ _ _ h).trans (reg_setFlag_ne _ _ _ h)

/-- The words of a block's result. -/
def blockWords (s : State) (k : Fin 4) : List Word :=
  [word ((s.dets.get k).mag / 65536), word (s.dets.get k).mag, s.seq.fc, s.tab Win.GOERTZEL (8 * k.val + 4 + 3) + 1]

theorem detDone_eq {k : Fin 4} (hb : (s.dets.get k).busy = true) (hn : (s.dets.get k).n = (s.dets.get k).blen) :
    s.detDone k = { (s.setTabs Win.GOERTZEL (8 * k.val + 4) (s.blockWords k)).blockFlags k (s.dets.get k).dirty with
      dets := s.dets.set k { s.dets.get k with busy := false } } := if_pos (by simp [hb, hn])

/-! ### Temperature (R156, R374) -/

theorem calTrigger_of_busy (h : s.calBusy = true) : s.calTrigger = s := if_pos (by simp [h])

theorem tempUpdate_of_measured_busy (v : Word) (hm : s.cal.measured = true) (hb : s.calBusy = true) :
    s.tempUpdate v = s.setReg Reg.TEMP v := by
  unfold tempUpdate
  dsimp only
  rw [if_neg (by simp [hm]), calTrigger_of_busy (show (s.setReg Reg.TEMP v).calBusy = true from hb)]
  exact ite_self _

theorem tempUpdate_first (v : Word) (hm : s.cal.measured = false) :
    s.tempUpdate v = { (s.setReg Reg.TEMP v).setFld Reg.CAL_TEMP_DELTA 8 8 (iword (asr (v.toInt + 8) 4)).toNat with
      cal := { s.cal with measured := true } } := if_pos (by simp [hm])

theorem calTrigger_frame : s.calTrigger = { s with regs := s.calTrigger.regs, cal := s.calTrigger.cal } := by
  unfold calTrigger
  split <;> rfl

theorem reg_calTrigger_ne {q : RegId} (h : q ≠ Reg.CAL_STAT) : s.calTrigger.reg q = s.reg q := by
  unfold calTrigger
  split
  · rfl
  · exact reg_setFlag_ne _ _ _ h

theorem tempUpdate_frame (v : Word) :
    s.tempUpdate v = { s with regs := (s.tempUpdate v).regs, cal := (s.tempUpdate v).cal } := by
  unfold tempUpdate
  dsimp only
  split
  · rfl
  · split
    · exact calTrigger_frame
    · rfl

theorem tempUpdate_temp (v : Word) : (s.tempUpdate v).reg Reg.TEMP = v := by
  unfold tempUpdate
  dsimp only
  have hv : (s.setReg Reg.TEMP v).reg Reg.TEMP = v := reg_setReg_same _ _ _
  split
  · exact (reg_setFld_ne _ _ _ _ (by decide)).trans hv
  · split
    · exact (reg_calTrigger_ne (by decide)).trans hv
    · exact hv

theorem hkDone_of_slot {r : EntryRun} (ch : Nat) (v : Word) (hr : s.running = some r)
    (h : r.e.act = 5 ∧ ch = r.hk.length ∧ s.chipsOver = false) : ∃ p, s.hkDone ch v =
      let t : State := { s with seq := { s.seq with cur := some { r with hk := r.hk ++ [s.hkValue ch v] }, pend := p } }
      if ch = 0 then t.tempUpdate v else t := by
  refine ⟨s.seq.pend.map (fun p => if p.firstChip = r.firstChip then { r with hk := r.hk ++ [s.hkValue ch v] } else p), ?_⟩
  unfold hkDone
  rw [hr]
  exact if_pos (by simpa using h)

/-! ### The obligation -/

theorem detDone_spec {k : Fin 4} (hb : (s.dets.get k).busy = true) (hn : (s.dets.get k).n = (s.dets.get k).blen)
    (hw : Memory.wf tabDefault s.tables = true) :
    (∀ i (hi : i < 4), (s.detDone k).tab Win.GOERTZEL (8 * k.val + 4 + i) = (s.blockWords k)[i]'hi) ∧
    (s.detDone k).flag Reg.GOERTZEL_STAT (12 + k.val) = true ∧
    (s.detDone k).flag Reg.GOERTZEL_STAT (4 + k.val) = (s.dets.get k).dirty ∧
    ((s.detDone k).dets.get k).busy = false ∧ (∀ j, j ≠ k → (s.detDone k).dets.get j = s.dets.get j) ∧
    (∀ q, q ≠ Reg.GOERTZEL_STAT → (s.detDone k).reg q = s.reg q) ∧
    s.detDone k = { s with
      dets := (s.detDone k).dets, tables := (s.detDone k).tables, regs := (s.detDone k).regs } := by
  rw [detDone_eq hb hn]
  refine ⟨fun i hi => tab_setTabs hw _ _ (s.blockWords k) i hi, blockFlags_done k _, blockFlags_dirty k _, ?_, fun j hj => dets_set_ne hj,
    fun q hq => reg_blockFlags_ne k _ hq, rfl⟩
  exact congrArg Det.busy (dets_set_same _ k)

theorem hkSlot_spec {r : EntryRun} (ch : Fin 7) (v : Word) (hr : s.running = some r) (ha : r.e.act = 5)
    (hs : ch.val = r.hk.length) (ho : s.chipsOver = false) :
    (∃ r', (s.hkDone ch.val v).seq.cur = some r' ∧ r'.idx = r.idx ∧
      r'.hk = r.hk ++ [if ch.val = 6 ∧ s.drive.pump = false then 0 else v]) ∧
    (s.hkDone ch.val v).reg Reg.TEMP = if ch = 0 then v else s.reg Reg.TEMP := by
  obtain ⟨p, hp⟩ := hkDone_of_slot ch.val v hr ⟨ha, hs, ho⟩
  have hv : s.hkValue ch.val v = if ch.val = 6 ∧ s.drive.pump = false then 0 else v := by
    simp [hkValue]
  rw [hp, ← hv]
  by_cases h0 : ch = 0
  · subst h0
    exact ⟨⟨_, congrArg (fun t : State => t.seq.cur) (tempUpdate_frame v), rfl, rfl⟩, tempUpdate_temp v⟩
  · have hn : ch.val ≠ 0 := fun h => h0 (Fin.ext h)
    rw [if_neg h0]
    simp only [if_neg hn]
    exact ⟨⟨_, rfl, rfl, rfl⟩, rfl⟩

theorem tempUpdate_cal (v : Word) (hb : s.calBusy = true) :
    (s.cal.measured = false → ((s.tempUpdate v).fld Reg.CAL_TEMP_DELTA 8 8 : Int) = (v.toInt + 8) / 16 % 256 ∧
      (s.tempUpdate v).fld Reg.CAL_TEMP_DELTA 0 8 = s.fld Reg.CAL_TEMP_DELTA 0 8) ∧
    (s.cal.measured = true → (s.tempUpdate v).reg Reg.CAL_TEMP_DELTA = s.reg Reg.CAL_TEMP_DELTA) ∧
    (∀ q, q ≠ Reg.TEMP → q ≠ Reg.CAL_TEMP_DELTA → (s.tempUpdate v).reg q = s.reg q) ∧
    s.tempUpdate v = { s with regs := (s.tempUpdate v).regs, cal := { s.cal with measured := true } } := by
  cases hm : s.cal.measured with
  | true =>
    rw [tempUpdate_of_measured_busy v hm hb]
    refine ⟨nofun, fun _ => reg_setReg_ne _ _ (by decide), fun q hq _ => reg_setReg_ne _ _ hq, ?_⟩
    rw [show ({ s.cal with measured := true } : Cal) = s.cal by rw [← hm]]
    rfl
  | false =>
    rw [tempUpdate_first v hm]
    refine ⟨fun _ => ⟨?_, ?_⟩, nofun, fun q hq hd => ?_, rfl⟩
    · refine (congrArg Nat.cast (fld_setFld_same _ _ (by decide))).trans ?_
      simp only [asr, iword, BitVec.toNat_ofInt]
      omega
    · exact (fld_setFld_disjoint _ _ (by decide) (.inl (by decide))).trans (fld_setReg_ne _ _ _ _ (by decide))
    · exact (reg_setFld_ne _ _ _ _ hd).trans (reg_setReg_ne _ _ hq)

end State

open State in
/-- Settles O32: a block that ends writes its four words and the flags of its detector, and an update of TEMP in a
self-calibration, which is busy, begins no round. -/
theorem goertzelAndHousekeeping : Obligations.GoertzelAndHousekeeping := by
  refine ⟨fun s k hm ha hb hn hwf => ?_, fun s ch v r hm => ⟨fun hc hr h5 hs ho => ?_, fun hc => ?_, fun hc h0 => ?_⟩⟩
  · obtain ⟨hw, hdone, hdirty, hbusy, hj, hq, hf⟩ := detDone_spec hb hn hwf.tables
    refine completes_of_guard (i := .goertzelBlockDone k) (t := s.detDone k) (e := s) rfl (by simp [hm, ha]) ?_
    refine ⟨(hw 0 (by decide)).trans ?_, (hw 1 (by decide)).trans ?_, hw 2 (by decide), hw 3 (by decide), hdone, hdirty,
      hbusy, hj, hq, hf⟩
    · exact congrArg (fun m : Nat => word (m / 65536)) (Det.mag_eq _)
    · exact congrArg word (Det.mag_eq _)
  · refine ⟨s.hkDone ch.val v, ?_, hkSlot_spec ch v hr h5 hs ho⟩
    exact congrArg _ ((if_pos hm).trans (if_neg (by simp [hc])))
  · refine ⟨s.tempUpdate v, ?_, tempUpdate_temp v, tempUpdate_cal v hc⟩
    exact congrArg _ ((if_pos hm).trans ((if_pos hc).trans (if_pos rfl)))
  · exact congrArg _ ((if_pos hm).trans ((if_pos hc).trans (if_neg h0)))

end Sys2Proof.Machine
end

section
/-! PROOFS. A CIC output of a lane, the frame of a sample of the detectors (04). -/

namespace Sys2Proof.Machine

theorem combExact_eq (c : BitVec 41) (d : Int) :
    combExact c d = if c.toNat = 2 ^ 40 ∧ 0 < d then 2 ^ 40 else c.toInt := by
  unfold combExact
  congr 1
  rw [← BitVec.toNat_inj]
  rfl

theorem cicScale_eq (n d : Nat) (c : Int) :
    cicScale n d c = min 0x7FFFFF (if n * Nat.log2 d ≤ 23 then c * 2 ^ (23 - n * Nat.log2 d)
      else (c + 2 ^ (n * Nat.log2 d - 24)) / 2 ^ (n * Nat.log2 d - 23)) := by
  unfold cicScale asr
  dsimp only
  generalize (if n * Nat.log2 d ≤ 23 then c * 2 ^ (23 - n * Nat.log2 d)
    else (c + 2 ^ (n * Nat.log2 d - 23 - 1)) / 2 ^ (n * Nat.log2 d - 23)) = y
  split <;> omega

theorem sat_bounds (x : Int) : -0x800000 ≤ sat x ∧ sat x ≤ 0x7FFFFF := by
  unfold sat
  omega

theorem toInt_ofInt_sat (x : Int) : (BitVec.ofInt 24 (sat x)).toInt = sat x := by
  obtain ⟨h₁, h₂⟩ := sat_bounds x
  exact BitVec.toInt_ofInt_eq_self (by decide) (by omega) (by omega)

theorem correct_eq_sat (y : Int) (off gain : Word) :
    correct y off gain = sat (((y - 256 * off.toInt) * gain.toNat + 2 ^ 14) / 2 ^ 15) := clampI_eq_sat _

namespace State

variable {s : State}

theorem passFaults_of_nil (k : FaultSpec → Bool) (h : s.fmon.faults = []) : s.passFaults k = s := by
  unfold passFaults
  rw [h, List.filter_nil, ← h]

theorem detSample_dets (ys : List Int) (inv : List Bool) (k : Fin 4) :
    s.detSample ys inv k = { s with dets := (s.detSample ys inv k).dets } := by
  unfold detSample
  dsimp only
  split <;> rfl

/-- The four detectors take a sample. -/
def detSamples (s : State) (ys : List Int) (inv : List Bool) : State :=
  (((s.detSample ys inv 0).detSample ys inv 1).detSample ys inv 2).detSample ys inv 3

theorem detSamples_dets (ys : List Int) (inv : List Bool) :
    s.detSamples ys inv = { s with dets := (s.detSamples ys inv).dets } := by
  unfold detSamples
  rw [detSample_dets ys inv 3, detSample_dets ys inv 2, detSample_dets ys inv 1, detSample_dets (s := s) ys inv 0]

/-- The lanes' decimators take an output. -/
def lanesOutput (s : State) : State :=
  { s with lanes := Vector.ofFn (fun i : Fin 164 => s.laneOutput i.val (s.lanes.get i)),
           filt := { s.filt with cic := s.filt.cic + 1 } }

theorem cicOutput_cases (h : s.fmon.faults = []) :
    s.cicOutput = s.lanesOutput ∨ ∃ ys inv, s.cicOutput = s.lanesOutput.detSamples ys inv := by
  unfold cicOutput
  extract_lets inv lanes ys g t
  have ht : t = s.lanesOutput := passFaults_of_nil _ h
  rw [ht]
  split
  · split
    · exact .inr ⟨ys, inv, rfl⟩
    · exact .inl rfl
  · exact .inl rfl

theorem cicOutput_frame (h : s.fmon.faults = []) :
    s.cicOutput = { s with lanes := s.lanesOutput.lanes, filt := s.lanesOutput.filt, dets := s.cicOutput.dets } := by
  obtain he | ⟨ys, inv, he⟩ := cicOutput_cases h
  · rw [he]
    rfl
  · rw [he, detSamples_dets]
    rfl

theorem lanesOutput_lane (n : LaneId) : s.lanesOutput.lanes.get n = s.laneOutput n.val (s.lanes.get n) :=
  (Vector.get_eq_getElem _ _).trans (Vector.getElem_ofFn _)

theorem laneOutput_hist (n : Nat) (l : Lane) (h : s.fmon.faults = []) : (s.laneOutput n l).hist =
    (BitVec.ofInt 24 (correct (cicScale s.filt.order s.filt.decim (combExact
      (combs s.filt.order (nth l.int (s.filt.order - 1) 0) l.comb).1 l.d)) (s.snap.tab Win.CALF (2 * n))
        (s.snap.tab Win.CALF (2 * n + 1))) :: l.hist).take 8 := by
  have hd : s.decimatorFault n = none := by
    unfold decimatorFault
    rw [h]
    rfl
  unfold laneOutput
  dsimp only
  rw [hd]
  rfl

end State

open State in
/-- Settles O29: without a fault the output put in front of a lane's history is the corrected one, which lies within 24
bits. -/
theorem cicOutputScales : Obligations.CicOutputScales := by
  intro s n hm ha hf hdue
  refine completes_of_guard (i := .cicOutput) (t := s.cicOutput) (e := s) rfl (by simp [hm, ha, hdue]) ?_
  have hframe := cicOutput_frame hf
  have hlane : s.cicOutput.lanes.get n = s.laneOutput n.val (s.lanes.get n) := by
    rw [hframe]
    exact lanesOutput_lane n
  have hhist := laneOutput_hist n.val (s.lanes.get n) hf
  have hfirst : nth (s.laneOutput n.val (s.lanes.get n)).hist 0 0 = _ := congrArg (fun l => nth l 0 0) hhist
  refine ⟨congrArg (fun t : State => t.filt.cic) hframe, ?_, ?_, ?_⟩
  · rw [hframe]
  · rw [hlane, hfirst]
    refine (congrArg BitVec.toInt (congrArg (BitVec.ofInt 24) (correct_eq_sat _ _ _))).trans ?_
    rw [cicScale_eq, combExact_eq]
    exact toInt_ofInt_sat _
  · rw [hlane, hfirst]
    exact hhist

end Sys2Proof.Machine
end

section
/-! PROOFS. The resampler's output of a chip and the bank cross-fade (R112, R126, R127). -/

namespace Sys2Proof.Machine

theorem alook_aset {β : Type} (l : List (Nat × β)) (k : Nat) (v : β) : alook (aset l k v) k = some v := by
  induction l with
  | nil => exact if_pos rfl
  | cons e t ih =>
    unfold aset
    by_cases he : e.1 = k
    · rw [if_pos he]
      exact if_pos rfl
    · rw [if_neg he]
      exact (if_neg he).trans ih

theorem foldl_add_eq_sum {α : Type} (l : List α) (f : α → Int) (a : Int) :
    l.foldl (fun a t => a + f t) a = a + (l.map f).sum := by
  induction l generalizing a with
  | nil => simp
  | cons x t ih => rw [List.foldl_cons, ih, List.map_cons, List.sum_cons, add_assoc]

namespace State

variable {s : State}

/-! ### The end of a fade and the blend of a chip -/

theorem fadeEnd_eq {t : Fade} (hf : s.filt.fade = some t) (next : Nat) : s.fadeEnd next = { s with filt := { s.filt with
    cur := t.target, pend := none,
    fade := if s.filt.pend = some (!t.target) then some ⟨!t.target, s.xfadeLen, next, 0⟩ else none } } := by
  unfold fadeEnd
  rw [hf]
  cases hp : s.filt.pend with
  | none => rfl
  | some b =>
    by_cases hb : b = t.target
    · subst hb
      have hn : ¬ (some t.target = some (!t.target)) := by cases t.target <;> decide
      simp only [if_true, if_neg hn]
    · have hb' : b = !t.target := by revert hb; cases b <;> cases t.target <;> decide
      subst hb'
      simp only [if_neg hb, if_true]

/-- A chip with the bank and the blend that its number gives. -/
def blended (s : State) (c : Chip) : Chip := { c with bank := (s.blendFor c.no).1, fade := (s.blendFor c.no).2 }

/-- The blend of a chip where a fade has not begun or is on; `fadeEnd` comes before it where the fade is over. -/
theorem blendOf_fading {t : Fade} {c : Chip} (hf : s.filt.fade = some t) (hl : ¬ t.first + t.len ≤ c.no) :
    (s.blendOf c).1 = s.blended c ∧ ∃ g, (s.blendOf c).2 = { s with filt := { s.filt with fade := g, edge := c.no + 1 } } := by
  unfold blendOf blended blendFor
  rw [hf]
  simp only [if_neg hl, hf]
  by_cases h₁ : t.first ≤ c.no
  · simp only [if_pos h₁, if_neg (show ¬ c.no < t.first by omega), if_pos (show c.no < t.first + t.len by omega)]
    exact ⟨rfl, _, rfl⟩
  · simp only [if_neg h₁, if_pos (show c.no < t.first by omega)]
    exact ⟨trivial, _, rfl⟩

theorem blendOf_over {t : Fade} {c : Chip} (hf : s.filt.fade = some t) (hl : t.first + t.len ≤ c.no) :
    (s.blendOf c).1 = s.blended c ∧ ∃ g, (s.blendOf c).2 = { s with filt := { s.filt with
      cur := t.target, pend := none, fade := g, edge := c.no + 1 } } := by
  unfold blendOf blended blendFor
  rw [hf]
  simp only [if_pos hl, fadeEnd_eq hf, if_neg (show ¬ c.no < t.first by omega), if_neg (show ¬ c.no < t.first + t.len by omega)]
  by_cases hp : s.filt.pend = some (!t.target)
  · simp only [if_pos hp, if_pos (le_refl c.no), if_true, Nat.sub_self]
    exact ⟨rfl, _, rfl⟩
  · simp only [if_neg hp]
    exact ⟨trivial, _, rfl⟩

theorem blendOf_idle {c : Chip} (hf : s.filt.fade = none) :
    (s.blendOf c).1 = s.blended c ∧ (s.blendOf c).2 = { s with filt := { s.filt with edge := c.no + 1 } } := by
  unfold blendOf blended blendFor
  simp only [hf]
  exact ⟨trivial, trivial⟩

theorem blendOf_spec (c : Chip) : (s.blendOf c).1 = s.blended c ∧ ∃ cu p g, (s.blendOf c).2 = { s with filt := { s.filt with
    cur := cu, pend := p, fade := g, edge := c.no + 1 } } := by
  cases hf : s.filt.fade with
  | none =>
    obtain ⟨h₁, h₂⟩ := blendOf_idle (c := c) hf
    exact ⟨h₁, s.filt.cur, s.filt.pend, s.filt.fade, h₂⟩
  | some t =>
    by_cases hl : t.first + t.len ≤ c.no
    · obtain ⟨h₁, g, h₂⟩ := blendOf_over hf hl
      exact ⟨h₁, _, _, g, h₂⟩
    · obtain ⟨h₁, g, h₂⟩ := blendOf_fading hf hl
      exact ⟨h₁, s.filt.cur, s.filt.pend, g, h₂⟩

/-! ### The output of a chip -/

theorem becomeReady_seq : s.becomeReady = { s with seq := s.becomeReady.seq } := by
  by_cases hp : s.seq.phase = .ready
  · rw [s.becomeReady_frame hp]
  · rw [becomeReady, if_neg (by simp [hp])]

theorem becomeReady_seq_of_not_ready (hp : s.seq.phase ≠ .ready) : s.becomeReady.seq = s.seq := by
  rw [becomeReady, if_neg (by simp [hp])]

/-- The 8-tap sum of R112 over the outputs `x`, rounded and saturated. -/
def tapSum (s : State) (x : Nat → Int) (p : Nat) (bank : Bool) : Int :=
  sat ((((List.range 8).map (fun i => s.coef bank (8 * p + i) * x i)).sum + 2 ^ 15) / 2 ^ 16)

/-- The CIC outputs that a sum takes, oldest last. -/
def tapAt (s : State) (hist : List Data) (lag i : Nat) : Int :=
  ((hist[lag + i]?).getD (BitVec.ofInt 24 (Config.freeInt (s.freeCtr + i)))).toInt

theorem resample_tapsAt (bank : Bool) (p : Nat) (hist : List Data) (lag : Nat) :
    s.resample bank p (s.tapsAt hist lag) = s.tapSum (s.tapAt hist lag) p bank := by
  unfold resample tapSum
  dsimp only
  rw [clampI_eq_sat, foldl_add_eq_sum, zero_add]
  have hm : (List.range 8).map (fun t => s.coef bank (8 * p + t) * (nth (s.tapsAt hist lag) t 0).toInt) =
      (List.range 8).map (fun i => s.coef bank (8 * p + i) * s.tapAt hist lag i) :=
    List.map_congr_left fun i hi => by
      rw [tapsAt, nth_map_range _ _ (List.mem_range.1 hi)]
      rfl
  rw [hm]
  rfl

/-- The output of a bank and a blend. -/
def blendSum (one : Bool → Int) : Bool × Option (Bool × Bool × Nat × Nat) → Int
  | (bank, none) => one bank
  | (_, some (o, m, k, len)) => (one o * (len - 1 - k : Nat) + one m * (k + 1) + (len / 2 : Nat)) / 2 ^ Nat.log2 len

theorem output_eq (c : Chip) (p : Nat) (hist : List Data) (lag : Nat) :
    s.output c p (s.tapsAt hist lag) = blendSum (s.tapSum (s.tapAt hist lag) p) (c.bank, c.fade) := by
  unfold output blendSum
  cases c.fade with
  | none => exact resample_tapsAt _ _ _ _
  | some f =>
    simp only [resample_tapsAt, asr, Nat.cast_add, Nat.cast_one]

/-- The chip with its blend fixed, where this output is its first. -/
def edged (s : State) (c : Chip) : Chip × State := if s.filt.edge ≤ c.no then s.fixBlend c else (c, s)

theorem edged_chip (c : Chip) : ∃ bk fd af, (s.edged c).1 = { c with bank := bk, fade := fd, after := af } ∧
    (bk, fd) = (if c.no < s.filt.edge then (c.bank, c.fade) else s.blendFor c.no) := by
  by_cases h : s.filt.edge ≤ c.no
  · refine ⟨(s.blendFor c.no).1, (s.blendFor c.no).2, (s.blendOf c).2.bankAfter, ?_, (if_neg (by omega)).symm⟩
    rw [edged, if_pos h, fixBlend, (blendOf_spec c).1]
    rfl
  · refine ⟨c.bank, c.fade, c.after, ?_, (if_pos (by omega)).symm⟩
    rw [edged, if_neg h]

theorem edged_state (c : Chip) : ∃ cu p g ed, (s.edged c).2 = { s with filt := { s.filt with
    cur := cu, pend := p, fade := g, edge := ed } } ∧ (s.filt.edge ≤ c.no → ed = c.no + 1) := by
  by_cases h : s.filt.edge ≤ c.no
  · obtain ⟨-, cu, p, g, hb⟩ := blendOf_spec (s := s) c
    refine ⟨cu, p, g, c.no + 1, ?_, fun _ => rfl⟩
    rw [edged, if_pos h]
    exact hb
  · refine ⟨s.filt.cur, s.filt.pend, s.filt.fade, s.filt.edge, ?_, fun h' => absurd h' h⟩
    rw [edged, if_neg h]

/-- A lane's output of a chip whose blend is fixed is taken. -/
def laneTakes (s : State) (n : LaneId) (c : Chip) (y : Int) : State :=
  { s with
    filt := { s.filt with chips := s.filt.chips.map (fun d : Chip => if d.no = c.no then c else d),
                          shown := if s.filt.out ≤ c.no then c.after else s.filt.shown, out := max s.filt.out (c.no + 1) },
    lanes := s.lanes.set n { s.lanes.get n with
      acc := (if c.counted then aset (s.lanes.get n).acc c.run ((alook (s.lanes.get n).acc c.run).getD 0 + y)
        else (s.lanes.get n).acc), next := c.no + 1 },
    freeCtr := s.freeCtr + (if s.outputLag c n.val = 0 then 0 else 8) }

/-- The output of a lane without a fault in its resampler. -/
def laneOut (s : State) (n : LaneId) (c : Chip) : Int :=
  s.output c ((s.outPos c n.val).toNat / 2 ^ 19 % 32) (s.tapsAt (s.lanes.get n).hist (s.outputLag c n.val))

theorem resamplerFault_of_nil (h : s.fmon.faults = []) (n : Nat) : s.resamplerFault n = none := by
  unfold resamplerFault
  rw [h]
  rfl

theorem laneResample_eq (n : LaneId) (c : Chip) (h : s.fmon.faults = []) : s.laneResample n c =
    ((s.edged c).2.laneTakes n (s.edged c).1 ((s.edged c).2.laneOut n (s.edged c).1)).pruneChips.becomeReady := by
  obtain ⟨cu, p, g, ed, hu, -⟩ := edged_state (s := s) c
  have hn : (s.edged c).2.fmon.faults = [] := by rw [hu]; exact h
  have hb (v : State) (hv : v.fmon.faults = []) (k : FaultSpec → Bool) :
      v.pruneChips.becomeReady.passFaults k = v.pruneChips.becomeReady := by
    refine passFaults_of_nil _ ?_
    rw [becomeReady_seq]
    exact hv
  unfold laneResample
  extract_lets b c' u l pp lag y acc w
  have hy : y = (s.edged c).2.laneOut n (s.edged c).1 := by
    change (match (s.edged c).2.resamplerFault n.val with
      | some v => v.toInt
      | none => (s.edged c).2.laneOut n (s.edged c).1) = _
    rw [resamplerFault_of_nil hn]
  rw [← hy]
  exact hb ((s.edged c).2.laneTakes n (s.edged c).1 y) hn _

theorem laneTakes_frame (n : LaneId) (c : Chip) (y : Int) : s.laneTakes n c y = { s with
    filt := (s.laneTakes n c y).filt, lanes := (s.laneTakes n c y).lanes, freeCtr := (s.laneTakes n c y).freeCtr } := rfl

theorem laneTakes_lane (n : LaneId) (c : Chip) (y : Int) : (s.laneTakes n c y).lanes.get n = { s.lanes.get n with
    acc := (if c.counted then aset (s.lanes.get n).acc c.run ((alook (s.lanes.get n).acc c.run).getD 0 + y)
      else (s.lanes.get n).acc), next := c.no + 1 } := by
  refine (Vector.get_eq_getElem _ _).trans ?_
  exact Vector.getElem_set_self _

theorem laneTakes_lane_ne {n m : LaneId} (c : Chip) (y : Int) (h : m ≠ n) :
    (s.laneTakes n c y).lanes.get m = s.lanes.get m := by
  rw [laneTakes, Vector.get_eq_getElem, Vector.getElem_set, if_neg fun hv => h (Fin.ext hv.symm), ← Vector.get_eq_getElem]

theorem laneTakes_acc (n : LaneId) (c : Chip) (y : Int) : alook ((s.laneTakes n c y).lanes.get n).acc c.run =
    if c.counted then some ((alook (s.lanes.get n).acc c.run).getD 0 + y) else alook (s.lanes.get n).acc c.run := by
  rw [laneTakes_lane]
  cases c.counted with
  | true => exact alook_aset _ _ _
  | false => rfl

theorem mem_laneTakes_chips {n : LaneId} {c d : Chip} {y : Int} (hd : d ∈ (s.laneTakes n c y).pruneChips.filt.chips)
    (hn : d.no = c.no) : d = c := by
  obtain ⟨e, -, he⟩ := List.mem_map.1 (List.mem_filter.1 hd).1
  by_cases h : e.no = c.no
  · rw [if_pos h] at he
    exact he.symm
  · rw [if_neg h] at he
    exact absurd (he ▸ hn) h

end State

open State

/-- The output of a chip whose blend is fixed, over the state before. -/
theorem laneOut_edged (s : State) (n : LaneId) (c : Chip) : (s.edged c).2.laneOut n (s.edged c).1 =
    blendSum (s.tapSum (s.tapAt (s.lanes.get n).hist (s.outputLag c n.val)) ((s.outPos c n.val).toNat / 2 ^ 19 % 32))
      (if c.no < s.filt.edge then (c.bank, c.fade) else s.blendFor c.no) := by
  obtain ⟨cu, p, g, ed, hu, -⟩ := edged_state (s := s) c
  obtain ⟨bk, fd, af, hc, hb⟩ := edged_chip (s := s) c
  rw [laneOut, output_eq, hu, hc, ← hb]
  rfl

/-- Settles O30: the chip's blend is fixed first, which the output, the chips and the bank state then take. -/
theorem resamplerAndFade : Obligations.ResamplerAndFade := by
  refine ⟨fun s n c hm ha hf hn hd => ?_, fun s f hm hf he => ?_⟩
  · have hx : exec (.resamplerOutput n) s = .next (s.laneResample n c) := by
      change Host.Outcome.next (match s.nextChip (s.lanes.get n) with
        | some c => if s.mainUp && !s.agreed 4 && s.outputDue c n.val then s.laneResample n c else s
        | none => s) = _
      rw [hn]
      exact congrArg _ (if_pos (by simp [hm, ha, hd]))
    refine completes_of_eq hx ?_
    have hy := laneOut_edged s n c
    rw [laneResample_eq n c hf]
    obtain ⟨cu, p, g, ed, hu, hed⟩ := edged_state (s := s) c
    obtain ⟨bk, fd, af, hc, hb⟩ := edged_chip (s := s) c
    have hchips (d : Chip) := mem_laneTakes_chips (s := (s.edged c).2) (n := n) (c := (s.edged c).1) (d := d)
      (y := (s.edged c).2.laneOut n (s.edged c).1)
    have hacc := laneTakes_acc (s := (s.edged c).2) n (s.edged c).1 ((s.edged c).2.laneOut n (s.edged c).1)
    have hlane := laneTakes_lane (s := (s.edged c).2) n (s.edged c).1 ((s.edged c).2.laneOut n (s.edged c).1)
    have hne (m : LaneId) := laneTakes_lane_ne (s := (s.edged c).2) (n := n) (m := m) (s.edged c).1
      ((s.edged c).2.laneOut n (s.edged c).1)
    rw [hy] at hchips hacc hlane hne ⊢
    rw [hu, hc] at hchips hacc hlane hne ⊢
    rw [becomeReady_seq]
    refine ⟨fun h => ⟨hed h, fun d hm hno => ?_⟩, hacc, congrArg Lane.next hlane, fun m hm => hne m hm, rfl, fun h => ?_⟩
    · rw [hchips d hm hno]
      exact hb.trans (if_neg (by omega))
    · exact becomeReady_seq_of_not_ready h
  · have hx : exec .fadeComplete s = .next (s.fadeEnd (f.first + f.len)) := by
      refine congrArg Host.Outcome.next ((if_pos hm).trans ?_)
      unfold fadeSettle
      rw [hf]
      exact if_pos he
    refine completes_of_eq hx ?_
    rw [fadeEnd_eq hf]
    exact ⟨rfl, rfl, rfl, rfl⟩

end Sys2Proof.Machine
end

section
/-! PROOFS. One cadence period: the converter of a lane and the clips that it notes (R68 to R71, R103). -/

namespace Sys2Proof.Machine

/-- The unit charge of the converter at GAIN `g`. -/
def unitCharge (g : Nat) : Int := 160 * 2 ^ g

theorem unitCharge_pos (g : Nat) : 0 < unitCharge g := by
  unfold unitCharge
  positivity

theorem convert_spec (x qin qc sgn : Int) (g : Nat) :
    let x1 := x + qin - qc + unitCharge g / 2
    let x2 := if 0 ≤ x1 then x1 - unitCharge g else x1
    (convert x g qin qc sgn).x = max (-16 * unitCharge g) (min (16 * unitCharge g) x2) ∧
    (convert x g qin qc sgn).d = (if 0 ≤ x1 then sgn else -sgn) ∧
    (16 * unitCharge g < x2.natAbs → (convert x g qin qc sgn).clip = some (decide (0 < x2))) := by
  intro x1 x2
  have hpos := unitCharge_pos g
  have hhalf : unitCharge g / 2 = 80 * 2 ^ g := by
    unfold unitCharge
    omega
  have hx1 : x + qin - qc + 80 * 2 ^ g = x1 := by rw [← hhalf]
  have hx2 : (if 0 ≤ x1 then x1 - unitCharge g else x1) = x2 := rfl
  have hd : sgn * (if 0 ≤ x1 then 1 else -1) = if 0 ≤ x1 then sgn else -sgn := by split <;> simp
  have hc : convert x g qin qc sgn = if 16 * unitCharge g < x2 then ⟨16 * unitCharge g, if 0 ≤ x1 then sgn else -sgn, some true⟩
      else if x2 < -(16 * unitCharge g) then ⟨-(16 * unitCharge g), if 0 ≤ x1 then sgn else -sgn, some false⟩
      else ⟨x2, if 0 ≤ x1 then sgn else -sgn, none⟩ := by
    unfold convert
    simp only [hx1, decide_eq_true_eq, hd]
    rfl
  rw [hc]
  clear_value x2
  split
  · refine ⟨by dsimp only; omega, rfl, fun _ => congrArg some (decide_eq_true (by omega)).symm⟩
  · split
    · refine ⟨by dsimp only; omega, rfl, fun _ => congrArg some (decide_eq_false (by omega)).symm⟩
    · exact ⟨by dsimp only; omega, rfl, fun h => absurd h (by omega)⟩

theorem mem_noteSat_same (l : List Sat) (t : Sat) : t ∈ noteSat l t := List.mem_append_right _ (List.mem_singleton.2 rfl)

theorem mem_noteSat_of_lane_ne {l : List Sat} {t e : Sat} (he : e ∈ l) (h : e.lane ≠ t.lane) : e ∈ noteSat l t := by
  refine List.mem_append_left _ (List.mem_filter.2 ⟨he, ?_⟩)
  simp [h]

namespace State

variable {s : State}

/-! ### Clips -/

theorem detDirty_dets (lane : Nat) (k : Fin 4) : s.detDirty lane k = { s with dets := (s.detDirty lane k).dets } := by
  unfold detDirty
  dsimp only
  split <;> rfl

theorem detDirty_all (lane : Nat) : (((s.detDirty lane 0).detDirty lane 1).detDirty lane 2).detDirty lane 3 = { s with
    dets := ((((s.detDirty lane 0).detDirty lane 1).detDirty lane 2).detDirty lane 3).dets } := by
  rw [detDirty_dets lane 3, detDirty_dets lane 2, detDirty_dets lane 1, detDirty_dets (s := s) lane 0]

theorem clip_frame (n : Nat) (high : Bool) : ∃ d, s.clip n high = { s with dets := d, filt := { s.filt with
    sats := noteSat s.filt.sats ⟨s.chipNow, n, high, s.seq.phase = .ready⟩ } } := by
  unfold clip
  extract_lets hold u
  split
  · exact ⟨s.dets, rfl⟩
  · rw [detDirty_all]
    exact ⟨_, rfl⟩

/-- The clips `v` of the lanes of a list are noted. -/
def clips (s : State) (v : List (Option Bool)) (l : List Nat) : State :=
  l.foldl (fun s n => match v.getD n none with
    | some high => s.clip n high
    | none => s) s

theorem clips_cons (v : List (Option Bool)) (n : Nat) (l : List Nat) : s.clips v (n :: l) = (match v.getD n none with
    | some high => s.clip n high
    | none => s).clips v l := rfl

theorem clips_frame (v : List (Option Bool)) (l : List Nat) :
    ∃ d g, s.clips v l = { s with dets := d, filt := { s.filt with sats := g } } := by
  induction l generalizing s with
  | nil => exact ⟨s.dets, s.filt.sats, rfl⟩
  | cons n l ih =>
    rw [clips_cons]
    cases v.getD n none with
    | none => exact ih
    | some high =>
      obtain ⟨d, hd⟩ := clip_frame (s := s) n high
      obtain ⟨d', g, hg⟩ := ih (s := s.clip n high)
      refine ⟨d', g, hg.trans ?_⟩
      rw [hd]

/-- A clip of lane `n` in the chip in progress is noted. -/
def Noted (s : State) (n : Nat) (high : Bool) : Prop :=
  ∃ e ∈ s.filt.sats, e.lane = n ∧ e.chip = s.chipNow ∧ e.high = high

theorem noted_clip_same (n : Nat) (high : Bool) : (s.clip n high).Noted n high := by
  obtain ⟨d, hd⟩ := clip_frame (s := s) n high
  rw [hd]
  exact ⟨_, mem_noteSat_same _ _, rfl, rfl, rfl⟩

theorem Noted.clip_ne {n m : Nat} {high : Bool} (h : s.Noted n high) (b : Bool) (hm : n ≠ m) :
    (s.clip m b).Noted n high := by
  obtain ⟨d, hd⟩ := clip_frame (s := s) m b
  obtain ⟨e, he, hl, hc, hh⟩ := h
  rw [hd]
  exact ⟨e, mem_noteSat_of_lane_ne he (hl ▸ hm), hl, hc, hh⟩

theorem noted_clips {v : List (Option Bool)} {n : Nat} {high : Bool} (hv : v.getD n none = some high) (l : List Nat)
    (h : n ∈ l ∨ s.Noted n high) : (s.clips v l).Noted n high := by
  induction l generalizing s with
  | nil => exact h.resolve_left (List.not_mem_nil)
  | cons m l ih =>
    rw [clips_cons]
    by_cases hm : n = m
    · subst hm
      rw [hv]
      exact ih (.inr (noted_clip_same _ _))
    · have hs : n ∈ l ∨ s.Noted n high := h.imp_left fun h => (List.mem_cons.1 h).resolve_left hm
      cases v.getD m none with
      | none => exact ih hs
      | some b => exact ih (hs.imp_right fun h => h.clip_ne b hm)

/-! ### A period of all lanes -/

/-- One lane's part of a period. -/
def laneStep (s : State) (h : Half) (edge : Option Half) (q : List Int) (n : LaneId) : Lane × Option Bool :=
  s.laneCadence s.rolesNow s.gainNow s.countRun s.internalNow h (s.edgeNow edge) (s.edgeSum (s.edgeNow edge)) q n.val
    (s.lanes.get n)

/-- A period of every lane, before its clips are noted. -/
def lanesStep (s : State) (h : Half) (edge : Option Half) (q : List Int) : State :=
  { s with lanes := (Vector.ofFn (s.laneStep h edge q)).map Prod.fst, filt := { s.filt with cad := s.filt.cad + 1 },
           drive := { s.drive with half := s.waveHalf (s.edgeNow edge) } }

/-- The clips of a period. -/
def laneClips (s : State) (h : Half) (edge : Option Half) (q : List Int) : List (Option Bool) :=
  (Vector.ofFn (s.laneStep h edge q)).toList.map Prod.snd

theorem cadence_eq (h : Half) (edge : Option Half) (q : List Int) (hf : s.fmon.faults = []) :
    s.cadence h edge q = (s.lanesStep h edge q).clips (s.laneClips h edge q) (List.range 164) := by
  unfold cadence
  extract_lets roles e w res g d t u
  have hu : u = s.lanesStep h edge q := passFaults_of_nil _ hf
  have hr : res.toList.map Prod.snd = s.laneClips h edge q := rfl
  rw [hu, hr]
  generalize s.lanesStep h edge q = v, s.laneClips h edge q = c, List.range 164 = l
  unfold clips
  rfl

theorem lanesStep_lane (h : Half) (edge : Option Half) (q : List Int) (n : LaneId) :
    (s.lanesStep h edge q).lanes.get n = (s.laneStep h edge q n).1 := by
  rw [lanesStep, Vector.get_eq_getElem, Vector.getElem_map, Vector.getElem_ofFn]

theorem laneClips_getD (h : Half) (edge : Option Half) (q : List Int) (n : LaneId) :
    (s.laneClips h edge q).getD n.val none = (s.laneStep h edge q n).2 := by
  rw [laneClips, List.getD_eq_getElem?_getD, List.getElem?_map, Vector.toList_ofFn, List.getElem?_ofFn,
    dif_pos n.isLt]
  rfl

/-! ### A lane's part -/

theorem laneStep_idle (h : Half) (edge : Option Half) (q : List Int) (n : LaneId)
    (hr : (nth s.rolesNow n.val .ground).converts = false) : (s.laneStep h edge q n).1.x = (s.lanes.get n).x := by
  unfold laneStep laneCadence
  rw [if_neg (by simp [hr])]

/-- The conversion of a lane's period. -/
def laneConv (s : State) (h : Half) (edge : Option Half) (q : List Int) (n : LaneId) : Conv :=
  convert (s.lanes.get n).x s.gainNow (s.chargeIn s.internalNow (s.edgeNow edge) q n.val)
    (s.chargeComp (nth s.rolesNow n.val .ground) (s.edgeNow edge) (s.edgeSum (s.edgeNow edge)) n.val) (edgeSign h)

theorem laneStep_converts (h : Half) (edge : Option Half) (q : List Int) (n : LaneId) (hf : s.fmon.faults = [])
    (hr : (nth s.rolesNow n.val .ground).converts = true) :
    (s.laneStep h edge q n).1.x = (s.laneConv h edge q n).x ∧ (s.laneStep h edge q n).1.d = (s.laneConv h edge q n).d ∧
    (s.laneStep h edge q n).1.int = integrate s.filt.order (BitVec.ofInt 41 (s.laneConv h edge q n).d) (s.lanes.get n).int ∧
    (s.laneStep h edge q n).2 = (s.laneConv h edge q n).clip := by
  have hl : s.laneFault n.val = none := by
    unfold laneFault
    rw [hf]
    rfl
  unfold laneStep laneCadence
  rw [if_pos hr]
  dsimp only
  rw [hl]
  split <;> exact ⟨rfl, rfl, rfl, rfl⟩

end State

theorem head?_integrate {n : Nat} (x i : BitVec 41) (k : List (BitVec 41)) (h : 1 ≤ n) :
    (integrate n x (i :: k)).head? = some (i + x) := by
  obtain ⟨m, rfl⟩ := Nat.exists_eq_add_of_le' h
  rfl

theorem converts_iff (r : Role) : r.converts = true ↔ r = .sense ∨ r = .self := by
  cases r <;> simp [Role.converts]

/-! ### The charges of a period -/

/-- The sign of the edge in a period, 0 without one. -/
def edgeUnit : Option Half → Int
  | some .first => 1
  | some .second => -1
  | none => 0

theorem testCharge_eq (e : Option Half) : testCharge e = 5760 * edgeUnit e := by
  obtain _ | _ | _ := e <;> rfl

theorem edgeSign_eq (h : Half) : edgeSign h = if h = .first then 1 else -1 := by
  cases h <;> rfl

theorem edgeUnit_some (e : Half) : edgeUnit (some e) = edgeSign e := by
  cases e <;> rfl

namespace State

variable {s : State}

theorem pinFault_of_nil (h : s.fmon.faults = []) (n : Nat) : s.pinFault n = none := by
  unfold pinFault
  rw [h]
  rfl

theorem chargeIn_eq (h : s.fmon.faults = []) (int : Bool) (e : Option Half) (q : List Int) (n : Nat) :
    s.chargeIn int e q n = if int = true then 5760 * edgeUnit e else nth q n 0 := by
  have hp : (s.lanePin n).bind s.pinFault = none := by
    cases s.lanePin n with
    | none => rfl
    | some p => exact pinFault_of_nil h p
  unfold chargeIn
  rw [testCharge_eq, hp]
  rfl

theorem edgeSum_none : s.edgeSum none = none := by
  unfold edgeSum
  cases s.running <;> rfl

/-- The compensation charge of a lane at the edge `e`. -/
def compAt (s : State) (role : Role) (e : Option Half) (n : Nat) : Int :=
  match s.edgeSum e, s.lanePin n with
  | some w, some p => if role = .sense then edgeUnit e * s.snap.compCharge p * w else 0
  | _, _ => 0

theorem chargeComp_eq (role : Role) (e : Option Half) (n : Nat) :
    s.chargeComp role e (s.edgeSum e) n = s.compAt role e n := by
  unfold chargeComp compAt
  cases e with
  | none => rw [edgeSum_none]
  | some e =>
    rw [edgeUnit_some]
    cases s.edgeSum (some e) with
    | none => rfl
    | some w => cases role <;> cases s.lanePin n <;> rfl

theorem waveHalf_edgeNow (edge : Option Half) :
    s.waveHalf (s.edgeNow edge) = if (s.edgeNow edge).isSome then s.edgeNow edge else s.drive.half := by
  unfold waveHalf edgeNow
  cases s.running.isSome <;> cases edge <;> rfl

end State

open State in
/-- Settles O28: a lane's part of a period is `convert`, and a clip that it notes stays noted while those of the other
lanes are. -/
theorem cadencePeriodConverts : Obligations.CadencePeriodConverts := by
  intro s h edge q n hm ha hf
  refine completes_of_guard (i := .cadencePeriod h edge q) (t := s.cadence h edge q) (e := s) rfl (by simp [hm, ha]) ?_
  rw [cadence_eq h edge q hf]
  obtain ⟨d, g, hc⟩ := clips_frame (s := s.lanesStep h edge q) (s.laneClips h edge q) (List.range 164)
  have hlanes : ((s.lanesStep h edge q).clips (s.laneClips h edge q) (List.range 164)).lanes.get n =
      (s.laneStep h edge q n).1 := by
    rw [hc]
    exact lanesStep_lane h edge q n
  refine ⟨by rw [hc]; rfl, ?_, by rw [hc]; rfl, ?_⟩
  · rw [hc]
    exact congrArg (fun g => { s.drive with half := g }) (waveHalf_edgeNow edge)
  by_cases hr : nth s.rolesNow n.val .ground = .sense ∨ nth s.rolesNow n.val .ground = .self
  · obtain ⟨hx, hd, hi, hk⟩ := laneStep_converts h edge q n hf ((converts_iff _).2 hr)
    have hv := convert_spec (s.lanes.get n).x (s.chargeIn s.internalNow (s.edgeNow edge) q n.val)
      (s.chargeComp (nth s.rolesNow n.val .ground) (s.edgeNow edge) (s.edgeSum (s.edgeNow edge)) n.val) (edgeSign h) s.gainNow
    rw [chargeIn_eq hf, chargeComp_eq, edgeSign_eq] at hv
    unfold laneConv at hx hd hi hk
    rw [chargeIn_eq hf, chargeComp_eq, edgeSign_eq] at hx hd hi hk
    obtain ⟨hvx, hvd, hvc⟩ := hv
    refine ite_of_pos hr ⟨?_, ?_, fun i k hik ho => ?_, fun hq => ?_⟩
    · rw [hlanes]
      exact hx.trans hvx
    · rw [hlanes]
      exact hd.trans hvd
    · rw [hlanes, hi, hik, head?_integrate _ _ _ ho, hvd]
      rfl
    · have hs := (laneClips_getD h edge q n).trans (hk.trans (hvc hq))
      obtain ⟨e, he, hl, hch, hh⟩ := noted_clips (s := s.lanesStep h edge q) hs (List.range 164)
        (.inl (List.mem_range.2 n.isLt))
      refine ⟨e, he, hl, hch.trans ?_, hh⟩
      rw [hc]
      rfl
  · refine (if_neg hr).mpr ?_
    rw [hlanes]
    exact laneStep_idle h edge q n (by rw [← Bool.not_eq_true, converts_iff]; exact hr)

end Sys2Proof.Machine
end

section
/-! PROOFS. The chips that the sequencer drives, and what the pins and the shield buses carry in them (R58, R76, R110). -/

namespace Sys2Proof.Machine
namespace State

variable {s : State}

theorem trackChip_frame (prof : List Word) (first : Bool) (u : BitVec 32) : ∃ c d n g,
    s.trackChip prof first u = { s with regs := g, filt := { s.filt with trkC := c, trkR := d, near := n } } := by
  unfold trackChip
  extract_lets f inc pred e lim r near v
  split
  · exact ⟨_, _, _, _, rfl⟩
  · split
    · exact ⟨_, _, _, _, rfl⟩
    · split
      · exact ⟨_, _, _, _, rfl⟩
      · split
        · exact ⟨_, _, _, _, rfl⟩
        · split <;> exact ⟨_, _, _, _, rfl⟩

theorem reg_trackChip_ne (prof : List Word) (first : Bool) (u : BitVec 32) {q : RegId} (h : q ≠ Reg.FILT_CTL) :
    (s.trackChip prof first u).reg q = s.reg q := by
  unfold trackChip
  extract_lets f inc pred e lim r near v
  have hv : v.reg q = s.reg q := rfl
  split
  · rfl
  · split
    · rfl
    · split
      · exact (reg_setFlag_ne _ _ _ h).trans (reg_setFlag_ne _ _ _ h)
      · split
        · exact (reg_setFlag_ne _ _ _ h).trans hv
        · split
          · exact (reg_setFlag_ne _ _ _ h).trans hv
          · exact hv

/-- At the start of a burst a chip stands where it is measured (R110). -/
theorem trackChip_first (prof : List Word) (u : BitVec 32) : (s.trackChip prof true u).filt.trkC = u := rfl

/-- In FIXED mode a chip stands one increment after the last (R110). -/
theorem trackChip_fixed {prof : List Word} (u : BitVec 32) (h : profTrack prof = false) :
    (s.trackChip prof false u).filt.trkC = s.filt.trkC + BitVec.ofNat 32 (profInc prof) := by
  unfold trackChip
  dsimp only
  rw [if_neg Bool.false_ne_true, if_pos (by simp [h])]

/-! ### A chip of the entry that runs -/

theorem running_of_phase {r : EntryRun} (hp : s.seq.phase = .running) (hc : s.seq.cur = some r) : s.running = some r :=
  (if_pos hp).trans hc

/-- Chip `c` begins in the state in which it has been placed. -/
def chipStarts (s : State) (r : EntryRun) (u : BitVec 32) (c : Chip) : State :=
  { s with filt := { s.filt with
             first := false, chip := s.filt.chip + 1, chips := if r.off then s.filt.chips else s.filt.chips ++ [c],
             ends := s.filt.place u + s.halfOutputs r.freq },
           drive := { s.drive with half := some .first },
           seq := { s.seq with left := s.seq.left - 1, invalid := s.seq.invalid - 1 } }

theorem chipStarts_frame (r : EntryRun) (u : BitVec 32) (c : Chip) : ∃ f, s.chipStarts r u c =
    { s with drive := { s.drive with half := some .first },
             seq := { s.seq with left := s.seq.left - 1, invalid := s.seq.invalid - 1 }, filt := f } ∧
    f.chip = s.filt.chip + 1 ∧ f.first = false ∧ f.trkC = s.filt.trkC ∧
    f.chips = if r.off then s.filt.chips else s.filt.chips ++ [c] := ⟨_, rfl, rfl, rfl, rfl, rfl⟩

theorem entryChip_eq (r : EntryRun) (u : BitVec 32) : ∃ c, s.entryChip r u =
    (s.trackChip (s.snap.profile r.profile) s.filt.first u).chipStarts r u c ∧
    c.no = (s.trackChip (s.snap.profile r.profile) s.filt.first u).filt.chip ∧
    c.pos = (s.trackChip (s.snap.profile r.profile) s.filt.first u).filt.trkC ∧ c.run = r.firstChip ∧
    c.counted = decide (r.firstChip + r.prefill ≤ c.no) := ⟨_, rfl, rfl, rfl, rfl, rfl⟩

theorem entryChip_frame (r : EntryRun) (u : BitVec 32) : ∃ f, s.entryChip r u =
    { s with regs := (s.trackChip (s.snap.profile r.profile) s.filt.first u).regs,
             drive := { s.drive with half := some .first },
             seq := { s.seq with left := s.seq.left - 1, invalid := s.seq.invalid - 1 }, filt := f } ∧
    f.chip = s.filt.chip + 1 ∧ f.first = false ∧
    f.trkC = (s.trackChip (s.snap.profile r.profile) s.filt.first u).filt.trkC ∧
    (if r.off then f.chips = s.filt.chips else ∃ c, f.chips = s.filt.chips ++ [c] ∧ c.no = s.filt.chip ∧
      c.pos = f.trkC ∧ c.run = r.firstChip ∧ c.counted = decide (r.firstChip + r.prefill ≤ s.filt.chip)) := by
  obtain ⟨ch, he, hno, hpos, hrun, hcnt⟩ := entryChip_eq (s := s) r u
  obtain ⟨f, hf, hchip, hfirst, htrk, hchips⟩ :=
    chipStarts_frame (s := s.trackChip (s.snap.profile r.profile) s.filt.first u) r u ch
  obtain ⟨c, d, n, g, ht⟩ := trackChip_frame (s := s) (s.snap.profile r.profile) s.filt.first u
  have hnow : (s.trackChip (s.snap.profile r.profile) s.filt.first u).filt.chip = s.filt.chip := by rw [ht]
  have hall : (s.trackChip (s.snap.profile r.profile) s.filt.first u).filt.chips = s.filt.chips := by rw [ht]
  have hno' : ch.no = s.filt.chip := hno.trans hnow
  refine ⟨f, (he.trans hf).trans ?_, hchip.trans (congrArg (· + 1) hnow), hfirst, htrk, ?_⟩
  · rw [ht]
  · rw [hall] at hchips
    cases hoff : r.off with
    | true => exact hchips.trans (if_pos hoff)
    | false =>
      refine ⟨ch, hchips.trans (if_neg (by simp [hoff])), hno', hpos.trans htrk.symm, hrun, ?_⟩
      rw [← hno']
      exact hcnt

section Levels

variable {r : EntryRun} (hr : s.running = some r) (hh : s.drive.half = some .first)
include hh

theorem selfLevel_first : s.selfLevel = 1800 := if_pos hh

include hr

theorem driveLevel_counted (n : Nat) (ha : r.e.act = 1) (hc : s.inCounted r = true) :
    s.driveLevel n = if hadamard (s.snap.index n % 128) r.e.code = 1 then s.driveAmp else 0 := by
  have hd : s.driveCode n = some (hadamard (s.snap.index n % 128) r.e.code) := by
    unfold driveCode
    rw [hr]
    exact (if_pos ha).trans (if_pos hc)
  unfold driveLevel
  rw [hh, hd]

theorem driveLevel_prefill (n : Nat) (ha : r.e.act = 1) (hc : s.inCounted r = false) :
    s.driveLevel n = s.driveAmp / 2 := by
  have hd : s.driveCode n = none := by
    unfold driveCode
    rw [hr]
    exact (if_pos ha).trans (if_neg (by simp [hc]))
  unfold driveLevel
  rw [hh, hd]

theorem shieldLevel_first (hm : s.mainUp = true) (b : Bool) :
    s.shieldLevel b = if r.idle = false ∧ r.e.shields b = true then 1800 else 0 := by
  unfold shieldLevel
  rw [hr, ← selfLevel_first hh]
  simp [hm]

end Levels

/-! ### A hold chip -/

/-- A hold chip passes, before the next entry may become ready. -/
def holdPassed (s : State) (u : BitVec 32) : State :=
  let t := s.trackChip (s.snap.profile (s.effective (s.entryRead s.seq.entry)).2) s.filt.first u
  { t with filt := { t.filt with first := false }, seq := { t.seq with hold := t.seq.hold - 1 } }

theorem holdChip_eq (u : BitVec 32) : s.holdChip u = (s.holdPassed u).becomeReady := rfl

theorem holdPassed_spec (u : BitVec 32) : ∃ f, s.holdPassed u = { s with
      regs := (s.holdPassed u).regs, filt := f, seq := { s.seq with hold := s.seq.hold - 1 } } ∧
    f.chip = s.filt.chip ∧ f.chips = s.filt.chips ∧ f.first = false ∧ (s.filt.first = true → f.trkC = u) := by
  have hfirst (p : List Word) (h : s.filt.first = true) : (s.trackChip p s.filt.first u).filt.trkC = u := by
    rw [h]
    exact trackChip_first p u
  unfold holdPassed
  generalize s.snap.profile (s.effective (s.entryRead s.seq.entry)).2 = p
  obtain ⟨c, d, n, g, ht⟩ := trackChip_frame (s := s) p s.filt.first u
  have hc := hfirst p
  rw [ht] at hc ⊢
  exact ⟨_, rfl, rfl, rfl, rfl, hc⟩

theorem reg_holdPassed_ne (u : BitVec 32) {q : RegId} (h : q ≠ Reg.FILT_CTL) : (s.holdPassed u).reg q = s.reg q :=
  reg_trackChip_ne _ _ u h

end State

open State in
/-- Settles O27: `entryChip` and `holdChip` write one record each over the tracked position. -/
theorem chipsDriven : Obligations.ChipsDriven := by
  intro s u r hm
  have hx (t : State) (h : s.driveChip u = t) : exec (.driveChip u) s = .next t :=
    congrArg _ ((if_pos hm).trans h)
  refine ⟨fun hp hc hl => ?_, fun hp hl => ?_, fun hr hy => ?_⟩
  · have hd : s.driveChip u = s.entryChip r u := by
      unfold driveChip
      rw [hp, hc]
      exact if_pos hl
    refine completes_of_eq (hx _ hd) ?_
    obtain ⟨f, hf, hchip, hfirst, htrk, hchips⟩ := entryChip_frame (s := s) r u
    have hreg (q : RegId) (hq : q ≠ Reg.FILT_CTL) := reg_trackChip_ne (s := s) (s.snap.profile r.profile) s.filt.first u hq
    have hfix := trackChip_fixed (s := s) (prof := s.snap.profile r.profile) u
    have hft := trackChip_first (s := s) (s.snap.profile r.profile) u
    have hrun : (s.entryChip r u).running = some r := by
      rw [hf]
      exact running_of_phase hp hc
    have hhalf : (s.entryChip r u).drive.half = some .first := by rw [hf]
    have hcount : (s.entryChip r u).inCounted r = decide (r.firstChip + r.prefill ≤ s.filt.chip) := by
      rw [hf]
      unfold inCounted
      rw [hchip]
      exact decide_eq_decide.2 (by omega)
    have hamp : (s.entryChip r u).driveAmp = s.driveAmp := by
      rw [hf]
      rfl
    have hsnap : (s.entryChip r u).snap = s.snap := by rw [hf]
    have hup : (s.entryChip r u).mainUp = true := by
      rw [hf]
      exact hm
    have hlevel (n : Nat) (ha : r.e.act = 1) : (s.entryChip r u).driveLevel n =
        if r.firstChip + r.prefill ≤ s.filt.chip then
          (if hadamard (s.snap.index n % 128) r.e.code = 1 then s.driveAmp else 0) else s.driveAmp / 2 := by
      by_cases hcnt : r.firstChip + r.prefill ≤ s.filt.chip
      · rw [if_pos hcnt, driveLevel_counted hrun hhalf n ha (hcount.trans (decide_eq_true hcnt)), hamp, hsnap]
      · rw [if_neg hcnt, driveLevel_prefill hrun hhalf n ha (hcount.trans (decide_eq_false hcnt)), hamp]
    refine ⟨?_, ?_, ?_, ?_, fun h => ?_, fun h ht => ?_, ?_, hlevel, selfLevel_first hhalf,
      shieldLevel_first hrun hhalf hup, ?_, ?_⟩
    · rw [hf]
    · rw [hf]; exact hchip
    · rw [hf]; exact hfirst
    · rw [hf]
    · rw [hf]
      rw [h] at htrk
      exact htrk.trans hft
    · rw [hf]
      rw [h] at htrk
      exact htrk.trans (hfix ht)
    · rw [hf]; exact hchips
    · rw [hf]; exact hreg
    · rw [hf]
  · have hd : s.driveChip u = s.holdChip u := by
      unfold driveChip
      rw [hp]
      exact if_pos hl
    refine completes_of_eq (hx _ hd) ?_
    rw [holdChip_eq]
    obtain ⟨f, hf, hchip, hchips, hfirst, htrk⟩ := holdPassed_spec (s := s) u
    have hreg (q : RegId) (hq : q ≠ Reg.FILT_CTL) := reg_holdPassed_ne (s := s) u hq
    have hphase : (s.holdPassed u).seq.phase = .ready := by rw [hf]; exact hp
    have hhold : (s.holdPassed u).seq.hold + 1 = s.seq.hold := by
      rw [hf]
      exact Nat.sub_add_cancel hl
    have hpins : (s.holdPassed u).seq.pins = s.seq.pins := by rw [hf]
    have hout : (s.holdPassed u).outputsTaken = s.outputsTaken := by
      rw [hf]
      exact congrArg (fun l : List Chip => l.all fun c => !c.counted) hchips
    have hb := (s.holdPassed u).becomeReady_frame hphase
    have hbh : (s.holdPassed u).becomeReady.seq.hold = (s.holdPassed u).seq.hold := by rw [hb]
    have hbf : (s.holdPassed u).becomeReady.filt = f := by rw [hb, hf]
    refine ⟨?_, ?_, ?_, ?_, fun h => ?_, fun h => ?_, fun ht h0 => ?_, fun q hq => ?_, ?_⟩
    · rw [hbh, hhold]
    · rw [hbf, hchip]
    · rw [hbf, hchips]
    · rw [hbf, hfirst]
    · rw [hbf, htrk h]
    · rw [(s.holdPassed u).becomeReady_of_hold (by omega)]
      exact ⟨hpins, hphase⟩
    · exact (s.holdPassed u).becomeReady_of_taken hphase (hbh.symm.trans h0) (hout.trans ht)
    · rw [hb]
      exact hreg q hq
    · rw [hb, hf]
  · refine hx s ?_
    unfold driveChip
    split
    · exact absurd ‹_› hy
    · exact absurd ‹_› hr
    · rfl

end Sys2Proof.Machine
end

section
/-! PROOFS. A row of the result store: its slots, its status word, and what the write of one row leaves (05, 04). -/

namespace Sys2Proof.Machine

/-! ### The status word and the format of a slot -/

theorem toNat_rowStatus (ovr settle stale lost overrun fault : Bool) (scount : Nat) (fc : Word) :
    (rowStatus ovr settle stale lost overrun fault scount fc).toNat = ovr.toNat * 2 ^ 15 + settle.toNat * 2 ^ 14 +
      stale.toNat * 2 ^ 13 + lost.toNat * 2 ^ 12 + overrun.toNat * 2 ^ 11 + fault.toNat * 2 ^ 10 + min 15 scount * 64 +
      fc.toNat % 64 := by
  have hbit (b : Bool) : b.toNat ≤ 1 := Bool.toNat_le b
  have h₁ := hbit ovr
  have h₂ := hbit settle
  have h₃ := hbit stale
  have h₄ := hbit lost
  have h₅ := hbit overrun
  have h₆ := hbit fault
  simp only [rowStatus, bitAt, word, BitVec.toNat_ofNat]
  omega

theorem bits_rowStatus (ovr settle stale lost overrun fault : Bool) (scount : Nat) (fc : Word) :
    bits (rowStatus ovr settle stale lost overrun fault scount fc) 0 6 = fc.toNat % 64 := by
  rw [bits, toNat_rowStatus, Nat.shiftRight_zero]
  omega

theorem getLsbD_eq_of_toNat {v : Word} {i : Nat} {b : Bool} (h : v.toNat / 2 ^ i % 2 = b.toNat) : v.getLsbD i = b := by
  rw [BitVec.getLsbD, Nat.testBit_eq_decide_div_mod_eq, h]
  cases b <;> rfl

theorem rowStatus_lost (ovr settle stale lost overrun fault : Bool) (scount : Nat) (fc : Word) :
    (rowStatus ovr settle stale lost overrun fault scount fc).getLsbD 12 = lost := by
  refine getLsbD_eq_of_toNat ?_
  rw [toNat_rowStatus]
  have h₁ := Bool.toNat_le lost
  have h₂ := Bool.toNat_le overrun
  have h₃ := Bool.toNat_le fault
  omega

theorem rowStatus_overrun (ovr settle stale lost overrun fault : Bool) (scount : Nat) (fc : Word) :
    (rowStatus ovr settle stale lost overrun fault scount fc).getLsbD 11 = overrun := by
  refine getLsbD_eq_of_toNat ?_
  rw [toNat_rowStatus]
  have h₂ := Bool.toNat_le overrun
  have h₃ := Bool.toNat_le fault
  omega

theorem formatSlot_signed (align : Bool) (v : Int) :
    (formatSlot align true v).toInt = max (-32767) (min 32766 (v / (if align then 2 ^ 8 else 1))) := by
  have hv : (if align then asr v 8 else v) = v / (if align then 2 ^ 8 else 1) := by
    cases align
    · exact (Int.ediv_one v).symm
    · rfl
  unfold formatSlot
  dsimp only
  rw [hv, if_pos rfl, clampI_eq_max_min (by decide)]
  exact BitVec.toInt_ofInt_eq_self (by decide) (by omega) (by omega)

theorem formatSlot_unsigned (align : Bool) (v : Int) :
    ((formatSlot align false v).toNat : Int) = max 0 (min 65534 (v / (if align then 2 ^ 8 else 1))) := by
  have hv : (if align then asr v 8 else v) = v / (if align then 2 ^ 8 else 1) := by
    cases align
    · exact (Int.ediv_one v).symm
    · rfl
  unfold formatSlot
  dsimp only
  rw [hv, if_neg Bool.false_ne_true, clampI_eq_max_min (by decide), iword, BitVec.toNat_ofInt]
  omega

/-! ### What the work around a row's write leaves -/

/-- The parts of a state that a row's slots come from and go to. -/
structure RowKeeps (s t : State) : Prop where
  tables : t.tables = s.tables
  lanes : t.lanes = s.lanes
  sats : t.filt.sats = s.filt.sats
  faults : t.fmon.faults = s.fmon.faults
  held : t.rowHeld = s.rowHeld
  done : t.rowDone = s.rowDone
  pend : t.seq.pend = s.seq.pend

namespace RowKeeps

variable {s t u : State}

theorem refl (s : State) : RowKeeps s s := ⟨rfl, rfl, rfl, rfl, rfl, rfl, rfl⟩

theorem trans (h : RowKeeps s t) (g : RowKeeps t u) : RowKeeps s u :=
  ⟨g.tables.trans h.tables, g.lanes.trans h.lanes, g.sats.trans h.sats, g.faults.trans h.faults, g.held.trans h.held,
    g.done.trans h.done, g.pend.trans h.pend⟩

theorem foldl {α : Type} {f : State → α → State} (hf : ∀ t a, RowKeeps t (f t a)) (l : List α) (s : State) :
    RowKeeps s (l.foldl f s) := by
  induction l generalizing s with
  | nil => exact refl s
  | cons a l ih => exact (hf s a).trans (ih (f s a))

theorem insertRec (r : Rec) : RowKeeps s (s.insertRec r) := by
  obtain ⟨g, q, h⟩ := s.insertRec_frame r
  rw [h]
  exact ⟨rfl, rfl, rfl, rfl, rfl, rfl, rfl⟩

theorem recordFault (e : FaultEvent) : RowKeeps s (s.recordFault e) := by
  obtain ⟨g, q, h⟩ := s.recordFault_frame e
  rw [h]
  exact ⟨rfl, rfl, rfl, rfl, rfl, rfl, rfl⟩

theorem setFlag (r : RegId) (b : Nat) (v : Bool) : RowKeeps s (s.setFlag r b v) := ⟨rfl, rfl, rfl, rfl, rfl, rfl, rfl⟩

theorem faultEvent (e : FaultEvent) : RowKeeps s (s.faultEvent e) := by
  unfold State.faultEvent
  dsimp only
  split
  · exact (setFlag _ _ _).trans (recordFault e)
  · exact ⟨rfl, rfl, rfl, rfl, rfl, rfl, rfl⟩

theorem raceMark (k : Nat) : RowKeeps s (s.raceMark k) := by
  rw [s.raceMark_frame k]
  exact ⟨rfl, rfl, rfl, rfl, rfl, rfl, rfl⟩

theorem laneFails (r : EntryRun) (n : Nat) : RowKeeps s (s.laneFails r n) := by
  have hs : RowKeeps s { s with seq := { s.seq with testFail := true } } := ⟨rfl, rfl, rfl, rfl, rfl, rfl, rfl⟩
  unfold State.laneFails
  extract_lets q u g detail m v w event free x t
  have hw : RowKeeps s w := ⟨rfl, rfl, rfl, rfl, rfl, rfl, rfl⟩
  have ht : RowKeeps w t := by
    unfold t
    split
    · exact setFlag _ _ _
    · exact refl w
  have hx (l : List Nat) : RowKeeps w { w with fmon := { w.fmon with toSub := l } } := ⟨rfl, rfl, rfl, rfl, rfl, rfl, rfl⟩
  clear_value w t event
  split
  · exact hs
  · split
    · split
      · exact hw.trans ((hx _).trans (faultEvent _))
      · exact hw.trans ((setFlag _ _ _).trans (faultEvent _))
    · exact hw.trans (ht.trans (faultEvent _))

theorem internalCheck (r : EntryRun) : RowKeeps s (s.internalCheck r) := by
  unfold State.internalCheck
  split
  · extract_lets bad f u
    have hu : RowKeeps s u := ⟨rfl, rfl, rfl, rfl, rfl, rfl, rfl⟩
    exact hu.trans (foldl (fun t n => laneFails r n) bad u)
  · exact refl s

theorem captureFrame : RowKeeps s s.captureFrame := by
  unfold State.captureFrame
  dsimp only
  split
  · split
    · split <;> exact ⟨rfl, rfl, rfl, rfl, rfl, rfl, rfl⟩
    · exact ⟨rfl, rfl, rfl, rfl, rfl, rfl, rfl⟩
  · exact refl s

theorem quiesceCheck : RowKeeps s s.quiesceCheck := by
  unfold State.quiesceCheck
  split
  · split <;> exact ⟨rfl, rfl, rfl, rfl, rfl, rfl, rfl⟩
  · exact refl s

theorem frameDone (b : Bool) : RowKeeps s (s.frameDone b) := by
  unfold State.frameDone
  extract_lets p q d u v w
  have hv : RowKeeps s v := ⟨rfl, rfl, rfl, rfl, rfl, rfl, rfl⟩
  have hw : RowKeeps v w := by
    unfold w
    split
    · exact (RowKeeps.refl v).trans ⟨rfl, rfl, rfl, rfl, rfl, rfl, rfl⟩
    · exact refl v
  exact hv.trans (hw.trans ((setFlag _ _ _).trans (captureFrame.trans quiesceCheck)))

theorem frameCheck : RowKeeps s s.frameCheck := by
  obtain h | ⟨b, h⟩ := s.frameCheck_cases
  · rw [h]
    exact refl s
  · rw [h]
    exact frameDone b

theorem captureRow (r : EntryRun) (bad : Bool) (overs : List Bool) : RowKeeps s (s.captureRow r bad overs) := by
  unfold State.captureRow
  split
  · exact ⟨rfl, rfl, rfl, rfl, rfl, rfl, rfl⟩
  · exact refl s

end RowKeeps
namespace State

variable {s : State}

/-! ### The write of a row -/

/-- The status word of a row with the slots given, whose OVERRUN bit is given. -/
def rowHead (s : State) (r : EntryRun) (overrun : Bool) (slots : List (Word × Bool × Bool)) : Word :=
  rowStatus ((slots.map (fun w => w.2.1)).any id) (decide (0 < r.invalid) || r.noPump) (slots.any (fun w => w.2.2)) r.lost
    overrun (s.rowFault r) r.invalid r.fc

/-- The words of a row: the status word and the slots. -/
def rowWords (s : State) (r : EntryRun) (overrun : Bool) : List Word :=
  s.rowHead r overrun ((List.range 160).map (s.slot r)) :: ((List.range 160).map (s.slot r)).map Prod.fst

theorem rowWords_length (r : EntryRun) (o : Bool) : (s.rowWords r o).length = 161 := by
  simp [rowWords]

theorem rowWords_slot (r : EntryRun) (o : Bool) {n : Nat} (h : n < 160) :
    (s.rowWords r o)[1 + n]'(by rw [rowWords_length]; omega) = (s.slot r n).1 := by
  have hk : (s.rowWords r o)[n + 1]'(by rw [rowWords_length]; omega) = (s.slot r n).1 := by
    simp [rowWords]
  simpa only [Nat.add_comm 1 n] using hk

theorem setTabs_tables (c a : Nat) (l : List Word) :
    (s.setTabs c a l).tables = memWriteAll tabDefault s.tables (winKey c a) l := rfl

theorem tab_setTabs_out (h : Memory.wf tabDefault s.tables = true) {c a c' a' : Nat} {l : List Word}
    (hn : ¬ (winKey c a ≤ winKey c' a' ∧ winKey c' a' < winKey c a + l.length)) :
    (s.setTabs c a l).tab c' a' = s.tab c' a' := (memRead_memWriteAll h).trans (if_neg hn)

theorem putRow_tables (r : EntryRun) (o : Bool) : (s.putRow r o).tables =
    ((s.internalCheck r).setTabs Win.RESULT (161 * r.idx) ((s.internalCheck r).rowWords r o)).tables := by
  unfold putRow
  extract_lets u slots overs ovr stale settle st v q w held
  have hl : st :: slots.map Prod.fst = u.rowWords r o := rfl
  have hu : s.internalCheck r = u := rfl
  have hv : v.tables = (u.setTabs Win.RESULT (161 * r.idx) (st :: slots.map Prod.fst)).tables :=
    State.rewriteRange_tables _ _ _ _
  clear_value v
  have hw : w.tables = v.tables := rfl
  rw [hu, ← hl, ← hv, ← hw]
  clear_value w held overs
  exact (RowKeeps.captureRow r _ overs).tables

theorem mem_putRow_done (r : EntryRun) (o : Bool) : r.idx ∈ (s.putRow r o).rowDone := by
  refine (RowKeeps.captureRow _ _ _).done.symm ▸ ?_
  exact mem_addOnce _ _

/-- The row's run is over: its row is written. -/
def runOver (s : State) (r : EntryRun) (rest : List EntryRun) : State :=
  (({ s with seq := { s.seq with pend := rest, finished := r.idx } } : State).rowForget r).passFaults (fun
    | .accumulator _ _ => true
    | _ => false)

theorem rowWrite_eq (r : EntryRun) (rest : List EntryRun) (o : Bool) :
    s.rowWrite r rest o = (((s.raceMark r.idx).putRow r o).runOver r rest).frameCheck := rfl

theorem runOver_tables (r : EntryRun) (rest : List EntryRun) : (s.runOver r rest).tables = s.tables := rfl

theorem runOver_done (r : EntryRun) (rest : List EntryRun) : (s.runOver r rest).rowDone = s.rowDone := rfl

theorem runOver_pend (r : EntryRun) (rest : List EntryRun) : (s.runOver r rest).seq.pend = rest := rfl

/-- The state in which the slots of a row are taken. -/
def rowTaken (s : State) (r : EntryRun) : State := (s.raceMark r.idx).internalCheck r

theorem rowTaken_keeps (r : EntryRun) : RowKeeps s (s.rowTaken r) :=
  (RowKeeps.raceMark r.idx).trans (RowKeeps.internalCheck r)

theorem rowWrite_tables (r : EntryRun) (rest : List EntryRun) (o : Bool) : (s.rowWrite r rest o).tables =
    (s.setTabs Win.RESULT (161 * r.idx) ((s.rowTaken r).rowWords r o)).tables := by
  have ht := (rowTaken_keeps (s := s) r).tables
  rw [rowWrite_eq, RowKeeps.frameCheck.tables, runOver_tables, putRow_tables, setTabs_tables, setTabs_tables, ← ht, rowTaken]

theorem rowWord_rowWrite_same (hw : Memory.wf tabDefault s.tables = true) (r : EntryRun) (rest : List EntryRun) (o : Bool)
    {w : Nat} (h : w < 161) : (s.rowWrite r rest o).rowWord r.idx w =
      ((s.rowTaken r).rowWords r o)[w]'(by rw [rowWords_length]; exact h) := by
  refine (congrArg (fun m => tabRead m Win.RESULT (161 * r.idx + w)) (rowWrite_tables r rest o)).trans ?_
  exact tab_setTabs hw _ _ _ w (by rw [rowWords_length]; exact h)

theorem rowWord_rowWrite_ne (hw : Memory.wf tabDefault s.tables = true) (r : EntryRun) (rest : List EntryRun) (o : Bool)
    {row w : Nat} (hr : row ≠ r.idx) (h : w ≤ 160) : (s.rowWrite r rest o).rowWord row w = s.rowWord row w := by
  refine (congrArg (fun m => tabRead m Win.RESULT (161 * row + w)) (rowWrite_tables r rest o)).trans ?_
  refine tab_setTabs_out hw ?_
  rw [rowWords_length]
  unfold winKey
  omega

/-! ### A slot of a lane's result -/

theorem slot_lane {r : EntryRun} {n : Nat} (h5 : r.e.act ≠ 5) (h7 : r.e.act ≠ 7) (hb : n ∉ r.blocked) (ho : r.off = false)
    (hi : r.idle = false) : (s.slot r n).1 = if (nth r.roles (r.slotLane n) .ground).converts then
      (s.convSlot r (r.slotLane n)).1 else 0 := by
  unfold slot
  extract_lets keep lane c
  rw [if_neg (by simp [h5]), if_neg (by simp [h7]), if_neg (by simp [hb]), if_neg (by simp [h5, h7]),
    if_neg (by simp [ho, hi])]
  split <;> rfl

/-- The sum of a lane's outputs in a run. -/
def laneSum (s : State) (r : EntryRun) (lane : Nat) : Int :=
  (alook (s.lanes.toList.getD lane Lane.reset).acc r.firstChip).getD 0

theorem convSlot_clean {r : EntryRun} {lane : Nat} (hf : s.fmon.faults = []) (h : s.entrySigns r lane = []) :
    (s.convSlot r lane).1 = formatSlot r.e.align (r.e.signed && !r.e.internal) (s.laneSum r lane / 2 ^ r.e.shift) := by
  have ha : s.accumulatorFault lane = none := by
    unfold accumulatorFault
    rw [hf]
    rfl
  unfold convSlot
  rw [h, ha]
  rfl

theorem convSlot_dirty {r : EntryRun} {lane : Nat} (h : s.entrySigns r lane ≠ []) :
    (s.convSlot r lane).1 = overCode (r.e.signed && !r.e.internal) (s.entrySigns r lane) := by
  unfold convSlot
  dsimp only
  rw [if_pos (by simp [h])]

theorem overCode_eq (signed : Bool) (signs : List Bool) :
    overCode signed signs = if signed = false then 0xFFFF else if signs.all id then 0x7FFF else 0x8000 := by
  cases signed <;> rfl

theorem slots_of_rowKeeps {t : State} (h : RowKeeps s t) (r : EntryRun) (lane : Nat) :
    t.entrySigns r lane = s.entrySigns r lane ∧ t.laneSum r lane = s.laneSum r lane := by
  constructor
  · unfold entrySigns
    rw [h.sats]
  · unfold laneSum
    rw [h.lanes]

end State

open State in
/-- Settles O31: what stands around the write of a row changes neither a table nor what its slots come from. -/
theorem rowWritten : Obligations.RowWritten := by
  intro s r rest hm hp hr _ hwf hf
  have hx : exec (.rowWrite false) s = .next (s.rowWrite r rest (s.rowHeld.contains r.idx)) := by
    change Host.Outcome.next (match s.seq.pend with
      | r :: rest => if s.mainUp && s.rowReady r then
          (s.overrunSeen r.idx false).2.rowWrite r rest (s.overrunSeen r.idx false).1 else s
      | [] => s) = _
    rw [hp]
    refine congrArg _ ((if_pos (by simp [hm, hr])).trans ?_)
    unfold overrunSeen
    cases s.rowHeld.contains r.idx <;> rfl
  refine completes_of_eq hx ?_
  have hw := hwf.tables
  have hk := rowTaken_keeps (s := s) r
  have hhead := rowWord_rowWrite_same hw r rest (s.rowHeld.contains r.idx) (w := 0) (by decide)
  have hslot (n : Nat) (h : n < 160) := (rowWord_rowWrite_same hw r rest (s.rowHeld.contains r.idx) (w := 1 + n)
    (by omega)).trans (rowWords_slot r _ h)
  refine ⟨?_, ?_, ?_, ?_, ?_, fun row w hrow hle => rowWord_rowWrite_ne hw r rest _ hrow hle,
    fun n hn h5 h7 hb ho hi => ?_⟩
  · rw [rowWrite_eq, RowKeeps.frameCheck.done]
    exact mem_putRow_done r _
  · rw [rowWrite_eq, RowKeeps.frameCheck.pend]
    exact runOver_pend r rest
  · rw [hhead]
    exact bits_rowStatus _ _ _ _ _ _ _ _
  · rw [hhead]
    exact rowStatus_lost _ _ _ _ _ _ _ _
  · rw [hhead]
    exact rowStatus_overrun _ _ _ _ _ _ _ _
  · have hs := (hslot n hn).trans (slot_lane h5 h7 hb ho hi)
    obtain ⟨hsigns, hsum⟩ := slots_of_rowKeeps hk r (r.slotLane n)
    intro lane signs signed sum v
    change (s.rowTaken r).entrySigns r lane = signs at hsigns
    change (s.rowTaken r).laneSum r lane = sum at hsum
    cases hc : (nth r.roles lane .ground).converts with
    | false =>
      rw [if_pos rfl]
      exact hs.trans (if_neg (by rw [hc]; exact Bool.false_ne_true))
    | true =>
      have hs' := hs.trans (if_pos hc)
      rw [if_neg (by decide), hs']
      by_cases hg : signs = []
      · rw [if_pos hg, convSlot_clean (hk.faults.trans hf) (hsigns.trans hg), hsum]
        cases hsg : signed with
        | true =>
          rw [if_pos rfl, show (r.e.signed && !r.e.internal) = true from hsg]
          exact formatSlot_signed _ _
        | false =>
          rw [if_neg Bool.false_ne_true, show (r.e.signed && !r.e.internal) = false from hsg]
          exact formatSlot_unsigned _ _
      · rw [if_neg hg, convSlot_dirty (fun h => hg (hsigns.symm.trans h)), hsigns]
        exact overCode_eq _ _

end Sys2Proof.Machine
end

section
/-! PROOFS. The judgement of the lanes at the end of a self-calibration: the factors of one lane, the other lanes kept
(R369, R371). -/

namespace Sys2Proof.Machine

/-- The numerator and the divisor of a lane's gain (Table 12.2). -/
def gainNum (cdiv : Nat) (m : Meas) : Int := (2 * 2 ^ 15 * (calE cdiv * m.n) : Nat)

def gainDen (off : Int) (m : Meas) : Int := m.sum - 256 * off * m.n

/-- The gain that a positive divisor gives, rounded half up. -/
def gainOf (cdiv : Nat) (off : Int) (m : Meas) : Int := (gainNum cdiv m + gainDen off m) / (2 * gainDen off m)

theorem plausible_iff (off gain : Int) : plausible off gain = true ↔ off.natAbs ≤ 0x800 ∧ 0x6800 ≤ gain ∧ gain ≤ 0x9800 := by
  simp only [plausible, Bool.and_eq_true, decide_eq_true_eq, and_assoc]

theorem getLsbD_lane (n m : Nat) (hn : n < 164) : (BitVec.ofNat 164 (2 ^ n)).getLsbD m = decide (n = m) := by
  rw [BitVec.getLsbD_ofNat, Nat.testBit_two_pow]
  by_cases h : n = m
  · simp [h, h ▸ hn]
  · simp [h]

namespace State

variable {s t : State}

theorem calFactors_of_pos (off : Int) (m : Meas) (h : 0 < gainDen off m) : s.calFactors off m =
    (if plausible off (gainOf s.snap.cdiv off m) then some (iword off, iword (gainOf s.snap.cdiv off m)) else none, s) := by
  have hg : s.calGain m off = (gainOf s.snap.cdiv off m, s) := if_pos h
  unfold calFactors
  rw [hg]

theorem calFactors_frame (off : Int) (m : Meas) : ∃ n, (s.calFactors off m).2 = { s with freeCtr := n } := by
  unfold calFactors calGain
  dsimp only
  split
  · exact ⟨s.freeCtr, rfl⟩
  · split
    · exact ⟨s.freeCtr, rfl⟩
    · exact ⟨_, rfl⟩

theorem calPass_frame (n : Nat) (o g : Word) : s.calPass n o g =
    { s with tables := (s.calPass n o g).tables, cal := { s.cal with fail := (s.calPass n o g).cal.fail } } := rfl

theorem calFailLane_frame (n : Nat) : ∃ g q f, s.calFailLane n =
    { s with regs := g, queue := q, fmon := f, cal := { s.cal with fail := s.cal.fail ||| BitVec.ofNat 164 (2 ^ n) } } := by
  have h (u : State) (d : Word) : ∃ g q f, u.mainFault 6 FaultClass.LANE 1 n 0x8000 d =
      { u with regs := g, queue := q, fmon := f } := u.mainFault_frame 6 FaultClass.LANE 1 n 0x8000 d
  obtain ⟨g, q, f, hx⟩ := h { s with cal := { s.cal with fail := s.cal.fail ||| BitVec.ofNat 164 (2 ^ n) } }
    (match s.standIn n with
      | some m => word m
      | none => 0xFFFF)
  exact ⟨g, q, f, hx⟩

theorem reg_calFailLane_ne (n : Nat) {q : RegId} (h : q ∉ faultRegs) (hq : q ≠ Reg.FAULT_STAT) :
    (s.calFailLane n).reg q = s.reg q := reg_mainFault_ne _ _ _ _ _ _ _ h hq

/-! ### One lane's factors among the others -/

/-- What the judgement of other lanes than `n` keeps: the factors of `n` and its bit of the map. -/
structure SameFactors (n : Nat) (s t : State) : Prop where
  offset : t.tab Win.CALF (2 * n) = s.tab Win.CALF (2 * n)
  gain : t.tab Win.CALF (2 * n + 1) = s.tab Win.CALF (2 * n + 1)
  fail : t.cal.fail.getLsbD n = s.cal.fail.getLsbD n

theorem SameFactors.trans {n : Nat} {u : State} (h : SameFactors n s t) (g : SameFactors n t u) : SameFactors n s u :=
  ⟨g.offset.trans h.offset, g.gain.trans h.gain, g.fail.trans h.fail⟩

theorem calPass_tab_same (hw : Memory.wf tabDefault s.tables = true) (n : Nat) (o g : Word) :
    (s.calPass n o g).tab Win.CALF (2 * n) = o ∧ (s.calPass n o g).tab Win.CALF (2 * n + 1) = g :=
  ⟨tab_setTabs hw Win.CALF (2 * n) [o, g] 0 (by simp), tab_setTabs hw Win.CALF (2 * n) [o, g] 1 (by simp)⟩

theorem calPass_fail (k n : Nat) (o g : Word) (hk : k < 164) (hn : n < 164) :
    (s.calPass k o g).cal.fail.getLsbD n = (decide (n ≠ k) && s.cal.fail.getLsbD n) := by
  change (s.cal.fail &&& ~~~(BitVec.ofNat 164 (2 ^ k))).getLsbD n = _
  rw [BitVec.getLsbD_and, BitVec.getLsbD_not, getLsbD_lane k n hk]
  by_cases h : n = k
  · simp [h]
  · simp [h, hn, Ne.symm h]

theorem calFailLane_fail (k n : Nat) (hk : k < 164) :
    (s.calFailLane k).cal.fail.getLsbD n = (decide (n = k) || s.cal.fail.getLsbD n) := by
  obtain ⟨g, q, f, hx⟩ := calFailLane_frame (s := s) k
  rw [hx]
  change (s.cal.fail ||| BitVec.ofNat 164 (2 ^ k)).getLsbD n = _
  rw [BitVec.getLsbD_or, getLsbD_lane k n hk, Bool.or_comm]
  congr 1
  exact decide_eq_decide.2 eq_comm

theorem calFailLane_tab (k a : Nat) : (s.calFailLane k).tab Win.CALF a = s.tab Win.CALF a := by
  obtain ⟨g, q, f, hx⟩ := calFailLane_frame (s := s) k
  rw [hx]
  rfl

theorem calPass_sameFactors (hw : Memory.wf tabDefault s.tables = true) {k n : Nat} (o g : Word) (hk : k < 164)
    (hn : n < 164) (h : n ≠ k) : SameFactors n s (s.calPass k o g) := by
  have hl : [o, g].length = 2 := rfl
  refine ⟨tab_setTabs_out hw ?_, tab_setTabs_out hw ?_, ?_⟩
  · rw [hl]
    unfold winKey
    omega
  · rw [hl]
    unfold winKey
    omega
  · rw [calPass_fail k n o g hk hn]
    simp [h]

theorem calFailLane_sameFactors {k n : Nat} (hk : k < 164) (h : n ≠ k) : SameFactors n s (s.calFailLane k) := by
  refine ⟨calFailLane_tab k _, calFailLane_tab k _, ?_⟩
  rw [calFailLane_fail k n hk]
  simp [h]

/-- What the judgement of every lane keeps. -/
structure Judging (s t : State) : Prop where
  snap : t.snap = s.snap
  pwr : t.pwr = s.pwr
  cal : t.cal = { s.cal with fail := t.cal.fail }
  count : t.reg Reg.CAL_COUNT = s.reg Reg.CAL_COUNT
  wf : Memory.wf tabDefault s.tables = true → Memory.wf tabDefault t.tables = true

theorem Judging.refl (s : State) : Judging s s := ⟨rfl, rfl, rfl, rfl, id⟩

theorem Judging.trans {u : State} (h : Judging s t) (g : Judging t u) : Judging s u :=
  ⟨g.snap.trans h.snap, g.pwr.trans h.pwr, by rw [g.cal, h.cal], g.count.trans h.count, fun hw => g.wf (h.wf hw)⟩

theorem calPass_judging (n : Nat) (o g : Word) : Judging s (s.calPass n o g) where
  snap := by rw [calPass_frame]
  pwr := by rw [calPass_frame]
  cal := by rw [calPass_frame]
  count := by rw [calPass_frame]; rfl
  wf h := s.setTabs_wf Win.CALF (2 * n) [o, g] h

theorem calFailLane_judging (n : Nat) : Judging s (s.calFailLane n) := by
  obtain ⟨g, q, f, hx⟩ := calFailLane_frame (s := s) n
  refine ⟨by rw [hx], by rw [hx], by rw [hx], reg_calFailLane_ne n (by decide) (by decide), fun h => ?_⟩
  rw [hx]
  exact h

theorem calJudge_cases (m : List Meas) (acc : Bool × State) (k : Nat) : ∃ u c,
    u = { acc.2 with freeCtr := c } ∧
    ((∃ o g, (State.calJudge m acc k).2 = u.calPass k o g) ∨ (State.calJudge m acc k).2 = u.calFailLane k) := by
  obtain ⟨c, hc⟩ := calFactors_frame (s := acc.2) (nth acc.2.cal.offs k 0) (nth m k ⟨0, 1⟩)
  refine ⟨_, c, rfl, ?_⟩
  unfold calJudge
  dsimp only
  rw [hc]
  split
  · exact .inl ⟨_, _, rfl⟩
  · exact .inr rfl

theorem calJudge_judging (m : List Meas) (acc : Bool × State) (k : Nat) : Judging acc.2 (State.calJudge m acc k).2 := by
  obtain ⟨u, c, hu, hc⟩ := calJudge_cases m acc k
  have hj : Judging acc.2 u := by
    rw [hu]
    exact ⟨rfl, rfl, rfl, rfl, id⟩
  obtain ⟨o, g, h⟩ | h := hc
  · rw [h]
    exact hj.trans (calPass_judging k o g)
  · rw [h]
    exact hj.trans (calFailLane_judging k)

theorem calJudge_sameFactors (m : List Meas) (acc : Bool × State) {k n : Nat} (hk : k < 164) (hn : n < 164) (h : n ≠ k)
    (hw : Memory.wf tabDefault acc.2.tables = true) : SameFactors n acc.2 (State.calJudge m acc k).2 := by
  obtain ⟨u, c, hu, hc⟩ := calJudge_cases m acc k
  have hs : SameFactors n acc.2 u := by
    rw [hu]
    exact ⟨rfl, rfl, rfl⟩
  have huw : Memory.wf tabDefault u.tables = true := by
    rw [hu]
    exact hw
  obtain ⟨o, g, hx⟩ | hx := hc
  · rw [hx]
    exact hs.trans (calPass_sameFactors huw o g hk hn h)
  · rw [hx]
    exact hs.trans (calFailLane_sameFactors hk h)

/-- The judgement of a list of lanes. -/
def judged (m : List Meas) (acc : Bool × State) (l : List Nat) : Bool × State := l.foldl (State.calJudge m) acc

theorem judged_judging (m : List Meas) (acc : Bool × State) (l : List Nat) : Judging acc.2 (judged m acc l).2 := by
  induction l generalizing acc with
  | nil => exact Judging.refl _
  | cons k l ih => exact (calJudge_judging m acc k).trans (ih _)

theorem judged_sameFactors (m : List Meas) (acc : Bool × State) {n : Nat} (l : List Nat) (hl : ∀ k ∈ l, k < 164)
    (hn : n < 164) (h : n ∉ l) (hw : Memory.wf tabDefault acc.2.tables = true) :
    SameFactors n acc.2 (judged m acc l).2 := by
  induction l generalizing acc with
  | nil => exact ⟨rfl, rfl, rfl⟩
  | cons k l ih =>
    have hk := calJudge_sameFactors m acc (hl k (List.mem_cons_self ..)) hn (fun he => h (he ▸ List.mem_cons_self ..)) hw
    exact hk.trans (ih _ (fun j hj => hl j (List.mem_cons_of_mem _ hj)) (fun hm => h (List.mem_cons_of_mem _ hm))
      ((calJudge_judging m acc k).wf hw))

/-- What a lane's judgement leaves of it, over the state before. -/
def LaneJudged (s t : State) (n : Nat) (off gain : Int) : Prop :=
  if off.natAbs ≤ 0x800 ∧ 0x6800 ≤ gain ∧ gain ≤ 0x9800 then
    t.tab Win.CALF (2 * n) = iword off ∧ t.tab Win.CALF (2 * n + 1) = iword gain ∧ t.cal.fail.getLsbD n = false
  else t.tab Win.CALF (2 * n) = s.tab Win.CALF (2 * n) ∧ t.tab Win.CALF (2 * n + 1) = s.tab Win.CALF (2 * n + 1) ∧
    t.cal.fail.getLsbD n = true

theorem LaneJudged.congr {u v : State} {n : Nat} {off gain : Int} (h : LaneJudged s t n off gain)
    (hu : SameFactors n u s) (hv : SameFactors n t v) : LaneJudged u v n off gain := by
  unfold LaneJudged at h ⊢
  rw [hv.offset, hv.gain, hv.fail, ← hu.offset, ← hu.gain]
  exact h

theorem calJudge_lane (m : List Meas) (acc : Bool × State) {n : Nat} (hn : n < 164)
    (hw : Memory.wf tabDefault acc.2.tables = true) (hd : 0 < gainDen (nth acc.2.cal.offs n 0) (nth m n ⟨0, 1⟩)) :
    LaneJudged acc.2 (State.calJudge m acc n).2 n (nth acc.2.cal.offs n 0)
      (gainOf acc.2.snap.cdiv (nth acc.2.cal.offs n 0) (nth m n ⟨0, 1⟩)) := by
  unfold calJudge
  dsimp only
  rw [calFactors_of_pos _ _ hd]
  generalize nth acc.2.cal.offs n 0 = off
  generalize gainOf acc.2.snap.cdiv off (nth m n ⟨0, 1⟩) = gain
  unfold LaneJudged
  by_cases hp : off.natAbs ≤ 0x800 ∧ 0x6800 ≤ gain ∧ gain ≤ 0x9800
  · rw [if_pos hp, if_pos ((plausible_iff _ _).2 hp)]
    obtain ⟨h₁, h₂⟩ := calPass_tab_same hw n (iword off) (iword gain)
    refine ⟨h₁, h₂, (calPass_fail n n _ _ hn hn).trans ?_⟩
    simp
  · rw [if_neg hp, if_neg fun h => hp ((plausible_iff _ _).1 h)]
    refine ⟨calFailLane_tab n _, calFailLane_tab n _, (calFailLane_fail n n hn).trans ?_⟩
    simp

/-- Every lane is judged once: lane `n` by its own measurements, whatever the others are. -/
theorem judged_all (m : List Meas) (b : Bool) {n : Nat} (hn : n < 164) (hw : Memory.wf tabDefault s.tables = true)
    (hd : 0 < gainDen (nth s.cal.offs n 0) (nth m n ⟨0, 1⟩)) :
    LaneJudged s (judged m (b, s) (List.range 164)).2 n (nth s.cal.offs n 0)
      (gainOf s.snap.cdiv (nth s.cal.offs n 0) (nth m n ⟨0, 1⟩)) := by
  have hlt (k : Nat) (h : k ∈ List.range 164) : k < 164 := List.mem_range.1 h
  have hnodup := List.nodup_range (n := 164)
  obtain ⟨l₁, l₂, hl⟩ := List.append_of_mem (List.mem_range.2 hn)
  rw [hl] at hlt hnodup ⊢
  have h₁ : n ∉ l₁ := fun h => (List.nodup_append.1 hnodup).2.2 n h n (List.mem_cons_self ..) rfl
  have h₂ : n ∉ l₂ := (List.nodup_cons.1 (List.nodup_append.1 hnodup).2.1).1
  have hj := judged_judging m (b, s) l₁
  have hs := judged_sameFactors m (b, s) l₁ (fun k h => hlt k (List.mem_append_left _ h)) hn h₁ hw
  have he : judged m (b, s) (l₁ ++ n :: l₂) = judged m (State.calJudge m (judged m (b, s) l₁) n) l₂ := by
    unfold judged
    rw [List.foldl_append, List.foldl_cons]
  have hoffs : (judged m (b, s) l₁).2.cal.offs = s.cal.offs := by rw [hj.cal]
  rw [he, ← hoffs, ← hj.snap]
  rw [← hoffs] at hd
  have hw' := hj.wf hw
  refine (calJudge_lane m _ hn hw' hd).congr hs ?_
  exact judged_sameFactors m _ l₂ (fun k h => hlt k (List.mem_append_right _ (List.mem_cons_of_mem _ h))) hn h₂
    ((calJudge_judging m _ n).wf hw')

end State
end Sys2Proof.Machine
end

section
/-! PROOFS. The end of a self-calibration, what the work after it keeps, and the lanes of a background round (R370 to
R380). -/

namespace Sys2Proof.Machine

/-- What the work after the lanes' judgement keeps: the factors, the fail map, the phase and the count, that SELF reads 0, and
the set flags of INT_STAT. -/
structure CalEnds (s t : State) : Prop where
  tables : t.tables = s.tables
  phase : t.cal.phase = s.cal.phase
  fail : t.cal.fail = s.cal.fail
  reg : ∀ q ∈ [Reg.CAL_CMD, Reg.CAL_COUNT], t.reg q = s.reg q
  irq : ∀ b < 16, s.flag Reg.INT_STAT b = true → t.flag Reg.INT_STAT b = true

namespace CalEnds

variable {s t u : State}

theorem refl (s : State) : CalEnds s s := ⟨rfl, rfl, rfl, fun _ _ => rfl, fun _ _ => id⟩

theorem trans (h : CalEnds s t) (g : CalEnds t u) : CalEnds s u :=
  ⟨g.tables.trans h.tables, g.phase.trans h.phase, g.fail.trans h.fail, fun q hq => (g.reg q hq).trans (h.reg q hq),
    fun b hb hi => g.irq b hb (h.irq b hb hi)⟩

theorem ite {c : Prop} [Decidable c] (ht : CalEnds s t) (hu : CalEnds s u) : CalEnds s (if c then t else u) := by
  split
  · exact ht
  · exact hu

theorem foldl {α : Type} {f : State → α → State} (h : ∀ (t : State) a, CalEnds t (f t a)) (l : List α) (s : State) :
    CalEnds s (l.foldl f s) := by
  induction l generalizing s with
  | nil => exact refl s
  | cons a l ih => exact (h s a).trans (ih _)

/-- A change of parts that are kept nowhere. -/
theorem other (ht : u.tables = t.tables) (hr : u.regs = t.regs) (hp : u.cal.phase = t.cal.phase)
    (hf : u.cal.fail = t.cal.fail) : CalEnds t u := by
  have hreg (q : RegId) : u.reg q = t.reg q := State.reg_congr hr q
  exact ⟨ht, hp, hf, fun q _ => hreg q, fun b _ hb => by rw [State.flag, hreg]; exact hb⟩

theorem setReg {r : RegId} (h : r ∉ [Reg.CAL_CMD, Reg.CAL_COUNT, Reg.INT_STAT]) (v : Word) : CalEnds s (s.setReg r v) := by
  have hne (q : RegId) (hq : q ∈ [Reg.CAL_CMD, Reg.CAL_COUNT, Reg.INT_STAT]) : q ≠ r := fun he => h (he ▸ hq)
  refine ⟨rfl, rfl, rfl, fun q hq => State.reg_setReg_ne _ _ (hne q ?_), fun b _ hb => ?_⟩
  · obtain rfl | hq := List.mem_cons.1 hq
    · decide
    · rw [List.mem_singleton.1 hq]
      decide
  · rw [State.flag, State.reg_setReg_ne _ _ (hne Reg.INT_STAT (by decide))]
    exact hb

theorem setFlag {r : RegId} (h : r ∉ [Reg.CAL_CMD, Reg.CAL_COUNT, Reg.INT_STAT]) (b : Nat) (v : Bool) :
    CalEnds s (s.setFlag r b v) := setReg h _

theorem setFld {r : RegId} (h : r ∉ [Reg.CAL_CMD, Reg.CAL_COUNT, Reg.INT_STAT]) (lo w x : Nat) :
    CalEnds s (s.setFld r lo w x) := setReg h _

theorem incFld {r : RegId} (h : r ∉ [Reg.CAL_CMD, Reg.CAL_COUNT, Reg.INT_STAT]) (lo w : Nat) :
    CalEnds s (s.incFld r lo w) := setReg h _

theorem satFld {r : RegId} (h : r ∉ [Reg.CAL_CMD, Reg.CAL_COUNT, Reg.INT_STAT]) (lo w : Nat) :
    CalEnds s (s.satFld r lo w) := setReg h _

theorem raise (b : Nat) : CalEnds s (s.raise b) where
  tables := rfl
  phase := rfl
  fail := rfl
  reg q hq := State.reg_raise_ne _ _ (by rintro rfl; exact absurd hq (by decide))
  irq c hc h := State.raise_keeps_irq s hc h

theorem mainFault (flag cls outcome elem : Nat) (detail subst : Word) :
    CalEnds s (s.mainFault flag cls outcome elem detail subst) where
  tables := State.mainFault_tables ..
  phase := by rw [State.mainFault_cal]
  fail := by rw [State.mainFault_cal]
  reg q hq := State.reg_mainFault_ne _ _ _ _ _ _ _ (by rintro h; fin_cases hq <;> revert h <;> decide)
    (by rintro rfl; exact absurd hq (by decide))
  irq b hb h := State.mainFault_keeps_irq _ _ _ _ _ _ _ hb h

theorem readErr (m : MemId) (a : Nat) : CalEnds s (s.readErr m a).2 := by
  unfold State.readErr
  split
  · exact refl s
  · split
    · exact refl s
    · split
      · exact (other (t := s) (u := s.markFound m a) rfl rfl rfl rfl).trans (satFld (r := Reg.FAULT_CNT) (by decide) 8 8)
      · exact mainFault ..

theorem autoSave : CalEnds s s.autoSave := by
  unfold State.autoSave
  split
  · split <;> exact other rfl rfl rfl rfl
  · exact refl s

theorem takeReserve (g pin : Nat) : CalEnds s (s.takeReserve g pin) := by
  unfold State.takeReserve
  dsimp only
  split <;> exact other rfl rfl rfl rfl

theorem substFrame : CalEnds s s.substFrame := by
  unfold State.substFrame
  refine trans (t := { s with fmon := { s.fmon with toSub := [] } }) (other rfl rfl rfl rfl) (foldl (fun u n => ?_) _ _)
  refine ite ?_ ?_
  · exact (setFlag (by decide) _ _).trans (satFld (by decide) _ _)
  · exact ((takeReserve _ _).trans (satFld (by decide) _ _)).trans (other rfl rfl rfl rfl)

theorem pumpFrame (old : Snap) : CalEnds s (s.pumpFrame old) := by
  have hf : CalEnds s (s.setFlag Reg.LANE_STAT 15 false) := setFlag (by decide) _ _
  unfold State.pumpFrame
  exact ite (hf.trans (other rfl rfl rfl rfl)) (ite (ite (refl s) hf) (hf.trans (other rfl rfl rfl rfl)))

theorem syncFrame (was : Bool) : CalEnds s (s.syncFrame was) := by
  have hs : Reg.SYNC_STAT ∉ [Reg.CAL_CMD, Reg.CAL_COUNT, Reg.INT_STAT] := by decide
  unfold State.syncFrame
  refine ite ?_ (ite ?_ (refl s))
  · exact ((setFlag hs _ _).trans (setFlag hs _ _)).trans (setFld hs _ _ _)
  · exact ((ite ((incFld hs 0 8).trans (raise _)) (refl s)).trans (setFlag hs _ _)).trans (setFlag hs _ _)

theorem showApplied : CalEnds s s.showApplied :=
  (setFld (by decide) _ _ _).trans (setFld (by decide) _ _ _)

theorem trkFrame : CalEnds s s.trkFrame := by
  unfold State.trkFrame
  exact ite ((setFlag (by decide) _ _).trans (other rfl rfl rfl rfl)) (refl s)

theorem frameApplied (old : Snap) (was : Bool) : CalEnds s (s.frameApplied old was) := by
  have hh (v : State) : CalEnds v v.hopFrame := other rfl rfl rfl rfl
  have hn : CalEnds s { s with snap := s.snapNow } := other rfl rfl rfl rfl
  unfold State.frameApplied
  exact ((((hn.trans (pumpFrame old)).trans (syncFrame was)).trans (hh _)).trans showApplied).trans trkFrame

theorem readTables : CalEnds s s.readTables := by
  refine foldl (fun u e => ?_) _ _
  exact (readErr (s := u) e.mem e.addr).trans (other rfl rfl rfl rfl)

theorem oweFrame : CalEnds s s.oweFrame := by
  rw [State.oweFrame_frame]
  exact other rfl rfl rfl rfl

/-- A frame starts with no round to apply. -/
theorem frameStart (h : s.cal.round = none) : CalEnds s s.frameStart := by
  have hr : s.roundApply = s := by
    unfold State.roundApply
    rw [h]
  have hb (u : State) (p : Nat) : CalEnds u (u.frameBegun p) := other rfl rfl rfl rfl
  have hn (u : State) : CalEnds u { u with snap := u.snapNow } := other rfl rfl rfl rfl
  rw [State.frameStart_eq, hr]
  exact ((((substFrame.trans (hb _ _)).trans (frameApplied _ _)).trans (hn _)).trans readTables).trans oweFrame

theorem settle (s t : State) : CalEnds t (s.settle t) := by
  rw [State.settle_frame]
  exact other rfl rfl rfl rfl

end CalEnds
/-- A lane of a round is judged: its factors are held, or it is among the failed. -/
def Round.HasJudged (r : Round) (n : Nat) : Prop := n ∈ r.failed ∨ ∃ f ∈ r.held, f.1 = n

namespace State

variable {s : State}

/-! ### The end of a self-calibration -/

/-- The count of calibrations goes on. -/
def calCounted (s : State) : State := s.setReg Reg.CAL_COUNT (s.reg Reg.CAL_COUNT + 1)

theorem calStamped_ends : CalEnds s.calCounted s.calStamped :=
  (((CalEnds.setReg (by decide) _).trans (CalEnds.setReg (by decide) _)).trans
    (CalEnds.setFld (r := Reg.CAL_TEMP_DELTA) (by decide) 8 8 _)).trans (CalEnds.other rfl rfl rfl rfl)

theorem calFinish_ends (failed : Bool) : CalEnds s.calCounted (s.calFinish failed) := by
  rw [calFinish_eq]
  have hv : CalEnds s.calCounted
      ((if failed then s.calStamped.setFlag Reg.CAL_STAT 12 true else s.calStamped).raise Irq.CAL) :=
    (calStamped_ends.trans (.ite (CalEnds.setFlag (by decide) 12 true) (.refl _))).trans (CalEnds.raise _)
  exact .ite hv (hv.trans CalEnds.autoSave)

theorem calFinish_irq (failed : Bool) : (s.calFinish failed).flag Reg.INT_STAT Irq.CAL = true := by
  rw [calFinish_eq]
  have hc : Irq.CAL < 16 := by decide
  cases failed with
  | true => exact flag_raise_same _ hc
  | false => exact CalEnds.autoSave.irq _ hc (flag_raise_same _ hc)

theorem calFinish_round (failed : Bool) : (s.calFinish failed).cal.round = s.cal.round := by
  have ha (u : State) : u.autoSave.cal = u.cal := by
    unfold autoSave
    split
    · split <;> rfl
    · rfl
  rw [calFinish_eq]
  cases failed with
  | true => rfl
  | false =>
    change (State.autoSave _).cal.round = _
    rw [ha]
    rfl

/-- A run that has been judged is over; its deferred frame is not yet started. -/
def calOver (s : State) (failed : Bool) : State :=
  let t := (s.calFinish failed).setFlag Reg.CAL_CMD 15 false
  { t with cal := { t.cal with phase := .idle, frame := false }, seq := { t.seq with analog := true } }

theorem calOver_spec (failed : Bool) : (s.calOver failed).cal.phase = .idle ∧
    (s.calOver failed).flag Reg.CAL_CMD 15 = false ∧ (s.calOver failed).reg Reg.CAL_COUNT = s.reg Reg.CAL_COUNT + 1 ∧
    (s.calOver failed).flag Reg.INT_STAT Irq.CAL = true ∧ (s.calOver failed).tables = s.tables ∧
    (s.calOver failed).cal.fail = s.cal.fail ∧ (s.calOver failed).cal.round = s.cal.round ∧
    (s.calOver failed).pwr = s.pwr := by
  have hf := calFinish_ends (s := s) failed
  have hr := hf.reg Reg.CAL_COUNT (by decide)
  have hi := calFinish_irq (s := s) failed
  have hround := calFinish_round (s := s) failed
  have hp := ((FrameKeeps.refl s).calFinish failed).pwr
  have hc : s.calCounted.reg Reg.CAL_COUNT = s.reg Reg.CAL_COUNT + 1 := reg_setReg_same _ _ _
  have ht := hf.tables
  have hl := hf.fail
  unfold calOver
  generalize s.calFinish failed = u at *
  refine ⟨rfl, flag_setFlag_same _ _ _ _ (by decide), ?_, ?_, ht, hl, hround, hp⟩
  · exact (reg_setFlag_ne _ _ _ (by decide)).trans (hr.trans hc)
  · exact (flag_setFlag_ne _ _ _ _ (by decide)).trans hi

theorem settle_boot (s t : State) : (s.settle t).pwr.boot = t.pwr.boot := by
  have hq (u : State) : u.quiesceCheck.pwr.boot = u.pwr.boot := by
    unfold quiesceCheck
    split
    · split <;> rfl
    · rfl
  unfold settle dueIfStopped
  split
  · rfl
  · split
    · exact (hq _).trans rfl
    · rfl

theorem calEnd_ends (m : List Meas) (hb : s.pwr.boot = .done) (hr : s.cal.round = none) :
    CalEnds ((judged m (false, s) (List.range 164)).2.calOver (judged m (false, s) (List.range 164)).1) (s.calEnd m) := by
  have hj := judged_judging m (false, s) (List.range 164)
  unfold calEnd
  extract_lets r u defer q c v w
  have hrj : judged m (false, s) (List.range 164) = r := rfl
  have hv : r.2.calOver r.1 = v := rfl
  have hw : s.settle v = w := rfl
  rw [hrj] at hj ⊢
  obtain ⟨-, -, -, -, -, -, hround, hpwr⟩ := calOver_spec (s := r.2) r.1
  rw [hv] at hround hpwr ⊢
  clear_value w v defer r
  have hrnd : w.cal.round = none := by
    rw [← hw, settle_cal, hround, hj.cal]
    exact hr
  have hboot : w.pwr.boot = .done := by
    rw [← hw, settle_boot, hpwr, hj.pwr]
    exact hb
  have hs : CalEnds v w := hw ▸ CalEnds.settle s v
  rw [if_neg (by rw [hboot]; decide)]
  exact .ite (hs.trans (CalEnds.frameStart hrnd)) hs

theorem calEnd_spec (m : List Meas) (n : LaneId) (hb : s.pwr.boot = .done) (hr : s.cal.round = none)
    (hw : Memory.wf tabDefault s.tables = true) (hd : 0 < gainDen (nth s.cal.offs n.val 0) (nth m n.val ⟨0, 1⟩)) :
    (s.calEnd m).cal.phase = .idle ∧ (s.calEnd m).flag Reg.CAL_CMD 15 = false ∧
    (s.calEnd m).reg Reg.CAL_COUNT = s.reg Reg.CAL_COUNT + 1 ∧ (s.calEnd m).flag Reg.INT_STAT Irq.CAL = true ∧
    LaneJudged s (s.calEnd m) n.val (nth s.cal.offs n.val 0)
      (gainOf s.snap.cdiv (nth s.cal.offs n.val 0) (nth m n.val ⟨0, 1⟩)) := by
  have he := calEnd_ends m hb hr
  have hj := judged_judging m (false, s) (List.range 164)
  have hl := judged_all m false n.isLt hw hd
  obtain ⟨hph, hself, hcnt, hirq, htab, hfail, -, -⟩ := calOver_spec (s := (judged m (false, s) (List.range 164)).2)
    (judged m (false, s) (List.range 164)).1
  generalize judged m (false, s) (List.range 164) = r at *
  generalize s.calEnd m = t at *
  have htabs (a : Nat) : t.tab Win.CALF a = r.2.tab Win.CALF a :=
    congrArg (fun k => tabRead k Win.CALF a) (he.tables.trans htab)
  refine ⟨he.phase.trans hph, ?_, (he.reg _ (by decide)).trans (hcnt.trans ?_), he.irq _ (by decide) hirq,
    hl.congr ⟨rfl, rfl, rfl⟩ ⟨htabs _, htabs _, ?_⟩⟩
  · rw [flag, he.reg _ (by decide)]
    exact hself
  · rw [hj.count]
  · rw [he.fail, hfail]

/-! ### The lanes of a background round -/

/-- One lane of a round is judged. -/
def holdStep (r : Round) (off gain : List Meas) (acc : Round × State) (i : Nat) : Round × State :=
  let f := acc.2.calFactors (measOffset (nth off i ⟨0, 1⟩)) (nth gain i ⟨0, 1⟩)
  match f.1 with
  | some w => ({ acc.1 with held := acc.1.held ++ [(nth r.meas i 0, w.1, w.2)] }, f.2)
  | none => ({ acc.1 with failed := acc.1.failed ++ [nth r.meas i 0] }, f.2)

theorem holdStep_spec (r : Round) (off gain : List Meas) (acc : Round × State) (i : Nat) :
    (holdStep r off gain acc i).1.group = acc.1.group ∧ (∃ c, (holdStep r off gain acc i).2 = { acc.2 with freeCtr := c }) ∧
    (holdStep r off gain acc i).1.HasJudged (nth r.meas i 0) ∧
    ∀ n, acc.1.HasJudged n → (holdStep r off gain acc i).1.HasJudged n := by
  unfold holdStep
  dsimp only
  split
  · refine ⟨rfl, calFactors_frame _ _, .inr ⟨_, List.mem_append_right _ (List.mem_singleton.2 rfl), rfl⟩, fun n hn => ?_⟩
    exact hn.imp_right fun ⟨f, hf, he⟩ => ⟨f, List.mem_append_left _ hf, he⟩
  · refine ⟨rfl, calFactors_frame _ _, .inl (List.mem_append_right _ (List.mem_singleton.2 rfl)), fun n hn => ?_⟩
    exact hn.imp_left fun h => List.mem_append_left _ h

theorem holdSteps_spec (r : Round) (off gain : List Meas) (l : List Nat) (acc : Round × State) :
    (l.foldl (holdStep r off gain) acc).1.group = acc.1.group ∧
    (∃ c, (l.foldl (holdStep r off gain) acc).2 = { acc.2 with freeCtr := c }) ∧
    (∀ i ∈ l, (l.foldl (holdStep r off gain) acc).1.HasJudged (nth r.meas i 0)) ∧
    ∀ n, acc.1.HasJudged n → (l.foldl (holdStep r off gain) acc).1.HasJudged n := by
  induction l generalizing acc with
  | nil => exact ⟨rfl, ⟨_, rfl⟩, fun i hi => absurd hi List.not_mem_nil, fun _ => id⟩
  | cons k l ih =>
    obtain ⟨hg, ⟨c, hc⟩, hk, hkeep⟩ := holdStep_spec r off gain acc k
    obtain ⟨ig, ⟨d, hd⟩, il, ikeep⟩ := ih (holdStep r off gain acc k)
    refine ⟨ig.trans hg, ⟨d, hd.trans ?_⟩, fun i hi => ?_, fun n hn => ikeep n (hkeep n hn)⟩
    · rw [hc]
    · obtain rfl | hi := List.mem_cons.1 hi
      · exact ikeep _ hk
      · exact il i hi

theorem roundHold_spec (r : Round) (off gain : List Meas) : ∃ r' c, s.roundHold r off gain =
    { s with cal := { s.cal with round := some r' }, freeCtr := c } ∧ r'.ready = true ∧ r'.group = r.group ∧
    ∀ n ∈ r.meas, r'.HasJudged n := by
  obtain ⟨hg, ⟨c, hc⟩, hl, -⟩ := holdSteps_spec r off gain (List.range r.meas.length) (r, s)
  have hx : s.roundHold r off gain = (let res := (List.range r.meas.length).foldl (holdStep r off gain) (r, s)
      { res.2 with cal := { res.2.cal with round := some { res.1 with ready := true } } }) := rfl
  generalize (List.range r.meas.length).foldl (holdStep r off gain) (r, s) = res at hg hc hl hx
  refine ⟨{ res.1 with ready := true }, c, ?_, rfl, hg, fun n hn => ?_⟩
  · rw [hx]
    dsimp only
    rw [hc]
  · obtain ⟨i, hi, rfl⟩ := List.mem_iff_getElem.1 hn
    have h := hl i (List.mem_range.2 hi)
    rw [nth, List.getD_eq_getElem _ _ hi] at h
    exact h

end State
open State in
/-- Settles O53: the lanes are judged one after another, each by its own measurements, and what follows keeps their
factors. -/
theorem calibration : Obligations.Calibration := by
  refine ⟨fun s m n hm => ⟨fun hs => ?_, fun hd hb hr hw => ?_, fun hp => ?_, fun hp hwf hb hr => ?_⟩,
    fun s r off gain hm => ⟨fun hb h14 hbg hd => ?_, fun hr h₁ h₂ h₃ h₄ => ?_⟩⟩
  · have hx : s.calSelf = { s.setFlag Reg.CAL_CMD 15 true with cal := { s.cal with due := true, waits := s.seq.run } } :=
      if_neg (by simp [hs])
    refine completes_of_guard (i := .calSelf) (t := s.calSelf) (e := s) rfl hm ?_
    rw [hx]
    exact ⟨flag_setFlag_same _ _ _ _ (by decide), rfl, rfl, rfl⟩
  · refine completes_of_guard (i := .selfCalStart) (t := s.calStart) (e := s) rfl ?_ ⟨rfl, rfl, rfl, rfl, rfl⟩
    simp [calMayStart, hm, hd, hb, hr, hw]
  · refine completes_of_guard (i := .selfCalGainPhase m) (e := s)
      (t := { s with cal := { s.cal with phase := .gain, offs := (List.range 164).map fun n => measOffset (nth m n ⟨0, 1⟩) } })
      rfl (by simp [hm, hp]) ⟨rfl, rfl, ?_⟩
    exact nth_map_range _ _ n.isLt
  · intro x off den hden gain
    refine completes_of_guard (i := .selfCalEnd m) (t := s.calEnd m) (e := s) rfl (by simp [hm, hp]) ?_
    obtain ⟨h₁, h₂, h₃, h₄, hl⟩ := calEnd_spec m n hb hr hwf.tables hden
    have hg : gainOf s.snap.cdiv off x = gain := by
      unfold gainOf gainNum
      rw [Nat.cast_mul]
      rfl
    refine ⟨h₁, h₂, h₃, h₄, ?_⟩
    rw [← hg]
    exact hl
  · have ht : s.calTrigger = { s.setFlag Reg.CAL_STAT 14 true with cal := { s.cal with dueRnd := true } } :=
      if_neg (by simp [hb, h14, hbg])
    have hx : s.calRecal = s.calTrigger.setFlag Reg.CAL_CMD 14 true := by
      unfold calRecal
      rw [ht]
      exact if_pos (by simp [hd])
    refine completes_of_guard (i := .calRecal) (t := s.calRecal) (e := s) rfl hm ?_
    rw [hx, ht]
    refine ⟨rfl, ?_, flag_setFlag_same _ _ _ _ (by decide), rfl⟩
    exact (flag_setFlag_ne _ _ _ _ (by decide)).trans (flag_setFlag_same _ _ _ _ (by decide))
  · have hx : exec (.laneCalDone off gain) s = .next (s.roundHold r off gain) := by
      change Host.Outcome.next (match s.cal.round with
        | some r => if s.mainUp && !r.ready && !r.lost && !r.ended && !r.meas.isEmpty then s.roundHold r off gain else s
        | none => s) = _
      rw [hr]
      exact congrArg _ (if_pos (by simp [hm, h₁, h₂, h₃, h₄]))
    refine completes_of_eq hx ?_
    obtain ⟨r', c, he, hready, hgroup, hj⟩ := roundHold_spec (s := s) r off gain
    rw [he]
    exact ⟨rfl, r', rfl, hready, hgroup, hj⟩

end Sys2Proof.Machine
end

section
/-! PROOFS. The host port's rules: bytes without faults, the transaction record, the SPI header, one word read or written
(10). -/

namespace Sys2Proof.Machine

theorem toNat_wordOfBytes_bytesOfWord (w : Word) : wordOfBytes (nth (bytesOfWord w) 0 0) (nth (bytesOfWord w) 1 0) = w := by
  refine BitVec.eq_of_toNat_eq ?_
  simp only [wordOfBytes, bytesOfWord, nth, word, List.getD_cons_zero, List.getD_cons_succ, BitVec.toNat_ofNat]
  have := w.isLt
  omega

/-- The transaction that a header begins. -/
def Txn.begun (rd : Bool) (kind addr : Nat) (crcOn : Bool) : Txn :=
  { rd := rd, kind := kind, needs := false, crcOn := crcOn, crc := 0xFF, dead := false, void := false, addr := addr,
    read := [], redone := [], queue := false }

/-- The transaction addresses MAIN with its next word, or does not. -/
def Txn.addressing (t : Txn) (m : Bool) : Txn := { t with needs := t.needs || m }

@[simp] theorem Txn.addressing_kind (t : Txn) (m : Bool) : (t.addressing m).kind = t.kind := rfl

@[simp] theorem Txn.addressing_addr (t : Txn) (m : Bool) : (t.addressing m).addr = t.addr := rfl

@[simp] theorem Txn.addressing_queue (t : Txn) (m : Bool) : (t.addressing m).queue = t.queue := rfl

namespace State

variable {s : State}

/-! ### Bytes without faults -/

theorem pinMask_of_nil (h : s.fmon.faults = []) (ps : List HostPin) : s.pinMask ps = 0 := by
  unfold pinMask
  rw [h]
  rfl

theorem heard_of_nil (h : s.fmon.faults = []) (b : Byte) : s.heard b = b := by
  rw [heard, pinMask_of_nil h]
  exact BitVec.xor_zero

theorem drives_of_nil (h : s.fmon.faults = []) (l : List Byte) :
    s.drives l = { s with port := { s.port with out := l } } := by
  have hid : (fun b : Byte => b ^^^ 0) = id := funext fun b => BitVec.xor_zero
  unfold drives
  dsimp only
  rw [pinMask_of_nil h, pinMask_of_nil h, ite_self, hid, List.map_id]

/-! ### The transaction in progress -/

/-- The state with a transaction in progress. -/
def withTxn (s : State) (t : Txn) : State := { s with port := { s.port with txn := some t } }

/-- The PORT vote is held where the transaction addresses MAIN. -/
def voted (s : State) (m : Bool) : State := if m then { s with port := { s.port with vote := true } } else s

theorem txnOpen_eq (rd : Bool) (kind addr : Nat) (crcOn : Bool) :
    s.txnOpen rd kind addr crcOn false = s.withTxn (.begun rd kind addr crcOn) := rfl

@[simp] theorem withTxn_withTxn (t u : Txn) : (s.withTxn t).withTxn u = s.withTxn u := rfl

@[simp] theorem onTxn_withTxn (t : Txn) (f : Txn → Txn) : (s.withTxn t).onTxn f = s.withTxn (f t) := rfl

theorem voted_frame (m : Bool) : s.voted m = { s with port := { s.port with vote := (s.voted m).port.vote } } := by
  cases m <;> rfl

@[simp] theorem voted_withTxn (t : Txn) (m : Bool) : (s.withTxn t).voted m = (s.voted m).withTxn t := by
  cases m <;> rfl

@[simp] theorem voted_queueSync (m : Bool) : (s.voted m).queueSync = s.queueSync.voted m := by
  cases m <;> rfl

@[simp] theorem queueSync_withTxn (t : Txn) : (s.withTxn t).queueSync = s.queueSync.withTxn t := rfl

@[simp] theorem queueSync_queueSync : s.queueSync.queueSync = s.queueSync := rfl

theorem txnSelect_of_kind_ne {t : Txn} (h : t.kind ≠ 1) : (s.withTxn t).txnSelect = s.withTxn t := by
  unfold txnSelect
  exact if_neg (by simp [h])

theorem touchMain_of_mainUp (hm : s.mainUp = true) (t : Txn) :
    (s.withTxn t).touchMain = (s.voted true).withTxn { t with needs := true } := if_pos hm

/-- What addressing a register, which answers, does. -/
theorem touched_of_answers {m : Bool} (h : m = true → s.mainUp = true) (t : Txn) :
    (if m then (s.withTxn t).touchMain else s.withTxn t) = (s.voted m).withTxn (t.addressing m) := by
  unfold Txn.addressing
  cases m with
  | true => exact (touchMain_of_mainUp (h rfl) t).trans (by rw [Bool.or_true])
  | false => rw [Bool.or_false]; rfl

/-! ### What the port's own state does not change -/

theorem viewReg_port_of_ne (r : RegId) (p : Port) (h : r ≠ Reg.PWR_VOTE) :
    ({ s with port := p } : State).viewReg r = s.viewReg r := by
  have hne : r.val ≠ 6 := fun hv => h (Fin.ext hv)
  obtain ⟨a, ha⟩ := r
  obtain hl | hg := Nat.lt_or_gt_of_ne hne
  · change a < 6 at hl
    interval_cases a <;> rfl
  · change 6 < a at hg
    interval_cases a <;> rfl

theorem voteWord_port (p : Port) (h : p.vote = s.port.vote) : ({ s with port := p } : State).voteWord = s.voteWord := by
  have hp : s.port = { s.port with vote := p.vote } := by rw [h]
  have hs : s = { s with port := { s.port with vote := p.vote } } := by rw [← hp]
  conv_rhs => rw [hs]
  rfl

theorem viewReg_port_of_vote (r : RegId) (p : Port) (h : p.vote = s.port.vote) :
    ({ s with port := p } : State).viewReg r = s.viewReg r := by
  by_cases hr : r = Reg.PWR_VOTE
  · subst hr
    change (s.reg Reg.PWR_VOTE &&& ~~~(word 0xFFFF) ||| word ({ s with port := p } : State).voteWord.toNat &&& word 0xFFFF : Word)
      = _
    rw [voteWord_port p h]
    rfl
  · exact viewReg_port_of_ne r p hr

theorem viewReg_voted (r : RegId) (m : Bool) (h : m = true → r ≠ Reg.PWR_VOTE) : (s.voted m).viewReg r = s.viewReg r := by
  cases m with
  | false => rfl
  | true => exact viewReg_port_of_ne r _ (h rfl)

theorem viewReg_withTxn (r : RegId) (t : Txn) : (s.withTxn t).viewReg r = s.viewReg r := viewReg_port_of_vote r _ rfl

/-! ### The command byte of an SPI header -/

/-- The command byte of a header (Table 10.3). -/
def cmdByte (rd : Bool) (kind : Nat) (crc : Bool) : Byte := BitVec.ofNat 8 (bitAt 7 rd + kind * 32 + bitAt 4 crc + (0 : BitVec 4).toNat)

theorem cmdByte_fields (rd : Bool) {kind : Nat} (crc : Bool) (h : kind < 4) : (cmdByte rd kind crc).getLsbD 7 = rd ∧
    (cmdByte rd kind crc).toNat / 32 % 4 = kind ∧ (cmdByte rd kind crc).getLsbD 4 = crc ∧
    (cmdByte rd kind crc).toNat % 16 = 0 := by
  revert rd crc
  interval_cases kind <;> decide

/-- The port between transactions, as a command finds it. -/
def PortFree (s : State) : Prop := s.port.txn = none ∧ s.fmon.faults = [] ∧ s.port.rstDue = false

theorem txnEnd_of_free (h : s.PortFree) : s.txnEnd = s := by
  obtain ⟨ht, -, hr⟩ := h
  have ho : s.txnOver = s := if_neg (by simp [ht])
  unfold txnEnd
  rw [ho]
  exact if_neg (by simp [hr])

/-- A header whose CRC, if it has one, checks, and whose command Table 10.3 allows, is accepted. -/
theorem spiStart_accepted (h : s.PortFree) (rd : Bool) {kind : Nat} (hk : kind < 4) (a : Byte) (crc : Option Byte)
    (ws : List WireWord) (n : Nat) (hc : s.port.ctl.getLsbD 14 = false) (hb : badCommand rd kind 0 a = false)
    (hx : crc.isSome = true → crc.getD 0 = crc8 [cmdByte rd kind true, a]) :
    s.spiStart rd kind ⟨0, a, crc⟩ ws n =
      (s.withTxn (.begun rd kind (firstAddr kind a) crc.isSome)).spiGo rd kind a crc.isSome ws n := by
  obtain ⟨h7, hkind, h4, h0⟩ := cmdByte_fields rd crc.isSome hk
  have hn (T : Txn) : (s.withTxn T).fmon.faults = [] := h.2.1
  have hcmd : BitVec.ofNat 8 (bitAt 7 rd + kind * 32 + bitAt 4 crc.isSome + (0 : BitVec 4).toNat) = cmdByte rd kind crc.isSome := rfl
  have hcrc : (crc.isSome && crc.getD 0 != crc8 [cmdByte rd kind crc.isSome, a]) = false := by
    cases hi : crc.isSome with
    | false => rfl
    | true => rw [hx hi, Bool.true_and, bne_self_eq_false]
  have hctl : (s.withTxn (.begun rd kind (firstAddr kind a) crc.isSome)).port.ctl.getLsbD 14 = false := hc
  unfold spiStart
  rw [txnEnd_of_free h]
  dsimp only
  simp only [heard_of_nil h.2.1, hcmd, h7, hkind, h4, h0, txnOpen_eq, heard_of_nil (hn _), hcrc, hb, hctl, Bool.false_or,
    Bool.false_and, Bool.false_eq_true, if_false]

/-- The port as a command finds it once the header has begun to be clocked. -/
theorem clocked_frame : s.clocked = { s with
    port := { s.port with out := [], nack := false }, queue := { s.queue with seen := s.queue.items.length } } := rfl

theorem spiIdle_iff : s.spiIdle ↔ s.aonUp = true ∧ s.aon.hsel = false ∧ s.port.ctl.getLsbD 14 = false ∧ s.PortFree := by
  unfold spiIdle PortFree
  tauto

/-- A transaction with an accepted header. -/
theorem spiRow_accepted (h : s.spiIdle) (rd : Bool) {kind : Nat} (hk : kind < 4) (a : Byte) (crc : Option Byte)
    (ws : List WireWord) (n : Nat) (hb : badCommand rd kind 0 a = false)
    (hx : crc.isSome = true → crc.getD 0 = crc8 [cmdByte rd kind true, a]) :
    s.spiRow rd kind (some ⟨0, a, crc⟩) ws n =
      (s.clocked.withTxn (.begun rd kind (firstAddr kind a) crc.isSome)).spiGo rd kind a crc.isSome ws n := by
  obtain ⟨hup, hsel, hctl, hfree⟩ := spiIdle_iff.1 h
  refine (if_pos (by simp [hup, hsel])).trans ?_
  exact spiStart_accepted (s := s.clocked) hfree rd hk a crc ws n hctl hb hx

/-! ### Words read -/

theorem status_same (resp : Nat) : s.status s resp = (s.statusByte resp, s) := by
  unfold status statusByte
  rw [if_pos rfl]
  dsimp only
  rw [if_pos rfl]
  refine Prod.ext (congrArg (BitVec.ofNat 8) ?_) rfl
  simp only [bitAt]
  omega

theorem spiRead_zero : State.spiRead 0 s = ([], s) := rfl

/-- The next word of a read, which MAIN answers where it is needed. -/
theorem spiRead_succ (n : Nat) (t : Txn) (hd : t.dead = false) (hm : t.needsMain = true → s.mainUp = true) :
    State.spiRead (n + 1) (s.withTxn t) =
      let r := (s.withTxn t).capture t
      let o := r.2.wordOut t r.1
      (o.1 ++ (State.spiRead n o.2).1, (State.spiRead n o.2).2) := by
  have hc : (s.withTxn t).spiCapture t = (s.withTxn t).capture t := by
    refine if_neg fun h => ?_
    obtain ⟨h₁, h₂⟩ := Bool.and_eq_true_iff.1 h
    rw [show (s.withTxn t).mainUp = true from hm h₁] at h₂
    exact absurd h₂ (by decide)
  have hx : State.spiRead (n + 1) (s.withTxn t) = (let h : List Byte × State :=
        if t.dead then (List.replicate (if t.crcOn then 3 else 2) 0xFF, s.withTxn t)
        else ((s.withTxn t).spiCapture t).2.wordOut t ((s.withTxn t).spiCapture t).1
      (h.1 ++ (State.spiRead n h.2).1, (State.spiRead n h.2).2)) := rfl
  rw [hx, hd, hc]
  rfl

theorem spiRead_one (t : Txn) (hd : t.dead = false) (hm : t.needsMain = true → s.mainUp = true) :
    State.spiRead 1 (s.withTxn t) = (((s.withTxn t).capture t).2.wordOut t ((s.withTxn t).capture t).1) := by
  refine (spiRead_succ 0 t hd hm).trans ?_
  simp only [spiRead_zero, List.append_nil]

theorem wordOut_withTxn (t u : Txn) (w : Word) : (s.withTxn u).wordOut t w =
    (if t.crcOn then bytesOfWord w ++ [crc8From t.crc (bytesOfWord w)] else bytesOfWord w,
      s.withTxn { u with crc := crc8From t.crc (bytesOfWord w) }) := rfl

/-- The word of a register whose read has no effect of its own. -/
theorem capture_register {r : RegId} {t : Txn} (hp : plainRead r) (hk : t.kind = 0) (ha : t.addr = r.val)
    (hm : s.answers r.val = true) : ∃ q, (s.withTxn t).capture t = (s.viewReg r,
      ((s.voted (needsMain r.val)).queueSync).withTxn { t.addressing (needsMain r.val) with
        addr := (r.val + 1) % 128, queue := q }) := by
  have hn : t.needsMain = needsMain r.val := by
    unfold Txn.needsMain
    rw [hk, ← ha]
    rfl
  have hup : needsMain r.val = true → s.mainUp = true := fun h => by
    rw [answers, h] at hm
    exact hm
  have hr : needsMain r.val = true → r ≠ Reg.PWR_VOTE := by
    rintro h rfl
    exact absurd h (by decide)
  unfold capture
  rw [hn, touched_of_answers hup, txnSelect_of_kind_ne (by simp [hk])]
  have hw : ((s.voted (needsMain r.val)).withTxn (t.addressing (needsMain r.val))).portWord t =
      (s.viewReg r, (s.voted (needsMain r.val)).withTxn (t.addressing (needsMain r.val))) := by
    unfold portWord
    rw [hk, ha]
    refine (readReg_of_plain _ hp).trans ?_
    rw [viewReg_withTxn, viewReg_voted r _ hr]
  dsimp only
  rw [hw]
  refine ⟨t.queue || (t.kind = 2) || (t.kind = 0 && t.addr = 0x36), ?_⟩
  simp only [queueSync_withTxn, onTxn_withTxn, Txn.nextAddr, Txn.addressing_kind, Txn.addressing_addr,
    Txn.addressing_queue, hk, ha]

/-! ### Words written -/

/-- A register whose write does nothing but change its fields. -/
theorem commitReg_of_plain {r : RegId} (h : plainWritten r) (v : Word) : s.commitReg r.val v = s.plainWrite r v := by
  simp only [plainWritten, List.mem_cons, not_or] at h
  unfold commitReg
  split <;> simp_all

theorem spiWrite_one (t : Txn) (w : WireWord) (hd : t.dead = false) (hr : t.rd = false) (hk : t.kind ≠ 3) :
    (s.withTxn t).spiWrite [w] = (s.withTxn t).takeWire t w State.spiCommit := by
  change (if t.dead || t.rd || t.kind = 3 then s.withTxn t else (s.withTxn t).takeWire t w State.spiCommit) = _
  exact if_neg (by simp [hd, hr, hk])

/-- A word that arrives without CRC. -/
theorem takeWire_noCrc {t : Txn} {v : Word} {f : State → Txn → Word → State} (hf : s.fmon.faults = []) (hk : t.kind ≠ 1)
    (hc : t.crcOn = false) : (s.withTxn t).takeWire t ⟨v, none⟩ f =
      f (s.withTxn { t with crc := crc8From t.crc (bytesOfWord v) }) t v := by
  have hid : (s.withTxn t).heard = id := funext fun b => heard_of_nil (s := s.withTxn t) hf b
  unfold takeWire
  rw [txnSelect_of_kind_ne hk]
  dsimp only
  rw [hid, List.map_id, toNat_wordOfBytes_bytesOfWord]
  exact if_neg (by simp [hc])

/-- A word that arrives with its CRC byte. -/
theorem takeWire_crc {t : Txn} {v : Word} {k : Byte} {f : State → Txn → Word → State} (hf : s.fmon.faults = [])
    (hk : t.kind ≠ 1) (hc : t.crcOn = true) : (s.withTxn t).takeWire t ⟨v, some k⟩ f =
      let u := s.withTxn { t with crc := crc8From t.crc (bytesOfWord v) }
      if k = crc8From t.crc (bytesOfWord v) then f u t v else u.crcErr.nacks.txnDies := by
  have hid (T : Txn) : (s.withTxn T).heard = id := funext fun b => heard_of_nil (s := s.withTxn T) hf b
  unfold takeWire
  rw [txnSelect_of_kind_ne hk]
  dsimp only
  rw [hid, List.map_id, toNat_wordOfBytes_bytesOfWord, onTxn_withTxn, hid]
  exact if_pos hc

theorem spiCommit_of_up {t : Txn} {v : Word} (hm : t.needsMain = true → s.mainUp = true) :
    s.spiCommit t v = s.commitWord t v := by
  refine if_neg fun h => ?_
  obtain ⟨h₁, h₂⟩ := Bool.and_eq_true_iff.1 h
  rw [hm h₁] at h₂
  exact absurd h₂ (by decide)

/-- The register class of an access: which words need MAIN (R325). -/
theorem needsMain_register {r : RegId} {t : Txn} (hk : t.kind = 0) (ha : t.addr = r.val) :
    t.needsMain = needsMain r.val := by
  unfold Txn.needsMain
  rw [hk, ← ha]
  rfl

theorem mainUp_of_answers {r : RegId} (h : s.answers r.val = true) (hn : needsMain r.val = true) : s.mainUp = true := by
  rw [answers, hn] at h
  exact h

theorem plainWrite_withTxn (r : RegId) (v : Word) (t : Txn) : (s.withTxn t).plainWrite r v = (s.plainWrite r v).withTxn t := rfl

/-- The commit of a word to a register whose write changes nothing but its fields. -/
theorem commitWord_register {r : RegId} {t u : Txn} (hp : plainWritten r) (hk : t.kind = 0) (ha : t.addr = r.val)
    (hu : u.kind = 0) (hua : u.addr = r.val) (hm : s.answers r.val = true) (v : Word) : (s.withTxn u).commitWord t v =
      (((s.voted (needsMain r.val)).plainWrite r v).queueSync).withTxn { u.addressing (needsMain r.val) with
        addr := (r.val + 1) % 128 } := by
  unfold commitWord
  rw [needsMain_register hk ha, touched_of_answers (mainUp_of_answers hm), hk, ha]
  dsimp only
  rw [commitReg_of_plain hp, plainWrite_withTxn]
  simp only [Txn.nextAddr, Txn.addressing_kind, Txn.addressing_addr, hu, hua, queueSync_withTxn, onTxn_withTxn]

theorem writtenWord_eq (r : RegId) (v : Word) : (s.plainWrite r v).reg r = writtenWord r (s.reg r) v := reg_setReg_same _ _ _

theorem reg_plainWrite_ne (v : Word) {r q : RegId} (h : q ≠ r) : (s.plainWrite r v).reg q = s.reg q := reg_setReg_ne _ _ h

end State
end Sys2Proof.Machine
end

section
/-! PROOFS. SPI transactions that read or write one register (R306 to R309, R317 to R319). -/

namespace Sys2Proof.Machine

theorem firstAddr_register (r : RegId) : firstAddr 0 (BitVec.ofNat 8 r.val) = r.val := by
  have := r.isLt
  simp only [firstAddr, BitVec.toNat_ofNat]
  omega

theorem firstNeedsMain_register (rd : Bool) (r : RegId) :
    firstNeedsMain rd 0 (BitVec.ofNat 8 r.val) = needsMain r.val := congrArg needsMain (firstAddr_register r)

theorem badCommand_register (rd : Bool) (a : Byte) : badCommand rd 0 0 a = false := by
  cases rd <;> rfl

namespace State

variable {s : State}

theorem voted_answers (m : Bool) (a : Nat) : (s.voted m).answers a = s.answers a := by
  cases m <;> rfl

theorem voted_statusByte (m : Bool) (t : Txn) (k : Nat) : ((s.voted m).withTxn t).statusByte k = s.statusByte k := by
  cases m <;> rfl

theorem voted_faults (m : Bool) : (s.voted m).fmon.faults = s.fmon.faults := by
  cases m <;> rfl

/-- The header of a register access that the register answers. -/
theorem spiGo_register (rd : Bool) {r : RegId} (t : Txn) (ht : t.kind = 0) (hm : s.answers r.val = true) (crcOn : Bool)
    (ws : List WireWord) (n : Nat) : (s.withTxn t).spiGo rd 0 (BitVec.ofNat 8 r.val) crcOn ws n =
      let u := (s.voted (needsMain r.val)).withTxn (t.addressing (needsMain r.val))
      if rd then u.spiServe crcOn n
      else (u.spiWrite ws).drives (List.replicate ((if crcOn then 3 else 2) + n * (if crcOn then 3 else 2)) 0) := by
  unfold spiGo
  rw [firstNeedsMain_register]
  dsimp only
  rw [touched_of_answers (mainUp_of_answers hm), txnSelect_of_kind_ne (by simp [ht])]
  have hup : (needsMain r.val && !((s.voted (needsMain r.val)).withTxn (t.addressing (needsMain r.val))).mainUp) = false := by
    cases hn : needsMain r.val with
    | false => rfl
    | true => exact congrArg (fun b => true && !b) (mainUp_of_answers hm hn)
  rw [hup]
  rfl

/-- A read of one register after an accepted header. -/
theorem spiServe_register {r : RegId} {t : Txn} (hp : plainRead r) (hk : t.kind = 0) (ha : t.addr = r.val)
    (hd : t.dead = false) (hc : t.crcOn = false) (hm : s.answers r.val = true) :
    ∃ u, (s.withTxn t).spiServe false 1 = ((s.voted (needsMain r.val)).queueSync.withTxn u).drives
      ([0, 0, (s.withTxn t).statusByte 4] ++ bytesOfWord (s.viewReg r)) := by
  unfold spiServe
  rw [status_same]
  dsimp only
  rw [onTxn_withTxn]
  generalize (s.withTxn t).statusByte 4 = y
  obtain ⟨q, hq⟩ := capture_register (s := s) (t := { t with crc := crc8 [y] }) hp hk ha hm
  have hn : ({ t with crc := crc8 [y] } : Txn).needsMain = true → s.mainUp = true := fun h =>
    mainUp_of_answers hm ((needsMain_register (t := { t with crc := crc8 [y] }) hk ha).symm.trans h)
  rw [spiRead_one { t with crc := crc8 [y] } hd hn, hq]
  dsimp only
  rw [wordOut_withTxn, if_neg (by simp [hc])]
  exact ⟨_, rfl⟩

theorem spiIdle_clocked (h : s.spiIdle) : s.clocked.fmon.faults = [] := (spiIdle_iff.1 h).2.2.2.2.1

theorem clocked_answers (a : Nat) : s.clocked.answers a = s.answers a := rfl

/-- A state driven by a transaction that changes only the port. -/
theorem driven_frame (m : Bool) (t : Txn) (l : List Byte) (hf : s.fmon.faults = []) :
    ((s.voted m).withTxn t).drives l = { s with port := { (s.voted m).port with txn := some t, out := l } } := by
  rw [drives_of_nil (s := (s.voted m).withTxn t) ((voted_faults m).trans hf)]
  cases m <;> rfl

theorem voted_voted (m : Bool) : (s.voted m).voted m = s.voted m := by
  cases m <;> rfl

theorem spiRead_register {r : RegId} (h : s.spiIdle) (hm : s.answers r.val = true) (hp : plainRead r) :
    ∃ p, s.spiRow true 0 (some (spiHdr r.val)) [] 1 = { s with
      port := p, queue := { s.queue with seen := s.queue.items.length } } ∧
      p.out = [0, 0, s.statusByte 4] ++ bytesOfWord (s.queueSync.viewReg r) := by
  have hf := spiIdle_clocked h
  have hr : needsMain r.val = true → r ≠ Reg.PWR_VOTE := by
    rintro h rfl
    exact absurd h (by decide)
  have hv : (s.clocked.voted (needsMain r.val)).viewReg r = s.queueSync.viewReg r :=
    (viewReg_voted r _ hr).trans (viewReg_port_of_vote (s := s.queueSync) r s.clocked.port rfl)
  unfold spiHdr
  rw [spiRow_accepted h true (by decide) _ _ _ _ (badCommand_register _ _) (by simp), firstAddr_register,
    spiGo_register true _ rfl (by rw [clocked_answers, hm])]
  dsimp only
  rw [if_pos rfl, Option.isSome_none]
  obtain ⟨u, hu⟩ := spiServe_register (s := s.clocked.voted (needsMain r.val)) (r := r)
    (t := (Txn.begun true 0 r.val false).addressing (needsMain r.val)) hp rfl rfl rfl rfl
    (by rw [voted_answers, clocked_answers, hm])
  rw [hu, voted_voted, voted_queueSync, voted_statusByte, hv, driven_frame _ _ _ (by exact hf)]
  exact ⟨_, rfl, rfl⟩

/-! ### A register written -/

/-- What a driven command leaves of a state that a register write has changed. -/
theorem written_frame (m : Bool) (r : RegId) (v : Word) (t : Txn) (l : List Byte) (hf : s.fmon.faults = []) :
    ∃ p, (((s.voted m).plainWrite r v).queueSync.withTxn t).drives l = { s.plainWrite r v with
      port := p, queue := { s.queue with seen := s.queue.items.length } } ∧ p.out = l := by
  rw [drives_of_nil (s := ((s.voted m).plainWrite r v).queueSync.withTxn t) ((voted_faults m).trans hf)]
  cases m <;> exact ⟨_, rfl, rfl⟩

theorem spiCommit_register {r : RegId} {t u : Txn} (hp : plainWritten r) (hk : t.kind = 0) (ha : t.addr = r.val)
    (hu : u.kind = 0) (hua : u.addr = r.val) (hm : s.answers r.val = true) (v : Word) :
    (s.withTxn u).spiCommit t v = (((s.voted (needsMain r.val)).plainWrite r v).queueSync).withTxn
      { u.addressing (needsMain r.val) with addr := (r.val + 1) % 128 } := by
  refine (spiCommit_of_up fun h => ?_).trans (commitWord_register hp hk ha hu hua hm v)
  exact mainUp_of_answers hm ((needsMain_register hk ha).symm.trans h)

theorem spiWrite_register {r : RegId} (h : s.spiIdle) (hm : s.answers r.val = true) (hp : plainWritten r) (v : Word) :
    ∃ p, s.spiRow false 0 (some (spiHdr r.val)) [⟨v, none⟩] 1 = { s.plainWrite r v with
      port := p, queue := { s.queue with seen := s.queue.items.length } } ∧ p.out = [0, 0, 0, 0] := by
  have hf := spiIdle_clocked h
  unfold spiHdr
  rw [spiRow_accepted h false (by decide) _ _ _ _ (badCommand_register _ _) (by simp), firstAddr_register,
    spiGo_register false _ rfl (by rw [clocked_answers, hm])]
  dsimp only
  rw [if_neg Bool.false_ne_true, Option.isSome_none, spiWrite_one _ _ rfl rfl (by exact (by decide : (0 : Nat) ≠ 3)),
    takeWire_noCrc ((voted_faults _).trans hf) (by exact Nat.zero_ne_one) rfl,
    spiCommit_register hp rfl rfl rfl rfl (by rw [voted_answers, clocked_answers, hm]), voted_voted]
  exact written_frame (s := s.clocked) (needsMain r.val) r v _ _ hf

theorem crcErr_eq : s.crcErr = ((s.setFlag Reg.HOST_STAT HostErr.CRC_ERR true).raise Irq.HOST).satFld Reg.HOST_STAT 0 8 := by
  unfold crcErr hostErr
  exact congrArg (fun w : State => w.satFld Reg.HOST_STAT 0 8) (if_neg (by decide))

/-- A CRC error changes registers only. -/
theorem crcErr_frame : s.crcErr = { s with regs := s.crcErr.regs } := by
  rw [crcErr_eq]
  rfl

theorem crcErr_regs_of_eq {t : State} (h : t.regs = s.regs) : t.crcErr.regs = s.crcErr.regs := by
  have hx (w : State) : ((w.setFlag Reg.HOST_STAT HostErr.CRC_ERR true).raise Irq.HOST).regs =
      (({ s with regs := w.regs }.setFlag Reg.HOST_STAT HostErr.CRC_ERR true).raise Irq.HOST).regs := rfl
  have hy (w : State) : (w.satFld Reg.HOST_STAT 0 8).regs = ({ s with regs := w.regs }.satFld Reg.HOST_STAT 0 8).regs := rfl
  rw [crcErr_eq, crcErr_eq, hy, hx, h]
  rfl

/-- A word whose CRC fails: the rest of the transaction has no effect. -/
theorem crcErr_dies_frame (l : List Byte) : ∃ p, (s.crcErr.nacks.txnDies).drives l = { s with
    regs := s.crcErr.regs, port := p } := by
  have hf := crcErr_frame (s := s)
  generalize s.crcErr.regs = R at hf
  rw [hf]
  exact ⟨_, rfl⟩

/-- The state that a header leaves while the transaction's words arrive, but for registers and the port. -/
theorem clocked_voted_frame (m : Bool) (t : Txn) (g : Vector Word 80) (p : Port) :
    ({ ((s.clocked.voted m).withTxn t) with regs := g, port := p } : State) = { s with
      regs := g, port := p, queue := { s.queue with seen := s.queue.items.length } } := by
  have hv (w : State) : ({ ((w.voted m).withTxn t) with regs := g, port := p } : State) = { w with
      regs := g, port := p } := by
    rw [voted_frame]
    rfl
  rw [hv, clocked_frame]

theorem crcErr_spec : s.crcErr.flag Reg.HOST_STAT HostErr.CRC_ERR = true ∧ s.crcErr.flag Reg.INT_STAT Irq.HOST = true ∧
    s.crcErr.fld Reg.HOST_STAT 0 8 = min 255 (s.fld Reg.HOST_STAT 0 8 + 1) ∧
    ∀ q, q ≠ Reg.HOST_STAT → q ≠ Reg.INT_STAT → s.crcErr.reg q = s.reg q := by
  have hh : s.hostErr HostErr.CRC_ERR = (s.setFlag Reg.HOST_STAT HostErr.CRC_ERR true).raise Irq.HOST := by
    unfold hostErr
    exact if_neg (by decide)
  have hfld : (s.hostErr HostErr.CRC_ERR).fld Reg.HOST_STAT 0 8 = s.fld Reg.HOST_STAT 0 8 := by
    rw [hh, fld_raise_ne _ _ _ _ (by decide)]
    exact fld_setFlag_disjoint _ _ (by decide) (by decide)
  unfold crcErr
  refine ⟨?_, ?_, ?_, fun q hq hi => ?_⟩
  · rw [flag_satFld_out _ (by decide) (by decide), hh, flag_raise_ne _ _ _ (by decide)]
    exact flag_setFlag_same _ _ _ _ (by decide)
  · rw [flag_satFld_ne _ _ _ _ (by decide), hh]
    exact flag_raise_same _ (by decide)
  · rw [fld_satFld_same _ (by decide), hfld, min_comm]
    rfl
  · rw [reg_satFld_ne _ _ _ hq, hh, reg_raise_ne _ _ hi, reg_setFlag_ne _ _ _ hq]

/-- A word with its CRC byte: it commits, or the error is noted. -/
theorem spiWrite_register_crc {r : RegId} (h : s.spiIdle) (hm : s.answers r.val = true) (hp : plainWritten r) (v : Word)
    (k : Byte) : ∃ p, s.spiRow false 0 (some ⟨0, BitVec.ofNat 8 r.val, some (crc8 [0x10, BitVec.ofNat 8 r.val])⟩)
        [⟨v, some k⟩] 1 = { (if k = crc8From 0xFF (bytesOfWord v) then s.plainWrite r v else s.crcErr) with
      port := p, queue := { s.queue with seen := s.queue.items.length } } := by
  have hf := spiIdle_clocked h
  rw [spiRow_accepted h false (by decide) _ _ _ _ (badCommand_register _ _) (fun _ => rfl), firstAddr_register,
    spiGo_register false _ rfl (by rw [clocked_answers, hm])]
  dsimp only
  rw [if_neg Bool.false_ne_true, spiWrite_one _ _ rfl rfl (by exact (by decide : (0 : Nat) ≠ 3)),
    takeWire_crc ((voted_faults _).trans hf) (by exact Nat.zero_ne_one) rfl]
  dsimp only
  by_cases hk : k = crc8From 0xFF (bytesOfWord v)
  · rw [if_pos hk, if_pos (by exact hk), spiCommit_register hp rfl rfl rfl rfl (by rw [voted_answers, clocked_answers, hm]),
      voted_voted]
    obtain ⟨p, hx, -⟩ := written_frame (s := s.clocked) (needsMain r.val) r v _ _ hf
    exact ⟨p, hx⟩
  · rw [if_neg hk, if_neg (by exact hk)]
    generalize hT : ({ (Txn.begun false 0 r.val true).addressing (needsMain r.val) with
      crc := crc8From 0xFF (bytesOfWord v) } : Txn) = T
    have hr := crcErr_regs_of_eq (s := s) (t := (s.clocked.voted (needsMain r.val)).withTxn T)
      (by rw [withTxn, voted_frame]; rfl)
    obtain ⟨p, hx⟩ := crcErr_dies_frame (s := (s.clocked.voted (needsMain r.val)).withTxn T) _
    refine ⟨p, (Eq.trans ?_ hx).trans ?_⟩
    · rw [← hT]
      rfl
    · rw [hr, clocked_voted_frame, crcErr_frame]

end State

open State in
/-- Settles O37: an accepted header leaves one word to read or to commit, and what is driven changes only the port. -/
theorem spiRegisterTransfers : Obligations.SpiRegisterTransfers := by
  refine ⟨fun s r v h hm => ⟨fun hp => ?_, fun hp => ?_⟩, fun s r v k h hm hp hh hi => ?_⟩
  · obtain ⟨p, hx, ho⟩ := spiRead_register h hm hp
    exact ⟨_, congrArg Host.Outcome.next hx, ho, rfl⟩
  · obtain ⟨p, hx, ho⟩ := spiWrite_register h hm hp v
    exact ⟨_, congrArg Host.Outcome.next hx, writtenWord_eq r v, fun q hq => reg_plainWrite_ne v hq, ho, rfl⟩
  · intro hd good
    obtain ⟨p, hx⟩ := spiWrite_register_crc h hm hp v k
    refine ⟨_, congrArg Host.Outcome.next hx, ?_⟩
    by_cases hk : k = good
    · have hk' : k = crc8From 0xFF (bytesOfWord v) := hk
      rw [if_pos hk']
      exact ⟨fun q hq _ _ => reg_plainWrite_ne v hq, rfl, ite_of_pos hk ⟨writtenWord_eq r v,
        reg_plainWrite_ne v hh.symm, reg_plainWrite_ne v hi.symm⟩⟩
    · have hk' : ¬ k = crc8From 0xFF (bytesOfWord v) := hk
      obtain ⟨hf₁, hf₂, hf₃, hr⟩ := crcErr_spec (s := s)
      rw [if_neg hk']
      exact ⟨fun q _ hq hq' => hr q hq hq', rfl, (if_neg hk).mpr ⟨hr r hh hi, hf₁, hf₂, hf₃⟩⟩

end Sys2Proof.Machine
end

section
/-! PROOFS. The port while MAIN is not ready, and the special transactions STATUS and WAKE (R325, R326). -/

namespace Sys2Proof.Machine
namespace State

variable {s : State}

/-! ### A transaction that addresses MAIN while it is not ready -/

theorem wakeRequest_withTxn (t : Txn) (w : WakeSource) : (s.withTxn t).wakeRequest w = (s.wakeRequest w).withTxn t := by
  unfold wakeRequest
  change (if s.pwr.pstate = .sleep && !s.pwr.reqs.contains w then _ else _) = _
  split <;> rfl

theorem touchMain_of_off (hm : s.mainUp = false) (t : Txn) :
    (s.withTxn t).touchMain = ((s.voted true).wakeRequest .host).withTxn { t with needs := true } :=
  (if_neg (show ¬ s.mainUp = true by simp [hm])).trans
    (wakeRequest_withTxn (s := s.voted true) { t with needs := true } .host)

theorem wakeRequest_mainUp (w : WakeSource) : (s.wakeRequest w).mainUp = s.mainUp := by
  rw [wakeRequest_frame]
  rfl

theorem wakeRequest_pstate (w : WakeSource) : (s.wakeRequest w).pwr.pstate = s.pwr.pstate := by
  rw [wakeRequest_frame]

/-- What a transaction asks of MAIN while it is not ready: only the PORT vote and the wake request change. -/
def callsMain (s : State) : State := (s.voted true).wakeRequest .host

theorem callsMain_frame : s.callsMain = { s with
    port := { s.port with vote := true }, pwr := { s.pwr with reqs := s.callsMain.pwr.reqs } } := by
  unfold callsMain
  rw [wakeRequest_frame]
  rfl

theorem mem_callsMain (h : s.pwr.pstate = .sleep) : WakeSource.host ∈ s.callsMain.pwr.reqs :=
  mem_wakeRequest (s := s.voted true) h .host

theorem callsMain_mainUp (hm : s.mainUp = false) : s.callsMain.mainUp = false := by
  rw [callsMain_frame]
  exact hm

theorem callsMain_faults : s.callsMain.fmon.faults = s.fmon.faults := by rw [callsMain_frame]

theorem callsMain_pstate : s.callsMain.pwr.pstate = s.pwr.pstate := by rw [callsMain_frame]

theorem callsMain_regs : s.callsMain.regs = s.regs := by rw [callsMain_frame]

/-! ### Status bytes of an error -/

theorem status_frame (t : State) (resp : Nat) : ∃ c, (s.status t resp).2 = { t with freeCtr := c } := by
  unfold status
  split
  · dsimp only
    split
    · exact ⟨t.freeCtr, rfl⟩
    · exact ⟨_, rfl⟩
  · dsimp only
    split
    · exact ⟨_, rfl⟩
    · exact ⟨_, rfl⟩

theorem status_resp (t : State) {resp : Nat} (h : resp < 8) : (s.status t resp).1.toNat / 32 = resp := by
  unfold status
  extract_lets e i
  have h₁ := Bool.toNat_le t.mainUp
  have h₂ := Bool.toNat_le i.1
  have h₃ := Bool.toNat_le e.1
  simp only [bitAt, BitVec.toNat_ofNat]
  omega

theorem hostErr_flag {b : Nat} (hb : b < 16) : (s.hostErr b).flag Reg.HOST_STAT b = true := by
  unfold hostErr
  dsimp only
  split
  · exact flag_setFlag_same _ _ _ _ hb
  · exact (flag_raise_ne _ _ _ (by decide)).trans (flag_setFlag_same _ _ _ _ hb)

theorem hostErr_frame (b : Nat) : s.hostErr b = { s with regs := (s.hostErr b).regs } := by
  unfold hostErr
  dsimp only
  split <;> rfl

theorem reg_hostErr_ne (b : Nat) {q : RegId} (h : q ≠ Reg.HOST_STAT) (hi : q ≠ Reg.INT_STAT) :
    (s.hostErr b).reg q = s.reg q := by
  unfold hostErr
  dsimp only
  split
  · exact reg_setFlag_ne _ _ _ h
  · exact (reg_raise_ne _ _ hi).trans (reg_setFlag_ne _ _ _ h)

theorem needsMain_of_main {r : RegId} (h : 16 ≤ r.val) : needsMain r.val = true := by
  have := r.isLt
  simp only [needsMain, Bool.and_eq_true, decide_eq_true_eq]
  exact ⟨h, this⟩

theorem drives_spec (h : s.fmon.faults = []) (l : List Byte) :
    ∃ p, s.drives l = { s with port := p } ∧ p.out = l ∧ p.vote = s.port.vote :=
  ⟨_, drives_of_nil h l, rfl, rfl⟩

/-! ### Register transactions while MAIN is not ready -/

/-- A read that is refused while MAIN is not ready (R325). -/
theorem spiDead_read (t : State) (resp n : Nat) (hf : t.fmon.faults = []) : ∃ c p, s.spiDead t true false resp n =
    { t with freeCtr := c, port := p } ∧ p.vote = t.port.vote ∧
      p.out = [0, 0] ++ (s.status t.txnVoid resp).1 :: List.replicate (n * 2) 0xFF := by
  obtain ⟨c, hc⟩ := status_frame (s := s) t.txnVoid resp
  have hx : s.spiDead t true false resp n = (s.status t.txnVoid resp).2.drives
      ([0, 0] ++ (s.status t.txnVoid resp).1 :: List.replicate (n * 2) 0xFF) := rfl
  rw [hx, hc]
  generalize ([0, 0] : List Byte) ++ (s.status t.txnVoid resp).1 :: List.replicate (n * 2) 0xFF = l
  rw [drives_of_nil (s := { t.txnVoid with freeCtr := c }) hf]
  exact ⟨c, _, rfl, rfl, rfl⟩

theorem spiRead_off {r : RegId} (h : s.spiIdle) (hm : s.mainUp = false) (hr : 16 ≤ r.val) : ∃ t,
    s.spiRow true 0 (some (spiHdr r.val)) [] 1 = t ∧
      t.port.out.take 2 = [0, 0] ∧ (t.port.out.getD 2 0).toNat / 32 = 2 ∧ t.port.out.drop 3 = [0xFF, 0xFF] ∧
      t.flag Reg.HOST_STAT HostErr.NR = true ∧ t.port.vote = true ∧
      (s.pwr.pstate = .sleep → WakeSource.host ∈ t.pwr.reqs) := by
  have hf := spiIdle_clocked h
  have hgo (u : State) (T : Txn) (hu : u.mainUp = false) : (u.withTxn T).spiGo true 0 (BitVec.ofNat 8 r.val) false [] 1 =
      (u.callsMain.withTxn { T with needs := true }).spiDead
        ((u.callsMain.withTxn { T with needs := true }).hostErr HostErr.NR) true false 2 1 := by
    unfold spiGo
    rw [firstNeedsMain_register, needsMain_of_main hr]
    dsimp only
    rw [if_pos rfl, touchMain_of_off hu, if_pos rfl]
    refine if_pos ?_
    exact congrArg (fun b => true && !b) (callsMain_mainUp hu)
  unfold spiHdr
  rw [spiRow_accepted h true (by decide) _ _ _ _ (badCommand_register _ _) (by simp), firstAddr_register, Option.isSome_none,
    hgo s.clocked _ hm]
  generalize hT : ({ Txn.begun true 0 r.val false with needs := true } : Txn) = T
  have hfl : ((s.clocked.callsMain.withTxn T).hostErr HostErr.NR).fmon.faults = [] := by
    rw [hostErr_frame]
    exact callsMain_faults.trans hf
  obtain ⟨c, p, hx, hv, ho⟩ := spiDead_read (s := s.clocked.callsMain.withTxn T)
    ((s.clocked.callsMain.withTxn T).hostErr HostErr.NR) 2 1 hfl
  refine ⟨_, hx, ?_, ?_, ?_, ?_, ?_, fun hs => ?_⟩
  · rw [ho]
    rfl
  · rw [ho]
    exact status_resp _ (by decide)
  · rw [ho]
    rfl
  · exact hostErr_flag (s := s.clocked.callsMain.withTxn T) (by decide)
  · refine hv.trans ?_
    rw [hostErr_frame]
    change s.clocked.callsMain.port.vote = true
    rw [callsMain_frame]
  · change WakeSource.host ∈ ((s.clocked.callsMain.withTxn T).hostErr HostErr.NR).pwr.reqs
    rw [hostErr_frame]
    exact mem_callsMain (s := s.clocked) hs

theorem hostErr_withTxn (t : Txn) (b : Nat) : (s.withTxn t).hostErr b = (s.hostErr b).withTxn t := by
  unfold hostErr
  dsimp only
  split <;> rfl

theorem spiCommit_off {t u : Txn} (v : Word) (hn : t.needsMain = true) (hm : s.mainUp = false) : ∃ y,
    (s.withTxn u).spiCommit t v = (s.callsMain.hostErr HostErr.WR_LOST).withTxn y := by
  unfold spiCommit
  rw [if_pos (by rw [hn]; exact congrArg (fun b => true && !b) hm), touchMain_of_off hm, hostErr_withTxn, onTxn_withTxn]
  exact ⟨_, rfl⟩

theorem spiWrite_off {r : RegId} (h : s.spiIdle) (hm : s.mainUp = false) (hr : 16 ≤ r.val) (v : Word) : ∃ t,
    s.spiRow false 0 (some (spiHdr r.val)) [⟨v, none⟩] 1 = t ∧ t.flag Reg.HOST_STAT HostErr.WR_LOST = true ∧
      (∀ q, q ≠ Reg.HOST_STAT → q ≠ Reg.INT_STAT → t.reg q = s.reg q) ∧
      (s.pwr.pstate = .sleep → WakeSource.host ∈ t.pwr.reqs) := by
  have hf := spiIdle_clocked h
  have hgo (u : State) (T : Txn) (hu : u.mainUp = false) (hk : T.kind = 0) :
      (u.withTxn T).spiGo false 0 (BitVec.ofNat 8 r.val) false [⟨v, none⟩] 1 =
        ((u.callsMain.withTxn { T with needs := true }).spiWrite [⟨v, none⟩]).drives [0, 0, 0, 0] := by
    unfold spiGo
    rw [firstNeedsMain_register, needsMain_of_main hr]
    dsimp only
    rw [if_pos rfl, touchMain_of_off hu, if_neg Bool.false_ne_true, ← callsMain, txnSelect_of_kind_ne (by simp [hk])]
    rfl
  have hn (T : Txn) (hk : T.kind = 0) (ha : T.addr = r.val) : T.needsMain = true :=
    (needsMain_register hk ha).trans (needsMain_of_main hr)
  unfold spiHdr
  rw [spiRow_accepted h false (by decide) _ _ _ _ (badCommand_register _ _) (by simp), firstAddr_register, Option.isSome_none,
    hgo s.clocked _ hm rfl]
  have hT : ∃ T : Txn, T = { Txn.begun false 0 r.val false with needs := true } ∧ T.kind = 0 ∧ T.addr = r.val ∧
      T.dead = false ∧ T.rd = false ∧ T.crcOn = false := ⟨_, rfl, rfl, rfl, rfl, rfl, rfl⟩
  obtain ⟨T, hT, hk, ha, hd, hrd, hc⟩ := hT
  rw [← hT, spiWrite_one _ _ hd hrd (by simp [hk]), takeWire_noCrc (callsMain_faults.trans hf) (by simp [hk]) hc]
  obtain ⟨y, hy⟩ := spiCommit_off (s := s.clocked.callsMain) (t := T)
    (u := { T with crc := crc8From T.crc (bytesOfWord v) }) v (hn _ hk ha) (callsMain_mainUp (s := s.clocked) hm)
  have hfl : ((s.clocked.callsMain.callsMain.hostErr HostErr.WR_LOST).withTxn y).fmon.faults = [] := by
    rw [hostErr_frame]
    exact callsMain_faults.trans (callsMain_faults.trans hf)
  have hregs (q : RegId) : s.clocked.callsMain.callsMain.reg q = s.reg q := by
    rw [reg, callsMain_regs, callsMain_regs]
    rfl
  have hreqs (hs : s.pwr.pstate = .sleep) :
      WakeSource.host ∈ (s.clocked.callsMain.callsMain.hostErr HostErr.WR_LOST).pwr.reqs := by
    rw [hostErr_frame]
    exact mem_callsMain (callsMain_pstate.trans hs)
  have hne (q : RegId) := reg_hostErr_ne (s := s.clocked.callsMain.callsMain) HostErr.WR_LOST (q := q)
  have hlost : (s.clocked.callsMain.callsMain.hostErr HostErr.WR_LOST).flag Reg.HOST_STAT HostErr.WR_LOST = true :=
    hostErr_flag (by decide)
  rw [hy]
  generalize s.clocked.callsMain.callsMain.hostErr HostErr.WR_LOST = W at *
  obtain ⟨p, hp, -, -⟩ := drives_spec (s := W.withTxn y) hfl [0, 0, 0, 0]
  exact ⟨_, hp, hlost, fun q hq hi => (hne q hq hi).trans (hregs q), hreqs⟩

/-! ### STATUS and WAKE -/

/-- A word of STATUS over SPI: INT_STAT, then SYS_STAT (Table 10.5). -/
theorem capture_status {t : Txn} {r : RegId} (hs : s.aon.hsel = false) (hk : t.kind = 3)
    (ha : t.addr = 0 ∧ r = Reg.INT_STAT ∨ t.addr = 1 ∧ r = Reg.SYS_STAT) : ∃ q, (s.withTxn t).capture t =
      (s.viewReg r, s.queueSync.withTxn { t with addr := min 4 (t.addr + 1), queue := q }) := by
  have hn : t.needsMain = false := by
    unfold Txn.needsMain
    rw [hk]
    rfl
  have hw : (s.withTxn t).portWord t = (s.viewReg r, s.withTxn t) := by
    have hj : (s.withTxn t).portWord t = (s.withTxn t).statusWord t.addr := by
      unfold portWord
      rw [hk]
      rfl
    have hsel : (s.withTxn t).aon.hsel = false := hs
    rw [hj, statusWord, hsel]
    obtain ⟨ha, hr⟩ | ⟨ha, hr⟩ := ha
    · rw [ha, hr]
      exact congrArg (fun w => (w, s.withTxn t)) (viewReg_withTxn Reg.INT_STAT t)
    · rw [ha, hr]
      exact congrArg (fun w => (w, s.withTxn t)) (viewReg_withTxn Reg.SYS_STAT t)
  unfold capture
  rw [hn, if_neg Bool.false_ne_true, txnSelect_of_kind_ne (by simp [hk])]
  dsimp only
  rw [hw]
  refine ⟨t.queue || (t.kind = 2) || (t.kind = 0 && t.addr = 0x36), ?_⟩
  simp only [queueSync_withTxn, onTxn_withTxn, Txn.nextAddr, hk]

/-- The state with another port state. -/
def withPort (s : State) (p : Port) : State := { s with port := p }

theorem withTxn_withPort (t : Txn) (p : Port) : (s.withTxn t).withPort p = s.withPort p := rfl

theorem queueSync_withPort (p : Port) : s.queueSync.withPort p = (s.withPort p).queueSync := rfl

theorem clocked_withPort (p : Port) : s.clocked.withPort p = s.queueSync.withPort p := rfl

theorem clocked_withTxn_port (t : Txn) (p : Port) :
    (s.clocked.queueSync.queueSync.withTxn t).withPort p = (s.withPort p).queueSync := by
  rw [withTxn_withPort, queueSync_queueSync, queueSync_withPort, clocked_withPort, queueSync_withPort, queueSync_queueSync]

theorem spiStatus_words (h : s.spiIdle) : ∃ p, s.spiRow true 3 (some (spiHdr 0)) [] 2 = { s with
      port := p, queue := { s.queue with seen := s.queue.items.length } } ∧
      p.out = [0, 0, s.statusByte 4] ++ bytesOfWord (s.viewReg Reg.INT_STAT) ++ bytesOfWord (s.viewReg Reg.SYS_STAT) := by
  have hf := spiIdle_clocked h
  have hsel : s.clocked.aon.hsel = false := (spiIdle_iff.1 h).2.1
  have hgo (u : State) (T : Txn) (hk : T.kind = 3) : (u.withTxn T).spiGo true 3 (BitVec.ofNat 8 0) false [] 2 =
      (u.withTxn T).spiServe false 2 := by
    unfold spiGo
    dsimp only
    rw [if_pos rfl, show firstNeedsMain true 3 (BitVec.ofNat 8 0) = false from rfl, if_neg Bool.false_ne_true,
      txnSelect_of_kind_ne (by simp [hk])]
    rfl
  have hn (T : Txn) (hk : T.kind = 3) (u : State) : T.needsMain = true → u.mainUp = true := by
    unfold Txn.needsMain
    rw [hk]
    exact fun h => absurd h Bool.false_ne_true
  unfold spiHdr
  rw [spiRow_accepted h true (by decide) _ _ _ _ (by decide) (by simp), Option.isSome_none, hgo s.clocked _ rfl, spiServe,
    status_same]
  dsimp only
  rw [onTxn_withTxn]
  have hy : (s.clocked.withTxn (Txn.begun true 3 (firstAddr 3 (BitVec.ofNat 8 0)) false)).statusByte 4 = s.statusByte 4 := rfl
  rw [hy]
  obtain ⟨T, hT, hk, ha, hd, hc⟩ : ∃ T : Txn, T = { Txn.begun true 3 (firstAddr 3 (BitVec.ofNat 8 0)) false with
    crc := crc8 [s.statusByte 4] } ∧ T.kind = 3 ∧ T.addr = 0 ∧ T.dead = false ∧ T.crcOn = false := ⟨_, rfl, rfl, rfl, rfl, rfl⟩
  rw [← hT]
  obtain ⟨q, hq⟩ := capture_status (s := s.clocked) (t := T) (r := Reg.INT_STAT) hsel hk (.inl ⟨ha, rfl⟩)
  rw [spiRead_succ 1 T hd (hn T hk _), hq]
  dsimp only
  rw [wordOut_withTxn, if_neg (by simp [hc])]
  dsimp only
  obtain ⟨T', hT', hk', ha', hd', hc'⟩ : ∃ T' : Txn, T' = { T with
    addr := min 4 (T.addr + 1), queue := q, crc := crc8From T.crc (bytesOfWord (s.clocked.viewReg Reg.INT_STAT)) } ∧
    T'.kind = 3 ∧ T'.addr = 1 ∧ T'.dead = false ∧ T'.crcOn = false := ⟨_, rfl, hk, by rw [ha]; rfl, hd, hc⟩
  rw [← hT']
  obtain ⟨q', hq'⟩ := capture_status (s := s.clocked.queueSync) (t := T') (r := Reg.SYS_STAT) hsel hk' (.inr ⟨ha', rfl⟩)
  rw [spiRead_one T' hd' (hn T' hk' _), hq']
  dsimp only
  rw [wordOut_withTxn, if_neg (by simp [hc'])]
  dsimp only
  have h₁ : s.clocked.viewReg Reg.INT_STAT = s.viewReg Reg.INT_STAT := rfl
  have h₂ : s.clocked.queueSync.viewReg Reg.SYS_STAT = s.viewReg Reg.SYS_STAT := rfl
  rw [h₁, h₂]
  obtain ⟨p, hp, ho, -⟩ := drives_spec (s := s.clocked.queueSync.queueSync.withTxn { T' with
    addr := min 4 (T'.addr + 1), queue := q', crc := crc8From T'.crc (bytesOfWord (s.viewReg Reg.SYS_STAT)) }) hf
    (List.replicate (if false = true then 3 else 2) 0 ++
      s.statusByte 4 :: (bytesOfWord (s.viewReg Reg.INT_STAT) ++ bytesOfWord (s.viewReg Reg.SYS_STAT)))
  exact ⟨p, hp.trans (clocked_withTxn_port _ p), ho⟩

/-- Addressing MAIN asks for it, where it is not ready, and changes no register. -/
theorem touchMain_asks (t : Txn) : ∃ u : State, (s.withTxn t).touchMain = u.withTxn { t with needs := true } ∧
    u.port.vote = true ∧ u.regs = s.regs ∧ u.fmon = s.fmon ∧
      (s.pwr.pstate = .sleep → s.mainUp = false → WakeSource.host ∈ u.pwr.reqs) := by
  cases hm : s.mainUp with
  | true => exact ⟨_, touchMain_of_mainUp hm t, rfl, rfl, rfl, fun _ => nofun⟩
  | false =>
    refine ⟨_, touchMain_of_off hm t, ?_, callsMain_regs, ?_, fun h _ => mem_callsMain h⟩
    · change s.callsMain.port.vote = true
      rw [callsMain_frame]
    · change s.callsMain.fmon = s.fmon
      rw [callsMain_frame]

theorem spiWake_asks (h : s.spiIdle) : ∃ t, s.spiRow false 3 (some (spiHdr 1)) [] 0 = t ∧ t.port.vote = true ∧
    t.regs = s.regs ∧ (s.pwr.pstate = .sleep → s.mainUp = false → WakeSource.host ∈ t.pwr.reqs) := by
  have hf := spiIdle_clocked h
  have hgo (u : State) (T : Txn) (hk : T.kind = 3) : (u.withTxn T).spiGo false 3 (BitVec.ofNat 8 1) false [] 0 =
      (u.withTxn T).touchMain.txnSelect.drives [0, 0] := rfl
  unfold spiHdr
  rw [spiRow_accepted h false (by decide) _ _ _ _ (by decide) (by simp), Option.isSome_none, hgo s.clocked _ rfl]
  generalize hT : Txn.begun false 3 (firstAddr 3 (BitVec.ofNat 8 1)) false = T
  have hk : T.kind = 3 := by rw [← hT]; rfl
  obtain ⟨u, hu, hv, hr, hm, hq⟩ := touchMain_asks (s := s.clocked) T
  rw [hu, txnSelect_of_kind_ne (by simp [hk])]
  obtain ⟨p, hp, -, hpv⟩ := drives_spec (s := u.withTxn { T with needs := true }) ((congrArg Fmon.faults hm).trans hf) [0, 0]
  exact ⟨_, hp, hpv.trans hv, hr, hq⟩

end State

open State in
/-- Settles O38: a transaction that addresses MAIN while it is not ready asks for it, and nothing else of it takes effect. -/
theorem portWhileMainIsOff : Obligations.PortWhileMainIsOff := by
  refine fun s r v h => ⟨fun hm hr => ⟨?_, ?_⟩, ?_, ?_⟩
  · obtain ⟨t, hx, ht⟩ := spiRead_off h hm hr
    exact ⟨t, congrArg Host.Outcome.next hx, ht⟩
  · obtain ⟨t, hx, ht⟩ := spiWrite_off h hm hr v
    exact ⟨t, congrArg Host.Outcome.next hx, ht⟩
  · obtain ⟨p, hx, ho⟩ := spiStatus_words h
    exact ⟨_, congrArg Host.Outcome.next hx, ho, rfl, rfl⟩
  · obtain ⟨t, hx, ht⟩ := spiWake_asks h
    exact ⟨t, congrArg Host.Outcome.next hx, ht⟩

end Sys2Proof.Machine
end

section
/-! PROOFS. The ends of the host's transactions and the release of the PORT vote (R310, R313, R314, R325, R326). -/

namespace Sys2Proof.Machine
namespace State

variable {s t u : State}

/-! ### What the end of a transaction keeps -/

/-- What the end of a transaction keeps: the windows' tables, the errors of the port, what it drives, and whether a reset of
the port is due. -/
structure PortKeeps (s t : State) : Prop where
  tables : t.tables = s.tables
  host : t.reg Reg.HOST_STAT = s.reg Reg.HOST_STAT
  out : t.port.out = s.port.out
  due : t.port.rstDue = s.port.rstDue

namespace PortKeeps

theorem refl (s : State) : PortKeeps s s := ⟨rfl, rfl, rfl, rfl⟩

theorem trans (h : PortKeeps s t) (k : PortKeeps t u) : PortKeeps s u :=
  ⟨k.tables.trans h.tables, k.host.trans h.host, k.out.trans h.out, k.due.trans h.due⟩

theorem queueReset (s : State) : PortKeeps s s.queueReset := by
  have hc : PortKeeps s s.queueCleared := by
    have hf := s.queueCleared_frame
    refine ⟨by rw [hf], ?_, by rw [hf], by rw [hf]⟩
    exact (reg_setFlag_ne _ _ _ (by decide)).trans (s.reg_resetQueue_ne (by decide) (by decide))
  rw [queueReset_eq]
  exact hc.trans ⟨drainInserted_tables _, reg_drainInserted_ne _ (by decide), by rw [drainInserted_port],
    by rw [drainInserted_port]⟩

theorem settle (s t : State) : PortKeeps t (s.settle t) :=
  ⟨settle_tables _ _, reg_settle _ _ _, by rw [settle_port], by rw [settle_port]⟩

end PortKeeps

theorem queueReset_port (s : State) : s.queueReset.port = s.port := by
  rw [queueReset_eq, drainInserted_port, s.queueCleared_frame]

/-- A transaction that is over leaves no other trace than the queue's reset that waited for it. -/
theorem txnOver_spec (s : State) : s.txnOver.port.txn = none ∧ PortKeeps s s.txnOver := by
  unfold txnOver
  split
  case isFalse h => exact ⟨Option.not_isSome_iff_eq_none.1 h, .refl s⟩
  case isTrue h =>
    extract_lets p pt qu q
    have hq : q.port.txn = none := rfl
    have hk : PortKeeps s q := ⟨rfl, rfl, rfl, rfl⟩
    clear_value q
    split
    · exact ⟨by rw [settle_port, queueReset_port, hq], (hk.trans (.queueReset q)).trans (.settle p _)⟩
    · exact ⟨hq, hk⟩

theorem txnOver_of_none (h : s.port.txn = none) : s.txnOver = s := if_neg (by simp [h])

/-- The end of a transaction, with a reset of the port that waited for it. -/
theorem txnEnd_spec (s : State) : s.txnEnd.port.txn = none ∧ s.txnEnd.port.out = s.port.out ∧
    s.txnEnd.tables = s.tables ∧ (s.port.rstDue = false → s.txnEnd.reg Reg.HOST_STAT = s.reg Reg.HOST_STAT) := by
  obtain ⟨ht, hk⟩ := s.txnOver_spec
  unfold txnEnd
  dsimp only
  split
  case isTrue h => exact ⟨rfl, hk.out, hk.tables, fun hd => absurd (h.symm.trans (hk.due.trans hd)) nofun⟩
  case isFalse => exact ⟨ht, hk.out, hk.tables, fun _ => hk.host⟩

theorem txnEnd_of_none (h : s.port.txn = none) (hd : s.port.rstDue = false) : s.txnEnd = s := by
  unfold txnEnd
  rw [txnOver_of_none h]
  exact if_neg (by simp [hd])

theorem flag_of_reg_eq {r : RegId} {b : Nat} (h : t.reg r = s.reg r) : t.flag r b = s.flag r b :=
  congrArg (fun w : Word => w.getLsbD b) h

/-! ### HCS_N rises -/

/-- The transaction in progress is cut by HCS_N in a way that sets ABORTED (R310). -/
def cutShort (s : State) (c : Cut) : Bool := match c, s.port.txn with
  | .clean, _ => false
  | .inHeader, _ => true
  | .inWord, some x => !x.rd && !x.void && x.kind != 3
  | .inWord, none => false

theorem exec_hcsNRise (c : Cut) (hup : s.aonUp = true) (hs : s.aon.hsel = false) : exec (.hcsNRise c) s =
    .next (if s.quiet.cutShort c then s.quiet.hostErr HostErr.ABORTED else s.quiet).txnEnd := by
  refine congrArg Host.Outcome.next ((if_pos (by simp [hup, hs])).trans ?_)
  unfold cutShort
  cases c <;> rfl

/-- A transaction that ends with or without ABORTED. -/
theorem aborted_txnEnd (s : State) (b : Bool) :
    let t := (if b then s.hostErr HostErr.ABORTED else s).txnEnd
    t.port.txn = none ∧ t.port.out = s.port.out ∧ t.tables = s.tables ∧
      (b = true → s.port.rstDue = false → t.flag Reg.HOST_STAT HostErr.ABORTED = true) := by
  cases b with
  | false =>
    obtain ⟨ht, ho, htab, -⟩ := s.txnEnd_spec
    exact ⟨ht, ho, htab, nofun⟩
  | true =>
    obtain ⟨ht, ho, htab, hh⟩ := (s.hostErr HostErr.ABORTED).txnEnd_spec
    rw [hostErr_port] at ho hh
    rw [hostErr_tables] at htab
    exact ⟨ht, ho, htab, fun _ hd => (flag_of_reg_eq (hh hd)).trans (hostErr_flag (by decide))⟩

theorem hcsNRise_ends (c : Cut) (hup : s.aonUp = true) (hs : s.aon.hsel = false) : ∃ t,
    exec (.hcsNRise c) s = .next t ∧ t.port.txn = none ∧ t.port.out = [] ∧
      t.tables = s.tables ∧ (c = .inHeader → s.port.rstDue = false → t.flag Reg.HOST_STAT HostErr.ABORTED = true) ∧
      (∀ x, c = .inWord → s.port.txn = some x → x.rd = false → x.void = false → x.kind ≠ 3 → s.port.rstDue = false →
        t.flag Reg.HOST_STAT HostErr.ABORTED = true) ∧
      (c = .clean → s.port.txn = none → s.port.rstDue = false → t.regs = s.regs) := by
  obtain ⟨ht, ho, htab, ha⟩ := aborted_txnEnd s.quiet (s.quiet.cutShort c)
  refine ⟨_, exec_hcsNRise c hup hs, ht, ho, htab, ?_, ?_, ?_⟩
  · rintro rfl hd
    exact ha rfl hd
  · rintro x rfl hx hrd hv hk hd
    refine ha ?_ hd
    have hq : s.quiet.port.txn = some x := hx
    unfold cutShort
    rw [hq]
    simp [hrd, hv, hk]
  · rintro rfl hn hd
    have hq : s.quiet.cutShort .clean = false := by
      unfold cutShort
      rfl
    rw [hq, if_neg Bool.false_ne_true, txnEnd_of_none (s := s.quiet) hn hd]
    rfl

/-! ### An I2C transaction ends -/

theorem oddWaits_iff : s.oddWaits = true ↔ s.port.stretch = none ∧ ∃ x, s.port.txn = some x ∧ x.rd = false ∧
    x.dead = false ∧ x.kind < 2 ∧ x.needsMain = true ∧ s.mainUp = false := by
  unfold oddWaits
  cases s.port.txn <;> simp [and_assoc]

/-- A word that needs MAIN, which is not ready, holds SCL low, and asks for MAIN (R314, R325). -/
theorem i2cHold_frame (x : Txn) (hm : s.mainUp = false) (hw : s.pwr.pstate ≠ .wakeFail) (st : Stretch) :
    (s.withTxn x).i2cHold st = { s.callsMain with port := { s.callsMain.port with
      txn := some { x with needs := true }, stretch := some st } } := by
  unfold i2cHold
  rw [touchMain_of_off hm, ← callsMain]
  have hp : (s.callsMain.withTxn { x with needs := true }).pwr.pstate ≠ .wakeFail := fun h =>
    hw (callsMain_pstate.symm.trans h)
  exact if_neg hp

theorem i2cStop_waits (stop : Bool) (hup : s.aonUp = true) (hs : s.aon.hsel = true) (ho : s.oddWaits = true)
    (hw : s.pwr.pstate ≠ .wakeFail) : ∃ t, exec (.i2cStop ⟨true, stop⟩) s = .next t ∧
      t.port.stretch = some (.ends ⟨true, stop⟩) ∧ t.port.vote = true ∧ t.hsckOut = .low ∧
      (s.pwr.pstate = .sleep → WakeSource.host ∈ t.pwr.reqs) ∧ t = { s with port := t.port, pwr := t.pwr } := by
  obtain ⟨hst, x, hx, hrd, hd, hk, hn, hm⟩ := oddWaits_iff.1 ho
  have hq : s.quiet = s.quiet.withTxn x := by
    rw [withTxn, ← hx]
    rfl
  have hh := i2cHold_frame (s := s.quiet) x hm hw (.ends ⟨true, stop⟩)
  have hreq : s.pwr.pstate = .sleep → WakeSource.host ∈ s.quiet.callsMain.pwr.reqs := fun h => mem_callsMain (s := s.quiet) h
  have hframe := callsMain_frame (s := s.quiet)
  have hx' : exec (.i2cStop ⟨true, stop⟩) s = .next (s.quiet.i2cHold (.ends ⟨true, stop⟩)) := by
    refine congrArg Host.Outcome.next ((if_pos (by simp [hup, hs])).trans ((if_pos ?_).trans (if_pos ?_)))
    · exact ho
    · rw [hq, hh]
      rfl
  rw [hq, hh] at hx'
  generalize s.quiet.callsMain = w at *
  refine ⟨_, hx', rfl, by rw [hframe], ?_, hreq, ?_⟩
  · refine if_pos ?_
    have hup' : w.aonUp = true := by
      rw [hframe]
      exact hup
    have hs' : w.aon.hsel = true := by
      rw [hframe]
      exact hs
    have hup'' (p : Port) : ({ w with port := p } : State).aonUp = w.aonUp := rfl
    rw [hup'', hup', hs']
    rfl
  · rw [hframe]
    rfl

/-- An odd byte before the end: the port's errors change, and ABORTED stands. -/
theorem i2cOdd_spec (s : State) : s.i2cOdd = { s with regs := s.i2cOdd.regs } ∧
    ∀ x, s.port.txn = some x → x.rd = false → x.void = false → s.i2cOdd.flag Reg.HOST_STAT HostErr.ABORTED = true := by
  have hro : s.i2cReadOnly = { s with regs := s.i2cReadOnly.regs } := by
    unfold i2cReadOnly
    split
    · rfl
    · exact hostErr_frame _
  unfold i2cOdd
  cases hx : s.port.txn with
  | none => exact ⟨rfl, nofun⟩
  | some x =>
    dsimp only
    split
    case isTrue h =>
      refine ⟨rfl, fun y hy hrd hv => absurd h ?_⟩
      obtain rfl := Option.some.inj hy
      simp [hrd, hv]
    case isFalse h =>
      refine ⟨?_, fun _ _ _ _ => hostErr_flag (by decide)⟩
      split
      · rw [hostErr_frame, hro]
      · exact hostErr_frame _

theorem i2cEnds_spec (s : State) (odd stop : Bool) :
    let t := s.i2cEnds ⟨odd, stop⟩
    t.port.txn = none ∧ t.port.out = s.port.out ∧ t.tables = s.tables ∧
      (odd = false → s.port.txn = none → s.port.rstDue = false → t = s) ∧
      ∀ x, odd = true → s.port.txn = some x → x.rd = false → x.void = false → s.port.rstDue = false →
        t.flag Reg.HOST_STAT HostErr.ABORTED = true := by
  intro t
  have hend (w : State) : (if stop then w.txnEnd else w.txnOver).port.txn = none ∧
      (if stop then w.txnEnd else w.txnOver).port.out = w.port.out ∧
      (if stop then w.txnEnd else w.txnOver).tables = w.tables ∧ (w.port.rstDue = false →
        (if stop then w.txnEnd else w.txnOver).reg Reg.HOST_STAT = w.reg Reg.HOST_STAT) := by
    cases stop with
    | true => exact w.txnEnd_spec
    | false =>
      obtain ⟨ht, hk⟩ := w.txnOver_spec
      exact ⟨ht, hk.out, hk.tables, fun _ => hk.host⟩
  cases odd with
  | false =>
    obtain ⟨ht, ho, htab, -⟩ := hend s
    refine ⟨ht, ho, htab, fun _ hn hd => ?_, nofun⟩
    cases stop with
    | true => exact txnEnd_of_none hn hd
    | false => exact txnOver_of_none hn
  | true =>
    obtain ⟨hf, ha⟩ := s.i2cOdd_spec
    obtain ⟨ht, ho, htab, hh⟩ := hend s.i2cOdd
    have hp : s.i2cOdd.port = s.port := by rw [hf]
    refine ⟨ht, by rw [← hp]; exact ho, htab.trans (by rw [hf]), nofun, fun x _ hx hrd hv hd => ?_⟩
    exact (flag_of_reg_eq (hh (by rw [hp, hd]))).trans (ha x hx hrd hv)

theorem i2cStop_ends (odd stop : Bool) (hup : s.aonUp = true) (hs : s.aon.hsel = true) (ho : odd = true → s.oddWaits = false) :
    exec (.i2cStop ⟨odd, stop⟩) s = .next (s.quiet.i2cEnds ⟨odd, stop⟩) := by
  refine congrArg Host.Outcome.next ((if_pos (by simp [hup, hs])).trans (if_neg ?_))
  have hq : s.quiet.oddWaits = s.oddWaits := rfl
  rw [hq]
  cases odd with
  | false => simp
  | true => simp [ho rfl]

/-! ### The PORT vote -/

theorem portVoteRelease_of_none (hup : s.aonUp = true) (hn : s.port.txn = none) :
    exec .portVoteRelease s = .next (s.settle { s with port := { s.port with vote := false } }) := by
  refine congrArg Host.Outcome.next ?_
  dsimp only
  rw [hn]
  exact if_pos (by simp [hup])

theorem portVoteRelease_of_needs {x : Txn} (hx : s.port.txn = some x) (hn : x.needs = true) :
    exec .portVoteRelease s = .next s := by
  refine congrArg Host.Outcome.next ?_
  dsimp only
  rw [hx]
  exact if_neg (by simp [hn])

end State

open State in
/-- Settles O42: a transaction's end keeps the port's errors, where no reset of the port was due. -/
theorem transactionsEnd : Obligations.TransactionsEnd := by
  refine ⟨fun s c odd stop hup => ⟨fun hs => hcsNRise_ends c hup hs, fun hs ho hw => i2cStop_waits stop hup hs ho hw,
    fun hs ho => ?_⟩, fun s hup => ⟨fun hn => ?_, fun x hx hn => portVoteRelease_of_needs hx hn⟩⟩
  · obtain ⟨ht, hout, htab, hclean, habort⟩ := s.quiet.i2cEnds_spec odd stop
    exact ⟨_, i2cStop_ends odd stop hup hs ho, ht, hout, htab,
      fun h hn hd => (congrArg State.regs (hclean h hn hd)).trans rfl, habort⟩
  · refine ⟨_, portVoteRelease_of_none hup hn, by rw [settle_port], ?_, ?_⟩
    swap
    · rw [settle_port]
      exact settle_frame s { s with port := { s.port with vote := false } }
    rw [vote, settle_port]
    exact Bool.and_false _

end Sys2Proof.Machine
end

section
/-! PROOFS. I2C transactions: the address byte, the pointer, data words, and the ends of a stretch (R305, R311 to R314, R325). -/

namespace Sys2Proof.Machine
namespace State

variable {s : State}

/-! ### The pointer and the window that it names -/

/-- The state with another I2C pointer. -/
def pointed (s : State) (p : Byte) : State := { s with port := { s.port with ptr := p } }

theorem pointed_withTxn (t : Txn) (p : Byte) : (s.withTxn t).pointed p = (s.pointed p).withTxn t := rfl

theorem touchMain_frame : s.touchMain = { s with
    port := { s.port with vote := true, txn := s.port.txn.map fun t => { t with needs := true } },
    pwr := s.touchMain.pwr } := by
  unfold touchMain
  dsimp only
  split
  · rfl
  · rw [wakeRequest_frame]
    rfl

theorem winSelect_frame (code : Nat) : s.winSelect code = { s with regs := (s.winSelect code).regs } := by
  unfold winSelect
  split <;> rfl

theorem reg_winSelect_ne (code : Nat) {q : RegId} (h : q ≠ Reg.WIN_SEL) (hs : q ≠ Reg.WIN_STAT) :
    (s.winSelect code).reg q = s.reg q := by
  unfold winSelect
  split
  · rfl
  · exact (reg_setFld_ne _ _ _ _ hs).trans (reg_setFld_ne _ _ _ _ h)

theorem winCode_winSelect {code : Nat} (h : code ≠ 0) (hc : code < 16) : (s.winSelect code).winCode = code := by
  have hx : s.winSelect code = (s.setFld Reg.WIN_SEL 0 4 code).setFld Reg.WIN_STAT 0 8 0 := if_neg h
  rw [winCode, hx, fld_setFld_ne _ _ _ _ _ _ (by decide), fld_setFld_same _ _ (by decide)]
  exact Nat.mod_eq_of_lt hc

/-- The window selected by a transaction that names one. -/
theorem txnSelect_of_kind {t : Txn} (hk : t.kind = 1) (hm : s.mainUp = true) :
    (s.withTxn t).txnSelect = (s.winSelect t.addr).withTxn { t with addr := 0 } := by
  have hx : (s.withTxn t).txnSelect = ((s.withTxn t).winSelect t.addr).onTxn (fun u => { u with addr := 0 }) := by
    unfold txnSelect
    exact if_pos (Bool.and_eq_true_iff.2 ⟨decide_eq_true hk, hm⟩)
  rw [hx]
  unfold winSelect
  split <;> rfl

theorem txnSelect_of_off {t : Txn} (hm : s.mainUp = false) : (s.withTxn t).txnSelect = s.withTxn t := by
  unfold txnSelect
  refine if_neg fun h => ?_
  have hm' : (s.withTxn t).mainUp = true := (Bool.and_eq_true_iff.1 h).2
  exact absurd (hm'.symm.trans hm) nofun

/-! ### A START -/

theorem i2cIdle_iff : s.i2cIdle ↔ s.aonUp = true ∧ s.aon.hsel = true ∧ s.port.txn = none ∧ s.port.stretch = none ∧
    s.fmon.faults = [] ∧ s.i2cCrc = false := Iff.rfl

/-- A START whose address byte is another's. -/
theorem i2cStart_other (h : s.i2cIdle) (rd : Bool) {a : Byte} (ha : a ≠ s.i2cAddrByte + BitVec.ofNat 8 rd.toNat)
    (f : State → State) : s.quiet.i2cStart rd a f = { s with
      port := { s.port with out := [], nack := true }, queue := { s.queue with seen := s.queue.items.length } } := by
  obtain ⟨-, hs, hn, -, hf, -⟩ := i2cIdle_iff.1 h
  unfold i2cStart
  rw [txnOver_of_none (s := s.quiet) hn]
  dsimp only
  rw [heard_of_nil (s := s.quiet.clocked) hf]
  refine (if_neg ha).trans ?_
  change ({ s with
    port := { s.port with out := [], nack := s.aon.hsel }, queue := { s.queue with seen := s.queue.items.length } } : State) = _
  rw [hs]

/-- A START with the block's address. -/
theorem i2cStart_own (h : s.i2cIdle) (rd : Bool) {a : Byte} (ha : a = s.i2cAddrByte + BitVec.ofNat 8 rd.toNat)
    (f : State → State) : s.quiet.i2cStart rd a f = f s.clocked := by
  obtain ⟨-, -, hn, -, hf, -⟩ := i2cIdle_iff.1 h
  unfold i2cStart
  rw [txnOver_of_none (s := s.quiet) hn]
  dsimp only
  rw [heard_of_nil (s := s.quiet.clocked) hf]
  exact if_pos ha

theorem exec_i2cPointerWrite (h : s.i2cIdle) (a p : Byte) : exec (.i2cPointerWrite ⟨a, p⟩ none) s =
    .next (s.quiet.i2cStart false a fun u => u.i2cPointer p none) := by
  obtain ⟨hup, hs, -, hst, -, -⟩ := i2cIdle_iff.1 h
  refine congrArg Host.Outcome.next ((if_pos (by simp [hup, hs])).trans (if_neg ?_))
  have hq : s.quiet.port.stretch = none := hst
  simp [hq]

/-! ### A pointer -/

/-- A pointer that is not reserved, without CRC, is taken. -/
theorem i2cPointer_valid (hf : s.fmon.faults = []) (hc : s.i2cCrc = false) {p : Byte} (hp : ptrValid p = true) :
    s.i2cPointer p none = if p = 0xA1 then ((s.pointed p).withTxn (.begun false (ptrKind p) (ptrAddr p) false)).touchMain
      else ((s.pointed p).withTxn (.begun false (ptrKind p) (ptrAddr p) false)).txnSelect := by
  unfold i2cPointer
  rw [heard_of_nil hf]
  dsimp only
  rw [hc, hp]
  rfl

theorem ptrAddr_window {p : Byte} (h : ptrKind p = 1) : ptrAddr p = p.toNat % 16 := by
  rw [ptrAddr, h]
  rfl

/-- What a pointer leaves: the pointer, and the window where it names one that MAIN can select. -/
theorem i2cPointer_frame (hf : s.fmon.faults = []) (hc : s.i2cCrc = false) {p : Byte} (hp : ptrValid p = true) :
    ∃ t, s.i2cPointer p none = t ∧ t.port.ptr = p ∧ t.port.nack = s.port.nack ∧ (ptrKind p ≠ 1 → t.regs = s.regs) ∧
      (p ≠ 0xA1 → t.pwr = s.pwr) ∧ (∀ q, q ≠ Reg.WIN_SEL → q ≠ Reg.WIN_STAT → t.reg q = s.reg q) ∧
      (ptrKind p = 1 → p.toNat % 16 ≠ 0 → s.mainUp = true → t.winCode = p.toNat % 16) ∧
      t = { s with regs := t.regs, port := t.port, pwr := t.pwr } := by
  refine ⟨_, i2cPointer_valid hf hc hp, ?_⟩
  generalize hT : Txn.begun false (ptrKind p) (ptrAddr p) false = T
  obtain ⟨hk, ha⟩ : T.kind = ptrKind p ∧ T.addr = ptrAddr p := by
    rw [← hT]
    exact ⟨rfl, rfl⟩
  by_cases h1 : p = 0xA1
  · rw [if_pos h1, touchMain_frame]
    exact ⟨rfl, rfl, fun _ => rfl, fun h => absurd h1 h, fun _ _ _ => rfl,
      fun h => absurd h (by rw [h1]; decide), rfl⟩
  · rw [if_neg h1]
    by_cases hk1 : ptrKind p = 1
    · cases hm : s.mainUp with
      | true =>
        rw [txnSelect_of_kind (s := s.pointed p) (hk.trans hk1) hm, ha, ptrAddr_window hk1]
        have hw := winSelect_frame (s := s.pointed p) (p.toNat % 16)
        have hr (q : RegId) := reg_winSelect_ne (s := s.pointed p) (p.toNat % 16) (q := q)
        have hcode (h : p.toNat % 16 ≠ 0) := winCode_winSelect (s := s.pointed p) h (Nat.mod_lt _ (by decide))
        generalize (s.pointed p).winSelect (p.toNat % 16) = w at *
        refine ⟨?_, ?_, fun h => absurd hk1 h, fun _ => ?_, fun q hq hq' => hr q hq hq', fun _ h _ => hcode h, ?_⟩
        · exact (congrArg (fun w : State => w.port.ptr) hw).trans rfl
        · exact (congrArg (fun w : State => w.port.nack) hw).trans rfl
        · exact (congrArg State.pwr hw).trans rfl
        · rw [hw]
          rfl
      | false =>
        rw [txnSelect_of_off (s := s.pointed p) hm]
        exact ⟨rfl, rfl, fun _ => rfl, fun _ => rfl, fun _ _ _ => rfl, fun _ _ => nofun, rfl⟩
    · rw [txnSelect_of_kind_ne (by rw [hk]; exact hk1)]
      exact ⟨rfl, rfl, fun _ => rfl, fun _ => rfl, fun _ _ _ => rfl, fun h => absurd h hk1, rfl⟩

/-- A reserved pointer is not taken (R312). -/
theorem i2cPointer_reserved (hf : s.fmon.faults = []) {p : Byte} (hp : ptrValid p = false) : s.i2cPointer p none =
    ((s.hostErr HostErr.BAD_CMD).withTxn (.begun false (ptrKind p) (ptrAddr p) s.i2cCrc)).nacks.txnVoid := by
  unfold i2cPointer
  rw [heard_of_nil hf]
  dsimp only
  rw [hp, txnOpen_eq, hostErr_withTxn]
  rfl

theorem i2cPointerWrite_valid (h : s.i2cIdle) {a p : Byte} (ha : a = s.i2cAddrByte) (hp : ptrValid p = true) :
    ∃ t, exec (.i2cPointerWrite ⟨a, p⟩ none) s = .next t ∧ t.port.ptr = p ∧
       t.port.nack = false ∧ (ptrKind p ≠ 1 → t.regs = s.regs) ∧ (p ≠ 0xA1 → t.pwr = s.pwr) ∧
       (∀ q, q ≠ Reg.WIN_SEL → q ≠ Reg.WIN_STAT → t.reg q = s.reg q) ∧
       (ptrKind p = 1 → p.toNat % 16 ≠ 0 → s.mainUp = true → t.winCode = p.toNat % 16) ∧
       t = { s with regs := t.regs, port := t.port, pwr := t.pwr,
                    queue := { s.queue with seen := s.queue.items.length } } := by
  obtain ⟨-, -, -, -, hf, hc⟩ := i2cIdle_iff.1 h
  obtain ⟨t, ht, hptr, hn, hr, hw, hq, hcode, hframe⟩ := i2cPointer_frame (s := s.clocked) hf hc hp
  have hx := (exec_i2cPointerWrite h a p).trans (congrArg Host.Outcome.next
    ((i2cStart_own h false (ha.trans (by simp)) fun u => u.i2cPointer p none).trans ht))
  exact ⟨t, hx, hptr, hn, hr, hw, hq, hcode, hframe⟩

theorem i2cPointerWrite_reserved (h : s.i2cIdle) {a p : Byte} (ha : a = s.i2cAddrByte) (hp : ptrValid p = false) :
    ∃ t, exec (.i2cPointerWrite ⟨a, p⟩ none) s = .next t ∧
       t.port.ptr = s.port.ptr ∧ t.port.nack = true ∧ t.flag Reg.HOST_STAT HostErr.BAD_CMD = true ∧
       (∀ q, q ≠ Reg.HOST_STAT → q ≠ Reg.INT_STAT → t.reg q = s.reg q) ∧
       t = { s with regs := t.regs, port := t.port, queue := { s.queue with seen := s.queue.items.length } } := by
  obtain ⟨-, hs, -, -, hf, -⟩ := i2cIdle_iff.1 h
  have hx := (exec_i2cPointerWrite h a p).trans (congrArg Host.Outcome.next
    ((i2cStart_own h false (ha.trans (by simp)) fun u => u.i2cPointer p none).trans
      (i2cPointer_reserved (s := s.clocked) hf hp)))
  have hw := hostErr_frame (s := s.clocked) HostErr.BAD_CMD
  have hb := hostErr_flag (s := s.clocked) (b := HostErr.BAD_CMD) (by decide)
  have hr (q : RegId) := reg_hostErr_ne (s := s.clocked) HostErr.BAD_CMD (q := q)
  generalize s.clocked.hostErr HostErr.BAD_CMD = w at *
  refine ⟨_, hx, ?_, ?_, hb, fun q hq hi => hr q hq hi, ?_⟩
  · exact (congrArg (fun w : State => w.port.ptr) hw).trans rfl
  · exact (congrArg (fun w : State => w.aon.hsel) hw).trans hs
  · rw [hw]
    rfl

/-! ### One word read -/

/-- A word of a register that an I2C read delivers; the pointer then names the next one (R312). -/
theorem i2cRead_register {r : RegId} {t : Txn} (hp : plainRead r) (hk : t.kind = 0) (ha : t.addr = r.val)
    (hd : t.dead = false) (hc : t.crcOn = false) (hm : s.answers r.val = true) : ∃ u, State.i2cRead 1 (s.withTxn t) =
      (bytesOfWord (s.viewReg r), ((s.voted (needsMain r.val)).queueSync.pointed (BitVec.ofNat 8 (r.val + 1))).withTxn u) := by
  obtain ⟨q, hq⟩ := capture_register (s := s) hp hk ha hm
  have hn : t.needsMain = true → s.mainUp = true := fun h =>
    mainUp_of_answers hm ((needsMain_register hk ha).symm.trans h)
  have hh : (!t.dead && t.needsMain && !(s.withTxn t).mainUp) = false := by
    cases h : t.needsMain with
    | false => simp
    | true =>
      have : (s.withTxn t).mainUp = true := hn h
      simp [this]
  have hst : (!t.dead && (s.withTxn t).stallsNow t) = false := by simp [stallsNow, hk]
  have hx : State.i2cRead 1 (s.withTxn t) = (
      if !t.dead && t.needsMain && !(s.withTxn t).mainUp then
        let u := (s.withTxn t).i2cHold (.read 1)
        if u.port.stretch.isSome then ([], u)
        else
          let h := u.wordOut t 0xFFFF
          let rest := State.i2cRead 0 h.2
          (h.1 ++ rest.1, rest.2)
      else if !t.dead && (s.withTxn t).stallsNow t then
        ([], { (s.withTxn t) with queue := { (s.withTxn t).queue with stream := .stalled } })
      else
        let r := (s.withTxn t).i2cCapture t
        let h := r.2.wordOut t r.1
        let rest := State.i2cRead 0 h.2
        (h.1 ++ rest.1, rest.2)) := rfl
  have hr : (r.val + 1) % 128 = r.val + 1 := by
    have : r.val < 80 := r.isLt
    omega
  have hcap : (s.withTxn t).i2cCapture t = (s.viewReg r, ((s.voted (needsMain r.val)).queueSync.pointed
      (BitVec.ofNat 8 (r.val + 1))).withTxn { t.addressing (needsMain r.val) with addr := (r.val + 1) % 128, queue := q }) := by
    unfold i2cCapture
    rw [if_neg (by simp [hd]), if_neg (by simp [hk]), hq]
    dsimp only
    have hnext : t.nextAddr = r.val + 1 := by
      unfold Txn.nextAddr
      rw [hk, ha]
      exact hr
    rw [if_pos hk, hnext]
    rfl
  rw [hx, if_neg (by simp [hh]), if_neg (by simp [hst]), hcap]
  dsimp only
  rw [wordOut_withTxn, if_neg (by simp [hc])]
  exact ⟨_, Prod.ext (List.append_nil _) rfl⟩

/-- What a word that an I2C read delivers leaves. -/
theorem driven_pointed (hf : s.fmon.faults = []) (m : Bool) (p : Byte) (u : Txn) (l : List Byte) : ∃ P,
    (((s.voted m).queueSync.pointed p).withTxn u).drives l = { s with
      port := P, queue := { s.queue with seen := s.queue.items.length } } ∧ P.out = l ∧ P.ptr = p ∧
      P.stretch = s.port.stretch := by
  rw [drives_of_nil (s := ((s.voted m).queueSync.pointed p).withTxn u) ((voted_faults m).trans hf), voted_frame]
  exact ⟨_, rfl, rfl, rfl, rfl⟩

theorem clocked_synced_port (p : Port) : ({ s.clocked with
    port := p, queue := { s.clocked.queue with seen := s.clocked.queue.items.length } } : State) = { s with
    port := p, queue := { s.queue with seen := s.queue.items.length } } := rfl

/-- The pointer kinds of the register addresses (Table 10.5). -/
theorem ptr_register (r : RegId) : ptrKind (BitVec.ofNat 8 r.val) = 0 ∧ ptrAddr (BitVec.ofNat 8 r.val) = r.val ∧
    (BitVec.ofNat 8 r.val : Byte) ≠ 0xA1 := by
  have h : r.val < 80 := r.isLt
  have hk : ptrKind (BitVec.ofNat 8 r.val) = 0 := by
    refine if_pos ?_
    rw [BitVec.lt_def, BitVec.toNat_ofNat]
    change r.val % 256 < 128
    omega
  refine ⟨hk, ?_, fun he => ?_⟩
  · rw [ptrAddr, hk, firstAddr_register]
  · have := congrArg BitVec.toNat he
    rw [BitVec.toNat_ofNat] at this
    change r.val % 256 = 161 at this
    omega

theorem i2cDataRead_register (h : s.i2cIdle) {a : Byte} {r : RegId} (ha : a = s.i2cAddrByte + 1)
    (hm : s.answers r.val = true) (hp : plainRead r) (hptr : s.port.ptr = BitVec.ofNat 8 r.val) :
    ∃ t, exec (.i2cDataRead ⟨some a, 1⟩) s = .next t ∧ t.port.out = bytesOfWord (s.queueSync.viewReg r) ∧
      t.port.ptr = BitVec.ofNat 8 (r.val + 1) ∧
      t = { s with port := t.port, queue := { s.queue with seen := s.queue.items.length } } := by
  obtain ⟨hup, hs, -, hst, hf, hc⟩ := i2cIdle_iff.1 h
  obtain ⟨hk, haddr, hne⟩ := ptr_register r
  have hptr' : s.clocked.port.ptr = BitVec.ofNat 8 r.val := hptr
  have hcc : s.clocked.i2cCrc = false := hc
  have hx : exec (.i2cDataRead ⟨some a, 1⟩) s = .next (s.clocked.i2cReads 1) := by
    refine congrArg Host.Outcome.next ((if_pos (by simp [hup, hs])).trans ((if_neg ?_).trans
      (i2cStart_own h true ha fun u => u.i2cReads 1)))
    have hq : s.quiet.port.stretch = none := hst
    simp [hq]
  have hreads : s.clocked.i2cReads 1 = (State.i2cRead 1 (s.clocked.withTxn (.begun true 0 r.val false))).2.drives
      (State.i2cRead 1 (s.clocked.withTxn (.begun true 0 r.val false))).1 := by
    unfold i2cReads
    rw [txnOpen_eq, hptr', hk, haddr, hcc]
    dsimp only
    rw [if_neg (by exact (congrArg (· = (0xA1 : Byte)) hptr').mp.mt hne), txnSelect_of_kind_ne (by exact Nat.zero_ne_one)]
    rfl
  obtain ⟨u, hu⟩ := i2cRead_register (s := s.clocked) (t := .begun true 0 r.val false) hp rfl rfl rfl rfl hm
  have hv : s.clocked.viewReg r = s.queueSync.viewReg r := viewReg_port_of_vote (s := s.queueSync) r s.clocked.port rfl
  obtain ⟨P, hd, ho, hP, -⟩ := driven_pointed (s := s.clocked) hf (needsMain r.val) (BitVec.ofNat 8 (r.val + 1)) u
    (bytesOfWord (s.queueSync.viewReg r))
  rw [hreads, hu, hv] at hx
  dsimp only at hx
  rw [hd, clocked_synced_port] at hx
  exact ⟨_, hx, ho, hP, rfl⟩

/-! ### One word written -/

theorem quiet_withTxn {x : Txn} (h : s.port.txn = some x) : s.quiet = s.quiet.withTxn x := by
  rw [withTxn, ← h]
  rfl

theorem i2cWrite_register {r : RegId} {t : Txn} (hf : s.fmon.faults = []) (hk : t.kind = 0) (ha : t.addr = r.val)
    (hd : t.dead = false) (hrd : t.rd = false) (hc : t.crcOn = false) (hm : s.answers r.val = true) (hp : plainWritten r)
    (v : Word) : (s.withTxn t).i2cWrite [⟨v, none⟩] = (((s.voted (needsMain r.val)).plainWrite r v).queueSync).withTxn
      { ({ t with crc := crc8From t.crc (bytesOfWord v) } : Txn).addressing (needsMain r.val) with
        addr := (r.val + 1) % 128 } := by
  have hn : t.needsMain = true → s.mainUp = true := fun h =>
    mainUp_of_answers hm ((needsMain_register hk ha).symm.trans h)
  have hh : (t.needsMain && !(s.withTxn t).mainUp) = false := by
    cases h : t.needsMain with
    | false => rfl
    | true =>
      have : (s.withTxn t).mainUp = true := hn h
      simp [this]
  have hx : (s.withTxn t).i2cWrite [⟨v, none⟩] = (
      if t.dead || t.rd then s.withTxn t
      else if 2 ≤ t.kind then (s.withTxn t).i2cReadOnly
      else if t.needsMain && !(s.withTxn t).mainUp then (s.withTxn t).i2cHold (.write [⟨v, none⟩])
      else (s.withTxn t).takeWire t ⟨v, none⟩ State.commitWord) := rfl
  rw [hx, if_neg (by simp [hd, hrd]), if_neg (by simp [hk]), if_neg (by simp [hh]), takeWire_noCrc hf (by simp [hk]) hc,
    commitWord_register hp hk ha (by exact hk) (by exact ha) hm]

/-- What a register write of a transaction leaves, but for the port and what the read side of the queue sees. -/
theorem voted_plainWrite_frame (m : Bool) (r : RegId) (v : Word) (t : Txn) :
    (((s.voted m).plainWrite r v).queueSync).withTxn t = { s.plainWrite r v with
      port := { (s.voted m).port with txn := some t }, queue := { s.queue with seen := s.queue.items.length } } := by
  cases m <;> rfl

theorem voted_nack (m : Bool) : (s.voted m).port.nack = s.port.nack := by
  cases m <;> rfl

theorem i2cDataWrite_register {x : Txn} {r : RegId} (v : Word) (hup : s.aonUp = true) (hs : s.aon.hsel = true)
    (hf : s.fmon.faults = []) (hx : s.port.txn = some x) (hst : s.port.stretch = none) (hrd : x.rd = false) (hk : x.kind = 0)
    (ha : x.addr = r.val) (hd : x.dead = false) (hc : x.crcOn = false) (hm : s.answers r.val = true) (hp : plainWritten r) :
    ∃ t, exec (.i2cDataWrite [⟨v, none⟩]) s = .next t ∧
      t.reg r = writtenWord r (s.reg r) v ∧ (∀ q, q ≠ r → t.reg q = s.reg q) ∧ t.port.nack = false ∧
      (∃ y, t.port.txn = some y ∧ y.addr = (r.val + 1) % 128 ∧ y.dead = false) ∧
      t = { s with regs := t.regs, port := t.port, queue := t.queue } := by
  have he : exec (.i2cDataWrite [⟨v, none⟩]) s = .next ((s.quiet.withTxn x).i2cWrite [⟨v, none⟩]) := by
    rw [← quiet_withTxn hx]
    refine congrArg Host.Outcome.next ((if_pos (by simp [hup, hs])).trans (if_neg ?_))
    have hq : s.quiet.port.stretch = none := hst
    simp [hq]
  rw [i2cWrite_register (s := s.quiet) hf hk ha hd hrd hc hm hp, voted_plainWrite_frame] at he
  refine ⟨_, he, writtenWord_eq r v, fun q hq => reg_plainWrite_ne v hq, ?_, ⟨_, rfl, rfl, hd⟩, rfl⟩
  exact voted_nack (s := s.quiet) _

/-! ### The end of a stretch -/

theorem stretchOver_read {x : Txn} (hk : x.kind = 0) (n : Nat) : (s.withTxn x).stretchOver (.read n) =
    (State.i2cRead n ({ s with port := { s.port with stretch := none } }.withTxn x)).2.drives
      (State.i2cRead n ({ s with port := { s.port with stretch := none } }.withTxn x)).1 := by
  have ht : ({ s with port := { s.port with stretch := none } } : State).withTxn x =
      ({ (s.withTxn x) with port := { (s.withTxn x).port with stretch := none } } : State) := rfl
  unfold stretchOver
  rw [← ht, txnSelect_of_kind_ne (by simp [hk])]

theorem i2cStretchRelease_register {x : Txn} {r : RegId} (hup : s.aonUp = true) (hs : s.aon.hsel = true)
    (hf : s.fmon.faults = []) (hx : s.port.txn = some x) (hst : s.port.stretch = some (.read 1)) (hk : x.kind = 0)
    (ha : x.addr = r.val) (hd : x.dead = false) (hc : x.crcOn = false) (hm : s.mainUp = true) (hp : plainRead r) : ∃ t,
    exec .i2cStretchRelease s = .next t ∧ t.port.stretch = none ∧ t.port.out = bytesOfWord (s.viewReg r) := by
  have he : exec .i2cStretchRelease s = .next ((s.quiet.withTxn x).stretchOver (.read 1)) := by
    rw [← quiet_withTxn hx]
    refine congrArg Host.Outcome.next ((if_pos (by simp [hup, hs])).trans ?_)
    have hq : s.quiet.port.stretch = some (.read 1) := hst
    dsimp only
    rw [hq]
    exact if_pos hm
  generalize hu : ({ s.quiet with port := { s.quiet.port with stretch := none } } : State) = u at *
  have hm' : u.answers r.val = true := by
    have hup' : u.mainUp = true := by
      rw [← hu]
      exact hm
    have haon : u.aonUp = true := by
      rw [← hu]
      exact hup
    rw [answers, hup', haon, ite_self]
  have hv : u.viewReg r = s.viewReg r := by
    rw [← hu]
    exact viewReg_port_of_vote (s := s) r _ rfl
  obtain ⟨y, hy⟩ := i2cRead_register (s := u) hp hk ha hd hc hm'
  obtain ⟨P, hd, ho, -, hP⟩ := driven_pointed (s := u) (by rw [← hu]; exact hf) (needsMain r.val) (BitVec.ofNat 8 (r.val + 1)) y
    (bytesOfWord (s.viewReg r))
  rw [stretchOver_read hk, hu, hy, hv] at he
  dsimp only at he
  rw [hd] at he
  refine ⟨_, he, hP.trans ?_, ho⟩
  rw [← hu]

/-- A read whose stretch has timed out delivers ones (R325). -/
theorem i2cRead_dead {t : Txn} (hd : t.dead = true) (hc : t.crcOn = false) : ∃ u, State.i2cRead 1 (s.withTxn t) =
    ([0xFF, 0xFF], s.withTxn u) := by
  have hx : State.i2cRead 1 (s.withTxn t) = (
      if !t.dead && t.needsMain && !(s.withTxn t).mainUp then
        let u := (s.withTxn t).i2cHold (.read 1)
        if u.port.stretch.isSome then ([], u)
        else
          let h := u.wordOut t 0xFFFF
          let rest := State.i2cRead 0 h.2
          (h.1 ++ rest.1, rest.2)
      else if !t.dead && (s.withTxn t).stallsNow t then
        ([], { (s.withTxn t) with queue := { (s.withTxn t).queue with stream := .stalled } })
      else
        let r := (s.withTxn t).i2cCapture t
        let h := r.2.wordOut t r.1
        let rest := State.i2cRead 0 h.2
        (h.1 ++ rest.1, rest.2)) := rfl
  have hcap : (s.withTxn t).i2cCapture t = (0xFFFF, s.withTxn t) := if_pos hd
  rw [hx, if_neg (by simp [hd]), if_neg (by simp [hd]), hcap]
  dsimp only
  rw [wordOut_withTxn, if_neg (by simp [hc])]
  exact ⟨_, rfl⟩

theorem i2cStretchTimeout_read {x : Txn} (hup : s.aonUp = true) (hs : s.aon.hsel = true)
    (hf : s.fmon.faults = []) (hx : s.port.txn = some x) (hst : s.port.stretch = some (.read 1)) (hk : x.kind = 0)
    (hc : x.crcOn = false) (hm : s.mainUp = false) : ∃ t,
    exec .i2cStretchTimeout s = .next t ∧ t.port.stretch = none ∧ t.port.out = [0xFF, 0xFF] ∧
      t.flag Reg.HOST_STAT HostErr.NR_TO = true ∧ t.flag Reg.INT_STAT Irq.HOST = true := by
  have he : exec .i2cStretchTimeout s =
      .next (((s.quiet.hostErr HostErr.NR_TO).withTxn { x with dead := true }).stretchOver (.read 1)) := by
    have hw : ((s.quiet.withTxn x).hostErr HostErr.NR_TO).txnDies =
        (s.quiet.hostErr HostErr.NR_TO).withTxn { x with dead := true } := by
      rw [hostErr_withTxn]
      rfl
    rw [← hw, ← quiet_withTxn hx]
    refine congrArg Host.Outcome.next ((if_pos (by simp [hup, hs])).trans ?_)
    have hq : s.quiet.port.stretch = some (.read 1) := hst
    dsimp only
    rw [hq]
    have hoff : ¬ s.quiet.mainUp = true := fun h => absurd (hm.symm.trans h) Bool.false_ne_true
    exact if_neg hoff
  have hnr := hostErr_flag (s := s.quiet) (b := HostErr.NR_TO) (by decide)
  have hfl : (s.quiet.hostErr HostErr.NR_TO).fmon.faults = [] := by
    rw [hostErr_frame]
    exact hf
  have hirq : (s.quiet.hostErr HostErr.NR_TO).flag Reg.INT_STAT Irq.HOST = true := by
    have : s.quiet.hostErr HostErr.NR_TO = (s.quiet.setFlag Reg.HOST_STAT HostErr.NR_TO true).raise Irq.HOST := by
      unfold hostErr
      exact if_neg (by decide)
    rw [this]
    exact flag_raise_same _ (by decide)
  generalize s.quiet.hostErr HostErr.NR_TO = w at *
  obtain ⟨y, hy⟩ := i2cRead_dead (s := { w with port := { w.port with stretch := none } })
    (t := { x with dead := true }) rfl hc
  rw [stretchOver_read (by exact hk), hy] at he
  dsimp only at he
  rw [drives_of_nil (by exact hfl)] at he
  exact ⟨_, he, rfl, rfl, hnr, hirq⟩

end State

open State in
/-- Settles O41: the pointer, then one word of the register that it names; a stretch ends with its word, or with ones. -/
theorem i2cTransfers : Obligations.I2cTransfers := by
  refine ⟨fun s r a p h => ⟨fun ha => ?_, fun ha hp => i2cPointerWrite_valid h ha hp,
      fun ha hp => i2cPointerWrite_reserved h ha hp, fun ha hm hp hptr => i2cDataRead_register h ha hm hp hptr⟩,
    fun s x r v hup hs hf hx hst hrd hk ha hd hc hm hp => i2cDataWrite_register v hup hs hf hx hst hrd hk ha hd hc hm hp,
    fun s x r hup hs hf hx hst hk ha hd hc _ => ⟨fun hm hp => i2cStretchRelease_register hup hs hf hx hst hk ha hd hc hm hp,
      fun hm => i2cStretchTimeout_read hup hs hf hx hst hk hc hm⟩⟩
  rw [exec_i2cPointerWrite h, i2cStart_other h false (by simpa using ha)]

end Sys2Proof.Machine
end

section
/-! PROOFS. The read side of the queue: RPT_DATA, words of a stream burst, and the stalls of a burst (R286 to R288). -/

namespace Sys2Proof.Machine
namespace State

variable {s : State}

/-! ### The next word of the oldest item -/

theorem readErr_of_no_errs (h : s.fmon.memErrs = []) (m : MemId) (a : Nat) : s.readErr m a = (0, s) :=
  s.readErr_none (memErr_of_no_errs _ h m a)

theorem getElem_eq_getD (r : Rec) {i : Nat} (h : i < 8) : r[i % 8]'(Nat.mod_lt _ (by decide)) = r.toList.getD i 0 := by
  have hm : i % 8 = i := Nat.mod_eq_of_lt h
  have hl : i < r.toList.length := by simpa using h
  rw [List.getD_eq_getElem _ _ hl, Vector.getElem_toList]
  congr 1

theorem wordTaken_frame (w : Word) (rest : List Rec) : ∃ q, s.wordTaken w rest = { s with queue := q } ∧ q.last = w ∧
    q.word = (s.queue.word + 1) % 8 ∧ q.items = (if (s.queue.word + 1) % 8 = 0 then rest else s.queue.items) ∧
    q.staged = s.queue.staged := by
  unfold wordTaken
  rw [queueVote_frame]
  exact ⟨_, rfl, rfl, rfl, rfl, rfl⟩

/-- The word that the queue delivers, and what it leaves (R286). -/
theorem takeWord_item {r : Rec} {rest : List Rec} (he : s.fmon.memErrs = []) (hc : s.queue.cut = false)
    (hw : s.queue.word < 8) (hi : s.queue.items = r :: rest) :
    ∃ q, s.takeWord = (r.toList.getD s.queue.word 0, { s with queue := q }) ∧ q.last = r.toList.getD s.queue.word 0 ∧
      q.word = (s.queue.word + 1) % 8 ∧ q.items = (if s.queue.word = 7 then rest else r :: rest) ∧
      q.staged = s.queue.staged := by
  have hx : s.takeWord = (r.toList.getD s.queue.word 0, s.wordTaken (r.toList.getD s.queue.word 0) rest) := by
    unfold takeWord
    dsimp only
    rw [if_neg (by simp [hc]), hi]
    dsimp only
    rw [readErr_of_no_errs he, getElem_eq_getD r hw]
    have h0 (v : Word) : v ^^^ word 0 = v := BitVec.xor_zero
    rw [h0]
  obtain ⟨q, hq, hl, hword, hitems, hst⟩ := wordTaken_frame (s := s) (r.toList.getD s.queue.word 0) rest
  refine ⟨q, hx.trans (by rw [hq]), hl, hword, hitems.trans ?_, hst⟩
  rw [hi]
  by_cases h7 : s.queue.word = 7
  · rw [h7]
    rfl
  · rw [if_neg h7, if_neg (by omega)]

theorem queueReady_of_seen (hs : s.queue.stopped = false) (h : s.queue.seen ≠ 0) : s.queueReady = true := by
  simp [queueReady, hs, h]

theorem not_queueReady (hc : s.queue.cut = false) (hw : s.queue.word = 0) (h : s.queue.seen = 0) : s.queueReady = false := by
  simp [queueReady, hc, hw, h]

/-! ### RPT_DATA -/

theorem exec_rptDataRead (hm : s.mainUp = true) : exec .rptDataRead s = .next { s.queueSync.readRptData.2 with
    port := { s.queueSync.readRptData.2.port with out := bytesOfWord s.queueSync.readRptData.1 } } :=
  congrArg Host.Outcome.next (if_pos hm)

theorem rptDataRead_item {r : Rec} {rest : List Rec} (hm : s.mainUp = true) (he : s.fmon.memErrs = [])
    (hc : s.queue.cut = false) (hw : s.queue.word < 8) (hs : s.queue.stopped = false) (hi : s.queue.items = r :: rest) :
    ∃ t, exec .rptDataRead s = .next t ∧ t.port.out = bytesOfWord (r.toList.getD s.queue.word 0) ∧
      t.queue.last = r.toList.getD s.queue.word 0 ∧ t.queue.word = (s.queue.word + 1) % 8 ∧
      t.queue.items = (if s.queue.word = 7 then rest else r :: rest) ∧ t.queue.staged = s.queue.staged ∧
      t = { s with queue := t.queue, pwr := t.pwr, seq := t.seq, port := { s.port with out := t.port.out } } := by
  obtain ⟨q, hq, hl, hword, hitems, hst⟩ := takeWord_item (s := s.queueSync) he hc hw hi
  have hrdy : s.queueSync.queueReady = true := queueReady_of_seen hs (by
    change s.queue.items.length ≠ 0
    simp [hi])
  have hx : s.queueSync.readRptData = (r.toList.getD s.queue.word 0, s.queueSync.settle { s.queueSync with queue := q }) := by
    unfold readRptData
    rw [if_pos hrdy, hq]
    rfl
  have he := exec_rptDataRead hm
  rw [hx, settle_frame] at he
  exact ⟨_, he, rfl, hl, hword, hitems, hst, rfl⟩

theorem rptDataRead_empty (hm : s.mainUp = true) (hc : s.queue.cut = false) (hi : s.queue.items = [])
    (hw : s.queue.word = 0) : ∃ t, exec .rptDataRead s = .next t ∧ t.port.out = bytesOfWord s.queue.last ∧
      t.flag Reg.RPT_STAT 13 = true ∧ (∀ q, q ≠ Reg.RPT_STAT → t.reg q = s.reg q) ∧
      t = { s with regs := t.regs, queue := { s.queue with seen := 0 }, port := { s.port with out := t.port.out } } := by
  have hseen : s.queueSync = { s with queue := { s.queue with seen := 0 } } := by
    rw [queueSync, hi]
    rfl
  have hx (u : State) (h : u.queueReady = false) : u.readRptData = (u.queue.last, u.setFlag Reg.RPT_STAT 13 true) :=
    if_neg (by simp [h])
  have he := exec_rptDataRead hm
  rw [hx s.queueSync (not_queueReady hc hw (congrArg List.length hi))] at he
  generalize s.queueSync = u at *
  refine ⟨_, he, ?_, ?_, fun q hq => ?_, ?_⟩
  · rw [hseen]
  · exact flag_setFlag_same u _ _ _ (by decide)
  · refine (reg_setFlag_ne u _ _ hq).trans ?_
    rw [hseen]
    rfl
  · rw [hseen]
    rfl

/-! ### Words of a stream burst over SPI -/

/-- A word of a burst that the queue has (R288). -/
theorem streamWord_item {r : Rec} {rest : List Rec} (he : s.fmon.memErrs = []) (hc : s.queue.cut = false)
    (hw : s.queue.word < 8) (hs : s.queue.stopped = false) (hf : s.queue.stream ≠ .filler) (hi : s.queue.items = r :: rest)
    (hn : s.queue.seen ≠ 0) : ∃ q p sq, s.streamWord = (r.toList.getD s.queue.word 0, { s with
      queue := q, pwr := p, seq := sq }) ∧ q.word = (s.queue.word + 1) % 8 ∧ q.stream = .running := by
  obtain ⟨q, hq, -, hword, -, -⟩ := takeWord_item he hc hw hi
  unfold streamWord
  rw [if_neg hf, if_neg (by simp [hs]), if_pos (queueReady_of_seen hs hn), hq]
  dsimp only
  rw [settle_frame]
  exact ⟨_, _, _, rfl, hword, rfl⟩

theorem streamWord_filler (hf : s.queue.stream = .filler) : s.streamWord = (0xFFFF, s) := if_pos hf

/-- One word of a burst that an SPI transaction reads. -/
theorem spiRead_stream {t : Txn} (hm : s.mainUp = true) (hk : t.kind = 2) (hd : t.dead = false) (hc : t.crcOn = false) :
    ∃ f : Txn → Txn, State.spiRead 1 (s.withTxn t) =
      (bytesOfWord ((s.voted true).withTxn { t with needs := true }).streamWord.1,
        ((s.voted true).withTxn { t with needs := true }).streamWord.2.queueSync.onTxn f) := by
  have hn : t.needsMain = true := by
    unfold Txn.needsMain
    rw [hk]
    rfl
  have hcap : ∃ f : Txn → Txn, (s.withTxn t).capture t = (((s.voted true).withTxn { t with needs := true }).streamWord.1,
      ((s.voted true).withTxn { t with needs := true }).streamWord.2.queueSync.onTxn f) := by
    have hw (u : State) : u.portWord t = u.streamWord := by
      unfold portWord
      rw [hk]
      rfl
    unfold capture
    rw [if_pos hn, touchMain_of_mainUp hm, txnSelect_of_kind_ne (by simp [hk])]
    dsimp only
    rw [hw]
    exact ⟨_, rfl⟩
  obtain ⟨f, hf⟩ := hcap
  have hon (u : State) (g h : Txn → Txn) : (u.onTxn g).onTxn h = u.onTxn (h ∘ g) := by
    unfold onTxn
    rw [← Option.map_map]
  rw [spiRead_one t hd fun _ => hm, hf]
  unfold wordOut
  dsimp only
  rw [if_neg (by simp [hc]), hon]
  exact ⟨_, rfl⟩

/-- What a word of a burst leaves of the queue, whatever is then driven. -/
theorem drives_queue (u : State) (l : List Byte) (f : Txn → Txn) :
    ((u.queueSync.onTxn f).drives l).queue = { u.queue with seen := u.queue.items.length } := rfl

theorem drives_flag (u : State) (l : List Byte) (f : Txn → Txn) (r : RegId) (b : Nat) :
    ((u.queueSync.onTxn f).drives l).flag r b = u.flag r b := rfl

theorem voted_flag {r : RegId} {b : Nat} (m : Bool) : (s.voted m).flag r b = s.flag r b := by
  cases m <;> rfl

theorem voted_queue (m : Bool) : (s.voted m).queue = s.queue := by
  cases m <;> rfl

theorem drives_out (h : s.fmon.faults = []) (l : List Byte) : (s.drives l).port.out = l := by
  rw [drives_of_nil h]

/-- A word of an item that a burst delivers. -/
theorem spiRead_item {r : Rec} {rest : List Rec} {t : Txn} (hm : s.mainUp = true) (hk : t.kind = 2) (hd : t.dead = false)
    (hcrc : t.crcOn = false) (hfl : s.fmon.faults = []) (he : s.fmon.memErrs = []) (hc : s.queue.cut = false)
    (hw : s.queue.word < 8) (hs : s.queue.stopped = false) (hf : s.queue.stream ≠ .filler) (hi : s.queue.items = r :: rest)
    (hn : s.queue.seen ≠ 0) : ∃ u, State.spiRead 1 (s.withTxn t) = (bytesOfWord (r.toList.getD s.queue.word 0), u) ∧
      u.fmon.faults = [] ∧ ∀ l, (u.drives l).queue.word = (s.queue.word + 1) % 8 ∧
      (u.drives l).queue.stream = .running := by
  obtain ⟨f, hx⟩ := spiRead_stream (s := s) hm hk hd hcrc
  obtain ⟨q, p, sq, hq, hword, hst⟩ := streamWord_item (s := (s.voted true).withTxn { t with needs := true })
    he hc hw hs hf hi hn
  rw [hq] at hx
  exact ⟨_, hx, hfl, fun l => ⟨hword, hst⟩⟩

theorem badCommand_stream : badCommand true 2 0 (BitVec.ofNat 8 0) = false := rfl

/-- A stream transaction begins with a word of the oldest item. -/
theorem streamRead_item {r : Rec} {rest : List Rec} (h : s.spiIdle) (hm : s.mainUp = true) (he : s.fmon.memErrs = [])
    (hc : s.queue.cut = false) (hw : s.queue.word < 8) (hs : s.queue.stopped = false) (hoff : s.queue.stream = .off)
    (hi : s.queue.items = r :: rest) : ∃ t, exec (.streamRead (.spi true (spiHdr 0)) 1) s = .next t ∧
      t.port.out = [0, 0, s.statusByte 4] ++ bytesOfWord (r.toList.getD s.queue.word 0) ∧
      t.queue.word = (s.queue.word + 1) % 8 ∧ t.queue.stream = .running := by
  have hf := spiIdle_clocked h
  have hx : exec (.streamRead (.spi true (spiHdr 0)) 1) s = .next (s.spiRow true 2 (some (spiHdr 0)) [] 1) := rfl
  have hgo (u : State) (T : Txn) (hu : u.mainUp = true) (hk : T.kind = 2) :
      (u.withTxn T).spiGo true 2 (BitVec.ofNat 8 0) false [] 1 =
        ((u.voted true).withTxn { T with needs := true }).spiServe false 1 := by
    unfold spiGo
    rw [show firstNeedsMain true 2 (BitVec.ofNat 8 0) = true from rfl]
    dsimp only
    rw [if_pos rfl, touchMain_of_mainUp hu, if_pos rfl, if_neg, txnSelect_of_kind_ne (by simp [hk])]
    have : ((u.voted true).withTxn { T with needs := true }).mainUp = true := hu
    rw [this]
    exact Bool.false_ne_true
  unfold spiHdr at hx
  rw [spiRow_accepted h true (by decide) _ _ _ _ badCommand_stream (by simp), Option.isSome_none, hgo s.clocked _ hm rfl] at hx
  generalize hT : ({ Txn.begun true 2 (firstAddr 2 (BitVec.ofNat 8 0)) false with needs := true } : Txn) = T at *
  have hk : T.kind = 2 ∧ T.dead = false ∧ T.crcOn = false := by
    rw [← hT]
    exact ⟨rfl, rfl, rfl⟩
  obtain ⟨hk, hd, hcrc⟩ := hk
  have hserve : ((s.clocked.voted true).withTxn T).spiServe false 1 =
      (State.spiRead 1 ((s.clocked.voted true).withTxn { T with crc := crc8 [s.statusByte 4] })).2.drives
        ([0, 0, s.statusByte 4] ++
          (State.spiRead 1 ((s.clocked.voted true).withTxn { T with crc := crc8 [s.statusByte 4] })).1) := by
    have hy : ((s.clocked.voted true).withTxn T).statusByte 4 = s.statusByte 4 := voted_statusByte (s := s.clocked) true T 4
    unfold spiServe
    rw [status_same]
    dsimp only
    rw [hy]
    rfl
  obtain ⟨u, hu, hfu, hq⟩ := spiRead_item (s := s.clocked.voted true) (t := { T with crc := crc8 [s.statusByte 4] })
    hm hk hd hcrc hf he hc hw hs (by change s.queue.stream ≠ .filler; simp [hoff]) hi
    (by change s.queue.items.length ≠ 0; simp [hi])
  rw [hserve, hu] at hx
  obtain ⟨hword, hst⟩ := hq ([0, 0, s.statusByte 4] ++ bytesOfWord (r.toList.getD s.queue.word 0))
  exact ⟨_, hx, drives_out hfu _, hword, hst⟩

theorem streamOn_spi (hs : s.aon.hsel = false) : s.streamOn 1 = (State.spiRead 1 s).2.drives (State.spiRead 1 s).1 := by
  unfold streamOn
  rw [hs]
  rfl

theorem streamResume_item {r : Rec} {rest : List Rec} {x : Txn} (hm : s.mainUp = true) (he : s.fmon.memErrs = [])
    (hc : s.queue.cut = false) (hw : s.queue.word < 8) (hs : s.queue.stopped = false) (hsel : s.aon.hsel = false)
    (hf : s.fmon.faults = []) (hx : s.port.txn = some x) (hk : x.kind = 2) (hd : x.dead = false) (hcrc : x.crcOn = false)
    (hst : s.queue.stream = .stalled) (hi : s.queue.items = r :: rest) : ∃ t, exec (.streamResume 1) s = .next t ∧
      t.port.out = bytesOfWord (r.toList.getD s.queue.word 0) ∧ t.queue.stream = .running := by
  have hrdy : s.queueSync.queueReady = true := queueReady_of_seen hs (by
    change s.queue.items.length ≠ 0
    simp [hi])
  have hw' : s.clocked.withTxn x = s.clocked := (congrArg State.queueSync (quiet_withTxn hx)).symm
  have hexec : exec (.streamResume 1) s = .next ((s.clocked.withTxn x).streamOn 1) := by
    rw [hw']
    exact congrArg Host.Outcome.next (if_pos (by simp [hm, hst, hs, hrdy]))
  obtain ⟨u, hu, hfu, hq⟩ := spiRead_item (s := s.clocked) (t := x) hm hk hd hcrc hf he hc hw hs
    (by change s.queue.stream ≠ .filler; simp [hst]) hi (by change s.queue.items.length ≠ 0; simp [hi])
  rw [streamOn_spi (s := s.clocked.withTxn x) hsel, hu] at hexec
  exact ⟨_, hexec, drives_out hfu _, (hq _).2⟩

theorem streamStallTimeout_fills {x : Txn} (hm : s.mainUp = true)
    (hc : s.queue.cut = false) (hs : s.queue.stopped = false) (hsel : s.aon.hsel = false)
    (hf : s.fmon.faults = []) (hx : s.port.txn = some x) (hk : x.kind = 2) (hd : x.dead = false) (hcrc : x.crcOn = false)
    (hst : s.queue.stream = .stalled) (hn : s.queue.seen = 0) (hw : s.queue.word = 0) : ∃ t,
      exec (.streamStallTimeout 1) s = .next t ∧ t.port.out = [0xFF, 0xFF] ∧ t.flag Reg.RPT_STAT 11 = true ∧
      t.queue.items = s.queue.items := by
  have hexec : exec (.streamStallTimeout 1) s = .next ((s.quiet.streamStallOver.withTxn x).streamOn 1) := by
    have hw' : s.quiet.streamStallOver.withTxn x = (s.quiet.withTxn x).streamStallOver := rfl
    rw [hw', ← quiet_withTxn hx]
    exact congrArg Host.Outcome.next (if_pos (by simp [hm, hst, hs, not_queueReady hc hw hn]))
  obtain ⟨f, hr⟩ := spiRead_stream (s := s.quiet.streamStallOver) (t := x) hm hk hd hcrc
  have hfl : s.quiet.streamStallOver.flag Reg.RPT_STAT 11 = true := flag_setFlag_same _ _ _ _ (by decide)
  rw [streamWord_filler rfl] at hr
  rw [streamOn_spi (s := s.quiet.streamStallOver.withTxn x) hsel, hr] at hexec
  have hitems : s.quiet.streamStallOver.queue.items = s.queue.items := rfl
  have hfw : s.quiet.streamStallOver.fmon.faults = [] := hf
  generalize s.quiet.streamStallOver = w at *
  dsimp only at hexec
  have hfo (T : Txn) : (((w.voted true).withTxn T).queueSync.onTxn f).fmon.faults = [] := (voted_faults true).trans hfw
  refine ⟨_, hexec, drives_out (hfo _) _, ?_, ?_⟩
  · rw [drives_flag]
    exact (voted_flag true).trans hfl
  · rw [drives_queue]
    exact (congrArg Queue.items (voted_queue true)).trans hitems

end State

open State in
/-- Settles O40: one word at a time leaves the queue; a burst stalls at an item boundary. -/
theorem reportReads : Obligations.ReportReads := by
  refine ⟨fun s r rest hm he hc hw => ⟨fun hs hi => rptDataRead_item hm he hc hw hs hi,
      fun hi hw => rptDataRead_empty hm hc hi hw⟩,
    fun s r rest hm he hc hw hs => ⟨fun h hoff hi => streamRead_item h hm he hc hw hs hoff hi,
      fun x hsel hf hx hk hd hcrc hst => ⟨fun hi => streamResume_item hm he hc hw hs hsel hf hx hk hd hcrc hst hi,
        fun hn hw => streamStallTimeout_fills hm hc hs hsel hf hx hk hd hcrc hst hn hw⟩⟩⟩

end Sys2Proof.Machine
end

section
/-! PROOFS. The memory windows: the window address, one word read or written in a table that the host may write, and SPI window
transactions (R307, R309, R321, R322). -/

namespace Sys2Proof.Machine

/-- The windows whose words the host reads and writes as they stand (Table 10.6). -/
def plainWindows : List Nat := [5, 6, 7, 8, 14]

namespace State

variable {s : State} {c a : Nat}

/-! ### The window address -/

theorem winAddr_lt : s.winAddr < 131072 := by
  have h₁ : s.fld Reg.WIN_SEL 7 1 < 2 := Nat.mod_lt _ (by decide)
  have h₂ : (s.reg Reg.WIN_ADDR).toNat < 65536 := (s.reg Reg.WIN_ADDR).isLt
  unfold winAddr
  omega

theorem winAddr_congr {t : State} (h : t.regs = s.regs) : t.winAddr = s.winAddr := by
  rw [winAddr, winAddr, fld, fld, reg, reg, reg, reg, h]

theorem winCode_congr {t : State} (h : t.regs = s.regs) : t.winCode = s.winCode := by
  rw [winCode, winCode, fld, fld, reg, reg, h]

theorem winNext_frame : s.winNext = { s with regs := s.winNext.regs } := rfl

theorem winAddr_winNext : s.winNext.winAddr = (s.winAddr + 1) % 131072 := by
  unfold winNext
  generalize hn : (s.winAddr + 1) % 131072 = n
  have hl : n < 131072 := hn ▸ Nat.mod_lt _ (by decide)
  have hw : (word n).toNat = n % 65536 := BitVec.toNat_ofNat n 16
  dsimp only
  rw [winAddr, fld_setFld_same _ _ (by decide), reg_setFld_ne _ _ _ _ (by decide), reg_setReg_same, hw]
  omega

theorem winCode_winNext : s.winNext.winCode = s.winCode := by
  unfold winNext
  dsimp only
  rw [winCode, fld_setFld_disjoint _ _ (by decide) (by decide), fld_setReg_ne _ _ _ _ (by decide), winCode]

theorem reg_winNext_ne {q : RegId} (h : q ≠ Reg.WIN_SEL) (ha : q ≠ Reg.WIN_ADDR) : s.winNext.reg q = s.reg q := by
  unfold winNext
  dsimp only
  rw [reg_setFld_ne _ _ _ _ h, reg_setReg_ne _ _ ha]

theorem winAddr_winSelect (c : Nat) : (s.winSelect c).winAddr = s.winAddr := by
  unfold winSelect
  split
  · rfl
  · have hd : (0 : Nat) + 4 ≤ 7 := by decide
    rw [winAddr, fld_setFld_ne _ _ _ _ _ _ (by decide), fld_setFld_disjoint _ _ (by decide) (.inr hd),
      reg_setFld_ne _ _ _ _ (by decide), reg_setFld_ne _ _ _ _ (by decide), winAddr]

/-! ### Words inside and beyond a window -/

theorem winUnreadable_of_plain (h : c ∈ plainWindows) : winUnreadable c = false := by
  revert c
  decide

theorem winSize_lt_of_plain (h : c ∈ plainWindows) : winSize c < 131072 := by
  revert c
  decide

theorem winForbids_of_plain (h : c ∈ plainWindows) : s.winForbids c a = false := by
  simp only [plainWindows, List.mem_cons, List.not_mem_nil, or_false] at h
  rcases h with rfl | rfl | rfl | rfl | rfl <;> rfl

/-- The access lies beyond a window of the host's tables. -/
theorem beyond_of_plain (h : c ∈ plainWindows) :
    (decide (s.winLimit c ≤ a) && c != 0 && c != 15) = decide (winSize c ≤ a) := by
  simp only [plainWindows, List.mem_cons, List.not_mem_nil, or_false] at h
  rcases h with rfl | rfl | rfl | rfl | rfl <;> simp [winLimit]

theorem winWord_of_plain (he : s.fmon.memErrs = []) (h : c ∈ plainWindows) : s.winWord c a = (s.tab c a, s) := by
  have ht : s.tableRead c a = (s.tab c a, s) := by
    unfold tableRead
    dsimp only
    rw [readErr_of_no_errs he]
    exact Prod.ext BitVec.xor_zero rfl
  simp only [plainWindows, List.mem_cons, List.not_mem_nil, or_false] at h
  rcases h with rfl | rfl | rfl | rfl | rfl <;> exact ht

/-- A word read inside a window. -/
theorem winRead_inside (he : s.fmon.memErrs = []) (h : s.winCode ∈ plainWindows) (ha : s.winAddr < winSize s.winCode) :
    s.winRead = (s.tab s.winCode s.winAddr, s.winNext) := by
  unfold winRead
  dsimp only
  rw [winUnreadable_of_plain h, beyond_of_plain h, if_neg (by simp [ha]), winWord_of_plain he h]

/-- A word read beyond a window (R321). -/
theorem winRead_beyond (h : s.winCode ∈ plainWindows) (ha : winSize s.winCode ≤ s.winAddr) :
    s.winRead = (0, (s.winErr WinErr.RANGE).winNext) := by
  unfold winRead
  dsimp only
  rw [winUnreadable_of_plain h, beyond_of_plain h, if_pos (by simp [ha])]
  refine congrArg (fun w : State => ((0 : Word), w.winNext)) ?_
  unfold winRefuse
  simp [ha]

theorem winPut_of_plain (h : c ∈ plainWindows) (v : Word) :
    s.winPut c a v = (s.setTab c a (v &&& winMask c a)).winRewrite c a 1 := by
  refine if_neg ?_
  rintro rfl
  exact absurd h (by decide)

/-- A word written inside a window. -/
theorem winWrite_inside (h : s.winCode ∈ plainWindows) (ha : s.winAddr < winSize s.winCode) (v : Word) : s.winWrite v =
    ((s.setTab s.winCode s.winAddr (v &&& winMask s.winCode s.winAddr)).winRewrite s.winCode s.winAddr 1).winNext := by
  unfold winWrite
  dsimp only
  rw [winForbids_of_plain h, beyond_of_plain h, if_neg (by simp [ha]), winPut_of_plain h]

theorem winWrite_beyond (h : s.winCode ∈ plainWindows) (ha : winSize s.winCode ≤ s.winAddr) (v : Word) :
    s.winWrite v = (s.winErr WinErr.RANGE).winNext := by
  have hn : s.winCode ≠ 9 := fun he => absurd (he ▸ h) (by decide)
  unfold winWrite
  dsimp only
  rw [winForbids_of_plain h, beyond_of_plain h, if_pos (by simp [ha]), if_neg (by simp [hn])]
  refine congrArg State.winNext ?_
  unfold winRefuse
  simp [ha]

/-! ### What a word written or refused leaves -/

theorem winPut_frame (v : Word) : (s.setTab c a v).winRewrite c a 1 = { s with
    tables := (s.setTab c a v).tables, fmon := ((s.setTab c a v).winRewrite c a 1).fmon } := rfl

/-- A written word stands at its place, and no other word changes. -/
theorem tab_winPut (hw : Memory.wf tabDefault s.tables = true) (v : Word) {c' b : Nat} (ha : a < 131072) (hb : b < 131072) :
    ((s.setTab c a v).winRewrite c a 1).tab c' b = if c' = c ∧ b = a then v else s.tab c' b := by
  refine (tab_setTab s c a c' b v hw).trans ?_
  have hk : winKey c' b = winKey c a ↔ c' = c ∧ b = a := by
    unfold winKey
    omega
  simp only [hk]

theorem winErr_range : s.winErr WinErr.RANGE = (s.setFlag Reg.WIN_STAT WinErr.RANGE true).satFld Reg.WIN_STAT 0 8 := by
  unfold winErr
  exact if_neg (by decide)

theorem winErr_frame (b : Nat) : s.winErr b = { s with regs := (s.winErr b).regs } := by
  unfold winErr
  dsimp only
  split <;> rfl

theorem flag_winErr_range : (s.winErr WinErr.RANGE).flag Reg.WIN_STAT WinErr.RANGE = true := by
  rw [winErr_range, flag_satFld_out _ (by decide) (by decide)]
  exact flag_setFlag_same _ _ _ _ (by decide)

theorem reg_winErr_range_ne {q : RegId} (h : q ≠ Reg.WIN_STAT) : (s.winErr WinErr.RANGE).reg q = s.reg q := by
  rw [winErr_range, reg_satFld_ne _ _ _ h, reg_setFlag_ne _ _ _ h]

/-- A refused word moves the window address on. -/
theorem refused_next : (s.winErr WinErr.RANGE).winNext.winAddr = (s.winAddr + 1) % 131072 ∧
    (s.winErr WinErr.RANGE).winNext.winCode = s.winCode ∧
    (s.winErr WinErr.RANGE).winNext.flag Reg.WIN_STAT WinErr.RANGE = true ∧
    (s.winErr WinErr.RANGE).winNext = { s with regs := (s.winErr WinErr.RANGE).winNext.regs } := by
  have hs : (s.winErr WinErr.RANGE).reg Reg.WIN_SEL = s.reg Reg.WIN_SEL := reg_winErr_range_ne (by decide)
  have ha : (s.winErr WinErr.RANGE).reg Reg.WIN_ADDR = s.reg Reg.WIN_ADDR := reg_winErr_range_ne (by decide)
  refine ⟨?_, ?_, ?_, ?_⟩
  · rw [winAddr_winNext, winAddr, fld, hs, ha, winAddr, fld]
  · rw [winCode_winNext, winCode, fld, hs, winCode, fld]
  · exact (flag_of_reg_eq (reg_winNext_ne (by decide) (by decide))).trans flag_winErr_range
  · rw [winNext_frame, winErr_frame]

/-! ### WIN_DATA -/

theorem winDataWrite (v : Word) (hm : s.mainUp = true) (hw : s.MemWf) (h : s.winCode ∈ plainWindows) :
    ∃ t, exec (.winDataAccess false v) s = .next t ∧
       t.winAddr = (s.winAddr + 1) % 131072 ∧ t.winCode = s.winCode ∧
       t = { s with tables := t.tables, regs := t.regs, fmon := t.fmon } ∧
       if s.winAddr < winSize s.winCode then
         (∀ code b, code < 16 → b < 131072 → t.tab code b =
           if code = s.winCode ∧ b = s.winAddr then v &&& winMask code s.winAddr else s.tab code b) ∧
         t.reg Reg.WIN_STAT = s.reg Reg.WIN_STAT
       else t.tables = s.tables ∧ t.flag Reg.WIN_STAT WinErr.RANGE = true := by
  have hx : exec (.winDataAccess false v) s = .next (s.winWrite v) := congrArg Host.Outcome.next (if_pos hm)
  by_cases ha : s.winAddr < winSize s.winCode
  · have hu := winPut_frame (s := s) (c := s.winCode) (a := s.winAddr) (v &&& winMask s.winCode s.winAddr)
    have htab (c' b : Nat) (hb : b < 131072) := tab_winPut (c := s.winCode) (c' := c') hw.tables (v &&& winMask s.winCode s.winAddr)
      (winAddr_lt (s := s)) hb
    rw [winWrite_inside h ha] at hx
    generalize (s.setTab s.winCode s.winAddr (v &&& winMask s.winCode s.winAddr)).winRewrite s.winCode s.winAddr 1 = u at *
    have hr : u.regs = s.regs := by rw [hu]
    refine ⟨_, hx, ?_, ?_, ?_, ite_of_pos ha ⟨fun code b _ hb => ?_, ?_⟩⟩
    · rw [winAddr_winNext, winAddr_congr hr]
    · rw [winCode_winNext, winCode_congr hr]
    · rw [winNext_frame, hu]
    · refine (htab code b hb).trans (if_congr Iff.rfl rfl rfl |>.trans ?_)
      split
      case isTrue hc => rw [hc.1]
      case isFalse => rfl
    · exact (reg_winNext_ne (by decide) (by decide)).trans (by rw [reg, hr, reg])
  · obtain ⟨hn, hc, hf, hframe⟩ := refused_next (s := s)
    rw [winWrite_beyond h (Nat.le_of_not_lt ha)] at hx
    generalize (s.winErr WinErr.RANGE).winNext = u at *
    refine ⟨_, hx, hn, hc, ?_, (if_neg ha).mpr ⟨?_, hf⟩⟩
    · rw [hframe]
    · rw [hframe]

theorem winDataRead (v : Word) (hm : s.mainUp = true) (he : s.fmon.memErrs = []) (h : s.winCode ∈ plainWindows) :
    ∃ t, exec (.winDataAccess true v) s = .next t ∧ t.winAddr = (s.winAddr + 1) % 131072 ∧
       t = { s with regs := t.regs, port := { s.port with out := t.port.out } } ∧
       if s.winAddr < winSize s.winCode then t.port.out = bytesOfWord (s.tab s.winCode s.winAddr)
       else t.port.out = [0, 0] ∧ t.flag Reg.WIN_STAT WinErr.RANGE = true := by
  have hx : exec (.winDataAccess true v) s = .next { s.winRead.2 with
      port := { s.winRead.2.port with out := bytesOfWord s.winRead.1 } } := congrArg Host.Outcome.next (if_pos hm)
  by_cases ha : s.winAddr < winSize s.winCode
  · rw [winRead_inside he h ha] at hx
    exact ⟨_, hx, winAddr_winNext, rfl, ite_of_pos ha rfl⟩
  · obtain ⟨hn, -, hf, hframe⟩ := refused_next (s := s)
    rw [winRead_beyond h (Nat.le_of_not_lt ha)] at hx
    generalize (s.winErr WinErr.RANGE).winNext = u at *
    refine ⟨_, hx, hn, ?_, (if_neg ha).mpr ⟨(by decide : bytesOfWord 0 = [0, 0]), hf⟩⟩
    rw [hframe]

/-! ### SPI window transactions -/

/-- The state in which an SPI window transaction finds its first word. -/
def windowed (s : State) (c : Nat) : State := (s.clocked.voted true).winSelect c

theorem windowed_frame (c : Nat) : s.windowed c = { s with
    regs := (s.windowed c).regs,
    port := { s.port with out := [], nack := false, vote := true },
    queue := { s.queue with seen := s.queue.items.length } } := by
  unfold windowed
  rw [winSelect_frame]
  rfl

theorem reg_windowed_ne (c : Nat) {q : RegId} (h : q ≠ Reg.WIN_SEL) (hs : q ≠ Reg.WIN_STAT) :
    (s.windowed c).reg q = s.reg q := reg_winSelect_ne (s := s.clocked.voted true) c h hs

theorem winCode_windowed (h : c ∈ plainWindows) : (s.windowed c).winCode = c := by
  refine winCode_winSelect (s := s.clocked.voted true) ?_ ?_
  · rintro rfl
    exact absurd h (by decide)
  · revert c
    decide

theorem winAddr_windowed (c : Nat) : (s.windowed c).winAddr = s.winAddr := winAddr_winSelect (s := s.clocked.voted true) c

theorem statusByte_congr {t : State} (k : Nat) (hm : t.mainUp = s.mainUp) (hi : t.irqAsserted = s.irqAsserted)
    (hp : t.prevErr = s.prevErr) : t.statusByte k = s.statusByte k := by
  rw [statusByte, hm, hi, hp, statusByte]

theorem statusByte_windowed (c : Nat) (t : Txn) (k : Nat) : ((s.windowed c).withTxn t).statusByte k = s.statusByte k := by
  have hr (q : RegId) := reg_windowed_ne (s := s) c (q := q)
  have hf := windowed_frame (s := s) c
  generalize s.windowed c = u at *
  have hstat : u.reg Reg.INT_STAT = s.reg Reg.INT_STAT := hr _ (by decide) (by decide)
  have hen : u.reg Reg.INT_EN = s.reg Reg.INT_EN := hr _ (by decide) (by decide)
  have hhost : u.reg Reg.HOST_STAT = s.reg Reg.HOST_STAT := hr _ (by decide) (by decide)
  have hpwr : u.pwr = s.pwr := by rw [hf]
  have haon : u.aon = s.aon := by rw [hf]
  refine statusByte_congr k ?_ ?_ ?_
  · change u.mainUp = s.mainUp
    rw [mainUp, hpwr, haon, mainUp]
  · change u.irqAsserted = s.irqAsserted
    rw [irqAsserted, irqAsserted, aonUp, aonUp, flag, flag, hpwr, haon, hstat, hen]
  · change u.prevErr = s.prevErr
    rw [prevErr, hhost, prevErr]

/-- A window transaction whose window is selected stays with it. -/
theorem txnSelect_of_selected {t : Txn} (ha : t.addr = 0) : (s.withTxn t).txnSelect = s.withTxn t := by
  have ht : ({ t with addr := 0 } : Txn) = t := by rw [← ha]
  have hx : (s.withTxn t).txnSelect = if t.kind = 1 && (s.withTxn t).mainUp then
      ((s.withTxn t).winSelect t.addr).onTxn (fun u => { u with addr := 0 }) else s.withTxn t := rfl
  rw [hx, ha]
  split
  · change s.withTxn { t with addr := 0 } = _
    rw [ht]
  · rfl

theorem needsMain_window {t : Txn} (hk : t.kind = 1) : t.needsMain = true := by
  unfold Txn.needsMain
  rw [hk]
  rfl

/-- What the host's words leave of a state whose transaction goes on. -/
theorem drives_regs (u : State) (l : List Byte) (f : Txn → Txn) :
    ((u.queueSync.onTxn f).drives l).regs = u.regs ∧ ((u.queueSync.onTxn f).drives l).tables = u.tables := ⟨rfl, rfl⟩

/-- A word of the selected window that an SPI transaction reads. -/
theorem spiRead_window {t : Txn} (hm : s.mainUp = true) (hk : t.kind = 1) (ha : t.addr = 0) (hd : t.dead = false)
    (hcrc : t.crcOn = false) (he : s.fmon.memErrs = []) (h : s.winCode ∈ plainWindows) (hw : s.winAddr < winSize s.winCode) :
    ∃ (u : Txn) (f : Txn → Txn), State.spiRead 1 (s.withTxn t) =
      (bytesOfWord (s.tab s.winCode s.winAddr), ((s.voted true).withTxn u).winNext.queueSync.onTxn f) := by
  have hcap : ∃ (u : Txn) (f : Txn → Txn), (s.withTxn t).capture t =
      (s.tab s.winCode s.winAddr, ((s.voted true).withTxn u).winNext.queueSync.onTxn f) := by
    have hw' (u : State) : u.portWord t = u.winRead := by
      unfold portWord
      rw [hk]
      rfl
    unfold capture
    rw [if_pos (needsMain_window hk), touchMain_of_mainUp hm, txnSelect_of_selected (by exact ha)]
    dsimp only
    rw [hw', winRead_inside (s := (s.voted true).withTxn { t with needs := true }) he h hw]
    exact ⟨_, _, rfl⟩
  obtain ⟨u, f, hf⟩ := hcap
  have hon (u : State) (g h : Txn → Txn) : (u.onTxn g).onTxn h = u.onTxn (h ∘ g) := by
    unfold onTxn
    rw [← Option.map_map]
  rw [spiRead_one t hd fun _ => hm, hf]
  unfold wordOut
  dsimp only
  rw [if_neg (by simp [hcrc]), hon]
  exact ⟨_, _, rfl⟩

theorem firstAddr_window (h : c ∈ plainWindows) : firstAddr 1 (BitVec.ofNat 8 c) = c := by
  simp only [plainWindows, List.mem_cons, List.not_mem_nil, or_false] at h
  rcases h with rfl | rfl | rfl | rfl | rfl <;> rfl

theorem badCommand_window (rd : Bool) (b : Byte) : badCommand rd 1 0 b = false := by
  cases rd <;> rfl

/-- The header of a window transaction selects its window. -/
theorem spiRow_window (h : s.spiIdle) (hm : s.mainUp = true) (hc : c ∈ plainWindows) (rd : Bool) (ws : List WireWord) :
    ∃ T : Txn, T.kind = 1 ∧ T.addr = 0 ∧ T.dead = false ∧ T.crcOn = false ∧ T.rd = rd ∧
      s.spiRow rd 1 (some (spiHdr c)) ws 1 =
        if rd then ((s.windowed c).withTxn T).spiServe false 1
        else (((s.windowed c).withTxn T).spiWrite ws).drives [0, 0, 0, 0] := by
  have hgo (u : State) (T : Txn) (hu : u.mainUp = true) (hk : T.kind = 1) :
      (u.withTxn T).spiGo rd 1 (BitVec.ofNat 8 c) false ws 1 =
        if rd then (((u.voted true).winSelect T.addr).withTxn { T with needs := true, addr := 0 }).spiServe false 1
        else ((((u.voted true).winSelect T.addr).withTxn { T with needs := true, addr := 0 }).spiWrite ws).drives
          [0, 0, 0, 0] := by
    have hup : ((u.voted true).withTxn { T with needs := true }).mainUp = true := hu
    unfold spiGo
    rw [show firstNeedsMain rd 1 (BitVec.ofNat 8 c) = true from rfl]
    dsimp only
    rw [if_pos rfl, touchMain_of_mainUp hu, hup, txnSelect_of_kind (s := u.voted true) (t := { T with needs := true }) hk hu]
    rfl
  unfold spiHdr
  rw [spiRow_accepted h rd (by decide) _ _ _ _ (badCommand_window _ _) (by simp), Option.isSome_none, hgo s.clocked _ hm rfl,
    firstAddr_window hc]
  exact ⟨_, rfl, rfl, rfl, rfl, rfl, rfl⟩

theorem spiWindowRead_word (h : s.spiIdle) (hm : s.mainUp = true) (he : s.fmon.memErrs = []) (hc : c ∈ plainWindows)
    (ha : s.winAddr < winSize c) : ∃ t, exec (.spiWindowRead (some (spiHdr c)) 1) s = .next t ∧
       t.port.out = [0, 0, s.statusByte 4] ++ bytesOfWord (s.tab c s.winAddr) ∧
       t.winCode = c ∧ t.winAddr = s.winAddr + 1 ∧ t.tables = s.tables := by
  obtain ⟨T, hk, haddr, hd, hcrc, -, hx⟩ := spiRow_window h hm hc true []
  have hexec : exec (.spiWindowRead (some (spiHdr c)) 1) s = .next (s.spiRow true 1 (some (spiHdr c)) [] 1) := rfl
  have hy := statusByte_windowed (s := s) c T 4
  have hcode := winCode_windowed (s := s) hc
  have hwa := winAddr_windowed (s := s) c
  have hframe := windowed_frame (s := s) c
  rw [hx, if_pos rfl] at hexec
  generalize s.windowed c = U at *
  have hmU : U.mainUp = true := by
    rw [hframe]
    exact hm
  have heU : U.fmon.memErrs = [] := by
    rw [hframe]
    exact he
  have hfU : U.fmon.faults = [] := by
    rw [hframe]
    exact (spiIdle_iff.1 h).2.2.2.2.1
  have htab : U.tables = s.tables := by rw [hframe]
  have hserve : (U.withTxn T).spiServe false 1 = (State.spiRead 1 (U.withTxn { T with crc := crc8 [s.statusByte 4] })).2.drives
      ([0, 0, s.statusByte 4] ++ (State.spiRead 1 (U.withTxn { T with crc := crc8 [s.statusByte 4] })).1) := by
    unfold spiServe
    rw [status_same]
    dsimp only
    rw [hy]
    rfl
  obtain ⟨u, f, hr⟩ := spiRead_window (s := U) (t := { T with crc := crc8 [s.statusByte 4] }) hmU hk haddr hd hcrc heU
    (by rw [hcode]; exact hc) (by rw [hcode, hwa]; exact ha)
  have hn : ((U.voted true).withTxn u).winNext.winCode = c ∧
      ((U.voted true).withTxn u).winNext.winAddr = s.winAddr + 1 := by
    refine ⟨winCode_winNext.trans hcode, winAddr_winNext.trans ?_⟩
    have := winSize_lt_of_plain hc
    have hu : ((U.voted true).withTxn u).winAddr = s.winAddr := hwa
    rw [hu]
    omega
  rw [hserve, hr, hcode, hwa] at hexec
  have ht : U.tab c s.winAddr = s.tab c s.winAddr := by rw [tab, htab, tab]
  have hfo : (((U.voted true).withTxn u).winNext.queueSync.onTxn f).fmon.faults = [] := hfU
  have htV : ((U.voted true).withTxn u).winNext.tables = s.tables := htab
  rw [ht] at hexec
  generalize ((U.voted true).withTxn u).winNext = V at *
  refine ⟨_, hexec, drives_out hfo _, ?_, ?_, ?_⟩
  · exact (winCode_congr (drives_regs V _ f).1).trans hn.1
  · exact (winAddr_congr (drives_regs V _ f).1).trans hn.2
  · exact (drives_regs V _ f).2.trans htV

/-- A word that arrives without CRC in a transaction whose window is selected. -/
theorem spiWrite_window {t : Txn} (hm : s.mainUp = true) (hf : s.fmon.faults = []) (hk : t.kind = 1) (ha : t.addr = 0)
    (hd : t.dead = false) (hrd : t.rd = false) (hcrc : t.crcOn = false) (v : Word) : ∃ (u : Txn) (f : Txn → Txn),
    (s.withTxn t).spiWrite [⟨v, none⟩] = (((s.voted true).withTxn u).winWrite v).queueSync.onTxn f := by
  have hid : (s.withTxn t).heard = id := funext fun b => heard_of_nil (s := s.withTxn t) hf b
  have hcommit (u : Txn) : (s.withTxn u).commitWord t v =
      (((s.voted true).withTxn { u with needs := true }).winWrite v).queueSync.onTxn fun w => { w with addr := w.nextAddr } := by
    unfold commitWord
    rw [if_pos (needsMain_window hk), touchMain_of_mainUp hm, hk]
    rfl
  rw [spiWrite_one t _ hd hrd (by simp [hk])]
  unfold takeWire
  rw [txnSelect_of_selected ha]
  dsimp only
  rw [hid, List.map_id, toNat_wordOfBytes_bytesOfWord, if_neg (by simp [hcrc]), onTxn_withTxn]
  have hup (y : Txn) : (s.withTxn y).spiCommit t v = (s.withTxn y).commitWord t v :=
    spiCommit_of_up (s := s.withTxn y) fun _ => hm
  rw [hup, hcommit]
  exact ⟨_, _, rfl⟩

theorem spiWindowWrite_word (h : s.spiIdle) (hm : s.mainUp = true) (hw : s.MemWf) (hc : c ∈ plainWindows)
    (ha : s.winAddr < winSize c) (v : Word) : ∃ t, exec (.spiWindowWrite (some (spiHdr c)) [⟨v, none⟩]) s = .next t ∧
       t.tab c s.winAddr = v &&& winMask c s.winAddr ∧ t.winCode = c ∧ t.winAddr = s.winAddr + 1 ∧
       t.port.out = [0, 0, 0, 0] := by
  obtain ⟨T, hk, haddr, hd, hcrc, hrd, hx⟩ := spiRow_window h hm hc false [⟨v, none⟩]
  have hexec : exec (.spiWindowWrite (some (spiHdr c)) [⟨v, none⟩]) s =
      .next (s.spiRow false 1 (some (spiHdr c)) [⟨v, none⟩] 1) := rfl
  have hcode := winCode_windowed (s := s) hc
  have hwa := winAddr_windowed (s := s) c
  have hframe := windowed_frame (s := s) c
  rw [hx, if_neg Bool.false_ne_true] at hexec
  generalize s.windowed c = U at *
  have hmU : U.mainUp = true := by
    rw [hframe]
    exact hm
  have hfU : U.fmon.faults = [] := by
    rw [hframe]
    exact (spiIdle_iff.1 h).2.2.2.2.1
  have htab : U.tables = s.tables := by rw [hframe]
  obtain ⟨u, f, hr⟩ := spiWrite_window (s := U) hmU hfU hk haddr hd hrd hcrc v
  rw [hr] at hexec
  have hcV : ((U.voted true).withTxn u).winCode = c := hcode
  have haV : ((U.voted true).withTxn u).winAddr = s.winAddr := hwa
  have hwV : Memory.wf tabDefault ((U.voted true).withTxn u).tables = true := by
    have : ((U.voted true).withTxn u).tables = s.tables := htab
    rw [this]
    exact hw.tables
  have hfV : ((U.voted true).withTxn u).fmon.faults = [] := hfU
  generalize (U.voted true).withTxn u = V at *
  rw [winWrite_inside (by rw [hcV]; exact hc) (by rw [hcV, haV]; exact ha), hcV, haV] at hexec
  have hput := winPut_frame (s := V) (c := c) (a := s.winAddr) (v &&& winMask c s.winAddr)
  have hval := tab_winPut (c := c) (c' := c) hwV (v &&& winMask c s.winAddr) (winAddr_lt (s := s)) (winAddr_lt (s := s))
  rw [if_pos ⟨rfl, rfl⟩] at hval
  have hfault : ((V.setTab c s.winAddr (v &&& winMask c s.winAddr)).winRewrite c s.winAddr 1).fmon.faults = V.fmon.faults := rfl
  generalize (V.setTab c s.winAddr (v &&& winMask c s.winAddr)).winRewrite c s.winAddr 1 = W at *
  have hregs : W.regs = V.regs := by rw [hput]
  have hn : W.winNext.winCode = c ∧ W.winNext.winAddr = s.winAddr + 1 := by
    have := winSize_lt_of_plain hc
    refine ⟨?_, ?_⟩
    · rw [winCode_winNext, winCode_congr hregs, hcV]
    · rw [winAddr_winNext, winAddr_congr hregs, haV]
      omega
  have htW : W.winNext.tab c s.winAddr = v &&& winMask c s.winAddr := hval
  have hfo : (W.winNext.queueSync.onTxn f).fmon.faults = [] := hfault.trans hfV
  generalize W.winNext = X at *
  refine ⟨_, hexec, ?_, ?_, ?_, drives_out hfo _⟩
  · rw [tab, (drives_regs X _ f).2, ← tab, htW]
  · exact (winCode_congr (drives_regs X _ f).1).trans hn.1
  · exact (winAddr_congr (drives_regs X _ f).1).trans hn.2

end State

open State in
/-- Settles O39: an access takes or puts the word at the window address, which moves on; beyond the window it is refused. -/
theorem windowTransfers : Obligations.WindowTransfers :=
  ⟨fun _ v hm hw he hc => ⟨winDataWrite v hm hw hc, winDataRead v hm he hc⟩,
    fun _ _ v h hm hw he hc ha => ⟨spiWindowRead_word h hm he hc ha, spiWindowWrite_word h hm hw hc ha v⟩⟩

end Sys2Proof.Machine
end

section
/-! PROOFS. A written register takes its fields, whatever commands its bits set off (R13, R436). -/

namespace Sys2Proof.Machine

/-- The RW and the W1C fields of a register are apart (Table 15.2). -/
theorem rwMask_w1cMask (r : RegId) : rwMask r.val &&& w1cMask r.val = 0 := by
  revert r
  decide

theorem w1c_of_rw {r : RegId} {i : Nat} (h : (rwMask r.val).getLsbD i = true) : (w1cMask r.val).getLsbD i = false := by
  have hz := congrArg (fun w : Word => w.getLsbD i) (rwMask_w1cMask r)
  simpa [h] using hz

/-- Each bit of a written register (R9, R11). -/
theorem getLsbD_writtenWord (r : RegId) (old v : Word) (i : Nat) : (writtenWord r old v).getLsbD i =
    if (rwMask r.val).getLsbD i then v.getLsbD i
    else old.getLsbD i && !(v.getLsbD i && (w1cMask r.val).getLsbD i) := by
  by_cases hi : i < 16
  · have hx : (writtenWord r old v).getLsbD i = ((old.getLsbD i && !(rwMask r.val).getLsbD i ||
        v.getLsbD i && (rwMask r.val).getLsbD i) && !(v.getLsbD i && (w1cMask r.val).getLsbD i)) := by
      simp only [writtenWord, BitVec.getLsbD_and, BitVec.getLsbD_or, BitVec.getLsbD_not, hi, decide_true, Bool.true_and]
    rw [hx]
    cases h : (rwMask r.val).getLsbD i with
    | true => simp [w1c_of_rw h]
    | false => simp
  · simp [BitVec.getLsbD_of_ge, Nat.le_of_not_lt hi]

namespace State

variable {s t u : State} {r : RegId} {v : Word}

/-! ### Fields that have taken the written value -/

theorem takesFields_plainWrite (s : State) (r : RegId) (v : Word) : takesFields r v (s.plainWrite r v) := fun i hi => by
  rw [writtenWord_eq, getLsbD_writtenWord, if_pos hi]

theorem takesFields_of_reg (h : takesFields r v t) (hr : u.reg r = t.reg r) : takesFields r v u := fun i hi => by
  rw [hr, h i hi]

/-- A bit outside the RW fields may change. -/
theorem takesFields_setFlag (h : takesFields r v t) {b : Nat} (x : Bool) (hb : (rwMask r.val).getLsbD b = false) :
    takesFields r v (t.setFlag r b x) := fun i hi => by
  have hlt : i < 16 := BitVec.lt_of_getLsbD hi
  have hne : i ≠ b := fun he => by simp [he, hb] at hi
  exact (flag_setFlag_other _ x hlt hne).trans (h i hi)

theorem takesFields_onBit (h : takesFields r v t) (b : Nat) {f : State → State} (hf : takesFields r v (f t)) :
    takesFields r v (onBit v b f t) := by
  unfold onBit
  split
  · exact hf
  · exact h

theorem takesFields_settle (h : takesFields r v t) (s : State) : takesFields r v (s.settle t) :=
  takesFields_of_reg h (reg_settle _ _ _)

/-! ### Sleep by vote -/

theorem takesFields_hsRefuse (h : takesFields Reg.SLEEP_CTL v t) (block reason : Nat) :
    takesFields Reg.SLEEP_CTL v (t.hsRefuse block reason) := by
  have hx : ∃ agreed, t.hsRefuse block reason = t.hsRefused block reason agreed ∨
      ∃ r, t.hsRefuse block reason = ((t.hsRefused block reason agreed).insertRec r).drainInserted := by
    unfold hsRefuse
    cases t.pwr.hs with
    | none => exact ⟨[], .inl rfl⟩
    | some h =>
      refine ⟨h.agreed, ?_⟩
      dsimp only
      cases h.start with
      | none => exact .inl rfl
      | some t => exact .inr ⟨_, rfl⟩
  obtain ⟨agreed, hx⟩ := hx
  have hshow : takesFields Reg.SLEEP_CTL v (t.hsRefused block reason agreed) := by
    obtain ⟨⟨-, -, -, -, hr⟩, -⟩ :=
      restartBlocks_spec { t with pwr := { t.pwr with hs := none, quiesce := false, pstate := .active } } agreed
    have hr' := takesFields_of_reg (u := restartBlocks _ agreed) h (hr _ (by decide))
    refine takesFields_of_reg (takesFields_setFlag hr' false (b := 14) (by decide)) ?_
    unfold hsRefused
    dsimp only
    rw [reg_raise_ne _ _ (by decide), reg_incFld_ne _ _ _ (by decide), reg_setFld_ne _ _ _ _ (by decide),
      reg_setFld_ne _ _ _ _ (by decide)]
  rcases hx with hx | ⟨r, hx⟩
  · rw [hx]
    exact hshow
  · rw [hx]
    exact takesFields_of_reg hshow ((reg_drainInserted_ne _ (by decide)).trans (reg_insertRec_ne _ _ (by decide) (by decide)))

theorem takesFields_sleepReq (h : takesFields Reg.SLEEP_CTL v t) : takesFields Reg.SLEEP_CTL v t.sleepReq := by
  have hv : takesFields Reg.SLEEP_CTL v (t.setFlag Reg.PWR_VOTE 0 false) :=
    takesFields_of_reg h (reg_setFlag_ne _ _ _ (by decide))
  unfold sleepReq
  dsimp only
  split
  · exact hv
  · exact takesFields_of_reg (takesFields_setFlag hv true (b := 15) (by decide)) (reg_dueIfStopped _ _)

theorem takesFields_sleepAsk (h : takesFields Reg.SLEEP_CTL v t) : takesFields Reg.SLEEP_CTL v t.sleepAsk := by
  have ha : takesFields Reg.SLEEP_CTL v t.hsAsked := takesFields_setFlag h true (b := 14) (by decide)
  unfold sleepAsk
  split
  · split
    · exact takesFields_hsRefuse ha 6 3
    · split
      · exact takesFields_hsRefuse ha 7 3
      · exact ha
  · exact h

theorem takesFields_sleepCtl (s : State) (v : Word) : takesFields Reg.SLEEP_CTL v (s.writeSleepCtl v) := by
  have h₀ := takesFields_plainWrite s Reg.SLEEP_CTL v
  have h₁ := takesFields_onBit h₀ 15 (takesFields_sleepReq h₀)
  exact takesFields_of_reg (takesFields_onBit h₁ 14 (takesFields_sleepAsk h₁)) (reg_dueIfStopped _ _)

theorem reg_hostVoteSet : s.hostVoteSet.reg Reg.PWR_VOTE = s.reg Reg.PWR_VOTE := by
  unfold hostVoteSet
  dsimp only
  split
  · exact (reg_quiesceCheck _ _).trans (reg_setFlag_ne _ _ _ (by decide))
  · exact reg_setFlag_ne _ _ _ (by decide)

theorem takesFields_pwrVote (s : State) (v : Word) : takesFields Reg.PWR_VOTE v (s.writePwrVote v) := by
  have h₀ := takesFields_plainWrite s Reg.PWR_VOTE v
  exact takesFields_settle (takesFields_onBit h₀ 0 (takesFields_of_reg h₀ reg_hostVoteSet)) s

/-! ### The schedule and calibration -/

theorem reg_takeOver_ne {q : RegId} (hv : q ≠ Reg.PWR_VOTE) (hg : q ≠ Reg.RPT_GAPS) (hs : q ≠ Reg.RPT_STAT) :
    s.takeOver.reg q = s.reg q := by
  unfold takeOver
  split
  · exact (reg_insertRec_ne _ _ hg hs).trans (reg_setFlag_ne _ _ _ hv)
  · rfl

theorem takesFields_loadEnd (h : takesFields Reg.SCHED_CTL v t) (st : SchedState) :
    takesFields Reg.SCHED_CTL v (t.loadEnd st) :=
  takesFields_setFlag (takesFields_setFlag h false (b := 15) (by decide)) false (b := 14) (by decide)

theorem takesFields_schedAbort (h : takesFields Reg.SCHED_CTL v t) : takesFields Reg.SCHED_CTL v t.schedAbort := by
  unfold schedAbort
  split
  · split
    · obtain ⟨-, -, hr⟩ := (t.takeOver.loadEnd t.startState).schedStart_spec 7 0
      have ht : takesFields Reg.SCHED_CTL v t.takeOver :=
        takesFields_of_reg h (reg_takeOver_ne (by decide) (by decide) (by decide))
      exact takesFields_settle (takesFields_of_reg (takesFields_loadEnd ht _) (hr _ (by decide))) t
    · refine takesFields_settle (takesFields_of_reg (takesFields_loadEnd h .stopped) ?_) t
      refine (reg_setFld_ne _ _ _ _ (by decide)).trans ((reg_setFld_ne _ _ _ _ (by decide)).trans ?_)
      exact reg_setFld_ne _ _ _ _ (by decide)
  · exact h

theorem takesFields_schedCtl (s : State) (v : Word) : takesFields Reg.SCHED_CTL v (s.writeSchedCtl v) := by
  have h₀ := takesFields_plainWrite s Reg.SCHED_CTL v
  have hload {w : State} (h : takesFields Reg.SCHED_CTL v w) : takesFields Reg.SCHED_CTL v w.schedLoad := by
    unfold schedLoad
    split
    · exact h
    · exact takesFields_setFlag h true (b := 15) (by decide)
  have hcommit {w : State} (h : takesFields Reg.SCHED_CTL v w) : takesFields Reg.SCHED_CTL v w.schedCommit := by
    unfold schedCommit
    split
    · exact takesFields_setFlag h true (b := 14) (by decide)
    · exact h
  have h₁ := takesFields_onBit h₀ 15 (hload h₀)
  have h₂ := takesFields_onBit h₁ 14 (hcommit h₁)
  exact takesFields_onBit h₂ 13 (takesFields_schedAbort h₂)

theorem takesFields_calCmd (s : State) (v : Word) : takesFields Reg.CAL_CMD v (s.writeCalCmd v) := by
  have h₀ := takesFields_plainWrite s Reg.CAL_CMD v
  have hself {w : State} (h : takesFields Reg.CAL_CMD v w) : takesFields Reg.CAL_CMD v w.calSelf := by
    unfold calSelf
    split
    · exact h
    · exact takesFields_setFlag h true (b := 15) (by decide)
  have hrecal {w : State} (h : takesFields Reg.CAL_CMD v w) : takesFields Reg.CAL_CMD v w.calRecal := by
    have ht : takesFields Reg.CAL_CMD v w.calTrigger := by
      unfold calTrigger
      split
      · exact h
      · exact takesFields_of_reg h (reg_setFlag_ne _ _ _ (by decide))
    unfold calRecal
    dsimp only
    split
    · exact takesFields_setFlag ht true (b := 14) (by decide)
    · exact ht
  have h₁ := takesFields_onBit h₀ 15 (hself h₀)
  exact takesFields_onBit h₁ 14 (hrecal h₁)

/-! ### Function enables -/

/-- Each function takes its own bit of FUNC_EN and leaves the others (R361). -/
theorem enable_reg (s : State) (on : Bool) :
    (s.enLanes on).reg Reg.FUNC_EN = (s.setFlag Reg.FUNC_EN 0 on).reg Reg.FUNC_EN ∧
    (s.enFilters on).reg Reg.FUNC_EN = (s.setFlag Reg.FUNC_EN 1 on).reg Reg.FUNC_EN ∧
    (s.enSeq on).reg Reg.FUNC_EN = (s.setFlag Reg.FUNC_EN 2 on).reg Reg.FUNC_EN ∧
    (s.enCaldera on).reg Reg.FUNC_EN = (s.setFlag Reg.FUNC_EN 3 on).reg Reg.FUNC_EN ∧
    (s.enNvmctl on).reg Reg.FUNC_EN = (s.setFlag Reg.FUNC_EN 7 on).reg Reg.FUNC_EN := by
  refine ⟨rfl, rfl, ?_, ?_, rfl⟩
  · unfold enSeq
    dsimp only
    split
    · rfl
    · exact reg_frameCheck_ne _ (by decide)
  · unfold enCaldera
    dsimp only
    split
    · rfl
    · exact reg_quiesceCheck _ _

/-- The commands of a write of FUNC_EN, with the bit that each sets. -/
def enableBits (v : Word) : List (Nat × (State → State)) :=
  [(0, fun t => t.enLanes (v.getLsbD 0)), (1, fun t => t.enFilters (v.getLsbD 1)), (2, fun t => t.enSeq (v.getLsbD 2)),
   (3, fun t => t.enCaldera (v.getLsbD 3)), (4, fun t => t.enTrack (v.getLsbD 4)), (5, fun t => t.enQueue (v.getLsbD 5)),
   (6, fun t => t.enRing (v.getLsbD 6)), (7, fun t => t.enNvmctl (v.getLsbD 7)), (9, fun t => t.enGeyser (v.getLsbD 9)),
   (10, fun t => t.enGoertzel (v.getLsbD 10))]

theorem writeFuncEn_eq (s : State) (v : Word) :
    s.writeFuncEn v = (enableBits v).foldl (fun t p => p.2 t) s := rfl

theorem enableBits_flag (v : Word) : ∀ p ∈ enableBits v, ∀ (t : State) (i : Nat), i < 16 →
    (p.2 t).flag Reg.FUNC_EN i = if i = p.1 then v.getLsbD i else t.flag Reg.FUNC_EN i := by
  have hset (t : State) (b i : Nat) (w : State) (hi : i < 16)
      (hw : w.reg Reg.FUNC_EN = (t.setFlag Reg.FUNC_EN b (v.getLsbD b)).reg Reg.FUNC_EN) :
      w.flag Reg.FUNC_EN i = if i = b then v.getLsbD i else t.flag Reg.FUNC_EN i := by
    rw [flag_of_reg_eq hw, flag_setFlag _ _ _ _ _ _ hi]
    by_cases h : i = b
    · rw [if_pos ⟨rfl, h⟩, if_pos h, h]
    · rw [if_neg (fun hc => h hc.2), if_neg h]
  intro p hp t i hi
  obtain ⟨h0, -, -, -, -⟩ := enable_reg t (v.getLsbD 0)
  obtain ⟨-, h1, -, -, -⟩ := enable_reg t (v.getLsbD 1)
  obtain ⟨-, -, h2, -, -⟩ := enable_reg t (v.getLsbD 2)
  obtain ⟨-, -, -, h3, -⟩ := enable_reg t (v.getLsbD 3)
  obtain ⟨-, -, -, -, h7⟩ := enable_reg t (v.getLsbD 7)
  simp only [enableBits, List.mem_cons, List.not_mem_nil, or_false] at hp
  rcases hp with rfl | rfl | rfl | rfl | rfl | rfl | rfl | rfl | rfl | rfl
  · exact hset t 0 i _ hi h0
  · exact hset t 1 i _ hi h1
  · exact hset t 2 i _ hi h2
  · exact hset t 3 i _ hi h3
  · exact hset t 4 i _ hi rfl
  · exact hset t 5 i _ hi rfl
  · exact hset t 6 i _ hi rfl
  · exact hset t 7 i _ hi h7
  · exact hset t 9 i _ hi rfl
  · exact hset t 10 i _ hi rfl

/-- A series of commands that each take one bit of FUNC_EN. -/
theorem enables_flag {v : Word} (l : List (Nat × (State → State)))
    (h : ∀ p ∈ l, ∀ (t : State) (i : Nat), i < 16 →
      (p.2 t).flag Reg.FUNC_EN i = if i = p.1 then v.getLsbD i else t.flag Reg.FUNC_EN i)
    (s : State) {i : Nat} (hi : i < 16) : (l.foldl (fun t p => p.2 t) s).flag Reg.FUNC_EN i =
      if i ∈ l.map Prod.fst then v.getLsbD i else s.flag Reg.FUNC_EN i := by
  induction l generalizing s with
  | nil => rfl
  | cons p l ih =>
    rw [List.foldl_cons, ih (fun q hq => h q (List.mem_cons_of_mem _ hq)), h p List.mem_cons_self s i hi]
    by_cases hm : i ∈ l.map Prod.fst
    · rw [if_pos hm]
      exact (if_pos (List.mem_cons_of_mem _ hm)).symm
    · rw [if_neg hm]
      exact if_congr (by simp [hm]) rfl rfl

theorem flag_writeFuncEn (s : State) (v : Word) {i : Nat} (hi : i < 16) : (s.writeFuncEn v).flag Reg.FUNC_EN i =
    if i ∈ [0, 1, 2, 3, 4, 5, 6, 7, 9, 10] then v.getLsbD i else s.flag Reg.FUNC_EN i := by
  rw [writeFuncEn_eq]
  exact enables_flag (enableBits v) (enableBits_flag v) s hi

theorem takesFields_funcEn (s : State) (v : Word) : takesFields Reg.FUNC_EN v (s.writeFuncEn v) := fun i hi => by
  have hlt : i < 16 := BitVec.lt_of_getLsbD hi
  have hall : ∀ i < 16, (rwMask (Reg.FUNC_EN).val).getLsbD i = true → i ∈ [0, 1, 2, 3, 4, 5, 6, 7, 9, 10] := by decide
  have hm := hall i hlt hi
  exact (flag_writeFuncEn s v hlt).trans (if_pos hm)

/-! ### The other registers with command bits -/

theorem takesFields_clkCtl (s : State) (v : Word) : takesFields Reg.CLK_CTL v (s.clkCtlWrite v) := by
  have h₀ := takesFields_plainWrite s Reg.CLK_CTL v
  unfold clkCtlWrite
  dsimp only
  split
  · exact takesFields_of_reg h₀ (reg_setFlag_ne _ _ _ (by decide))
  · split
    · exact takesFields_of_reg h₀ ((reg_leaveDpll _ _).trans (reg_setFlag_ne _ _ _ (by decide)))
    · exact h₀

theorem takesFields_wakeTimer (s : State) (v : Word) : takesFields Reg.WAKE_TIMER v (s.wakeTimerWrite v) := by
  have h₀ : takesFields Reg.WAKE_TIMER v (s.setReg Reg.WAKE_TIMER v) := fun i _ => by rw [reg_setReg_same]
  unfold wakeTimerWrite
  dsimp only
  split
  · exact h₀
  · exact h₀

theorem takesFields_geyserCfg (s : State) (v : Word) : takesFields Reg.GEYSER_CFG v (s.writeGeyserCfg v) := by
  have h₀ := takesFields_plainWrite s Reg.GEYSER_CFG v
  unfold writeGeyserCfg
  dsimp only
  split
  · exact h₀
  · exact h₀

theorem takesFields_filtCtl (s : State) (v : Word) : takesFields Reg.FILT_CTL v (s.writeFiltCtl v) := by
  have h₀ := takesFields_plainWrite s Reg.FILT_CTL v
  exact takesFields_onBit h₀ 1 h₀

theorem takesFields_baseCtl (s : State) (v : Word) : takesFields Reg.BASE_CTL v (s.writeBaseCtl v) := by
  have h₀ := takesFields_plainWrite s Reg.BASE_CTL v
  exact takesFields_onBit h₀ 15 (takesFields_setFlag h₀ true (b := 15) (by decide))

theorem takesFields_rptCtl (s : State) (v : Word) : takesFields Reg.RPT_CTL v (s.writeRptCtl v) := by
  have h₀ := takesFields_plainWrite s Reg.RPT_CTL v
  have h₁ := takesFields_onBit h₀ 15 (takesFields_of_reg h₀ (reg_flushQueue_ne _ (by decide)))
  exact takesFields_settle (takesFields_onBit h₁ 14 (takesFields_of_reg h₁ (reg_setReg_ne _ _ (by decide)))) s

theorem takesFields_ringCtl (s : State) (v : Word) : takesFields Reg.RING_CTL v (s.writeRingCtl v) := by
  have h₀ := takesFields_plainWrite s Reg.RING_CTL v
  have hrew {w : State} (h : takesFields Reg.RING_CTL v w) : takesFields Reg.RING_CTL v w.ringRewind := by
    unfold ringRewind
    dsimp only
    split
    · exact h
    · exact takesFields_of_reg h (reg_setFlag_ne _ _ _ (by decide))
  have h₁ : takesFields Reg.RING_CTL v (onBit v 14 State.ringMark (s.plainWrite Reg.RING_CTL v)) := takesFields_onBit h₀ 14 h₀
  have h₂ := takesFields_onBit h₁ 13 (hrew h₁)
  exact takesFields_onBit h₂ 12 h₂

theorem takesFields_winSel (s : State) (v : Word) : takesFields Reg.WIN_SEL v (s.writeWinSel v) :=
  takesFields_of_reg (takesFields_plainWrite s Reg.WIN_SEL v) (reg_setFld_ne _ _ _ _ (by decide))

theorem takesFields_hostCtl (s : State) (v : Word) : takesFields Reg.HOST_CTL v (s.writeHostCtl v) :=
  takesFields_plainWrite s Reg.HOST_CTL v

theorem takesFields_debugCtl (s : State) (v : Word) : takesFields Reg.DEBUG_CTL v (s.debugCtl v) := by
  have h₀ := takesFields_plainWrite s Reg.DEBUG_CTL v
  have hb : takesFields Reg.DEBUG_CTL v (s.debugBase v) := by
    refine takesFields_of_reg h₀ ?_
    rw [debugBase_frame]
    rfl
  have href {w : State} (h : takesFields Reg.DEBUG_CTL v w) : takesFields Reg.DEBUG_CTL v w.secRefuse :=
    takesFields_of_reg h (reg_setFlag_ne _ _ _ (by decide))
  cases hgo : v.getLsbD 15 with
  | false =>
    have hx : s.debugCtl v = s.debugBase v := if_neg fun h => absurd (hgo.symm.trans h) Bool.false_ne_true
    rw [hx]
    exact hb
  | true =>
    rw [debugCtl_go s hgo]
    split
    · unfold nonceRequest
      dsimp only
      split
      · exact hb
      · exact href hb
    · unfold advDevelop
      split
      · exact hb
      · exact href hb
    · unfold advSecured
      split
      · exact hb
      · exact href hb
    · exact hb
    · exact href hb

/-- The registers whose write sets off commands, and whose fields the host reads back. -/
theorem takesFields_commitReg (s : State) (v : Word)
    (h : r.val ∈ [0x05, 0x06, 0x08, 0x0C, 0x11, 0x12, 0x16, 0x22, 0x28, 0x2F, 0x34, 0x38, 0x3C, 0x43, 0x4A]) :
    takesFields r v (s.commitReg r.val v) := by
  obtain ⟨k, hk⟩ := r
  change k ∈ _ at h
  simp only [List.mem_cons, List.not_mem_nil, or_false] at h
  rcases h with rfl | rfl | rfl | rfl | rfl | rfl | rfl | rfl | rfl | rfl | rfl | rfl | rfl | rfl | rfl
  · exact takesFields_sleepCtl s v
  · exact takesFields_pwrVote s v
  · exact takesFields_geyserCfg s v
  · exact takesFields_wakeTimer s v
  · exact takesFields_funcEn s v
  · exact takesFields_clkCtl s v
  · exact takesFields_schedCtl s v
  · exact takesFields_filtCtl s v
  · exact takesFields_calCmd s v
  · exact takesFields_baseCtl s v
  · exact takesFields_rptCtl s v
  · exact takesFields_ringCtl s v
  · exact takesFields_winSel s v
  · exact takesFields_debugCtl s v
  · exact takesFields_hostCtl s v

end State
end Sys2Proof.Machine
end

section
/-! PROOFS. What a committed write sets off beside its fields (R13, R302, R336, R360, R361, R395, R409, R445). -/

namespace Sys2Proof.Machine

theorem getLsbD_of_div {v : Word} {k c : Nat} (h : v.toNat / 2 ^ k = c) (j : Nat) : v.getLsbD (k + j) = c.testBit j := by
  rw [← h, Nat.testBit_div_two_pow, Nat.add_comm]
  rfl

theorem getLsbD_of_div_mod {v : Word} {k c : Nat} (h : v.toNat / 2 ^ k % 8 = c) {j : Nat} (hj : j < 3) :
    v.getLsbD (k + j) = c.testBit j := by
  have hm : (v.toNat / 2 ^ k % 2 ^ 3).testBit j = (v.toNat / 2 ^ k).testBit j := by
    rw [Nat.testBit_mod_two_pow]
    simp [hj]
  rw [getLsbD_of_div rfl, ← h]
  exact hm.symm

/-- The fields that a plain write of a field without W1C bits leaves. -/
theorem bits_writtenWord {r : RegId} {lo w : Nat} (old v : Word)
    (h : ∀ i, lo ≤ i → i < lo + w → (rwMask r.val).getLsbD i = true) : bits (writtenWord r old v) lo w = bits v lo w :=
  bits_congr fun i h₁ h₂ => by rw [getLsbD_writtenWord, if_pos (h i h₁ h₂)]

namespace State

variable {s : State}

/-! ### The register that a write reaches -/

theorem exec_registerWrite {a : BitVec 7} {k : Nat} (v : Word) (ha : a.toNat = k) (h : s.answers k = true) :
    exec (.registerWrite a v) s = .next (s.commitReg k v) := by
  subst ha
  exact congrArg Host.Outcome.next (if_pos h)

theorem answers_main {k : Nat} (hk : needsMain k = true) (hm : s.mainUp = true) : s.answers k = true := by
  rw [answers, hk, hm]
  rfl

theorem answers_aon {k : Nat} (hk : needsMain k = false) (ha : s.aonUp = true) : s.answers k = true := by
  rw [answers, hk, ha]
  rfl

theorem commitReg_reserved {k : Nat} (h : 80 ≤ k) (v : Word) : s.commitReg k v = s := by
  have hk : ¬ k < 80 := Nat.not_lt.2 h
  unfold commitReg
  split <;> simp_all

theorem registerWrite_reserved {a : BitVec 7} (h : 80 ≤ a.toNat) (v : Word) : exec (.registerWrite a v) s = .next s := by
  refine congrArg Host.Outcome.next ?_
  rw [commitReg_reserved h, ite_self]

/-- A write of SYS_RESET through a port, with free straps (log entry 37). -/
theorem sysResetFree_boots (v : Word) : if bits v 8 8 = 0xA5 then
    bootsFrom s 3 (s.sysResetFree v).aon.hsel (s.sysResetFree v).aon.hsdo (s.sysResetFree v) else s.sysResetFree v = s := by
  unfold sysResetFree
  dsimp only
  split
  case isTrue => exact s.drawBit.2.drawBit.2.bootsFrom_rebooted 3 _ _
  case isFalse => rfl

/-! ### Votes and requests for sleep -/

theorem reg_hsRefuse_ne {q : RegId} (block reason : Nat) (hn : q ∉ nvmRegs) (hq : q ∉ queueRegs) (hc : q ≠ Reg.SLEEP_CTL)
    (ha : q ≠ Reg.SLEEP_ABORT) : (s.hsRefuse block reason).reg q = s.reg q := by
  have hi : q ≠ Reg.INT_STAT := fun he => hn (he ▸ by decide)
  have hg : q ≠ Reg.RPT_GAPS := fun he => hq (he ▸ by decide)
  have hs : q ≠ Reg.RPT_STAT := fun he => hq (he ▸ by decide)
  have hrefused (agreed : List Nat) : (s.hsRefused block reason agreed).reg q = s.reg q := by
    obtain ⟨⟨-, -, -, -, hr⟩, -⟩ :=
      restartBlocks_spec { s with pwr := { s.pwr with hs := none, quiesce := false, pstate := .active } } agreed
    unfold hsRefused
    dsimp only
    rw [reg_raise_ne _ _ hi, reg_incFld_ne _ _ _ ha, reg_setFld_ne _ _ _ _ ha, reg_setFld_ne _ _ _ _ ha,
      reg_setFlag_ne _ _ _ hc, hr q hn]
    rfl
  unfold hsRefuse
  cases s.pwr.hs with
  | none => exact hrefused []
  | some h =>
    dsimp only
    cases h.start with
    | none => exact hrefused h.agreed
    | some t => exact (reg_drainInserted_ne _ hq).trans ((reg_insertRec_ne _ _ hg hs).trans (hrefused h.agreed))

theorem reg_sleepAsk : s.sleepAsk.reg Reg.PWR_VOTE = s.reg Reg.PWR_VOTE := by
  have ha : s.hsAsked.reg Reg.PWR_VOTE = s.reg Reg.PWR_VOTE := reg_setFlag_ne _ _ _ (by decide)
  unfold sleepAsk
  split
  · split
    · exact (reg_hsRefuse_ne (s := s.hsAsked) 6 3 (by decide) (by decide) (by decide) (by decide)).trans ha
    · split
      · exact (reg_hsRefuse_ne (s := s.hsAsked) 7 3 (by decide) (by decide) (by decide) (by decide)).trans ha
      · exact ha
  · rfl

/-- REQ withdraws the HOST vote (R336). -/
theorem writeSleepCtl_vote {v : Word} (h : v.getLsbD 15 = true) : (s.writeSleepCtl v).flag Reg.PWR_VOTE 0 = false := by
  have hreq : ((s.plainWrite Reg.SLEEP_CTL v).sleepReq).flag Reg.PWR_VOTE 0 = false := by
    unfold sleepReq
    dsimp only
    split
    · exact flag_setFlag_same _ _ _ _ (by decide)
    · rw [flag_dueIfStopped, flag_setFlag_ne _ _ _ _ (by decide)]
      exact flag_setFlag_same _ _ _ _ (by decide)
  unfold writeSleepCtl
  dsimp only
  rw [flag_dueIfStopped]
  have h₁ : onBit v 15 State.sleepReq (s.plainWrite Reg.SLEEP_CTL v) = (s.plainWrite Reg.SLEEP_CTL v).sleepReq := if_pos h
  rw [h₁]
  unfold onBit
  split
  · exact (flag_of_reg_eq reg_sleepAsk).trans hreq
  · exact hreq

theorem voteWord_of_host (h : s.flag Reg.PWR_VOTE 0 = true) : s.voteWord ≠ 0 := by
  have hx : s.voteWord = word (1 + (s.vote 1).toNat * 2 + (s.vote 2).toNat * 4 + (s.vote 3).toNat * 8 +
      (s.vote 4).toNat * 16 + (s.vote 5).toNat * 32 + (s.vote 6).toNat * 64) := by
    have h0 : s.vote 0 = true := h
    unfold voteWord
    simp [List.range_succ, h0]
  intro h0
  have hn := congrArg BitVec.toNat (hx.symm.trans h0)
  have h₁ := Bool.toNat_le (s.vote 1)
  have h₂ := Bool.toNat_le (s.vote 2)
  have h₃ := Bool.toNat_le (s.vote 3)
  have h₄ := Bool.toNat_le (s.vote 4)
  have h₅ := Bool.toNat_le (s.vote 5)
  have h₆ := Bool.toNat_le (s.vote 6)
  have hz : (1 + (s.vote 1).toNat * 2 + (s.vote 2).toNat * 4 + (s.vote 3).toNat * 8 +
      (s.vote 4).toNat * 16 + (s.vote 5).toNat * 32 + (s.vote 6).toNat * 64) % 65536 = 0 := hn
  omega

theorem sleepCond_of_host (h : s.flag Reg.PWR_VOTE 0 = true) : s.sleepCond = false := by
  have hv := voteWord_of_host h
  rw [sleepCond, beq_eq_false_iff_ne.2 hv, Bool.false_and]

/-- The HOST vote ends a request for sleep (R336, R445). -/
theorem writePwrVote_host {v : Word} (h : v.getLsbD 0 = true) : (s.writePwrVote v).flag Reg.SLEEP_CTL 15 = false ∧
    (s.pwr.hs = none → (s.writePwrVote v).pwr.goSleep = false) := by
  have hvote : (s.plainWrite Reg.PWR_VOTE v).flag Reg.PWR_VOTE 0 = true :=
    (takesFields_plainWrite s Reg.PWR_VOTE v 0 (by decide)).trans h
  have hpwr : (s.plainWrite Reg.PWR_VOTE v).pwr = s.pwr := rfl
  have h₁ : s.writePwrVote v = s.settle (s.plainWrite Reg.PWR_VOTE v).hostVoteSet := congrArg (s.settle) (if_pos h)
  rw [h₁]
  generalize s.plainWrite Reg.PWR_VOTE v = u at *
  have hu : u.hostVoteSet.flag Reg.PWR_VOTE 0 = true := (flag_of_reg_eq reg_hostVoteSet).trans hvote
  have hc : u.hostVoteSet.flag Reg.SLEEP_CTL 15 = false := by
    unfold hostVoteSet
    dsimp only
    split
    · exact (flag_quiesceCheck _ _ _).trans (flag_setFlag_same _ _ _ _ (by decide))
    · exact flag_setFlag_same _ _ _ _ (by decide)
  refine ⟨by rw [flag_settle, hc], fun hn => ?_⟩
  have hg : u.hostVoteSet.pwr.goSleep = false := by
    have hcond (p : Pwr) : ({ u.setFlag Reg.SLEEP_CTL 15 false with pwr := p } : State).sleepCond = false :=
      sleepCond_of_host ((flag_setFlag_ne _ _ _ _ (by decide)).trans hvote)
    unfold hostVoteSet
    dsimp only
    split
    · unfold quiesceCheck
      rw [hcond, if_neg Bool.false_ne_true]
      split <;> rfl
    case isFalse hno =>
      have hno' : ¬ (u.pwr.hs.isNone && u.pwr.goSleep) = true := hno
      rw [hpwr, hn] at hno'
      change u.pwr.goSleep = false
      rw [hpwr]
      simpa using hno'
  unfold settle dueIfStopped
  rw [sleepCond_of_host hu]
  split
  · exact hg
  · rw [Bool.and_false, if_neg Bool.false_ne_true]
    exact hg

theorem writeGeyserCfg_spec (v : Word) : s.writeGeyserCfg v = { s with
      regs := (s.writeGeyserCfg v).regs, geyser := (s.writeGeyserCfg v).geyser } ∧
    if s.pwr.pstate = .sleep ∧ v.getLsbD 15 = false then (s.writeGeyserCfg v).geyser.on = false ∧
      (s.writeGeyserCfg v).geyser.cand = false ∧ (s.writeGeyserCfg v).geyser.evs = []
    else (s.writeGeyserCfg v).geyser = s.geyser := by
  by_cases h : s.pwr.pstate = .sleep ∧ v.getLsbD 15 = false
  · have hx : s.writeGeyserCfg v = { s.plainWrite Reg.GEYSER_CFG v with
        geyser := { s.geyser with on := false, cand := false, evs := [], cover := false } } := by
      refine if_pos ?_
      change (decide (s.pwr.pstate = .sleep) && !v.getLsbD 15) = true
      rw [h.1, h.2]
      rfl
    rw [hx]
    exact ⟨rfl, ite_of_pos h ⟨rfl, rfl, rfl⟩⟩
  · have hx : s.writeGeyserCfg v = s.plainWrite Reg.GEYSER_CFG v := by
      refine if_neg fun hc => h ?_
      have hc' : (decide (s.pwr.pstate = .sleep) && !v.getLsbD 15) = true := hc
      rw [Bool.and_eq_true, decide_eq_true_eq, Bool.not_eq_true'] at hc'
      exact hc'
    rw [hx]
    exact ⟨rfl, (if_neg h).mpr rfl⟩

/-! ### Commands of single bits -/

theorem onBit_true {v : Word} {b : Nat} (f : State → State) (h : v.getLsbD b = true) (t : State) : onBit v b f t = f t := if_pos h

theorem onBit_false {v : Word} {b : Nat} (f : State → State) (h : v.getLsbD b = false) (t : State) : onBit v b f t = t :=
  if_neg (by rw [h]; exact Bool.false_ne_true)

theorem writeSchedCtl_eq (v : Word) : s.writeSchedCtl v =
    onBit v 13 State.schedAbort (onBit v 14 State.schedCommit (onBit v 15 State.schedLoad (s.plainWrite Reg.SCHED_CTL v))) := rfl

theorem writeRingCtl_eq (v : Word) : s.writeRingCtl v =
    onBit v 12 State.ringClear (onBit v 13 State.ringRewind (onBit v 14 State.ringMark (s.plainWrite Reg.RING_CTL v))) := rfl

theorem writeSchedCtl_load {v : Word} (h : v.toNat / 2 ^ 13 = 4) : s.writeSchedCtl v = (s.plainWrite Reg.SCHED_CTL v).schedLoad := by
  rw [writeSchedCtl_eq, onBit_true _ (getLsbD_of_div h 2), onBit_false _ (getLsbD_of_div h 1), onBit_false _ (getLsbD_of_div h 0)]

theorem writeSchedCtl_commit {v : Word} (h : v.toNat / 2 ^ 13 = 2) :
    s.writeSchedCtl v = (s.plainWrite Reg.SCHED_CTL v).schedCommit := by
  rw [writeSchedCtl_eq, onBit_false _ (getLsbD_of_div h 2), onBit_true _ (getLsbD_of_div h 1), onBit_false _ (getLsbD_of_div h 0)]

theorem writeSchedCtl_abort {v : Word} (h : v.toNat / 2 ^ 13 = 1) :
    s.writeSchedCtl v = (s.plainWrite Reg.SCHED_CTL v).schedAbort := by
  rw [writeSchedCtl_eq, onBit_false _ (getLsbD_of_div h 2), onBit_false _ (getLsbD_of_div h 1), onBit_true _ (getLsbD_of_div h 0)]

theorem writeCalCmd_self {v : Word} (h : v.toNat / 2 ^ 14 = 2) : s.writeCalCmd v = (s.plainWrite Reg.CAL_CMD v).calSelf := by
  unfold writeCalCmd
  rw [onBit_true _ (getLsbD_of_div h 1), onBit_false _ (getLsbD_of_div h 0)]

theorem writeCalCmd_recal {v : Word} (h : v.toNat / 2 ^ 14 = 1) : s.writeCalCmd v = (s.plainWrite Reg.CAL_CMD v).calRecal := by
  unfold writeCalCmd
  rw [onBit_false _ (getLsbD_of_div h 1), onBit_true _ (getLsbD_of_div h 0)]

theorem writeRingCtl_mark {v : Word} (h : v.toNat / 2 ^ 12 % 8 = 4) :
    s.writeRingCtl v = (s.plainWrite Reg.RING_CTL v).ringMark := by
  rw [writeRingCtl_eq, onBit_true _ (getLsbD_of_div_mod h (j := 2) (by decide)),
    onBit_false _ (getLsbD_of_div_mod h (j := 1) (by decide)), onBit_false _ (getLsbD_of_div_mod h (j := 0) (by decide))]

theorem writeRingCtl_rewind {v : Word} (h : v.toNat / 2 ^ 12 % 8 = 2) :
    s.writeRingCtl v = (s.plainWrite Reg.RING_CTL v).ringRewind := by
  rw [writeRingCtl_eq, onBit_false _ (getLsbD_of_div_mod h (j := 2) (by decide)),
    onBit_true _ (getLsbD_of_div_mod h (j := 1) (by decide)), onBit_false _ (getLsbD_of_div_mod h (j := 0) (by decide))]

theorem writeRingCtl_clear {v : Word} (h : v.toNat / 2 ^ 12 % 8 = 1) :
    s.writeRingCtl v = (s.plainWrite Reg.RING_CTL v).ringClear := by
  rw [writeRingCtl_eq, onBit_false _ (getLsbD_of_div_mod h (j := 2) (by decide)),
    onBit_false _ (getLsbD_of_div_mod h (j := 1) (by decide)), onBit_true _ (getLsbD_of_div_mod h (j := 0) (by decide))]

/-- A write of FUNC_RESET with one bit is that reset's command (R360). -/
theorem registerWrite_funcReset (hm : s.mainUp = true) : ∀ p ∈ [((0x0001 : Word), Instr.funcResetLanes),
    (0x0002, .funcResetFilters), (0x0004, .funcResetSeq),
    (0x0008, .funcResetCaldera), (0x0010, .funcResetTrack), (0x0020, .funcResetQueue), (0x0040, .funcResetRing),
    (0x0080, .funcResetNvmctl), (0x0100, .funcResetHostport), (0x0200, .funcResetGeyser),
    (0x0400, .funcResetGoertzel)], exec (.registerWrite 0x10 p.1) s = exec p.2 s := by
  intro p hp
  rw [exec_registerWrite (k := 0x10) p.1 rfl (answers_main rfl hm)]
  simp only [List.mem_cons, List.not_mem_nil, or_false] at hp
  rcases hp with rfl | rfl | rfl | rfl | rfl | rfl | rfl | rfl | rfl | rfl | rfl
  all_goals exact (congrArg Host.Outcome.next (if_pos hm)).symm

/-! ### Fields beside the RW fields -/

theorem writeFiltCtl_spec (v : Word) : (s.writeFiltCtl v).filt = { s.filt with clr := s.filt.clr || v.getLsbD 1 } ∧
    s.writeFiltCtl v = { s with regs := (s.writeFiltCtl v).regs, filt := (s.writeFiltCtl v).filt } := by
  unfold writeFiltCtl
  cases h : v.getLsbD 1 with
  | true =>
    rw [onBit_true _ h, Bool.or_true]
    exact ⟨rfl, rfl⟩
  | false =>
    rw [onBit_false _ h, Bool.or_false]
    exact ⟨rfl, rfl⟩

theorem writeBaseCtl_spec (v : Word) : (s.writeBaseCtl v).flag Reg.BASE_CTL 15 = (s.flag Reg.BASE_CTL 15 || v.getLsbD 15) ∧
    (∀ q, q ≠ Reg.BASE_CTL → (s.writeBaseCtl v).reg q = s.reg q) ∧
    s.writeBaseCtl v = { s with regs := (s.writeBaseCtl v).regs } := by
  have hp : (s.plainWrite Reg.BASE_CTL v).flag Reg.BASE_CTL 15 = s.flag Reg.BASE_CTL 15 := by
    rw [flag, writtenWord_eq, getLsbD_writtenWord, if_neg (by decide), show (w1cMask (Reg.BASE_CTL).val).getLsbD 15 = false by decide,
      Bool.and_false, Bool.not_false, Bool.and_true]
    rfl
  unfold writeBaseCtl
  cases h : v.getLsbD 15 with
  | true =>
    rw [onBit_true _ h, Bool.or_true]
    exact ⟨flag_setFlag_same _ _ _ _ (by decide), fun q hq => (reg_setFlag_ne _ _ _ hq).trans (reg_plainWrite_ne v hq), rfl⟩
  | false =>
    rw [onBit_false _ h, Bool.or_false]
    exact ⟨hp, fun q hq => reg_plainWrite_ne v hq, rfl⟩

theorem writeRptCtl_spec (v : Word) : (if v.getLsbD 15 then (s.writeRptCtl v).queue.items = [] ∧ (s.writeRptCtl v).queue.gap = none
      else (s.writeRptCtl v).queue = s.queue) ∧
    (s.writeRptCtl v).reg Reg.RPT_GAPS = if v.getLsbD 14 then 0 else s.reg Reg.RPT_GAPS := by
  have hclr (u : State) : (onBit v 14 State.clrGap u).queue = u.queue ∧
      (onBit v 14 State.clrGap u).reg Reg.RPT_GAPS = if v.getLsbD 14 then 0 else u.reg Reg.RPT_GAPS := by
    cases h : v.getLsbD 14 with
    | true =>
      rw [onBit_true _ h]
      exact ⟨rfl, reg_setReg_same _ _ _⟩
    | false =>
      rw [onBit_false _ h]
      exact ⟨rfl, rfl⟩
  have hgaps : (s.plainWrite Reg.RPT_CTL v).reg Reg.RPT_GAPS = s.reg Reg.RPT_GAPS := reg_plainWrite_ne v (by decide)
  unfold writeRptCtl
  rw [settle_queue, reg_settle, (hclr _).1, (hclr _).2]
  cases h : v.getLsbD 15 with
  | true =>
    rw [onBit_true _ h, reg_flushQueue_ne _ (by decide), hgaps, flushQueue_frame]
    exact ⟨⟨rfl, rfl⟩, rfl⟩
  | false =>
    rw [onBit_false _ h, hgaps]
    exact ⟨rfl, rfl⟩

theorem writeWinSel_spec (v : Word) : (s.writeWinSel v).fld Reg.WIN_STAT 0 8 = 0 ∧
    (∀ q, q ≠ Reg.WIN_SEL → q ≠ Reg.WIN_STAT → (s.writeWinSel v).reg q = s.reg q) ∧
    s.writeWinSel v = { s with regs := (s.writeWinSel v).regs } :=
  ⟨fld_setFld_same _ _ (by decide), fun _ hq hs => (reg_setFld_ne _ _ _ _ hs).trans (reg_plainWrite_ne v hq), rfl⟩

theorem writeHostCtl_spec (v : Word) : (s.writeHostCtl v).port = { s.port with ctl := (s.writeHostCtl v).reg Reg.HOST_CTL } ∧
    (∀ q, q ≠ Reg.HOST_CTL → (s.writeHostCtl v).reg q = s.reg q) ∧
    s.writeHostCtl v = { s with regs := (s.writeHostCtl v).regs, port := (s.writeHostCtl v).port } :=
  ⟨rfl, fun _ hq => reg_plainWrite_ne v hq, rfl⟩

theorem writeNvmCtl_plain {v : Word} (h : v.getLsbD 15 = false) : (s.writeNvmCtl v).fld Reg.NVM_CTL 8 4 = bits v 8 4 ∧
    s.writeNvmCtl v = { s with regs := (s.writeNvmCtl v).regs } := by
  have hx : s.writeNvmCtl v = s.plainWrite Reg.NVM_CTL v := if_neg (by rw [h]; exact Bool.false_ne_true)
  have hm : ∀ i < 16, 8 ≤ i → i < 12 → (rwMask (Reg.NVM_CTL).val).getLsbD i = true := by decide
  rw [hx, fld, writtenWord_eq, bits_writtenWord _ _ fun i h₁ h₂ => hm i (by omega) h₁ h₂]
  exact ⟨rfl, rfl⟩

theorem writeNvmCtl_go {v : Word} {op : Nat} (h : v.getLsbD 15 = true) (ho : bits v 8 4 = op) :
    s.writeNvmCtl v = s.nvmGo op (v.setWidth 8) := by
  subst ho
  exact if_pos h

theorem debugCtl_spec (v : Word) :
    (v.getLsbD 15 = false → (s.debugCtl v).sec.nonce = none ∧ (s.debugCtl v).sec.asked = s.sec.asked ∧
      (s.debugCtl v).sec.trans = s.sec.trans ∧ (s.debugCtl v).sec.unlocked = s.sec.unlocked ∧
      (∀ q, q ≠ Reg.DEBUG_CTL → (s.debugCtl v).reg q = s.reg q)) ∧
    (v.getLsbD 15 = true → bits v 12 3 = 3 → (s.debugCtl v).sec.unlocked = false) ∧
    (v.getLsbD 15 = true → 4 ≤ bits v 12 3 → (s.debugCtl v).flag Reg.DEBUG_STAT 10 = true ∧
      (s.debugCtl v).sec.asked = s.sec.asked ∧ (s.debugCtl v).sec.trans = s.sec.trans) ∧
    s.debugCtl v = { s with sec := (s.debugCtl v).sec, regs := (s.debugCtl v).regs } := by
  have hf := s.debugBase_frame v
  have hreg (q : RegId) (hq : q ≠ Reg.DEBUG_CTL) : (s.debugBase v).reg q = s.reg q := by
    rw [hf]
    exact reg_plainWrite_ne v hq
  have hb : s.debugBase v = { s with sec := (s.debugBase v).sec, regs := (s.debugBase v).regs } := by
    rw [hf]
    rfl
  have hsec : (s.debugBase v).sec.nonce = none ∧ (s.debugBase v).sec.asked = s.sec.asked ∧
      (s.debugBase v).sec.trans = s.sec.trans ∧ (s.debugBase v).sec.unlocked = s.sec.unlocked := by
    rw [hf]
    exact ⟨rfl, rfl, rfl, rfl⟩
  obtain ⟨hn, hasked, htrans, hun⟩ := hsec
  cases hgo : v.getLsbD 15 with
  | false =>
    have hx : s.debugCtl v = s.debugBase v := if_neg fun h => absurd (hgo.symm.trans h) Bool.false_ne_true
    rw [hx]
    exact ⟨fun _ => ⟨hn, hasked, htrans, hun, hreg⟩, nofun, nofun, hb⟩
  | true =>
    have hlt : bits v 12 3 < 8 := Nat.mod_lt _ (by decide)
    refine ⟨nofun, fun _ h3 => ?_, fun _ h4 => ?_, ?_⟩
    · rw [debugCtl_go s hgo, h3]
      rfl
    · have hx : s.debugCtl v = (s.debugBase v).secRefuse := by
        rw [debugCtl_go s hgo]
        split
        case h_5 => rfl
        all_goals omega
      rw [hx]
      exact ⟨flag_setFlag_same _ _ _ _ (by decide), hasked, htrans⟩
    · rw [debugCtl_go s hgo]
      have hframe (w : State) (h : w = { s.debugBase v with sec := w.sec, regs := w.regs }) :
          w = { s with sec := w.sec, regs := w.regs } := by
        rw [hb] at h
        exact h
      refine hframe _ ?_
      split
      · unfold nonceRequest
        dsimp only
        split <;> rfl
      · unfold advDevelop
        split <;> rfl
      · unfold advSecured
        split <;> rfl
      · rfl
      · rfl

end State

namespace State

/-- A write whose register does what a command of MAIN does on a state that differs in registers only. -/
theorem registerWrite_inMain {s u : State} {a : BitVec 7} {k : Nat} {v : Word} {f : State → State} (hm : s.mainUp = true)
    (ha : a.toNat = k) (hk : needsMain k = true) (hu : u.mainUp = true) (h : s.commitReg k v = f u) :
    exec (.registerWrite a v) s = .next (u.inMain f) := by
  rw [exec_registerWrite v ha (answers_main hk hm), h]
  exact (congrArg Host.Outcome.next (if_pos hu)).symm

variable {s : State} {v : Word}

/-- The commands of the schedule, of calibration and of the ring by their registers (R206, R370, R374, R302). -/
theorem registerWrite_commands (hm : s.mainUp = true) :
    (v.toNat / 2 ^ 13 = 4 → exec (.registerWrite 0x16 v) s = exec .schedLoad (s.plainWrite Reg.SCHED_CTL v)) ∧
    (v.toNat / 2 ^ 13 = 2 → exec (.registerWrite 0x16 v) s = exec .schedCommit (s.plainWrite Reg.SCHED_CTL v)) ∧
    (v.toNat / 2 ^ 13 = 1 → exec (.registerWrite 0x16 v) s = exec .schedAbort (s.plainWrite Reg.SCHED_CTL v)) ∧
    (v.toNat / 2 ^ 14 = 2 → exec (.registerWrite 0x28 v) s = exec .calSelf (s.plainWrite Reg.CAL_CMD v)) ∧
    (v.toNat / 2 ^ 14 = 1 → exec (.registerWrite 0x28 v) s = exec .calRecal (s.plainWrite Reg.CAL_CMD v)) ∧
    (v.toNat / 2 ^ 12 % 8 = 4 → exec (.registerWrite 0x38 v) s = exec .ringMark (s.plainWrite Reg.RING_CTL v)) ∧
    (v.toNat / 2 ^ 12 % 8 = 2 → exec (.registerWrite 0x38 v) s = exec .ringRewind (s.plainWrite Reg.RING_CTL v)) ∧
    (v.toNat / 2 ^ 12 % 8 = 1 → exec (.registerWrite 0x38 v) s = exec .ringClear (s.plainWrite Reg.RING_CTL v)) := by
  have hu (r : RegId) : (s.plainWrite r v).mainUp = true := hm
  exact ⟨fun h => registerWrite_inMain hm rfl rfl (hu _) (writeSchedCtl_load h),
    fun h => registerWrite_inMain hm rfl rfl (hu _) (writeSchedCtl_commit h),
    fun h => registerWrite_inMain hm rfl rfl (hu _) (writeSchedCtl_abort h),
    fun h => registerWrite_inMain hm rfl rfl (hu _) (writeCalCmd_self h),
    fun h => registerWrite_inMain hm rfl rfl (hu _) (writeCalCmd_recal h),
    fun h => registerWrite_inMain hm rfl rfl (hu _) (writeRingCtl_mark h),
    fun h => registerWrite_inMain hm rfl rfl (hu _) (writeRingCtl_rewind h),
    fun h => registerWrite_inMain hm rfl rfl (hu _) (writeRingCtl_clear h)⟩

/-- The operations of NVM_CTL by its GO (R395). -/
theorem registerWrite_nvm (hm : s.mainUp = true) (hgo : v.getLsbD 15 = true) :
    (bits v 8 4 = 1 → exec (.registerWrite 0x40 v) s = exec (.nvmProgramA (v.setWidth 8)) s) ∧
    (bits v 8 4 = 2 → exec (.registerWrite 0x40 v) s = exec (.nvmProgramB (v.setWidth 8)) s) ∧
    (bits v 8 4 = 3 → exec (.registerWrite 0x40 v) s = exec (.nvmSaveCal (v.setWidth 8)) s) ∧
    (bits v 8 4 = 4 → exec (.registerWrite 0x40 v) s = exec (.nvmCaptureSig (v.setWidth 8)) s) ∧
    (bits v 8 4 = 5 → exec (.registerWrite 0x40 v) s = exec (.nvmEraseA (v.setWidth 8)) s) ∧
    (bits v 8 4 = 6 → exec (.registerWrite 0x40 v) s = exec (.nvmEraseB (v.setWidth 8)) s) := by
  have hx (op : Nat) (h : bits v 8 4 = op) : exec (.registerWrite 0x40 v) s =
      .next (s.inMain fun t => t.nvmGo op (v.setWidth 8)) :=
    registerWrite_inMain (f := fun t => t.nvmGo op (v.setWidth 8)) hm rfl rfl hm (writeNvmCtl_go hgo h)
  exact ⟨hx 1, hx 2, hx 3, hx 4, hx 5, hx 6⟩

theorem completes_registerWrite {a : BitVec 7} {k : Nat} {P : State → Prop} (hm : s.mainUp = true)
    (ha : a.toNat = k) (hk : needsMain k = true) (h : P (s.commitReg k v)) : completes (.registerWrite a v) s P :=
  ⟨_, exec_registerWrite v ha (answers_main hk hm), h⟩

end State

open State in
/-- Settles O36: a write of a register takes its fields; each command bit is its command's own meaning. -/
theorem registerWriteFields : Obligations.RegisterWriteFields := by
  refine fun s r a v => ⟨fun hp ha hm => ?_, fun ha => registerWrite_reserved ha v, fun ha hup => ?_, fun hr ha hm => ?_,
    fun hup => ⟨rfl, ?_, ?_, ?_⟩, fun hm => ⟨registerWrite_funcReset hm, rfl, rfl, rfl, rfl, registerWrite_commands hm,
      fun hgo => registerWrite_nvm hm hgo, fun hgo => completes_registerWrite hm rfl rfl (writeNvmCtl_plain hgo),
      completes_registerWrite hm rfl rfl ?_, completes_registerWrite hm rfl rfl (writeFiltCtl_spec v),
      completes_registerWrite hm rfl rfl (writeBaseCtl_spec v), completes_registerWrite hm rfl rfl (writeRptCtl_spec v),
      completes_registerWrite hm rfl rfl (writeWinSel_spec v), completes_registerWrite hm rfl rfl (debugCtl_spec v),
      completes_registerWrite hm rfl rfl (writeHostCtl_spec v)⟩⟩
  · refine ⟨_, exec_registerWrite v ha hm, ?_⟩
    rw [commitReg_of_plain hp]
    refine ⟨fun i => ?_, fun q hq => reg_plainWrite_ne v hq, rfl⟩
    rw [writtenWord_eq, getLsbD_writtenWord]
  · subst ha
    exact ⟨_, exec_registerWrite (k := 0x0D) v rfl (answers_aon rfl hup), sysResetFree_boots v⟩
  · exact ⟨_, exec_registerWrite v ha hm, takesFields_commitReg s v hr⟩
  · exact ⟨_, exec_registerWrite (k := 0x05) v rfl (answers_aon rfl hup), writeSleepCtl_vote⟩
  · refine ⟨_, exec_registerWrite (k := 0x06) v rfl (answers_aon rfl hup), fun h => ?_⟩
    exact ⟨(writePwrVote_host h).1, fun hn _ _ _ => (writePwrVote_host h).2 hn⟩
  · exact ⟨_, exec_registerWrite (k := 0x08) v rfl (answers_aon rfl hup), writeGeyserCfg_spec v⟩
  · exact (flag_writeFuncEn s v (by decide)).trans (if_neg (by decide))

end Sys2Proof.Machine
end

section
/-! PROOFS. The Geyser: the auto-zero, touches, wake patterns and the candidate's time-out (R263 to R271). -/

namespace Sys2Proof.Machine

/-! ### The compensation by successive approximation (R263) -/

/-- One bit of the successive approximation. -/
def compStep (e : BusScan) (c i : Nat) : Nat :=
  let t := c + 2 ^ (10 - i)
  if t ≤ compMax ∧ 320 * (t : Int) ≤ nth e (2 * i) 0 + 160 then t else c

theorem autoComp_eq (e : BusScan) : autoComp e = (List.range 11).foldl (compStep e) 0 := rfl

theorem autoComp_le (e : BusScan) : autoComp e ≤ compMax := by
  have h (n : Nat) : (List.range n).foldl (compStep e) 0 ≤ compMax := by
    induction n with
    | zero => exact Nat.zero_le _
    | succ n ih =>
      rw [List.range_succ, List.foldl_append, List.foldl_cons, List.foldl_nil]
      unfold compStep
      dsimp only
      split
      case isTrue hc => exact hc.1
      case isFalse => exact ih
  rw [autoComp_eq]
  exact h 11

/-- With a steady charge each bit halves the interval in which the nearest step lies. -/
theorem compStep_interval {e : BusScan} {q : Int} (hq : ∀ j < 64, nth e j 0 = q) (h0 : 0 ≤ q) (h1 : q ≤ 320 * 1600)
    {n : Nat} (hn : n ≤ 11) : 320 * ((List.range n).foldl (compStep e) 0 : Nat) ≤ q + 160 ∧
      q + 160 < 320 * (((List.range n).foldl (compStep e) 0 : Nat) + 2 ^ (11 - n)) := by
  induction n with
  | zero =>
    simp only [List.range_zero, List.foldl_nil]
    omega
  | succ n ih =>
    obtain ⟨hl, hu⟩ := ih (by omega)
    rw [List.range_succ, List.foldl_append, List.foldl_cons, List.foldl_nil]
    generalize (List.range n).foldl (compStep e) 0 = c at *
    have hp : (2 : Int) ^ (11 - n) = 2 * 2 ^ (10 - n) := by
      rw [show 11 - n = (10 - n) + 1 by omega, pow_succ]
      ring
    have hp' : 11 - (n + 1) = 10 - n := by omega
    obtain ⟨p, hpn, hpi⟩ : ∃ p : Nat, p = 2 ^ (10 - n) ∧ (p : Int) = 2 ^ (10 - n) := ⟨_, rfl, by push_cast; rfl⟩
    unfold compStep
    rw [hq (2 * n) (by omega), hp', ← hpi, ← hpn]
    rw [hp, ← hpi] at hu
    dsimp only
    split
    case isTrue hc =>
      obtain ⟨-, hc⟩ := hc
      push_cast at hc ⊢
      omega
    case isFalse hc =>
      have hm : compMax = 1600 := rfl
      rw [hm] at hc
      push_cast at hc
      omega

/-- A steady charge is compensated to the nearest step of 0.25 pF. -/
theorem autoComp_nearest {e : BusScan} {q : Int} (hq : ∀ j < 64, nth e j 0 = q) (h0 : 0 ≤ q) (h1 : q ≤ 320 * 1600) :
    (q - 320 * autoComp e).natAbs ≤ 160 := by
  obtain ⟨hl, hu⟩ := compStep_interval hq h0 h1 (Nat.le_refl 11)
  rw [← autoComp_eq, Nat.sub_self] at hu
  rw [← autoComp_eq] at hl
  omega

/-! ### One scan of one bus -/

/-- A bus after the first scan of the auto-zero, by the compensation it found and what its converter then holds. -/
def Bus.zeroFirst (b : Bus) (c : Nat) (x : Int) : Bus :=
  { b with comp := c, x := x, base := 0, sums := 0, excl := c = 0 || compMax ≤ c }

/-- A bus after a later scan `k` of the auto-zero, by its result `r`. -/
def Bus.zeroLater (g k : Nat) (b : Bus) (e : BusScan) (r : Int × Int) : Bus :=
  let sum := b.sums + r.1
  let b := { b with x := r.2, sums := sum }
  if k = 4 then { b with base := (2 * sum + 3) / 6, excl := b.excl || residualExceeds g b.comp e } else b

theorem zeroScan_of_first (g : Nat) (b : Bus) (e : BusScan) :
    Bus.zeroScan g 1 b e = b.zeroFirst (autoComp e) (busConvert g (autoComp e) b.x e).2 := by
  unfold Bus.zeroScan Bus.zeroFirst
  exact if_pos rfl

theorem zeroScan_of_later {g k : Nat} (b : Bus) (e : BusScan) (h : k ≠ 1) :
    Bus.zeroScan g k b e = Bus.zeroLater g k b e (busConvert g b.comp b.x e) := by
  unfold Bus.zeroScan Bus.zeroLater
  exact if_neg h

/-- A bus after the first scan of the auto-zero (R263). -/
theorem zeroScan_first (g : Nat) (b : Bus) (e : BusScan) : (Bus.zeroScan g 1 b e).sums = 0 ∧
    (Bus.zeroScan g 1 b e).comp = autoComp e ∧
    ((Bus.zeroScan g 1 b e).excl = true ↔ autoComp e = 0 ∨ autoComp e = 1600) := by
  have hl := autoComp_le e
  have hm : compMax = 1600 := rfl
  rw [zeroScan_of_first]
  generalize (busConvert g (autoComp e) b.x e).2 = x
  generalize autoComp e = c at *
  refine ⟨rfl, rfl, ?_⟩
  change (decide (c = 0) || decide (compMax ≤ c)) = true ↔ _
  rw [hm] at hl ⊢
  rw [Bool.or_eq_true, decide_eq_true_eq, decide_eq_true_eq]
  omega

theorem zeroLater_sums {g k : Nat} (b : Bus) (e : BusScan) (r : Int × Int) (h4 : k ≠ 4) :
    (Bus.zeroLater g k b e r).sums = b.sums + r.1 := by
  unfold Bus.zeroLater
  dsimp only
  rw [if_neg h4]

theorem zeroLater_base (g : Nat) (b : Bus) (e : BusScan) (r : Int × Int) :
    (Bus.zeroLater g 4 b e r).base = (2 * (b.sums + r.1) + 3) / 6 := by
  unfold Bus.zeroLater
  dsimp only
  rw [if_pos rfl]

/-- The later scans of the auto-zero add up their results. -/
theorem zeroScan_sums {g k : Nat} (b : Bus) (e : BusScan) (h1 : k ≠ 1) (h4 : k ≠ 4) :
    (Bus.zeroScan g k b e).sums = b.sums + (busConvert g b.comp b.x e).1 := by
  rw [zeroScan_of_later b e h1]
  exact zeroLater_sums b e _ h4

theorem zeroScan_base (g : Nat) (b : Bus) (e : BusScan) :
    (Bus.zeroScan g 4 b e).base = (2 * (b.sums + (busConvert g b.comp b.x e).1) + 3) / 6 := by
  rw [zeroScan_of_later b e (by decide)]
  exact zeroLater_base g b e _

/-- A bus that counts, after a scan that watches it (R264, R265). -/
theorem touchScan_spec {g : Nat} {onT offT : Int} {cand : Bool} {b : Bus} {e : BusScan} (hx : b.excl = false) :
    let r := (busConvert g b.comp b.x e).1
    ((Bus.touchScan g onT offT (!cand) b e).touched = true ↔ (if b.touched then offT else onT) ≤ r - b.base) ∧
    (Bus.touchScan g onT offT (!cand) b e).base = if cand = false ∧ r - b.base ≤ -onT ∧ b.low = true then r
      else if cand = false ∧ ((r - b.base).natAbs : Int) < offT then b.base + (r - b.base).sign else b.base := by
  unfold Bus.touchScan
  rw [hx]
  dsimp only
  generalize (busConvert g b.comp b.x e).1 = r
  refine ⟨?_, ?_⟩
  · rw [if_neg Bool.false_ne_true]
    cases b.touched <;> simp
  · rw [if_neg Bool.false_ne_true]
    dsimp only
    by_cases ht : cand = false ∧ r - b.base ≤ -onT ∧ b.low = true
    · rw [if_pos ht, if_pos (by simp [ht])]
    · rw [if_neg ht, if_neg (by simpa [and_assoc] using ht)]
      by_cases hi : cand = false ∧ ((r - b.base).natAbs : Int) < offT
      · rw [if_pos hi, if_pos (by simpa using hi)]
        obtain hneg | hzero | hpos := lt_trichotomy (r - b.base) 0
        · rw [if_neg (by omega), if_pos hneg, Int.sign_eq_neg_one_of_neg hneg]
          rfl
        · rw [if_neg (by omega), if_neg (by omega), hzero, Int.sign_zero, add_zero]
        · rw [if_pos hpos, Int.sign_eq_one_of_pos hpos]
      · rw [if_neg hi, if_neg (by simpa using hi)]

theorem touchScan_excl {g : Nat} {onT offT : Int} {idle : Bool} {b : Bus} (e : BusScan) (hx : b.excl = true) :
    Bus.touchScan g onT offT idle b e = b := if_pos hx

theorem scanBuses_length (f : Bus → BusScan → Bus) (bs : List Bus) (rs : List BusScan) :
    (scanBuses f bs rs).length = bs.length := by
  rw [scanBuses, List.length_map, List.length_range]

theorem nth_scanBuses (f : Bus → BusScan → Bus) {bs : List Bus} (rs : List BusScan) {i : Nat} (h : i < bs.length) :
    nth (scanBuses f bs rs) i Bus.reset = f (nth bs i Bus.reset) (nth rs i []) := nth_map_range _ _ h

theorem nth_map {α β : Type} (f : α → β) {l : List α} {i : Nat} (d : α) (d' : β) (h : i < l.length) :
    nth (l.map f) i d' = f (nth l i d) := by
  simp [nth, h]

namespace State

variable {s : State}

/-! ### A scan of the auto-zero -/

theorem aonFault_frame (flag elem : Nat) (detail : Word) (outcome : Nat) : ∃ g q f,
    s.aonFault flag elem detail outcome = { s with regs := g, queue := q, fmon := f } := by
  unfold aonFault faultEvent
  dsimp only
  split
  · obtain ⟨g, q, h⟩ := recordFault_frame ((s.setFlag Reg.AON_FAULT flag true).raise Irq.FAULT)
      { cls := FaultClass.AON, outcome := outcome, elem := elem, detail := detail, subst := 0xFFFF, counted := true }
    exact ⟨g, q, s.fmon, h⟩
  · exact ⟨_, s.queue, _, rfl⟩

theorem aonFaults_frame (l : List Nat) (s : State) : ∃ g q f,
    l.foldl (fun s i => s.aonFault 11 2 (word i) 1) s = { s with regs := g, queue := q, fmon := f } := by
  induction l generalizing s with
  | nil => exact ⟨s.regs, s.queue, s.fmon, rfl⟩
  | cons i l ih =>
    obtain ⟨g, q, f, h⟩ := aonFault_frame (s := s) 11 2 (word i) 1
    obtain ⟨g', q', f', h'⟩ := ih { s with regs := g, queue := q, fmon := f }
    rw [List.foldl_cons, h]
    exact ⟨g', q', f', h'⟩

/-- What a scan of the auto-zero leaves. -/
theorem zeroScan_frame (k : Nat) (rs : List BusScan) : ∃ on g q f, s.zeroScan k rs = { s with
    geyser := { s.geyser with buses := scanBuses (Bus.zeroScan s.geyser.sgain k) s.geyser.buses rs, scan := k, on := on },
    regs := g, queue := q, fmon := f } := by
  unfold zeroScan
  extract_lets old new out gs t mask
  obtain ⟨g, q, f, h⟩ := aonFaults_frame out (t.setFld Reg.AON_FAULT 4 4 mask)
  exact ⟨_, g, q, f, h⟩

/-! ### A scan that watches -/

theorem record_keeps (g : Geyser) (old : List Bus) (now : BitVec 32) : (g.record old now).buses = g.buses ∧
    (g.record old now).scan = g.scan := ⟨rfl, rfl⟩

theorem watchBuses_frame (rs : List BusScan) : ∃ g, (s.watchBuses rs).1 = { s with geyser := g } ∧
    g.buses = scanBuses (Bus.touchScan s.geyser.sgain s.geyOnThr s.geyOffThr (!s.geyser.cand)) s.geyser.buses rs ∧
    g.scan = s.geyser.scan + 1 := by
  unfold watchBuses
  dsimp only
  split
  · exact ⟨_, rfl, rfl, rfl⟩
  · exact ⟨_, rfl, rfl, rfl⟩

/-- A pattern that completes is one that GEYSER_CFG enables. -/
theorem pattern_enabled {g : Geyser} {done : Bool} {k : Nat} (h : s.pattern g done = some k) :
    s.flag Reg.GEYSER_CFG (15 - k) = true ∧ k < 4 := by
  unfold pattern at h
  extract_lets now n dir up down at h
  split at h
  case isTrue hc =>
    obtain rfl := Option.some.inj h
    exact ⟨(Bool.and_eq_true_iff.1 hc).1, by decide⟩
  case isFalse =>
    split at h
    case isTrue hc =>
      obtain rfl := Option.some.inj h
      simp only [Bool.and_eq_true] at hc
      exact ⟨hc.1.1.1, by decide⟩
    case isFalse =>
      split at h
      case isTrue hc =>
        obtain rfl := Option.some.inj h
        simp only [Bool.and_eq_true] at hc
        exact ⟨hc.1.1, by decide⟩
      case isFalse => exact absurd h nofun

/-- A wake candidate (R266, R268). -/
theorem candidate_frame {k : Nat} (hk : k < 4) (hs : s.pwr.pstate = .sleep) : ∃ p g, s.candidate k = { s with
      geyser := { s.geyser with cand := false, evs := [] }, pwr := p, regs := g } ∧
    WakeSource.geyser ∈ p.reqs ∧ bits (g[(Reg.GEYSER_THR).val]) 2 2 = k := by
  have hf := wakeRequest_frame { s.setFld Reg.GEYSER_THR 2 2 k with geyser := { s.geyser with cand := false, evs := [] } } .geyser
  have hm := mem_wakeRequest (s := { s.setFld Reg.GEYSER_THR 2 2 k with geyser := { s.geyser with cand := false, evs := [] } })
    hs .geyser
  have hx : s.candidate k = wakeRequest { s.setFld Reg.GEYSER_THR 2 2 k with
    geyser := { s.geyser with cand := false, evs := [] } } .geyser := rfl
  refine ⟨_, _, hx.trans hf, hm, ?_⟩
  exact (fld_setFld_same (s := s) (r := Reg.GEYSER_THR) k (by decide)).trans (Nat.mod_eq_of_lt hk)

theorem exec_geyserScan (rs : List BusScan) (hup : s.aonUp = true) (hs : s.pwr.pstate = .sleep) (ho : s.geyser.on = true) :
    exec (.geyserScan rs) s =
      .next (if s.geyser.scan < 4 then s.zeroScan (s.geyser.scan + 1) rs else s.watchScan rs) :=
  congrArg Host.Outcome.next (if_pos (by simp [hup, hs, ho]))

/-- What a scan that watches leaves, and what a pattern that completes in it asks for. -/
theorem watchScan_frame (rs : List BusScan) (hs : s.pwr.pstate = .sleep) : ∃ g p l, s.watchScan rs = { s with
      geyser := g, pwr := p, regs := l } ∧
    g.buses = scanBuses (Bus.touchScan s.geyser.sgain s.geyOnThr s.geyOffThr (!s.geyser.cand)) s.geyser.buses rs ∧
    g.scan = s.geyser.scan + 1 ∧
    match (s.watchBuses rs).1.pattern (s.watchBuses rs).1.geyser (s.watchBuses rs).2 with
    | some k => WakeSource.geyser ∈ p.reqs ∧ bits (l[(Reg.GEYSER_THR).val]) 2 2 = k ∧
        s.flag Reg.GEYSER_CFG (15 - k) = true ∧ g.cand = false
    | none => p = s.pwr := by
  obtain ⟨g, hu, hb, hsc⟩ := watchBuses_frame (s := s) rs
  unfold watchScan
  dsimp only
  rw [hu]
  cases hp : ({ s with geyser := g } : State).pattern g (s.watchBuses rs).2 with
  | none => exact ⟨g, s.pwr, s.regs, rfl, hb, hsc, rfl⟩
  | some k =>
    obtain ⟨hfl, hk⟩ := pattern_enabled hp
    obtain ⟨p, l, hx, hm, hkind⟩ := candidate_frame (s := { s with geyser := g }) hk hs
    exact ⟨_, p, l, hx, hb, hsc, hm, hkind, hfl, rfl⟩

end State

open State in
/-- Settles O52: one bus is converted at a time, and the pattern that completes in a scan is one that is enabled. -/
theorem geyserScans : Obligations.GeyserScans := by
  intro s rs i hup
  dsimp only
  refine ⟨fun hs ho hi => ?_, fun hs hc => ?_, ?_, ?_⟩
  · have hx := exec_geyserScan rs hup hs ho
    by_cases h4 : s.geyser.scan < 4
    · rw [if_pos h4] at hx
      obtain ⟨on, g, q, f, hz⟩ := zeroScan_frame (s := s) (s.geyser.scan + 1) rs
      rw [hz] at hx
      have hb := nth_scanBuses (Bus.zeroScan s.geyser.sgain (s.geyser.scan + 1)) rs hi
      refine ⟨_, hx, rfl, scanBuses_length _ _ _, fun _ => rfl, fun h0 => ?_, fun h1 h3 => ?_, fun h3 => ?_,
        fun h => absurd h4 (Nat.not_lt.2 h), fun h => absurd h4 (Nat.not_lt.2 h), fun h => absurd h4 (Nat.not_lt.2 h), rfl⟩
      · rw [h0] at hb
        obtain ⟨hsum, hcomp, hexcl⟩ := zeroScan_first s.geyser.sgain (nth s.geyser.buses i Bus.reset) (nth rs i [])
        dsimp only
        rw [h0, hb, hsum, hcomp, hexcl]
        exact ⟨rfl, autoComp_le _, Iff.rfl, fun q hq => autoComp_nearest hq⟩
      · dsimp only
        rw [hb, zeroScan_sums _ _ (by omega) (by omega)]
      · rw [h3] at hb
        dsimp only
        rw [h3, hb, zeroScan_base]
    · rw [if_neg h4] at hx
      obtain ⟨g, p, l, hw, hbuses, hscan, hpat⟩ := watchScan_frame (s := s) rs hs
      rw [hw] at hx
      have hb : nth g.buses i Bus.reset = Bus.touchScan s.geyser.sgain s.geyOnThr s.geyOffThr (!s.geyser.cand)
          (nth s.geyser.buses i Bus.reset) (nth rs i []) := by
        rw [hbuses]
        exact nth_scanBuses _ rs hi
      refine ⟨_, hx, hscan, ?_, fun h => absurd h h4, fun h => absurd h (by omega), fun _ h => absurd h (by omega),
        fun h => absurd h (by omega), fun _ he => ?_, fun _ he => ?_, fun _ => ?_, rfl⟩
      · dsimp only
        rw [hbuses, scanBuses_length]
      · obtain ⟨ht, hbase⟩ := touchScan_spec (g := s.geyser.sgain) (onT := s.geyOnThr) (offT := s.geyOffThr)
          (cand := s.geyser.cand) (e := nth rs i []) he
        dsimp only
        rw [hb]
        exact ⟨ht, hbase⟩
      · dsimp only
        rw [hb, touchScan_excl _ he]
      · revert hpat
        cases (s.watchBuses rs).1.pattern (s.watchBuses rs).1.geyser (s.watchBuses rs).2 with
        | none => exact fun hp => congrArg Pwr.reqs hp
        | some k => exact fun hp => hp
  · refine ⟨_, congrArg Host.Outcome.next (if_pos (by simp [hup, hs, hc])), rfl, rfl, rfl, fun hi => ?_⟩
    exact nth_map _ Bus.reset Bus.reset hi
  · exact ⟨_, congrArg Host.Outcome.next (if_pos hup), rfl, rfl⟩
  · exact ⟨_, congrArg Host.Outcome.next (if_pos hup), flag_setFlag_same _ _ _ _ (by decide),
      fun q hq => reg_setFlag_ne _ _ _ hq, rfl⟩

end Sys2Proof.Machine
end

section
/-! PROOFS. PUB, VOTE, EMIT and ERING of a sound cell: what each stages (R181, R183, R297). -/

namespace Sys2Proof.Machine

namespace State

variable {s : State}

/-! ### Staged publications and votes -/

theorem stagePub_of_sound (h : s.cellsSound) (c : CellId) (g : Nat) (v : Word) :
    s.stagePub c g v = { s with cald := { s.cald with
      pubs := s.cald.pubs.filter (fun p => p.1 != c.val || p.2.1 != g) ++ [(c.val, g, v)] } } := by
  have hv : (v.setWidth 24).setWidth 16 = v := by rw [BitVec.setWidth_setWidth_of_le _ (by decide), BitVec.setWidth_eq]
  unfold stagePub
  rw [token_of_sound h]
  dsimp only
  have h₀ (x : Data × Data) : nth ([x].map Prod.snd) 0 0 = x.2 := rfl
  rw [h₀, hv]

theorem stageVote_of_sound (h : s.cellsSound) (c : CellId) (b : Bool) :
    s.stageVote c b = { s with cald := { s.cald with
      votes := s.cald.votes.filter (fun p => p.1 != c.val) ++ [(c.val, b)] } } := by
  have hb : (BitVec.ofNat 24 b.toNat).getLsbD 0 = b := by cases b <;> rfl
  unfold stageVote
  rw [token_of_sound h]
  dsimp only
  have h₀ (x : Data × Data) : nth ([x].map Prod.snd) 0 0 = x.2 := rfl
  rw [h₀, hb]

end State

/-- The last publication of a cell to a target counts. -/
theorem mem_staged_same (l : List (Nat × Nat × Word)) (c g : Nat) (v w : Word) :
    (c, g, w) ∈ l.filter (fun p => p.1 != c || p.2.1 != g) ++ [(c, g, v)] ↔ w = v := by
  simp

theorem mem_staged_ne (l : List (Nat × Nat × Word)) {c g k j : Nat} (v w : Word) (h : k ≠ c ∨ j ≠ g) :
    (k, j, w) ∈ l.filter (fun p => p.1 != c || p.2.1 != g) ++ [(c, g, v)] ↔ (k, j, w) ∈ l := by
  have hne : ¬ (k = c ∧ j = g ∧ w = v) := fun ⟨hk, hj, _⟩ => h.elim (· hk) (· hj)
  have hor : (k != c || j != g) = true := by simpa [bne_iff_ne] using h
  simp [List.mem_filter, hor, hne]

theorem mem_votes_same (l : List (Nat × Bool)) (c : Nat) (v w : Bool) :
    (c, w) ∈ l.filter (fun p => p.1 != c) ++ [(c, v)] ↔ w = v := by
  simp

theorem mem_votes_ne (l : List (Nat × Bool)) {c k : Nat} (v w : Bool) (h : k ≠ c) :
    (k, w) ∈ l.filter (fun p => p.1 != c) ++ [(c, v)] ↔ (k, w) ∈ l := by
  simp [List.mem_filter, h]

namespace State

variable {s : State}

/-- The cell of an instruction that has completed on a state whose cells are the ones before. -/
theorem cell_cellAdvance_of_eq {u : State} (h : ∀ k, u.cell k = s.cell k) (c : CellId) :
    (u.cellAdvance c).cell c = (s.cell c).advance ∧ ∀ k, k ≠ c → (u.cellAdvance c).cell k = s.cell k :=
  ⟨(cell_setCell_same ..).trans (congrArg Cell.advance (h c)), fun k hk => (cell_setCell_ne _ _ hk).trans (h k)⟩

theorem execPub_code {c : CellId} {p : Pred} {a : XReg} {imm : Data} (hp : (s.cell c).holds p = true)
    (hs : s.cellsSound) (hr : s.runs c (.pub c (.code p a imm)) = true) :
    exec (.pub c (.code p a imm)) s = .next (({ s.fetchErr c with cald := { (s.fetchErr c).cald with
      pubs := (s.fetchErr c).cald.pubs.filter (fun q => q.1 != c.val || q.2.1 != imm.toNat % 256) ++
        [(c.val, imm.toNat % 256, ((s.cell c).get a).setWidth 16)] } } : State).cellAdvance c) := by
  refine congrArg Host.Outcome.next ((cellAct_of_holds hr hp _).trans ?_)
  rw [stagePub_of_sound (cellsSound_fetchErr hs c), cell_fetchErr]

theorem execVote_code {c : CellId} {p : Pred} {imm : Data} (hp : (s.cell c).holds p = true)
    (hs : s.cellsSound) (hr : s.runs c (.vote c (.code p imm)) = true) :
    exec (.vote c (.code p imm)) s = .next (({ s.fetchErr c with cald := { (s.fetchErr c).cald with
      votes := (s.fetchErr c).cald.votes.filter (fun q => q.1 != c.val) ++ [(c.val, imm.getLsbD 0)] } } : State).cellAdvance
        c) := by
  refine congrArg Host.Outcome.next ((cellAct_of_holds hr hp _).trans ?_)
  rw [stageVote_of_sound (cellsSound_fetchErr hs c)]

theorem pubs_fetchErr (c : CellId) : (s.fetchErr c).cald.pubs = s.cald.pubs := by
  obtain ⟨b, hb⟩ := s.fetchErr_cald c
  rw [hb]

theorem votes_fetchErr (c : CellId) : (s.fetchErr c).cald.votes = s.cald.votes := by
  obtain ⟨b, hb⟩ := s.fetchErr_cald c
  rw [hb]

/-! ### Records and ring entries -/

theorem emitWords_of_sound (h : s.cellsSound) (c : CellId) (ws : List Word) : s.emitWords c ws = (ws, s) := by
  have hv (v : Word) : (v.setWidth 24).setWidth 16 = v := by
    rw [BitVec.setWidth_setWidth_of_le _ (by decide), BitVec.setWidth_eq]
  unfold emitWords
  rw [token_of_sound h]
  refine Prod.ext ?_ rfl
  simp only [List.map_map]
  exact (List.map_congr_left fun v _ => hv v).trans (List.map_id _)

/-- What the emit port writes of the words of a record (R181). -/
def emitted (s : State) (ws : List Word) : Rec :=
  recOf (nth ws 0 0) s.cald.fc s.time16 (nth ws 3 0) (nth ws 4 0) (nth ws 5 0) (nth ws 6 0) (nth ws 7 0)

theorem emitRec_of_sound (h : s.cellsSound) (c : CellId) (ws : List Word) : s.emitRec c ws = s.pushRec (s.emitted ws) := by
  unfold emitRec
  rw [emitWords_of_sound h]
  rfl

theorem emitRing_of_sound (h : s.cellsSound) (c : CellId) (ws : List Word) : s.emitRing c ws =
    { s with cald := { s.cald with ring := if s.ringTakes then s.cald.ring ++ [#v[s.cald.fc, nth ws 1 0, nth ws 2 0, nth ws 3 0]]
      else s.cald.ring } } := by
  unfold emitRing
  rw [emitWords_of_sound h]
  by_cases ht : s.ringTakes = true <;> simp only [ht, if_true, if_false, Bool.false_eq_true]

/-- A push changes the queue, RPT_STAT and, of the fault monitor, the errors of the words it writes. -/
theorem pushRec_changes (s : State) (r : Rec) : s.pushRec r = { s with
    queue := (s.pushRec r).queue, regs := (s.pushRec r).regs,
    fmon := { s.fmon with memErrs := (s.pushRec r).fmon.memErrs } } := by
  unfold pushRec
  dsimp only
  split
  · rfl
  · split <;> rfl

theorem pushRec_memErrs_of_none (h : s.fmon.memErrs = []) (r : Rec) : (s.pushRec r).fmon.memErrs = [] := by
  have hf {t : State} (m : MemId) (lo hi : Nat) (ht : t.fmon.memErrs = []) : (t.rewriteRange m lo hi).fmon.memErrs = [] := by
    rw [rewriteRange, ht]
    rfl
  unfold pushRec
  dsimp only
  split
  · exact h
  · split
    · exact hf _ _ _ h
    · exact hf _ _ _ (hf _ _ _ h)

theorem cellsSound_pushRec (h : s.cellsSound) (r : Rec) : (s.pushRec r).cellsSound := by
  rw [pushRec_changes]
  exact h

theorem loadData_of_no_errs (h : s.fmon.memErrs = []) (c : CellId) (a : Nat) : s.loadData c a = (s.ldmem c a, s) := by
  unfold loadData
  rw [cellRead_none (s.memErr_of_no_errs h _ _)]
  exact Prod.ext BitVec.xor_zero rfl

theorem loadWords_of_no_errs (h : s.fmon.memErrs = []) (c : CellId) (a n : Nat) :
    s.loadWords c a n = ((List.range n).map (fun i => (s.ldmem c (a + i)).setWidth 16), s) := by
  induction n with
  | zero => rfl
  | succ n ih =>
    unfold loadWords
    rw [ih]
    dsimp only
    rw [loadData_of_no_errs h, List.range_succ, List.map_append]
    rfl

theorem cellEmit_of_holds {c : CellId} {i : Instr} {p : Pred} (hr : s.runs c i = true) (hp : (s.cell c).holds p = true)
    (f : State → State) : s.cellEmit c i p f = (f (s.fetchErr c)).cellAdvance c := by
  unfold cellEmit
  rw [if_pos hr]
  dsimp only
  rw [cell_fetchErr, if_pos hp]

/-- Word `i` of the cell's DMEM from an address on. -/
def dmemWord (s : State) (c : CellId) (addr : BitVec 12) (i : Nat) : Word := (s.dmemRead (s.phys c) (addr.toNat + i)).setWidth 16

theorem execEmit_code {c : CellId} {p : Pred} {addr : BitVec 12} (hp : (s.cell c).holds p = true) (hs : s.cellsSound)
    (he : s.fmon.memErrs = []) (hr : s.runs c (.emit c (.code p addr)) = true) :
    exec (.emit c (.code p addr)) s = .next ((s.pushRec #v[s.dmemWord c addr 0, s.cald.fc, s.aon.time.setWidth 16,
      s.dmemWord c addr 3, s.dmemWord c addr 4, s.dmemWord c addr 5, s.dmemWord c addr 6, s.dmemWord c addr 7]).cellAdvance
        c) := by
  refine congrArg Host.Outcome.next ((cellEmit_of_holds hr hp _).trans ?_)
  rw [fetchErr_of_no_errs he, loadWords_of_no_errs he]
  dsimp only
  rw [emitRec_of_sound hs]
  rfl

theorem execEring_code {c : CellId} {p : Pred} {addr : BitVec 12} (hp : (s.cell c).holds p = true) (hs : s.cellsSound)
    (he : s.fmon.memErrs = []) (hr : s.runs c (.ering c (.code p addr)) = true) :
    exec (.ering c (.code p addr)) s = .next (({ s with cald := { s.cald with ring := if s.ringTakes then
      s.cald.ring ++ [#v[s.cald.fc, s.dmemWord c addr 1, s.dmemWord c addr 2, s.dmemWord c addr 3]]
      else s.cald.ring } } : State).cellAdvance c) := by
  refine congrArg Host.Outcome.next ((cellEmit_of_holds hr hp _).trans ?_)
  rw [fetchErr_of_no_errs he, loadWords_of_no_errs he]
  dsimp only
  rw [emitRing_of_sound hs]
  rfl

theorem ringTakes_iff (s : State) : s.ringTakes = true ↔
    s.cald.snap.flag Reg.RING_CTL 15 = true ∧ (s.flag Reg.FUNC_EN 6 = true ∨ s.cald.ringOn = true) := by
  simp [ringTakes, fsn]

theorem pushRec_cellAdvance_frame (he : s.fmon.memErrs = []) (r : Rec) (c : CellId) : (s.pushRec r).cellAdvance c = { s with
    queue := ((s.pushRec r).cellAdvance c).queue, regs := ((s.pushRec r).cellAdvance c).regs,
    cald := { s.cald with cells := ((s.pushRec r).cellAdvance c).cald.cells } } := by
  have hf := s.pushRec_changes r
  rw [pushRec_memErrs_of_none he, ← he] at hf
  generalize s.pushRec r = u at *
  rw [hf]
  rfl

end State

/-! ### The four instructions in their own form -/

theorem pubVote_code (s : State) (c : CellId) (p : Pred) (a : XReg) (imm : Data)
     (hp : (s.cell c).holds p = true) (hs : s.cellsSound) :
     (s.runs c (.pub c (.code p a imm)) = true → completes (.pub c (.code p a imm)) s (fun t =>
       (∀ v, (c.val, imm.toNat % 256, v) ∈ t.cald.pubs ↔ v = ((s.cell c).get a).setWidth 16) ∧
       (∀ k g v, k ≠ c.val ∨ g ≠ imm.toNat % 256 → ((k, g, v) ∈ t.cald.pubs ↔ (k, g, v) ∈ s.cald.pubs)) ∧
       t.cell c = (s.cell c).advance ∧ (∀ k, k ≠ c → t.cell k = s.cell k) ∧
       ∃ f, t = { s.fetchErr c with
         cald := { (s.fetchErr c).cald with pubs := t.cald.pubs, cells := t.cald.cells }, fmon := f })) ∧
     (s.runs c (.vote c (.code p imm)) = true → completes (.vote c (.code p imm)) s (fun t =>
       (∀ v, (c.val, v) ∈ t.cald.votes ↔ v = imm.getLsbD 0) ∧
       (∀ k v, k ≠ c.val → ((k, v) ∈ t.cald.votes ↔ (k, v) ∈ s.cald.votes)) ∧
       t.cell c = (s.cell c).advance ∧ (∀ k, k ≠ c → t.cell k = s.cell k) ∧
       ∃ f, t = { s.fetchErr c with
         cald := { (s.fetchErr c).cald with votes := t.cald.votes, cells := t.cald.cells }, fmon := f })) := by
  have hcells (k : CellId) := s.cell_fetchErr c k
  refine ⟨fun hr => ⟨_, State.execPub_code hp hs hr, ?_⟩, fun hr => ⟨_, State.execVote_code hp hs hr, ?_⟩⟩
  · refine ⟨fun v => mem_staged_same .., fun k g v hne => ?_, ?_⟩
    · exact (mem_staged_ne _ _ _ hne).trans (by rw [State.pubs_fetchErr])
    · obtain ⟨h₁, h₂⟩ := State.cell_cellAdvance_of_eq (s := s) (u := { s.fetchErr c with cald := { (s.fetchErr c).cald with
        pubs := (s.fetchErr c).cald.pubs.filter (fun q => q.1 != c.val || q.2.1 != imm.toNat % 256) ++
          [(c.val, imm.toNat % 256, ((s.cell c).get a).setWidth 16)] } }) hcells c
      exact ⟨h₁, h₂, _, rfl⟩
  · refine ⟨fun v => mem_votes_same .., fun k v hne => ?_, ?_⟩
    · exact (mem_votes_ne _ _ _ hne).trans (by rw [State.votes_fetchErr])
    · obtain ⟨h₁, h₂⟩ := State.cell_cellAdvance_of_eq (s := s) (u := { s.fetchErr c with cald := { (s.fetchErr c).cald with
        votes := (s.fetchErr c).cald.votes.filter (fun q => q.1 != c.val) ++ [(c.val, imm.getLsbD 0)] } }) hcells c
      exact ⟨h₁, h₂, _, rfl⟩

theorem emitEring_code (s : State) (c : CellId) (p : Pred) (addr : BitVec 12)
     (hp : (s.cell c).holds p = true) (hs : s.cellsSound) (he : s.fmon.memErrs = []) :
     let w (i : Nat) : Word := (s.dmemRead (s.phys c) (addr.toNat + i)).setWidth 16
     (s.runs c (.emit c (.code p addr)) = true → completes (.emit c (.code p addr)) s (fun t =>
       t.queue = (s.pushRec #v[w 0, s.cald.fc, s.aon.time.setWidth 16, w 3, w 4, w 5, w 6, w 7]).queue ∧
       t.cell c = (s.cell c).advance ∧ (∀ k, k ≠ c → t.cell k = s.cell k) ∧ (∀ q, q ≠ Reg.RPT_STAT → t.reg q = s.reg q) ∧
       t = { s with queue := t.queue, regs := t.regs, cald := { s.cald with cells := t.cald.cells } })) ∧
     (s.runs c (.ering c (.code p addr)) = true → completes (.ering c (.code p addr)) s (fun t =>
       t.cald.ring = (if s.cald.snap.flag Reg.RING_CTL 15 = true ∧ (s.flag Reg.FUNC_EN 6 = true ∨ s.cald.ringOn = true) then
         s.cald.ring ++ [#v[s.cald.fc, w 1, w 2, w 3]] else s.cald.ring) ∧
       t.cell c = (s.cell c).advance ∧ (∀ k, k ≠ c → t.cell k = s.cell k) ∧
       t = { s with cald := { s.cald with ring := t.cald.ring, cells := t.cald.cells } })) ∧
     (s.lib.on = false → exec (.emit c .library) s = .next s ∧ exec (.ering c .library) s = .next s) := by
  intro w
  refine ⟨fun hr => ⟨_, State.execEmit_code hp hs he hr, ?_⟩, fun hr => ⟨_, State.execEring_code hp hs he hr, ?_⟩,
    fun ho => ⟨?_, ?_⟩⟩
  · have hcell (r : Rec) (k : CellId) : (s.pushRec r).cell k = s.cell k := by rw [State.cell, State.pushRec_cald, State.cell]
    obtain ⟨h₁, h₂⟩ := State.cell_cellAdvance_of_eq (hcell _) c
    exact ⟨rfl, h₁, h₂, fun q hq => State.reg_pushRec_ne _ _ hq, State.pushRec_cellAdvance_frame he _ c⟩
  · obtain ⟨h₁, h₂⟩ := State.cell_cellAdvance_of_eq (s := s) (u := { s with cald := { s.cald with ring := if s.ringTakes then
      s.cald.ring ++ [#v[s.cald.fc, s.dmemWord c addr 1, s.dmemWord c addr 2, s.dmemWord c addr 3]]
      else s.cald.ring } }) (fun _ => rfl) c
    exact ⟨if_congr s.ringTakes_iff rfl rfl, h₁, h₂, rfl⟩
  · exact congrArg Host.Outcome.next (if_neg (by simp [State.libAt, ho]))
  · exact congrArg Host.Outcome.next (if_neg (by simp [State.libAt, ho]))

end Sys2Proof.Machine
end

section
/-! PROOFS. What the library's frame changes: its own data and the free values drawn; its stage is moved on by the
command alone (R212, R227 to R258). -/

namespace Sys2Proof.Machine

namespace State

/-- All of the state but what the library's work of a frame changes: of the library's data its stage alone. -/
def besideLib (s : State) : State := { s with lib := { Lib.reset with stage := s.lib.stage }, freeCtr := 0 }

variable (s : State)

/-- States that agree beside the library's work. -/
theorem eq_of_besideLib {s t : State} (h : t.besideLib = s.besideLib) :
    t = { s with lib := t.lib, freeCtr := t.freeCtr } ∧ t.lib.stage = s.lib.stage := by
  have hl : t.besideLib.lib.stage = s.besideLib.lib.stage := by rw [h]
  refine ⟨?_, hl⟩
  have hs : ({ t.besideLib with lib := t.lib, freeCtr := t.freeCtr } : State) = t := rfl
  rw [← hs, h]
  rfl

@[simp] theorem setLib_besideLib {s : State} {f : Lib → Lib} (h : (f s.lib).stage = s.lib.stage) :
    (s.setLib f).besideLib = s.besideLib := by
  unfold besideLib setLib
  rw [h]

@[simp] theorem drawInt_besideLib : s.drawInt.2.besideLib = s.besideLib := rfl

/-! ### Branches and folds -/

@[simp] theorem besideLib_ite (c : Prop) [Decidable c] (s t : State) :
    (if c then s else t).besideLib = if c then s.besideLib else t.besideLib :=
  apply_ite besideLib c s t

@[simp] theorem snd_besideLib_ite {α : Type} (c : Prop) [Decidable c] (p q : α × State) :
    (if c then p else q).2.besideLib = if c then p.2.besideLib else q.2.besideLib :=
  apply_ite (fun r => r.2.besideLib) c p q

@[simp] theorem foldl_besideLib {α : Type} (l : List α) (f : State → α → State) (s : State)
    (hf : ∀ t a, (f t a).besideLib = t.besideLib) : (l.foldl f s).besideLib = s.besideLib := by
  induction l generalizing s with
  | nil => rfl
  | cons a l ih => exact (ih _).trans (hf s a)

@[simp] theorem snd_foldl_besideLib {α β : Type} (l : List α) (f : β × State → α → β × State) (p : β × State)
    (hf : ∀ q a, (f q a).2.besideLib = q.2.besideLib) : (l.foldl f p).2.besideLib = p.2.besideLib := by
  induction l generalizing p with
  | nil => rfl
  | cons a l ih => exact (ih _).trans (hf p a)

/-! ### Contacts -/

@[simp] theorem selfPos_besideLib (pins : List Nat) (i : Nat) : (s.selfPos pins i).2.besideLib = s.besideLib := by
  simp [selfPos, centroid]

@[simp] theorem noteEnd_besideLib (c : Contact) (code : Nat) (plain stale : Bool) :
    (s.noteEnd c code plain stale).besideLib = s.besideLib := setLib_besideLib rfl

@[simp] theorem endContact_besideLib (c : Contact) (code : Nat) (plain stale : Bool) :
    (s.endContact c code plain stale).besideLib = s.besideLib := by
  simp [endContact]

@[simp] theorem putContact_besideLib (c : Contact) : (s.putContact c).besideLib = s.besideLib := setLib_besideLib rfl
@[simp] theorem addStatus_besideLib (r : Rec) : (s.addStatus r).besideLib = s.besideLib := setLib_besideLib rfl
@[simp] theorem endAll_besideLib (stale : Bool) : (s.endAll stale).besideLib = s.besideLib := by simp [endAll]

@[simp] theorem missContact_besideLib (c : Contact) : (s.missContact c).besideLib = s.besideLib := by
  simp [missContact]

@[simp] theorem orAbsorb_besideLib (g : Grid) (old c : Contact) : (s.orAbsorb g old c).besideLib = s.besideLib := by
  simp [orAbsorb, absorbNodes]

@[simp] theorem gloveSeen_besideLib (k : Kind) : (s.gloveSeen k).besideLib = s.besideLib := by simp [gloveSeen]

@[simp] theorem turnContact_besideLib (g : Grid) (c : Contact) (k : Kind) (r : Region) :
    (s.turnContact g c k r).besideLib = s.besideLib := by
  simp [turnContact]

@[simp] theorem trackContact_besideLib (g : Grid) (c : Contact) (r : Region) (cls : Class) :
    (s.trackContact g c r cls).besideLib = s.besideLib := by
  unfold trackContact
  split <;> simp

@[simp] theorem trackSuspect_besideLib (g : Grid) (c : Contact) : (s.trackSuspect g c).besideLib = s.besideLib := by
  simp [trackSuspect]

@[simp] theorem trackAll_besideLib (g : Grid) (ps : List (Nat × Nat)) (cl : List Class) :
    (s.trackAll g ps cl).besideLib = s.besideLib := by
  refine foldl_besideLib _ _ s fun t c => ?_
  repeat' split
  all_goals simp

@[simp] theorem beginContact_besideLib (g : Grid) (c : Cand) : (s.beginContact g c).besideLib = s.besideLib := by
  simp only [beginContact]
  repeat' split
  all_goals simp

@[simp] theorem puContact_besideLib (g : Grid) (cx cy : List Nat) : (s.puContact g cx cy).besideLib = s.besideLib := by
  unfold puContact
  split <;> simp [puLeft]

@[simp] theorem puForm_besideLib (g : Grid) (all : Bool) : (s.puForm g all).besideLib = s.besideLib := by
  simp [puForm]

@[simp] theorem libWet_besideLib (g : Grid) (cl : List Class) : (s.libWet g cl).besideLib = s.besideLib := by
  simp [libWet]

@[simp] theorem libGlove_besideLib (was : Bool) : (s.libGlove was).besideLib = s.besideLib := by simp [libGlove]

@[simp] theorem libContacts_besideLib (g : Grid) : (s.libContacts g).besideLib = s.besideLib := by
  simp [libContacts, beginAll, puAnnounce, libLock, puTell]

/-! ### Keys, gestures, the wake and the hop pair -/

@[simp] theorem keyRec_besideLib (g : Grid) (k ev cause : Nat) : (s.keyRec g k ev cause).besideLib = s.besideLib :=
  setLib_besideLib rfl

@[simp] theorem keyEvent_besideLib (g : Grid) (k : Nat) (on : Bool) (cause : Nat) :
    (s.keyEvent g k on cause).besideLib = s.besideLib := by
  simp [keyEvent]

@[simp] theorem keyFrame_besideLib (g : Grid) (old : List Word) (k : Nat) :
    (s.keyFrame g old k).besideLib = s.besideLib := by
  simp [keyFrame, debounce]

@[simp] theorem gestureAt_besideLib (bit sub : Nat) (p : Nat × Nat) (a b dur extra : Nat) :
    (s.gestureAt bit sub p a b dur extra).besideLib = s.besideLib := by
  simp [gestureAt]

@[simp] theorem gesture_besideLib (g : Grid) (bit sub : Nat) (x y : Int) (a b dur extra : Nat) :
    (s.gesture g bit sub x y a b dur extra).besideLib = s.besideLib := gestureAt_besideLib ..

@[simp] theorem gestureDuo_besideLib (g : Grid) (bit sub : Nat) (d : Duo) (extra : Nat) :
    (s.gestureDuo g bit sub d extra).besideLib = s.besideLib := gestureAt_besideLib ..

@[simp] theorem tapMade_besideLib (g : Grid) (c : Contact) : (s.tapMade g c).besideLib = s.besideLib := by
  unfold tapMade
  split <;> simp

@[simp] theorem upGesture_besideLib (g : Grid) (u : Ended) : (s.upGesture g u).besideLib = s.besideLib := by
  simp only [upGesture]
  split <;> simp [keepGone, duoUp, swipe]

@[simp] theorem downGesture_besideLib (c : Contact) : (s.downGesture c).besideLib = s.besideLib := by
  simp only [downGesture]
  split <;> simp

@[simp] theorem pinchGesture_besideLib (g : Grid) : (s.pinchGesture g).besideLib = s.besideLib := by
  simp only [pinchGesture]
  repeat' split
  all_goals simp

@[simp] theorem palmRegion_besideLib (g : Grid) (old : List Palm) (r : Region) :
    (s.palmRegion g old r).2.besideLib = s.besideLib := by
  unfold palmRegion
  split <;> simp

@[simp] theorem dropGestures_besideLib : s.dropGestures.besideLib = s.besideLib := setLib_besideLib rfl

@[simp] theorem libGestures_besideLib (g : Grid) (cl : List Class) : (s.libGestures g cl).besideLib = s.besideLib := by
  simp [libGestures, longGesture, palmGesture, tapExpiry, markAlone, libDuos]

@[simp] theorem judgeWake_besideLib (g : Grid) (cl : List Class) : (s.judgeWake g cl).besideLib = s.besideLib := by
  simp [judgeWake, wakeResult]

@[simp] theorem libWake_besideLib (g : Grid) (cl : List Class) : (s.libWake g cl).besideLib = s.besideLib := by
  simp only [libWake]
  split <;> simp [wakeResult]

@[simp] theorem libTrackEnd_besideLib (g : Grid) (reset : Bool) : (s.libTrackEnd g reset).besideLib = s.besideLib := by
  simp [libTrackEnd, releaseKeys]

end State

end Sys2Proof.Machine
end

section
/-! PROOFS. The library's EMIT: the frame's work, its records, and the contacts of a stale frame (R246, R249). -/

namespace Sys2Proof.Machine

/-! ### What a frame leaves beside the library -/

namespace State

variable (s : State)

/-- The library's data as a frame's work begins. -/
def libBegun : State := s.setLib (fun l => { l with
  stage := 2, ended := [], status := [], keyRecs := [], gests := [], more := false,
  idFree := l.idFree.map (fun n => min 15 (n + 1)) })

/-- TRACK as a frame begins: its contacts end where it is reset or disabled (R250). -/
def trackSet (g : Grid) : State :=
  let en := s.fsn.flag Reg.FUNC_EN 4
  let u := if s.lib.trackNow || (s.lib.trackOn && !en) then s.libTrackEnd g s.lib.trackNow else s
  u.setLib (fun l => { l with trackOn := en })

/-- Contacts, keys and gestures of a frame: none in a capture, nothing new with a reset of TRACK. -/
def tracked (g : Grid) (reset en : Bool) (cl : List Class) : State :=
  if s.lib.capNow then (s.setLib (fun l => { l.noCounts with pressed := 0 })).dropGestures
  else if reset then s
  else
    let t := s.libContacts g
    let t := if en then t.libKeys g else t.setLib Lib.noCounts
    t.libGestures g cl

/-- What ends a frame's work, after contacts, keys and gestures. -/
def frameEnded (g : Grid) (cl : List Class) (palms : List Nat) : State :=
  let s := (((s.libPowerup).libFreeze g palms).libWake g cl).libHop
  s.setLib (fun l => { l with nCont := (s.contactRecs g).length })

theorem libFrame_eq (g : Grid) : ∃ cl palms, s.libFrame g =
    ((s.libBegun.trackSet g).tracked g s.lib.trackNow (s.fsn.flag Reg.FUNC_EN 4) cl).frameEnded g cl palms := ⟨_, _, rfl⟩

@[simp] theorem trackSet_besideLib (g : Grid) : (s.trackSet g).besideLib = s.besideLib := by
  simp [trackSet]

@[simp] theorem noCounts_besideLib : (s.setLib Lib.noCounts).besideLib = s.besideLib := setLib_besideLib rfl

@[simp] theorem tracked_besideLib (g : Grid) (reset en : Bool) (cl : List Class) :
    (s.tracked g reset en cl).besideLib = s.besideLib := by
  simp [tracked, libKeys, Lib.noCounts]

theorem frameEnded_besideLib (g : Grid) (cl : List Class) (palms : List Nat) :
    (s.frameEnded g cl palms).besideLib = s.besideLib := by
  simp [frameEnded, libHop, libFreeze, libPowerup]

theorem libFrame_besideLib (g : Grid) : (s.libFrame g).besideLib = s.libBegun.besideLib := by
  obtain ⟨cl, palms, h⟩ := s.libFrame_eq g
  rw [h, frameEnded_besideLib, tracked_besideLib, trackSet_besideLib]

theorem libFrame_frame (g : Grid) : s.libFrame g =
    { s with lib := (s.libFrame g).lib, freeCtr := (s.libFrame g).freeCtr } ∧ (s.libFrame g).lib.stage = 2 :=
  eq_of_besideLib (s.libFrame_besideLib g)

end State

/-! ### The contacts of a stale frame (R246) -/

/-- What no stale frame changes of a contact: its ID, its type and its positions. -/
def Contact.place (k : Contact) : Nat × Kind × Int × Int × Int × Int := (k.id, k.kind, k.px, k.py, k.rx, k.ry)

namespace State

/-- The contacts' places, and whether the frame is stale. -/
def places (s : State) : List (Nat × Kind × Int × Int × Int × Int) × Bool := (s.lib.contacts.map Contact.place, s.lib.stale)

theorem stale_of_places {s t : State} (h : t.places = s.places) : t.lib.stale = s.lib.stale := congrArg Prod.snd h

theorem setLib_places_of_map {s : State} {f : Lib → Lib} {k : Contact → Contact}
    (hc : (f s.lib).contacts = s.lib.contacts.map k) (hs : (f s.lib).stale = s.lib.stale) (hk : ∀ c, (k c).place = c.place) :
    (s.setLib f).places = s.places := by
  refine Prod.ext ?_ hs
  refine (congrArg (List.map Contact.place) hc).trans ?_
  rw [List.map_map]
  exact List.map_congr_left fun c _ => hk c

@[simp] theorem setLib_places {s : State} {f : Lib → Lib} (hc : (f s.lib).contacts = s.lib.contacts)
    (hs : (f s.lib).stale = s.lib.stale) : (s.setLib f).places = s.places :=
  setLib_places_of_map (k := id) (hc.trans (List.map_id _).symm) hs fun _ => rfl

@[simp] theorem places_ite (c : Prop) [Decidable c] (s t : State) :
    (if c then s else t).places = if c then s.places else t.places :=
  apply_ite places c s t

theorem foldl_places {α : Type} (l : List α) (f : State → α → State) (s : State)
    (hf : ∀ t a, (f t a).places = t.places) : (l.foldl f s).places = s.places := by
  induction l generalizing s with
  | nil => rfl
  | cons a l ih => exact (ih _).trans (hf s a)

variable (s : State)

@[simp] theorem addStatus_places (r : Rec) : (s.addStatus r).places = s.places := setLib_places rfl rfl
@[simp] theorem puAnnounce_places : s.puAnnounce.places = s.places := by simp [puAnnounce]
@[simp] theorem libWet_places (g : Grid) (cl : List Class) : (s.libWet g cl).places = s.places := by simp [libWet]
@[simp] theorem libGlove_places (was : Bool) : (s.libGlove was).places = s.places := by simp [libGlove]
@[simp] theorem puTell_places (l : Lib) : (s.puTell l).places = s.places := by simp [puTell]

theorem libLock_places {s : State} (h : s.lib.stale = true) : s.libLock.places = s.places := by
  simp [libLock, h]

theorem libContacts_places {s : State} (g : Grid) (h : s.lib.stale = true) : (s.libContacts g).places = s.places := by
  have hw : ((s.puAnnounce).libWet g (s.classes s.pairing)).places = s.places := by simp
  have hl := (libLock_places ((stale_of_places hw).trans h)).trans hw
  refine (puTell_places _ _).trans ((libGlove_places _ _).trans (Eq.trans ?_ hl))
  dsimp only
  rw [if_pos ((stale_of_places hl).trans h)]
  exact setLib_places_of_map rfl rfl fun _ => rfl

@[simp] theorem keyRec_places (g : Grid) (k ev cause : Nat) : (s.keyRec g k ev cause).places = s.places :=
  setLib_places rfl rfl

@[simp] theorem keyEvent_places (g : Grid) (k : Nat) (on : Bool) (cause : Nat) :
    (s.keyEvent g k on cause).places = s.places := by
  simp [keyEvent]

@[simp] theorem keyFrame_places (g : Grid) (old : List Word) (k : Nat) : (s.keyFrame g old k).places = s.places := by
  simp [keyFrame, debounce]

@[simp] theorem libKeys_places (g : Grid) : (s.libKeys g).places = s.places :=
  (foldl_places _ _ _ fun t k => t.keyFrame_places g _ k).trans (setLib_places rfl rfl)

theorem libGestures_places {s : State} (g : Grid) (cl : List Class) (h : s.lib.stale = true) :
    (s.libGestures g cl).places = s.places := by
  simp [libGestures, dropGestures, h]

@[simp] theorem judgeWake_places (g : Grid) (cl : List Class) : (s.judgeWake g cl).places = s.places := by
  simp [judgeWake, wakeResult]

@[simp] theorem libWake_places (g : Grid) (cl : List Class) : (s.libWake g cl).places = s.places := by
  simp only [libWake]
  split <;> simp [wakeResult]

theorem frameEnded_places (g : Grid) (cl : List Class) (palms : List Nat) :
    (s.frameEnded g cl palms).places = s.places := by
  simp [frameEnded, libHop, libFreeze, libPowerup]

theorem trackSet_of_stays {s : State} (g : Grid) (hreset : s.lib.trackNow = false) (hen : s.fsn.flag Reg.FUNC_EN 4 = true) :
    s.trackSet g = s.setLib (fun l => { l with trackOn := true }) := by
  simp [trackSet, hreset, hen]

theorem tracked_places {s : State} (g : Grid) (cl : List Class) (h : s.lib.stale = true) (hcap : s.lib.capNow = false) :
    (s.tracked g false true cl).places = s.places := by
  have hk : ((s.libContacts g).libKeys g).places = s.places := (libKeys_places _ g).trans (libContacts_places g h)
  have hg := (libGestures_places g cl ((stale_of_places hk).trans h)).trans hk
  simpa [tracked, hcap] using hg

/-- The work of a stale frame outside captures and resets leaves every contact where it is. -/
theorem libFrame_places {s : State} (g : Grid) (h : s.lib.stale = true) (hcap : s.lib.capNow = false)
    (hreset : s.lib.trackNow = false) (hen : s.fsn.flag Reg.FUNC_EN 4 = true) : (s.libFrame g).places = s.places := by
  obtain ⟨cl, palms, hf⟩ := s.libFrame_eq g
  have ht := trackSet_of_stays (s := s.libBegun) g hreset hen
  have hw : ((s.libBegun.trackSet g).tracked g false true cl).places = (s.libBegun.trackSet g).places := by
    refine tracked_places g cl ?_ ?_ <;> rw [ht]
    · exact h
    · exact hcap
  rw [hf, hreset, hen, frameEnded_places, hw, ht]
  rfl

theorem libCounted_places : s.libCounted.places = s.places := by
  refine setLib_places_of_map rfl rfl fun c => ?_
  unfold Lib.clears afterRecord
  repeat' split
  all_goals rfl

end State

end Sys2Proof.Machine
end

section
/-! PROOFS. The library's records, ring entries, publications and vote as they leave the cell (R181, R246 to R253,
R297). -/

namespace Sys2Proof.Machine

namespace State

/-! ### EMIT -/

theorem nth_toList {n : Nat} (r : Vector Word n) {i : Nat} (h : i < n) : nth r.toList i 0 = r[i] := by
  simp [nth, h]

theorem emitted_toList (s : State) (r : Rec) : s.emitted r.toList = (r.set 1 s.cald.fc).set 2 s.time16 := by
  unfold emitted
  simp only [nth_toList r (show 0 < 8 by decide), nth_toList r (show 3 < 8 by decide), nth_toList r (show 4 < 8 by decide),
    nth_toList r (show 5 < 8 by decide), nth_toList r (show 6 < 8 by decide), nth_toList r (show 7 < 8 by decide)]
  refine Vector.ext fun i hi => ?_
  interval_cases i <;> simp [recOf]

/-- A record of the library as the emit port pushes it: with the frame's counter and the time (R181). -/
def pushStamped (fc time : Word) (u : State) (r : Rec) : State := u.pushRec ((r.set 1 fc).set 2 time)

theorem foldl_emitRec (c : CellId) (l : List Rec) (u : State) (hs : u.cellsSound) :
    l.foldl (fun u r => u.emitRec c r.toList) u = l.foldl (pushStamped u.cald.fc u.time16) u := by
  induction l generalizing u with
  | nil => rfl
  | cons r l ih =>
    have he : u.emitRec c r.toList = pushStamped u.cald.fc u.time16 u r := by
      rw [emitRec_of_sound hs, emitted_toList]
      rfl
    have hc : (pushStamped u.cald.fc u.time16 u r).cald = u.cald := pushRec_cald ..
    have ht : (pushStamped u.cald.fc u.time16 u r).time16 = u.time16 :=
      congrArg (fun a : Aon => a.time.setWidth 16) (pushRec_aon ..)
    rw [List.foldl_cons, List.foldl_cons, he]
    have hn := ih (pushStamped u.cald.fc u.time16 u r) (cellsSound_pushRec hs _)
    rwa [hc, ht] at hn

theorem foldl_pushStamped_changes (fc time : Word) (l : List Rec) (u : State) :
    l.foldl (pushStamped fc time) u = { u with
      queue := (l.foldl (pushStamped fc time) u).queue, regs := (l.foldl (pushStamped fc time) u).regs,
      fmon := (l.foldl (pushStamped fc time) u).fmon } ∧
    ∀ q, q ≠ Reg.RPT_STAT → (l.foldl (pushStamped fc time) u).reg q = u.reg q := by
  induction l generalizing u with
  | nil => exact ⟨rfl, fun _ _ => rfl⟩
  | cons r l ih =>
    obtain ⟨h₁, h₂⟩ := ih (pushStamped fc time u r)
    have hp := u.pushRec_changes ((r.set 1 fc).set 2 time)
    have hr (q : RegId) (hq : q ≠ Reg.RPT_STAT) : (pushStamped fc time u r).reg q = u.reg q := reg_pushRec_ne _ _ hq
    rw [List.foldl_cons]
    refine ⟨?_, fun q hq => (h₂ q hq).trans (hr q hq)⟩
    change pushStamped fc time u r = _ at hp
    generalize pushStamped fc time u r = v at *
    generalize l.foldl (pushStamped fc time) v = w at *
    rw [hp] at h₁
    exact h₁

theorem cellsSound_libFrame {s : State} (h : s.cellsSound) (g : Grid) : (s.libFrame g).cellsSound := by
  rw [(s.libFrame_frame g).1]
  exact h

end State

theorem execEmit_library {s : State} {c : CellId} (h : s.libAt c 1 = true) : exec (.emit c .library) s =
    .next ((((s.libFrame s.fsn.grid).libRecords s.fsn.grid).foldl (fun u r => u.emitRec c r.toList)
      (s.libFrame s.fsn.grid)).libCounted) :=
  congrArg Host.Outcome.next (if_pos h)

theorem emit_library (s : State) (c : CellId) (hs : s.cellsSound) (h : s.libAt c 1 = true) :
    completes (.emit c .library) s (fun t =>
      t.lib.stage = 2 ∧
      t.queue = (((s.libFrame s.cald.snap.grid).libRecords s.cald.snap.grid).foldl (fun u r =>
        u.pushRec ((r.set 1 s.cald.fc).set 2 (s.aon.time.setWidth 16))) (s.libFrame s.cald.snap.grid)).queue ∧
      (s.lib.stale = true → s.lib.capNow = false → s.lib.trackNow = false → s.cald.snap.flag Reg.FUNC_EN 4 = true →
        t.lib.contacts.map (fun k => (k.id, k.kind, k.px, k.py, k.rx, k.ry)) =
          s.lib.contacts.map (fun k => (k.id, k.kind, k.px, k.py, k.rx, k.ry))) ∧
      (∀ q, q ≠ Reg.RPT_STAT → t.reg q = s.reg q) ∧
      t = { s with lib := t.lib, queue := t.queue, regs := t.regs, fmon := t.fmon, freeCtr := t.freeCtr }) := by
  refine ⟨_, execEmit_library h, ?_⟩
  have hp (hst hcap hreset hen) := State.libFrame_places (s := s) s.fsn.grid hst hcap hreset hen
  rw [State.foldl_emitRec c _ _ (State.cellsSound_libFrame hs _)]
  obtain ⟨hf, hstage⟩ := s.libFrame_frame s.fsn.grid
  change _ ∧ State.queue _ = (((s.libFrame s.fsn.grid).libRecords s.fsn.grid).foldl
    (State.pushStamped s.cald.fc s.time16) (s.libFrame s.fsn.grid)).queue ∧ _
  generalize s.libFrame s.fsn.grid = u at *
  have hfc : u.cald.fc = s.cald.fc := by rw [hf]
  have htime : u.time16 = s.time16 := by rw [hf]; rfl
  rw [hfc, htime]
  obtain ⟨hv, hregs⟩ := State.foldl_pushStamped_changes s.cald.fc s.time16 (u.libRecords s.fsn.grid) u
  generalize (u.libRecords s.fsn.grid).foldl (State.pushStamped s.cald.fc s.time16) u = v at *
  have hlib : v.lib = u.lib := by rw [hv]
  refine ⟨(congrArg Lib.stage hlib).trans hstage, rfl, fun hst hcap hreset hen => ?_, fun q hq => ?_, ?_⟩
  · have hpl : v.libCounted.places = s.places := by
      refine (v.libCounted_places).trans (Eq.trans ?_ (hp hst hcap hreset hen))
      rw [State.places, hlib, State.places]
    exact congrArg Prod.fst hpl
  · refine (hregs q hq).trans ?_
    rw [hf]
    rfl
  · have hfree : v.freeCtr = u.freeCtr := by rw [hv]
    rw [hf, ← hlib, ← hfree] at hv
    exact congrArg (fun w : State => { w with lib := v.libCounted.lib }) hv

/-! ### ERING -/

namespace State

/-- The staged ring entries with some more of the frame, while entries are taken. -/
def ringWith (u : State) (l : List (Vector Word 4)) : List (Vector Word 4) :=
  if u.ringTakes then u.cald.ring ++ l.map (fun e => e.set 0 u.cald.fc) else u.cald.ring

theorem ringWith_nil (u : State) : u.ringWith [] = u.cald.ring := by
  rw [ringWith, List.map_nil, List.append_nil, ite_self]

theorem foldl_emitRing (c : CellId) (l : List (Vector Word 4)) (u : State) (hs : u.cellsSound) :
    l.foldl (fun u e => u.emitRing c e.toList) u = { u with cald := { u.cald with ring := u.ringWith l } } := by
  induction l generalizing u with
  | nil => rw [ringWith_nil, List.foldl_nil]
  | cons e l ih =>
    have hw : (#v[u.cald.fc, nth e.toList 1 0, nth e.toList 2 0, nth e.toList 3 0] : Vector Word 4) = e.set 0 u.cald.fc := by
      rw [nth_toList e (show 1 < 4 by decide), nth_toList e (show 2 < 4 by decide), nth_toList e (show 3 < 4 by decide)]
      refine Vector.ext fun i hi => ?_
      interval_cases i <;> simp
    rw [List.foldl_cons, emitRing_of_sound hs, hw]
    refine (ih _ ?_).trans ?_
    · exact hs
    refine congrArg (fun r => ({ u with cald := { u.cald with ring := r } } : State)) ?_
    change (if u.ringTakes then (if u.ringTakes then _ else _) ++ _ else if u.ringTakes then _ else _) = ringWith u (e :: l)
    by_cases ht : u.ringTakes = true <;> simp [ringWith, ht]

end State

theorem ering_library (s : State) (c : CellId) (hs : s.cellsSound) (h : s.libAt c 2 = true) :
    completes (.ering c .library) s (fun t =>
      t.cald.ring = (if s.ringTakes then
        s.cald.ring ++ (s.ringEntries s.cald.snap.grid).map (fun e => e.set 0 s.cald.fc) else s.cald.ring) ∧
      (s.lib.stale = true → t.cald.ring = s.cald.ring) ∧
      t = { s with lib := { s.lib with stage := 3 }, cald := { s.cald with ring := t.cald.ring } }) := by
  refine ⟨_, congrArg Host.Outcome.next ((if_pos h).trans (State.foldl_emitRing c _ _ hs)), rfl, fun hst => ?_, rfl⟩
  have hn : s.ringEntries s.fsn.grid = [] := if_pos hst
  dsimp only
  rw [hn, State.ringWith_nil]
  rfl

/-! ### PUB -/

namespace State

/-- The publications of a cell after it has staged some. -/
def stagedAll (c : CellId) (ps : List (Nat × Word)) (l : List (Nat × Nat × Word)) : List (Nat × Nat × Word) :=
  ps.foldl (fun l p => l.filter (fun q => q.1 != c.val || q.2.1 != p.1) ++ [(c.val, p.1, p.2)]) l

theorem foldl_stagePub (c : CellId) (ps : List (Nat × Word)) (u : State) (hs : u.cellsSound) :
    ps.foldl (fun t p => t.stagePub c p.1 p.2) u =
      { u with cald := { u.cald with pubs := stagedAll c ps u.cald.pubs } } := by
  induction ps generalizing u with
  | nil => rfl
  | cons p ps ih =>
    rw [List.foldl_cons, stagePub_of_sound hs]
    refine (ih _ ?_).trans ?_
    · exact hs
    · rfl

theorem mem_stagedAll_other {c : CellId} {ps : List (Nat × Word)} {l : List (Nat × Nat × Word)} {j k : Nat} {v : Word}
    (h : j ≠ c.val ∨ k ∉ ps.map Prod.fst) : (j, k, v) ∈ stagedAll c ps l ↔ (j, k, v) ∈ l := by
  induction ps generalizing l with
  | nil => rfl
  | cons p ps ih =>
    have hp : j ≠ c.val ∨ k ≠ p.1 := h.imp_right fun hk he => hk (by simp [he])
    have hps : j ≠ c.val ∨ k ∉ ps.map Prod.fst := h.imp_right fun hk hm => hk (by simp [hm])
    exact (ih hps).trans (mem_staged_ne _ _ _ hp)

/-- Of targets each named once, every one holds its value. -/
theorem mem_stagedAll {c : CellId} {ps : List (Nat × Word)} {l : List (Nat × Nat × Word)} (hd : (ps.map Prod.fst).Nodup)
    {k : Nat} {w v : Word} (hm : (k, w) ∈ ps) : (c.val, k, v) ∈ stagedAll c ps l ↔ v = w := by
  induction ps generalizing l with
  | nil => exact absurd hm List.not_mem_nil
  | cons p ps ih =>
    obtain ⟨hp, hd⟩ := List.nodup_cons.1 hd
    rcases List.mem_cons.1 hm with rfl | hm
    · exact (mem_stagedAll_other (.inr hp)).trans (mem_staged_same ..)
    · exact ih hd hm

/-- What `ps` tells of a target. -/
def told (ps : List (Nat × Word)) (k : Nat) (o : Option Word) : Prop := match o with
  | some w => (k, w) ∈ ps
  | none => k ∉ ps.map Prod.fst

theorem libPubs_nodup (s : State) : (s.libPubs.map Prod.fst).Nodup := by
  unfold libPubs
  by_cases h₁ : s.lib.capEnd = true <;> by_cases h₂ : s.lib.gwake = true <;> cases s.lib.hopPub <;> simp [h₁, h₂]

theorem told_touchStat (s : State) : told s.libPubs 0x31 (some s.touchStat) := by simp [told, libPubs]

theorem told_pressed (s : State) : told s.libPubs 0x32 (some s.lib.pressed) := by simp [told, libPubs]

theorem told_gwake (s : State) : told s.libPubs 0x03 (if s.lib.gwake then some 0x4000 else none) := by
  by_cases h₁ : s.lib.gwake = true <;> by_cases h₂ : s.lib.capEnd = true <;> cases h₃ : s.lib.hopPub <;>
    simp [told, libPubs, h₁, h₂, h₃]

theorem told_capEnd (s : State) : told s.libPubs 0x2F (if s.lib.capEnd then some 0 else none) := by
  by_cases h₁ : s.lib.gwake = true <;> by_cases h₂ : s.lib.capEnd = true <;> cases h₃ : s.lib.hopPub <;>
    simp [told, libPubs, h₁, h₂, h₃]

theorem told_hopPub (s : State) : told s.libPubs 0x80 (s.lib.hopPub.map word) := by
  by_cases h₁ : s.lib.gwake = true <;> by_cases h₂ : s.lib.capEnd = true <;> cases h₃ : s.lib.hopPub <;>
    simp [told, libPubs, h₁, h₂, h₃]

theorem libPubs_targets (s : State) : s.libPubs.map Prod.fst ⊆ [0x03, 0x2F, 0x31, 0x32, 0x80] := by
  unfold libPubs
  by_cases h₁ : s.lib.gwake = true <;> by_cases h₂ : s.lib.capEnd = true <;> cases h₃ : s.lib.hopPub <;>
    simp [h₁, h₂]

end State

theorem pub_library (s : State) (c : CellId) (hs : s.cellsSound) (hi : s.issues c = true) (ho : s.lib.on = true)
    (h2 : 2 ≤ s.lib.stage) : completes (.pub c .library) s (fun t =>
      (∀ k o, State.told s.libPubs k o → ∀ v, (c.val, k, v) ∈ t.cald.pubs ↔ match o with
        | some w => v = w
        | none => (c.val, k, v) ∈ s.cald.pubs) ∧
      (∀ j k v, j ≠ c.val → ((j, k, v) ∈ t.cald.pubs ↔ (j, k, v) ∈ s.cald.pubs)) ∧
      t = { s with cald := { s.cald with pubs := t.cald.pubs } }) := by
  refine ⟨_, congrArg Host.Outcome.next ((if_pos (by simp [hi, ho, h2])).trans (State.foldl_stagePub c _ _ hs)),
    fun k o h v => ?_, fun j k v hj => State.mem_stagedAll_other (.inl hj), rfl⟩
  cases o with
  | some w => exact State.mem_stagedAll s.libPubs_nodup h
  | none => exact State.mem_stagedAll_other (.inr h)

/-! ### VOTE -/

namespace State

/-- The frame holds the CALDERA vote: a contact is reported or a key pressed (R248). -/
def votesBusy (s : State) : Bool := (!s.lib.stale && s.lib.contacts.any (fun c => s.shows c.kind)) || s.lib.pressed != 0

theorem votesBusy_iff (s : State) : s.votesBusy = true ↔
    (s.lib.stale = false ∧ ∃ k ∈ s.lib.contacts, s.shows k.kind = true) ∨ s.lib.pressed ≠ 0 := by
  simp [votesBusy]

theorem libVote_of_busy {s : State} (h : s.votesBusy = true) : s.libVote =
    (some true, s.setLib (fun l => { l with tVote := s.fsn.time, voted := true, dropVote := false })) :=
  if_pos (by change (s.votesBusy || s.lib.wokeNow || s.lib.wakePend) = true; simp [h])

theorem libVote_of_idle {s : State} (h : ¬ s.votesBusy = true)
    (hi : s.lib.wokeNow = false ∧ s.lib.wakePend = false ∧ s.lib.dropVote = false) : s.libVote =
    if s.lib.voted && decide (s.lp LP.IDLE_TIMEOUT * 32768 ≤ (s.fsn.time - s.lib.tVote).toNat) then
      (some false, s.setLib (fun l => { l with voted := false }))
    else (none, s) := by
  obtain ⟨h₁, h₂, h₃⟩ := hi
  refine (if_neg ?_).trans (if_neg ?_)
  · change ¬ (s.votesBusy || s.lib.wokeNow || s.lib.wakePend) = true
    simp [h, h₁, h₂]
  · simp [h₃]

/-- What a vote of the library leaves of the state. -/
theorem libVote_changes (s : State) : s.libVote.2 = s.setLib (fun l => { l with
    tVote := s.libVote.2.lib.tVote, voted := s.libVote.2.lib.voted, dropVote := s.libVote.2.lib.dropVote }) := by
  unfold libVote
  dsimp only
  repeat' split
  all_goals rfl

theorem cellsSound_libVote {s : State} (h : s.cellsSound) : s.libVote.2.cellsSound := by
  rw [libVote_changes]
  exact h

/-- The library's VOTE once its setting is known. -/
def voteGiven (c : CellId) (v : Option Bool × State) : State := match v.1 with
  | some b => { v.2 with cald := { v.2.cald with
      votes := v.2.cald.votes.filter (fun p => p.1 != c.val) ++ [(c.val, b)] } }
  | none => v.2

end State

theorem execVote_library {s : State} {c : CellId} (hs : s.cellsSound) (h : s.libAt c 3 = true) :
    exec (.vote c .library) s = .next (State.voteGiven c s.libVote) := by
  refine congrArg Host.Outcome.next ((if_pos h).trans ?_)
  have hsv := State.cellsSound_libVote hs
  generalize s.libVote = v at *
  obtain ⟨o, u⟩ := v
  cases o with
  | none => rfl
  | some b => exact State.stageVote_of_sound hsv c b

end Sys2Proof.Machine
end

section
/-! PROOFS. The library's VOTE, the words of a contact's record, and the values that leave a cell (R181 to R183, R248,
R297, Tables 9.1 and 9.2). -/

namespace Sys2Proof.Machine

namespace State

theorem voteGiven_other {c : CellId} {v : Option Bool × State} {s : State} (hv : v.2.cald.votes = s.cald.votes) {j : Nat}
    (b : Bool) (hj : j ≠ c.val) : (j, b) ∈ (voteGiven c v).cald.votes ↔ (j, b) ∈ s.cald.votes := by
  obtain ⟨o, u⟩ := v
  rw [← hv]
  cases o with
  | none => rfl
  | some w => exact mem_votes_ne _ _ _ hj

end State

theorem vote_library (s : State) (c : CellId) (hs : s.cellsSound) (h : s.libAt c 3 = true) :
    completes (.vote c .library) s (fun t =>
      (s.votesBusy = true → (∀ v, (c.val, v) ∈ t.cald.votes ↔ v = true) ∧ t.lib.tVote = s.cald.snap.time ∧ t.lib.voted = true) ∧
      (¬ s.votesBusy = true → s.lib.wokeNow = false ∧ s.lib.wakePend = false ∧ s.lib.dropVote = false →
        if s.lib.voted = true ∧ s.lp LP.IDLE_TIMEOUT * 32768 ≤ (s.cald.snap.time - s.lib.tVote).toNat then
          (∀ v, (c.val, v) ∈ t.cald.votes ↔ v = false) ∧ t.lib.voted = false
        else t = s) ∧
      (∀ j v, j ≠ c.val → ((j, v) ∈ t.cald.votes ↔ (j, v) ∈ s.cald.votes)) ∧
      t = { s with lib := { s.lib with tVote := t.lib.tVote, voted := t.lib.voted, dropVote := t.lib.dropVote },
                   cald := { s.cald with votes := t.cald.votes } }) := by
  refine ⟨_, execVote_library hs h, fun hb => ?_, fun hb hi => ?_, fun j v hj => ?_, ?_⟩
  · rw [State.libVote_of_busy hb]
    exact ⟨fun v => mem_votes_same .., rfl, rfl⟩
  · rw [State.libVote_of_idle hb hi]
    by_cases ht : s.lib.voted = true ∧ s.lp LP.IDLE_TIMEOUT * 32768 ≤ (s.cald.snap.time - s.lib.tVote).toNat
    · rw [if_pos ht, if_pos (by rw [Bool.and_eq_true, decide_eq_true_iff]; exact ht)]
      exact ⟨fun v => mem_votes_same .., rfl⟩
    · rw [if_neg ht, if_neg (by rw [Bool.and_eq_true, decide_eq_true_iff]; exact ht)]
      rfl
  · refine State.voteGiven_other ?_ v hj
    rw [State.libVote_changes]
    rfl
  · have hv := s.libVote_changes
    generalize s.libVote = v at *
    obtain ⟨o, u⟩ := v
    dsimp only at hv
    cases o with
    | none =>
      refine hv.trans ?_
      have hc : u.cald = s.cald := by rw [hv]; rfl
      change _ = { s with lib := _, cald := { s.cald with votes := u.cald.votes } }
      rw [hc]
      rfl
    | some b =>
      have hc : u.cald = s.cald := by rw [hv]; rfl
      refine (congrArg (fun w : State => { w with cald := (State.voteGiven c (some b, u)).cald }) hv).trans ?_
      change _ = { s with lib := _, cald := { s.cald with votes := (State.voteGiven c (some b, u)).cald.votes } }
      rw [← hc]
      rfl

/-! ### A contact's record (Tables 9.1, 9.2) -/

theorem toNat_header (type sub : Nat) (h : type * 4096 + sub < 2 ^ 16) : (header type sub).toNat = type * 4096 + sub :=
  Nat.mod_eq_of_lt h

theorem bitAt_eq (b : Nat) (v : Bool) : bitAt b v = if v then 2 ^ b else 0 := by cases v <;> simp [bitAt]

theorem contactRec_words (s : State) (g : Grid) (k : Contact) (code : Nat) (stale : Bool) (hid : k.id < 10)
    (hcode : code ≤ 5) :
    ((s.contactRec g k code stale).get 0).toNat = 0x1000 + 16 * code + k.id + (if k.suspect then 2 ^ 9 else 0) +
      (if stale ∨ k.kept then 2 ^ 11 else 0) ∧
    (s.contactRec g k code stale).get 5 = word (s.asTold k code).str ∧
    (s.contactRec g k code stale).get 7 = word (if code = 1 then 0 else k.age) := by
  have hk : (s.asTold k code).id = k.id ∧ (s.asTold k code).suspect = k.suspect ∧ (s.asTold k code).kept = k.kept ∧
      (s.asTold k code).age = k.age := by
    unfold State.asTold
    split <;> exact ⟨rfl, rfl, rfl, rfl⟩
  obtain ⟨h₁, h₂, h₃, h₄⟩ := hk
  refine ⟨?_, rfl, congrArg (fun a => word (if code = 1 then 0 else a)) h₄⟩
  change (header 1 (code * 16 + (s.asTold k code).id + bitAt 9 (s.asTold k code).suspect +
    bitAt 11 (stale || (s.asTold k code).kept))).toNat = _
  rw [h₁, h₂, h₃, bitAt_eq, bitAt_eq]
  simp only [Bool.or_eq_true]
  have hb₁ : (if k.suspect = true then 2 ^ 9 else 0) ≤ 512 := by split <;> decide
  have hb₂ : (if stale = true ∨ k.kept = true then 2 ^ 11 else 0) ≤ 2048 := by split <;> decide
  generalize (if k.suspect = true then 2 ^ 9 else 0) = x at *
  generalize (if stale = true ∨ k.kept = true then 2 ^ 11 else 0) = y at *
  rw [toNat_header _ _ (by omega)]
  omega

theorem contactRec_of_frame (s : State) (g : Grid) (k : Contact) (code : Nat) (stale : Bool) (hid : k.id < 10)
    (hcode : code ≤ 5) :
    let r := s.contactRec g k code stale
    (r.get 0).toNat = 0x1000 + 16 * code + k.id + (if k.suspect then 2 ^ 9 else 0) + (if stale ∨ k.kept then 2 ^ 11 else 0) ∧
    (s.lib.stale = false → code ≤ 3 → k.str < 2 ^ 16 → (r.get 5).toNat = k.str) ∧
    (code = 1 → r.get 7 = 0) ∧ (code ≠ 1 → k.age < 2 ^ 16 → (r.get 7).toNat = k.age) := by
  obtain ⟨h₀, h₅, h₇⟩ := contactRec_words s g k code stale hid hcode
  refine ⟨h₀, fun hst hc hstr => ?_, fun hc => ?_, fun hc hage => ?_⟩
  · have hk : s.asTold k code = k := if_neg (by simp [hst]; omega)
    rw [h₅, hk]
    exact Nat.mod_eq_of_lt hstr
  · rw [h₇, if_pos hc]
    rfl
  · rw [h₇, if_neg hc]
    exact Nat.mod_eq_of_lt hage

/-- Settles O16: each instruction by the token of a sound cell, the library's by folds over its records, entries and
publications; that a stale frame moves no contact, by the data each step of the frame's work leaves. -/
theorem cellPublishVoteEmit : Obligations.CellPublishVoteEmit := by
  refine ⟨fun s c p a imm hp hs => pubVote_code s c p a imm hp hs,
    fun s c p addr hp hs he => emitEring_code s c p addr hp hs he,
    fun s c hs => ⟨fun h => emit_library s c hs h, fun h => ering_library s c hs h, fun hi ho h2 => ?_, fun h => ?_⟩,
    fun s g k code stale hid _ hcode => contactRec_of_frame s g k code stale hid hcode⟩
  · obtain ⟨t, hx, htold, hother, hframe⟩ := pub_library s c hs hi ho h2
    refine ⟨t, hx, ?_⟩
    exact ⟨htold _ _ s.told_touchStat, htold _ _ s.told_pressed, htold _ _ s.told_gwake, htold _ _ s.told_capEnd,
      htold _ _ s.told_hopPub, fun k hk => htold k none fun hm => hk (s.libPubs_targets hm), hother, hframe⟩
  · obtain ⟨t, hx, hbusy, hidle, hother, hframe⟩ := vote_library s c hs h
    exact ⟨t, hx, fun hb => hbusy (s.votesBusy_iff.2 hb), fun hb hi => hidle (fun h => hb (s.votesBusy_iff.1 h)) hi, hother,
      hframe⟩

end Sys2Proof.Machine
end
